-- ==== Sys2Proof/Word.lean ====
section
/-!
DEFINITION. The word types of the block and the plainest arithmetic on them (R3, R4, R6).
-/
namespace Sys2Proof

/-- A register or data word: 32 bits (R4). -/
abbrev Word := BitVec 32

/-- One byte of addressed memory (R4). -/
abbrev Byte := BitVec 8

/-- A Q15 value: a 16-bit two's-complement number n that stands for n / 32,768 (R6). -/
abbrev Q15 := BitVec 16

end Sys2Proof
end

