-- ==== Sys2Proof/Syntax.lean ====
section
/-!
DEFINITION. The commands of the block, one constructor per row of the command table, and the data they carry.
A command that a requester writes names the requester; an event carries what the outside shows the part with it.
-/
namespace Sys2Proof

/-- Identifiers of the units, each bounded as the spec numbers them (Table 0-2, Table 0-1). -/
abbrev CellId := Fin 48
/-- Blocks B0 to B7. -/
abbrev BlockId := Fin 8
/-- Threads 0 to 7 of a block's sequencer. -/
abbrev ThreadId := Fin 8
/-- Partitions P0 to P15. -/
abbrev PartId := Fin 16
/-- Regions 0 to 3. -/
abbrev RegionId := Fin 4
/-- Dies D0 to D7. -/
abbrev DieId := Fin 8
/-- Trios T0 to T15. -/
abbrev TrioId := Fin 16
/-- Precision converters: 0 to 47 the leg channels, 48 to 63 AUX_0 to AUX_15 (Table 3-6). -/
abbrev ConvId := Fin 64
/-- D6 capture areas. -/
abbrev AreaId := Fin 32
/-- CAN channels. -/
abbrev ChanId := Fin 4
/-- Message objects. -/
abbrev ObjId := Fin 2048
/-- Position units. -/
abbrev UnitId := Fin 11

/-- One of the two switches of a cell. -/
inductive Switch where
  | hs | ls
  deriving DecidableEq, Repr

/-- Who makes an access (chapter 4, Requesters). An unauthenticated host request names a partition (R108). -/
inductive Requester where
  | host (p : PartId)
  | thread (k : BlockId) (t : ThreadId)
  | debugger (p : PartId)
  | unauth (p : PartId)
  deriving DecidableEq, Repr

/-- What a leg die has converted for one cell in one step (R227, R229): 16 codes of each SAR converter in order of
position, and whether the slot that carried the record was discarded. -/
structure CellSample where
  sar0    : List Int
  sar1    : List Int
  discard : Bool
  deriving DecidableEq, Repr

/-- What a comparator of a cell can compare at a tick of the step (R238), each as a Q15 code of its range (Table 8-3): the shunt current,
the phase voltage and the sense-cell current. -/
structure CompInputs where
  tick  : Fin 4000
  shunt : Int
  vph   : Int
  sense : Int
  deriving DecidableEq, Repr

/-- An input of the precision front end: one of a converter, or the external temperature sensor TEMP_n (R268). -/
inductive ClampInput where
  | conv (n : ConvId)
  | temp (n : ConvId)
  deriving DecidableEq, Repr

/-- What reaches the control dies with a sample latch beside the cells' records: VDC_B's conversions, discarded slots
(region records and D6's), the fast cell voltages of the channel converters before calibration (R397; none where a clamp of
the front end conducts), and the trios whose torque-monitor inputs differ between the copies (R446). -/
structure LatchInputs where
  cells      : List CellSample
  vdcB       : List Int
  vdcBLost   : Bool
  regionLost : Nat
  fast       : List (Option Int)
  tmDiffer   : Nat
  deriving DecidableEq, Repr

/-- An answer to an asking die's nonce that is not the answering die's own signature (R119); without such an answer the exchange of two
dies succeeds, since a signature verifies under its own public key. -/
structure DieAnswer where
  die : DieId
  asker : DieId
  sig : List Byte
  deriving DecidableEq, Repr

/-- What the dies and the outside show a start (Table 2-4): the answers of dies that do not authenticate themselves, the comparator group that
fails its self-test, the result of the long start test, the first readings of the on-die sensors
(R423; none for a broken one), the pins and the external flash. -/
structure StartEnv where
  rootValid   : Bool
  auth        : List DieAnswer
  groupFail   : Option Nat
  longLogic   : Nat
  longAnalog  : Nat
  longConv    : List ConvId
  longRef     : Bool
  temps       : List (Option Int)
  stoA        : Bool
  stoB        : Bool
  flash       : Option (List Byte)
  millis      : Nat
  deriving DecidableEq, Repr

/-- One reading set of an off-state diagnostic stage, in 10 mV units (R183): the readings of the cells under test, the
largest and smallest sample, the line-to-line maximum of the pre-check, the pair differences of S3, VDC_A, and the
short-circuit comparators that missed their test current. -/
structure DiagReading where
  volts    : List Nat
  maxes    : List Nat
  mins     : List Nat
  lineMax  : Nat
  pairs    : List Nat
  vdcA     : Nat
  scMissed : List Nat
  deriving DecidableEq, Repr

/-- A CAN frame on the bus (chapter 18). -/
structure CanFrame where
  ident    : Nat
  extended : Bool
  fd       : Bool
  brs      : Bool
  data     : List Byte
  deriving DecidableEq, Repr

/-- How a CAN transmission ends (R488). -/
inductive TxEnd where
  | sent | unacked | lostArbitration | busError
  deriving DecidableEq, Repr

/-- An error that a read slice finds (R571): the word, the block whose code area or lane memory holds it, and whether it
could be corrected. -/
structure ScrubFind where
  addr        : Word
  block       : Option BlockId
  correctable : Bool
  deriving DecidableEq, Repr

/-- The commands and events of the part (the rows of the command table). -/
inductive Instr where
  /-- R9: A write to a register that has no row of its own updates its writable fields, with each changed field judged against its range as R613 sets out. -/
  | registerWrite (q : Requester) (addr : Word) (value : Word)
  /-- R56: At each step boundary the step counter increments, and the commands and COMMIT of the previous step take effect. -/
  | stepBoundary
  /-- R111: At CLK_ARR cycle 40 the control array latches the samples, control inputs and safety commands of every block. -/
  | sampleLatch (i : LatchInputs)
  /-- R134: At CLK_FAB cycle 460 the Ringmaster samples pending COMMIT requests, checks lane completion and builds the COMMIT and fence record. -/
  | commitSample
  /-- R459: A compare-point group compares D0's output with D1's output. -/
  | lockstepCompare (g : Fin 30) (equal : Bool) (lane : Nat)
  /-- R27: A receiver checks the CRC of a link slot and discards and counts a slot that fails. -/
  | linkSlotReceived (d : DieId) (fromD1 : Bool) (toDie : Bool) (slot : Fin 125) (crcOk : Bool)
  /-- R30: A link with no good slot for four steps, or a double command-slot loss, raises chip cause LINK_LOSS. -/
  | linkLoss (d : DieId)
  /-- R29: The leg die compares the D0 and D1 command records, writes the shadow registers and holds the captured COMMIT sets. -/
  | commandRecordReceived (r : RegionId) (differ : Nat)
  /-- R24: No valid command record for 3.0 µs makes the leg die fence its region. -/
  | commandWatchdog (r : RegionId)
  /-- R136: At each frame boundary the Ringmaster performs the ordered frame-boundary actions of Table 5-1. -/
  | frameBoundary (digestEqual : Bool)
  /-- R154: When a deadlocked partition's reaction reaches its terminal state, every one of its blocks is fenced. -/
  | deadlockFence (p : PartId)
  /-- R43: A write of REQUEST_j asks for the return of a block held by a region fence, and its checks start. -/
  | regionReturnRequest (q : Requester) (r : RegionId) (j : Fin 2)
  /-- R43: The return checks of a block end, and the block waits for its owner's next frame boundary. -/
  | regionReturnChecksDone (r : RegionId) (j : Fin 2) (causes : List Nat)
  /-- R120: Every 60 s each die pair repeats the authentication exchange. -/
  | dieReauthentication (d : DieId) (answers : List DieAnswer)
  /-- R120: A failed exchange is retried after 1 ms, and the fourth failure triggers the reaction for that die. -/
  | dieReauthRetry (d : DieId) (answers : List DieAnswer)
  /-- R62: At supply-good after a wake, the dies leave reset and run the cold-start stages of Table 2-4. -/
  | coldStart (env : StartEnv)
  /-- R61: The root reference becomes valid and the PLL locks, so the start continues and the step counter starts at 0. -/
  | pllLock
  /-- R47: A partition activates once its conditions hold, and its claims enter the ownership map. -/
  | partitionActivate (p : PartId)
  /-- R48: A core, I/O or analog supply below its range for more than 2 µs raises chip cause SUPPLY. -/
  | supplyDip (supply : Fin 4) (saved : Bool)
  /-- R49: VSUP below 4.0 V for more than 10 µs raises SUPPLY and starts power-fail handling. -/
  | vsupLow (saved : Bool)
  /-- R51: VSUP below 3.0 V resets the always-on domain to its reset values. -/
  | aonReset
  /-- R52: VSUP rising through 3.0 V wakes the device. -/
  | powerOn
  /-- R52: A valid edge on WAKE wakes the device from standby. -/
  | wakePinEdge
  /-- R52: A wake-up pattern on a CAN channel with CAN_WAKE_EN set wakes the device. -/
  | canWakeUpPattern (n : ChanId)
  /-- R60: A die's clock monitor reports a fault, and the reaction of Table 2-3 follows. -/
  | clockMonitorFault (d : DieId)
  /-- R66: A POWER_CMD SHUTDOWN by P0 begins an orderly shutdown. -/
  | shutdown (q : Requester)
  /-- R75: A POWER_CMD RESTART by P0 begins a warm restart when no chip fault holds. -/
  | restart (q : Requester) (env : StartEnv)
  /-- R66: WAKE inactive for OFF_DELAY with AUTO_SHUTDOWN set begins an orderly shutdown. -/
  | autoShutdown
  /-- R66: Every partition with a speed source reports speed below its stop threshold, so the shutdown passes stage 2. -/
  | shutdownStopped
  /-- R66: STOP_TIMEOUT expires in stage 2 of a shutdown, and the shutdown goes on. -/
  | stopTimeout
  /-- R567: The shutdown test ends, and its result completes the shutdown record. -/
  | shutdownTestEnd (passed : Bool)
  /-- R66: The device drives INH low and enters standby at the end of a shutdown. -/
  | enterStandby
  /-- R71: The operating-seconds counter increments. -/
  | opSecondsIncrement
  /-- R72: A device keep-memory write that returned TEMP_BLOCKED is retried after one second. -/
  | keepWriteRetry
  /-- R57: A read of TB_STEP_LO copies the upper step bits and the phase for that requester. -/
  | tbStepLoRead (q : Requester) (phase : Fin 500)
  /-- R100: A BS_CTRL RELOAD starts a full or partial bitstream load. -/
  | bsReload (q : Requester) (part : PartId) (source : Fin 4) (hold : Bool)
  /-- R98: A BS_CTRL ABORT discards a load before step 5. -/
  | bsAbort (q : Requester)
  /-- R98: A BS_CTRL SWITCH releases a load held in STAGED. -/
  | bsSwitch (q : Requester)
  /-- R95: A word written to BS_PORT is appended to the serial-port load. -/
  | bsPortWrite (q : Requester) (value : Word)
  /-- R97: A CAN load piece is started, appended, ignored or discarded according to its OFFSET. -/
  | canLoadPiece (node : Nat) (offset : Nat) (data : List Byte)
  /-- R97: A status request is answered with a status frame within 1 ms. -/
  | canLoadStatusRequest (node : Nat)
  /-- R92: The checker finishes, and the load becomes STAGED or REFUSED or is applied at start. -/
  | checksDone
  /-- R95: More than 1 s without a word or piece abandons the load. -/
  | loadTimeout
  /-- R98: When the reloading partition's reaction reaches its terminal state, the staged set is applied. -/
  | reloadApplySet (laneFails : List (BlockId × Fin 528))
  /-- R530: The host engine executes the words of an admitted serial request and forms the response. -/
  | serialRequestExecuted
  /-- R499: A host transaction frame arrives on a service channel and is queued for the host engine. -/
  | canServiceRequest (n : ChanId) (frame : CanFrame)
  /-- R500: The host engine executes a CAN request and sends the tagged response. -/
  | canServiceExecuted (p : PartId)
  /-- R121: KS_KEY_CTRL OP ENROL stores the platform key while the key store is not provisioned. -/
  | enrol (q : Requester)
  /-- R122: KS_KEY_CTRL OP ROTATE checks the rotation signature and starts a platform-key rotation. -/
  | rotate (q : Requester)
  /-- R122: The new key is written to the inactive slot and P0_SLOT flips, which ends P0's session. -/
  | rotationDone
  /-- R126: HS_CTRL.START begins a session handshake for a partition. -/
  | hsStart (q : Requester) (p : PartId)
  /-- R126: The device fills the nonce, its ephemeral key and its signature, and STATE becomes AWAITING. -/
  | handshakePrepared (p : PartId)
  /-- R614: HS_CTRL.SUBMIT submits the host's ephemeral key and signature for verification. -/
  | hsSubmit (q : Requester) (p : PartId)
  /-- R126: Verification ends with ESTABLISHED and a derived session key, or with REFUSED. -/
  | handshakeVerified (p : PartId)
  /-- R126: No SUBMIT within 1 s returns the handshake to IDLE. -/
  | handshakeTimeout (p : PartId)
  /-- R127: The old session key stops being accepted at the first new-key request or 1 s after ESTABLISHED. -/
  | sessionChangeover (p : PartId)
  /-- R145: The thread loads a sign-extended immediate into a register. -/
  | movi (k : BlockId) (t : ThreadId)
  /-- R145: The thread loads an immediate into the upper half of a register. -/
  | movhi (k : BlockId) (t : ThreadId)
  /-- R145: The thread adds a sign-extended immediate to a register. -/
  | addi (k : BlockId) (t : ThreadId)
  /-- R145: The sequencer adds two registers modulo 2^32. -/
  | addOp (k : BlockId) (t : ThreadId)
  /-- R145: The sequencer subtracts two registers modulo 2^32. -/
  | subOp (k : BlockId) (t : ThreadId)
  /-- R145: The thread forms the bitwise AND of two registers. -/
  | andOp (k : BlockId) (t : ThreadId)
  /-- R145: The thread forms the bitwise OR of two registers. -/
  | orOp (k : BlockId) (t : ThreadId)
  /-- R145: The thread forms the bitwise XOR of two registers. -/
  | xorOp (k : BlockId) (t : ThreadId)
  /-- R145: The thread shifts a register left, logically right or arithmetically right. -/
  | shiftOp (k : BlockId) (t : ThreadId)
  /-- R146: The thread branches if two registers are equal. -/
  | beq (k : BlockId) (t : ThreadId)
  /-- R146: The thread branches if two registers differ. -/
  | bne (k : BlockId) (t : ThreadId)
  /-- R146: The thread branches if one register is less than the other, signed. -/
  | blt (k : BlockId) (t : ThreadId)
  /-- R146: The thread branches if one register is greater than or equal to the other, signed. -/
  | bge (k : BlockId) (t : ThreadId)
  /-- R146: The thread jumps relative to PC or to a register. -/
  | jumpOp (k : BlockId) (t : ThreadId)
  /-- R146: The thread pushes the return address and jumps. -/
  | callOp (k : BlockId) (t : ThreadId)
  /-- R146: The thread pops its return stack into PC. -/
  | retOp (k : BlockId) (t : ThreadId)
  /-- R147: The thread issues a Turnstile-checked 32-bit read and stalls. -/
  | loadOp (k : BlockId) (t : ThreadId)
  /-- R147: The thread issues a Turnstile-checked 32-bit write and stalls. -/
  | storeOp (k : BlockId) (t : ThreadId)
  /-- R140: A LOAD, STORE or PACE status returns, and the stalled thread becomes READY with its status in G_15. -/
  | accessComplete (k : BlockId) (t : ThreadId)
  /-- R145: The thread sets an event flag of its own block. -/
  | setFlag (k : BlockId) (t : ThreadId)
  /-- R145: The thread clears an event flag of its own block. -/
  | clrFlag (k : BlockId) (t : ThreadId)
  /-- R149: The thread sets an event flag in another block of its partition. -/
  | signalOp (k : BlockId) (t : ThreadId)
  /-- R151: The thread continues at once if a declared flag is set, or becomes WAITING on its declared sources. -/
  | waitOp (k : BlockId) (t : ThreadId)
  /-- R151: The TIMEOUT-th step boundary after a WAIT wakes the thread. -/
  | waitTimeout (k : BlockId) (t : ThreadId)
  /-- R134: The thread requests COMMIT for its partition. -/
  | commitOp (k : BlockId) (t : ThreadId)
  /-- R294: The thread starts a Pacer ramp on a control input after the checks in order. -/
  | paceOp (k : BlockId) (t : ThreadId)
  /-- R145: The thread becomes HALTED. -/
  | haltOp (k : BlockId) (t : ThreadId)
  /-- R145: A thread that fetches an invalid word faults with THREAD_ILLEGAL. -/
  | threadIllegal (k : BlockId) (t : ThreadId)
  /-- R157: A word fetched from the direct-execution window arrives, and the stalled thread goes on. -/
  | windowFetchDone (k : BlockId) (t : ThreadId) (word : Word)
  /-- R157: A window fetch not delivered within 20 µs faults the thread with THREAD_FETCH. -/
  | fetchTimeout (k : BlockId) (t : ThreadId)
  /-- R160: A write of START[t] restarts an IDLE, HALTED or FAULTED thread at its start word. -/
  | threadStart (q : Requester) (k : BlockId) (t : ThreadId)
  /-- R160: A write of STOP[t] halts a running thread at its next instruction boundary. -/
  | threadStop (q : Requester) (k : BlockId) (t : ThreadId)
  /-- R151: A write to BLK_k_SEQ_FLAGS sets flags and wakes the threads that wait for them from that source. -/
  | seqFlagsSet (q : Requester) (k : BlockId) (flags : Word)
  /-- R163: A write to BLK_k_SEQ_FLAGS_CLR clears event flags. -/
  | seqFlagsClear (q : Requester) (k : BlockId) (flags : Word)
  /-- R161: A write to BLK_k_SEQ_COMMIT requests COMMIT for the owning partition. -/
  | seqCommitWrite (q : Requester) (k : BlockId)
  /-- R165: A switch starts phase 1 of its turn-on profile. -/
  | gateTurnOn (c : CellId) (sw : Switch)
  /-- R165: A switch starts phase 1 of its turn-off profile. -/
  | gateTurnOff (c : CellId) (sw : Switch)
  /-- R165: The gate reaches PRE_LEVEL, and the strong phase gives way to the weak phase. -/
  | preLevelReached (c : CellId) (sw : Switch)
  /-- R165: PRE_TIMEOUT expires, and the weak phase begins. -/
  | preTimeout (c : CellId) (sw : Switch)
  /-- R166: The dV/dt detector reports the transition, and the hold phase begins. -/
  | dvdtTransition (c : CellId) (sw : Switch)
  /-- R167: WEAK_TIMEOUT expires, SLOPE_TIMEOUTS counts it, and the hold phase begins. -/
  | weakTimeout (c : CellId) (sw : Switch)
  /-- R169: The opposite gate is confirmed below 1.0 V, and a waiting turn-on starts. -/
  | interlockConfirm (c : CellId) (sw : Switch)
  /-- R170: A turn-on that waited 2 µs for confirmation fences the cell. -/
  | interlockTimeout (c : CellId) (sw : Switch)
  /-- R174: A bootstrap supply rises above its threshold plus 0.4 V. -/
  | bootstrapAboveUvlo (c : CellId)
  /-- R173: A bootstrap supply that has not risen within 15 ms of VDRV_OK fences the cell. -/
  | bootstrapPrecharge (c : CellId)
  /-- R176: A bootstrap supply below UVLO turns the high side off and fences the cell. -/
  | bootstrapUvlo (c : CellId)
  /-- R176: VDRV below UVLO fences the region and holds its cells off. -/
  | vdrvUvlo (r : RegionId)
  /-- R174: VDRV_r rises above its UVLO threshold. -/
  | vdrvAboveUvlo (r : RegionId)
  /-- R177: Short-circuit blanking of a switch ends. -/
  | blankEnd (c : CellId) (sw : Switch)
  /-- R178: Sense current above THRESHOLD for 40 ns starts a soft turn-off and fences the cell. -/
  | shortCircuitDetect (c : CellId) (sw : Switch)
  /-- R178: The gate reads below 1.0 V or 10 µs pass, strong hold-off is applied and the peak is recorded. -/
  | softTurnOffEnd (c : CellId) (sw : Switch) (peak : Nat)
  /-- R181: LEG_c_DIAG_CTRL.RUN starts off-state diagnostics of a fenced cell. -/
  | diagRun (q : Requester) (c : CellId)
  /-- R183: A diagnostic stage ends and its reading is taken, and after the last stage the cell is classified. -/
  | diagStageEnd (c : CellId) (reading : DiagReading)
  /-- R189: A DSCH_CTRL START by P0 begins a DC-link discharge. -/
  | dschStart (q : Requester)
  /-- R192: A DSCH_CTRL STOP by P0 ends a discharge as STOPPED. -/
  | dschStop (q : Requester)
  /-- R190: With no pin enabled, or too little voltage drop in the first 200 ms, the winding fallback starts. -/
  | dschFallbackStart
  /-- R191: A fallback pulse ends at IPEAK or after 20 µs. -/
  | fallbackPulseEnd (t : TrioId)
  /-- R191: The current falls below IPEAK/10, and the next pulse starts in the opposite direction. -/
  | fallbackNextPulse (t : TrioId)
  /-- R192: The link voltage reaches TARGET, and the discharge ends in DONE. -/
  | dischargeDone
  /-- R192: LIMIT passes before TARGET, and the discharge ends TIMED_OUT. -/
  | dischargeTimeout
  /-- R199: A cell's carrier starts at its first aligned step boundary after a start event. -/
  | carrierStart (c : CellId)
  /-- R200: At a reload point a cell loads any pending captured set and the newest lane values. -/
  | reloadPoint (c : CellId)
  /-- R201: The carrier counter crosses ON or OFF, and a switch's raw command changes. -/
  | rawCommandEdge (c : CellId) (sw : Switch) (tick : Nat)
  /-- R205: The opposite effective command has been off for DEAD ticks, and the effective command turns on. -/
  | deadTimeEnd (c : CellId) (sw : Switch) (tick : Fin 4000)
  /-- R206: The minimum pulse expires, and an extended effective command turns off. -/
  | minPulseEnd (c : CellId) (sw : Switch)
  /-- R214: A trip input acts, turns off its target switches and sets its latch. -/
  | tripAct (c : CellId) (n : Fin 4)
  /-- R215: A write of 1 to LATCHED clears a trip latch whose input does not act. -/
  | tripLatchedClear (q : Requester) (c : CellId) (mask : Fin 16)
  /-- R213: An EDGE Hurdle window closes after LENGTH ticks. -/
  | hurdleEdgeWindowEnd (k : BlockId) (h : Fin 12)
  /-- R213: The period time reaches START or END, and a WINDOW Hurdle opens or closes. -/
  | hurdleWindowBoundary (k : BlockId) (h : Fin 12)
  /-- R235: The shunt and sense-cell averages disagree for STEPS comparisons, and the cell is fenced. -/
  | currentDisagree (c : CellId)
  /-- R236: Eight consecutive saturated steps fence the cell. -/
  | shuntSaturated (c : CellId)
  /-- R237: VDC_A and VDC_B disagree for STEPS steps, and the affected partitions take their safe reaction. -/
  | vdcDisagree
  /-- R238: A comparator's signal crosses its threshold, and its live level changes. -/
  | comparatorCrossing (c : CellId) (compB : Bool) (signals : CompInputs)
  /-- R246: A read of LEG_c_SAMPLE_I copies SAMPLE_V and SAMPLE_STATUS for that requester. -/
  | sampleIRead (q : Requester) (c : CellId)
  /-- R243: A supervisory comparator compares once and sets LEVEL. -/
  | scmpTick (m : Fin 16) (inputs : List Nat)
  /-- R243: CONFIRM consecutive ticks change the comparator's CONFIRMED bit. -/
  | scmpConfirmed (m : Fin 16)
  /-- R254: START of a precision converter arms its first window for the next aligned boundary. -/
  | measStart (q : Requester) (n : ConvId)
  /-- R269: STOP lets the converter finish its window and then go idle, or ends a calibration. -/
  | measStop (q : Requester) (n : ConvId)
  /-- R264: CAL starts the 60-window self-calibration of a converter. -/
  | measCal (q : Requester) (n : ConvId) (range : Bool)
  /-- R254: The first window opens at the first even step boundary after the next frame boundary. -/
  | firstWindowOpen (n : ConvId)
  /-- R260: A precision window ends, and its result registers update with a stamp and SEQ. -/
  | windowEnd (n : ConvId) (rawV : Int) (rawI : Int) (cm : Bool) (clamp : Bool) (phase : Fin 500)
  /-- R256: The settling time of the reference passes, and REF_SETTLED sets. -/
  | refSettled (n : ConvId)
  /-- R257: REFIN leaves 2.0 V to 3.0 V, and the affected windows and converters are flagged. -/
  | refinExcursion (millivolts : Nat)
  /-- R264: Calibration ends, and new factors are accepted or MEAS_CAL is recorded. -/
  | calComplete (n : ConvId) (sums : List Int)
  /-- R266: An auxiliary entry's SETTLE wait ends, and its window starts. -/
  | auxSettleEnd (n : ConvId)
  /-- R268: A clamp that conducts for more than 10 ms records MEAS_FRONT_END. -/
  | frontEndClamp (input : ClampInput)
  /-- R261: A read of MEAS_CH_n_V copies the current, stamp and flags for that requester. -/
  | measVRead (q : Requester) (n : CellId)
  /-- R274: START of an idle capture area clears NEXT and WRAPS and begins recording. -/
  | capAreaStart (q : Requester) (a : AreaId)
  /-- R274: STOP of a capture area ends recording after the record in progress. -/
  | capAreaStop (q : Requester) (a : AreaId)
  /-- R285: The lane operation copies a signal to its destination. -/
  | laneMove (k : BlockId)
  /-- R285: The lane operation adds two signals with saturation. -/
  | laneAdd (k : BlockId)
  /-- R285: The lane operation subtracts two signals with saturation. -/
  | laneSub (k : BlockId)
  /-- R283: The lane operation multiplies two signals with rounding and saturation. -/
  | laneMul (k : BlockId)
  /-- R285: The lane operation limits a signal to plus or minus the magnitude of another. -/
  | laneClamp (k : BlockId)
  /-- R288: The lane operation runs a compensator law on its input, or holds it on 0x8000. -/
  | laneLaw (k : BlockId)
  /-- R314: The coupled-machine estimator updates flux, torque, flux magnitude and sector for each trio. -/
  | laneEstimate (k : BlockId)
  /-- R317: The map residual exceeds RESID_LIMIT for 64 steps, and ESTIMATOR_RESIDUAL is recorded. -/
  | estimatorResidual (c : CellId)
  /-- R322: The lane operation predicts and vetoes candidate vectors against neighbour flux bands. -/
  | laneVeto (k : BlockId)
  /-- R319: The lane operation updates the hysteresis states and applies the table or substitute vector. -/
  | laneSelect (k : BlockId)
  /-- R343: The lane operation runs six-step commutation, watches the floating phase and writes the duty and states. -/
  | laneCommutate (k : BlockId)
  /-- R287: The lane program ends, and the block's outputs are placed in the command records. -/
  | laneEnd (k : BlockId)
  /-- R296: A write of BLK_k_INPUT_n_VALUE by the input's writer sets the input and ends any ramp. -/
  | inputValueWrite (q : Requester) (k : BlockId) (n : Fin 128) (value : Fin 65536)
  /-- R293: LAW_l_CTRL.CLEAR zeroes the law's history before the next program. -/
  | lawClear (q : Requester) (k : BlockId) (l : Fin 256)
  /-- R299: START of the injector begins the test signal at the next step boundary. -/
  | injStart (q : Requester) (k : BlockId)
  /-- R299: STOP of the injector sets the injected value to 0 from the next step. -/
  | injStop (q : Requester) (k : BlockId)
  /-- R298: A CHIRP or STEPPED waveform reaches its end, and the injector stops. -/
  | injectorEnd (k : BlockId)
  /-- R301: ARM of the capture unit checks the configuration and starts storing points. -/
  | capArm (q : Requester) (k : BlockId)
  /-- R302: STOP of the capture unit sets STATE to STOPPED. -/
  | capStop (q : Requester) (k : BlockId)
  /-- R302: LENGTH points exist after the trigger, and STATE becomes DONE. -/
  | captureDone (k : BlockId)
  /-- R339: OBSERVE_MS passes, and the trio takes the path of Table 12-2. -/
  | observeEnd (t : TrioId)
  /-- R345: ALIGN_MS passes, and the trio enters OPEN_LOOP. -/
  | alignEnd (t : TrioId)
  /-- R344: No crossing by 1.5 intervals, so COMMUTATE extrapolates and counts a miss. -/
  | commutationMiss (t : TrioId)
  /-- R345: Twelve forced commutations at OL_END without synchronisation send the trio to COAST. -/
  | startFailed (t : TrioId)
  /-- R353: LEG_c_REENTRY_CTRL.REQUEST asks for a fenced cell's return and starts its checks. -/
  | reentryRequest (q : Requester) (c : CellId)
  /-- R354: The return checks end, and the cell waits for the frame boundary or stays fenced. -/
  | reentryChecksDone (c : CellId) (cause : Fin 64)
  /-- R368: An accepted A or B edge moves the encoder count. -/
  | encoderEdge (u : UnitId) (levels : Fin 4) (phase : Fin 500)
  /-- R369: A Z edge homes the encoder or checks and corrects its count. -/
  | indexEdge (u : UnitId) (phase : Fin 500)
  /-- R370: An encoder pair below 200 mV for 1 µs sets BROKEN and invalidates the unit. -/
  | wireBroken (u : UnitId)
  /-- R370: After 1 ms of valid levels BROKEN clears, and the unit counts from 0. -/
  | wireRestored (u : UnitId)
  /-- R371: A filtered Hall code change sets the sector. -/
  | hallCodeChange (u : UnitId) (code : Fin 8) (phase : Fin 500)
  /-- R372: An invalid Hall code held for HALL_INV_STEPS makes the unit invalid. -/
  | hallInvalidTimeout (u : UnitId)
  /-- R375: A tooth-wheel edge is accepted, rejected as noise, or found as the reference gap. -/
  | toothEdge (u : UnitId) (phase : Fin 500)
  /-- R377: No tooth by 1.5 intervals, so the tooth is extrapolated or synchronisation is lost. -/
  | toothMiss (u : UnitId) (phase : Fin 500)
  /-- R380: A SERIAL unit's POLL_STEPS timer requests a read frame from the serial port. -/
  | positionPoll (u : UnitId)
  /-- R380: A poll frame completes, and its CRC and position are checked and applied. -/
  | serialPositionFrame (u : UnitId) (data : List Byte) (phase : Fin 500)
  /-- R384: The compare position crosses a channel's value, which counts a hit and may set a flag. -/
  | compareHit (k : BlockId) (m : Fin 2) (phase : Fin 500)
  /-- R387: ARM starts a compare channel in REGULAR or LIST mode. -/
  | cmpArm (q : Requester) (k : BlockId) (m : Fin 2)
  /-- R387: DISARM returns a compare channel to IDLE. -/
  | cmpDisarm (q : Requester) (k : BlockId) (m : Fin 2)
  /-- R389: A read of POS_u_POSITION copies speed, status and edge step for that requester. -/
  | positionRead (q : Requester) (u : UnitId)
  /-- R407: The fast cell voltage out of limits or missing for PROT_STEPS steps sends the channel to FAULT. -/
  | channelProtection (c : CellId)
  /-- R402: PHASE_TIME reaches T_LIMIT, and the channel ends with reason TIME. -/
  | phaseTimeLimit (c : CellId)
  /-- R400: RESTART in ENDED causes a phase entry. -/
  | chanRestart (q : Requester) (c : CellId)
  /-- R411: ACC_START sets ACC_RUN. -/
  | accStart (q : Requester) (c : CellId)
  /-- R411: ACC_STOP clears ACC_RUN. -/
  | accStop (q : Requester) (c : CellId)
  /-- R411: ACC_CLEAR zeroes the accumulators at the next window end. -/
  | accClear (q : Requester) (c : CellId)
  /-- R411: A read of LEG_c_ACC_CHARGE_LO copies the other accumulator registers for that requester. -/
  | accChargeRead (q : Requester) (c : CellId)
  /-- R417: A die reads its sensors every 80 steps and re-evaluates its zone levels. -/
  | thermalReading (d : DieId) (temps : List (Option Int))
  /-- R419: D6 reads one external temperature input and converts it. -/
  | extTempReading (n : Fin 64) (volts : Nat)
  /-- R456: A write to SAFE_p_CMD sets the command held by the host or thread source. -/
  | safeCmdWrite (q : Requester) (p : PartId) (code : Fin 4)
  /-- R439: An STO pin falls, and the selected leg dies take the terminal state in hardware. -/
  | stoPinFall (b : Bool)
  /-- R440: An STO pin returns high, which ends only the hardware hold. -/
  | stoPinRise (b : Bool)
  /-- R441: The two STO pins differ for DISC_MS, and DISCREPANCY is set. -/
  | stoDiscrepancy
  /-- R436: An accepted SRESET_N edge triggers a warm restart after a chip fault, or releases safety stops. -/
  | sresetEdge (env : StartEnv)
  /-- R444: MAX_MS passes during SS1, which ends in its terminal state. -/
  | ss1Timeout (p : PartId)
  /-- R448: D6 evaluates a torque-monitor window and counts failures. -/
  | torqueMonitorWindow (t : TrioId)
  /-- R452: One copy of a safe pair arrives and is checked, matched and possibly accepted. -/
  | safePairCopy (o : ObjId) (second : Bool) (data : List Byte)
  /-- R452: A copy whose partner does not arrive within COMPARE_WINDOW is counted as SINGLE. -/
  | safePairSingle (o : ObjId)
  /-- R466: Update-DR of DBG_CHALLENGE starts a debug challenge for a scope. -/
  | dbgChallenge (scope : Byte)
  /-- R466: The device places the random nonce in the challenge register. -/
  | challengeNonceReady
  /-- R466: Update-DR of DBG_RESPONSE submits the signature for verification. -/
  | dbgResponse (sig : List Byte)
  /-- R466: Verification establishes the debug session or refuses it with AUTH. -/
  | dbgVerifyDone
  /-- R466: No response within 1 s of the challenge ends it as failed. -/
  | dbgResponseTimeout
  /-- R470: Update-DR of DBG_ACCESS accepts one debugger read or write. -/
  | dbgAccess (op : Fin 4) (addr : Word) (data : Word)
  /-- R469: The debugger access executes in D0 at cycle 8 and is replayed in D1, and DONE sets. -/
  | dbgAccessExecute
  /-- R472: HALT bit k halts block k at the next step boundary. -/
  | dbgHalt (halt : Byte) (resume : Byte) (step : Byte) (freeze : Bool)
  /-- R219: A halt with FREEZE holds the cells' commands as they stood. -/
  | dbgFreeze (k : BlockId)
  /-- R472: RESUME bit k ends the halt of block k. -/
  | dbgResume (mask : Byte)
  /-- R472: STEP bit k runs a halted block for one step. -/
  | dbgStep (mask : Byte)
  /-- R468: END_SESSION ends the debug session, and halted blocks enter a safety stop. -/
  | dbgEndSession
  /-- R468: TRST_N low or Test-Logic-Reset ends the debug session. -/
  | tapReset
  /-- R474: No debugger activity for 1 s ends every freeze. -/
  | freezeTimeout
  /-- R471: A debugger write to a thread's general register of a halted block. -/
  | dbgThreadRegWrite (k : BlockId) (t : ThreadId) (g : Fin 16) (value : Word)
  /-- R483: A received data frame is stored in its matching receive object, or discarded or dropped. -/
  | canFrameReceived (n : ChanId) (frame : CanFrame) (phase : Fin 500)
  /-- R485: OPEN of a transmit object allows writes to its buffer. -/
  | objOpen (q : Requester) (o : ObjId)
  /-- R485: CLOSE of a transmit object makes it eligible for the next snapshot. -/
  | objClose (q : Requester) (o : ObjId)
  /-- R489: SEND makes a transmit object PENDING for its arbitrating window. -/
  | objSend (q : Requester) (o : ObjId)
  /-- R492: At the latch column, fresh objects feed inputs, ages advance and transmit snapshots are taken. -/
  | latchInstant (n : ChanId)
  /-- R488: At the start of an exclusive column, the object's snapshot is sent once if it fits. -/
  | exclusiveSlot (n : ChanId) (column : Fin 64) (wait : Nat)
  /-- R489: At an arbitrating window, pending objects and service frames are offered in identifier order. -/
  | arbitratingWindow (n : ChanId) (column : Fin 64) (wait : Nat)
  /-- R488: A transmission ends as sent, unacknowledged, lost in arbitration or ended by error. -/
  | canTxComplete (n : ChanId) (how : TxEnd) (phase : Fin 500)
  /-- R490: A new basic cycle begins, and a MASTER channel sends its reference frame. -/
  | basicCycleStart (n : ChanId) (busy : Bool)
  /-- R490: A FOLLOWER realigns its cycle number and column 0 to a reference frame. -/
  | referenceFrameReceived (n : ChanId) (frame : CanFrame) (sof : Nat)
  /-- R491: A FOLLOWER without a usable reference for two basic cycles clears SYNC_OK. -/
  | syncLost (n : ChanId)
  /-- R497: A controller enters bus-off, and a transmit object on the bus sets NOT_SENT. -/
  | busOff (n : ChanId)
  /-- R496: Recovery after 128 occurrences of 11 recessive bits lets the controller rejoin. -/
  | busOffRecovery (n : ChanId)
  /-- R496: The transmitter dominant time-out takes the controller off the bus until it clears. -/
  | busDominant (n : ChanId)
  /-- R496: After 11 recessive bits the controller stores frames and transmits from the next basic cycle. -/
  | rejoinComplete (n : ChanId)
  /-- R496: CAN_n_CTRL START puts the controller back on the bus. -/
  | canStart (q : Requester) (n : ChanId)
  /-- R497: CAN_n_CTRL STOP takes the controller off the bus after the frame in progress. -/
  | canStop (q : Requester) (n : ChanId)
  /-- R496: CAN_n_CTRL RECOVER starts bus-off recovery when AUTO_RECOVER is 0. -/
  | canRecover (q : Requester) (n : ChanId)
  /-- R503: A Roll call START makes devices participants in a search. -/
  | rollCallStart (n : ChanId) (frame : CanFrame)
  /-- R504: A ROUND makes matching participants send a BID with their next UID chunk. -/
  | rollCallRound (n : ChanId) (frame : CanFrame)
  /-- R504: A lower BID on the bus makes a device withdraw its own BID that has not started. -/
  | bidReceived (n : ChanId) (frame : CanFrame)
  /-- R505: An ASSIGN for the device's UID sets its node number, stores it and answers ENROLLED. -/
  | rollCallAssign (n : ChanId) (frame : CanFrame)
  /-- R506: A device without a node number sends UNENROLLED once per second. -/
  | unenrolledTimer
  /-- R507: An enrolled device sends a HEARTBEAT every HB_PERIOD. -/
  | heartbeatTimer
  /-- R515: A write of SPI_CFG.ROLE requests a role change and sets PENDING_ROLE. -/
  | roleWrite (q : Requester) (role : Fin 2)
  /-- R515: Once the port is idle the new role applies, and queued master requests fail. -/
  | roleApply
  /-- R523: GO queues P0's software frame. -/
  | swFrameGo (q : Requester)
  /-- R521: When the port is idle, the highest-class waiting frame starts. -/
  | masterFrameStart
  /-- R516: A master frame ends with SSTB rising, and its data are delivered. -/
  | masterFrameDone (data : List Byte)
  /-- R525: A read in the direct-execution window hits the prefetch buffer or starts a miss frame. -/
  | xipWindowRead (q : Requester) (addr : Word)
  /-- R527: INVALIDATE clears all four prefetch lines. -/
  | xipInvalidate (q : Requester)
  /-- R531: A REQUEST frame is accepted, rejected or found malformed. -/
  | slaveRequestFrame (data : List Byte)
  /-- R532: A RESPONSE frame clocks out the response and trailer, and consumes it if complete. -/
  | slaveResponseFrame (clocked : Nat)
  /-- R528: A PORT_STATUS frame returns SPI_SLAVE_STATUS. -/
  | slavePortStatusFrame
  /-- R528: A slave frame of unknown type is ignored and counted. -/
  | slaveUnknownFrame
  /-- R533: A response not consumed within 1 s is discarded. -/
  | responseExpired
  /-- R542: A write to the lower half of a keep word loads the requester's latch. -/
  | keepLowerWrite (q : Requester) (addr : Word) (value : Word)
  /-- R542: A write to the upper half writes the latched 64-bit word. -/
  | keepUpperWrite (q : Requester) (addr : Word) (value : Word)
  /-- R541: A read of the lower half of a keep word copies the upper half for that requester. -/
  | keepLowerRead (q : Requester) (addr : Word) (ecc : Fin 3)
  /-- R543: WRITE_PAGE queues a journaled page write of the partition's window. -/
  | writePage (q : Requester) (p : PartId)
  /-- R547: CLEAR queues a clear of a sector of the partition's window. -/
  | keepClear (q : Requester) (p : PartId)
  /-- R552: REC_RESET formats the partition's recorder area. -/
  | recReset (q : Requester) (p : PartId)
  /-- R546: The last word and journal of a page write are written, and JSTATE becomes COMPLETE. -/
  | pageWriteDone (p : PartId)
  /-- R547: A clear finishes and writes the sector header CLEAN. -/
  | clearDone (p : PartId)
  /-- R568: Every INTERVAL steps each die starts its due Carousel slices. -/
  | carouselSliceStart (d : DieId) (found : List ScrubFind) (sarOk : Bool)
  /-- R569: At step s+15 both dies check the tested lane's signature and hand it back. -/
  | laneSliceCheck (k : BlockId) (passed : Bool)
  /-- R572: A tested comparator is checked and handed back at the fourth boundary. -/
  | comparatorSliceEnd (r : RegionId) (passed : Bool)
  /-- R574: A precision converter test ends at a window boundary, and the converter is handed back or replaced. -/
  | converterTestEnd (windowsOk : Bool) (refDev : Int)
  /-- R43: A fenced leg die's clock monitor has reported no fault for 10 ms, so region cause CLOCK_MONITOR clears (Table 1-12), and unclaimed blocks count as returned. -/
  | clockMonitorCleared (r : RegionId)
  /-- R441: Both STO pins have read the same level for DISC_MS, so DISCREPANCY clears and SRESET_N edges can release stops again. -/
  | discrepancyCleared
  /-- R257: REFIN returns within 2.0 V to 3.0 V, REFIN_OK sets, the excursion ends and the 2 ms settling of the affected converters begins. -/
  | refinInRange (millivolts : Nat)
  /-- R479: A CAN controller detects a bus error while receiving, sends an error frame and raises its receive error counter, which may put it in error passive. -/
  | busError (n : ChanId)
  deriving DecidableEq, Repr

end Sys2Proof
end

