-- ==== Sys2Proof/Decode.lean ====
section
/-!
DEFINITION. The words that spell commands by the command table's bits. No row of the table gives bits: a command reaches the part as an
access, an event on a pin or an event inside it (log entry 5), so no word spells one.
-/
namespace Sys2Proof

/-- The command that a word of `nbits` bits spells by the table's bits: none, since no row has bits. -/
def decodeTableWord (nbits w : Nat) : Option Instr :=
  match nbits, w with
  | _, _ => none

end Sys2Proof
end

