-- ==== Sys2Proof/Config.lean ====
section
/-!
DEFINITION. What the spec leaves to the implementation or to a standard outside it, as opaque constants: no proof can see a
value of one (log entries 2 and 3).
-/
namespace Sys2Proof

/-- Whether an ECDSA P-256 signature over the SHA-256 digest of a message verifies against a public key (R82, R83;
FIPS 186-5): key, message, signature. -/
opaque Config.signatureOk : List Byte → List Byte → List Byte → Bool

/-- The SHA-256 digest of a byte string (FIPS 180-4). -/
opaque Config.sha256 : List Byte → List Byte

/-- Whether a key X ‖ Y is a valid point on P-256 (R86, R122). -/
opaque Config.pointOk : List Byte → Bool

/-- The AES-128-CMAC of a message under a key (R128; NIST SP 800-38B), 16 bytes, most significant first. -/
opaque Config.cmac : List Byte → List Byte → List Byte

/-- The session key of R126: the device's ephemeral secret number, the host's public key, the salt and the info. -/
opaque Config.sessionKey : Nat → List Byte → List Byte → List Byte → List Byte

/-- The public key of the device's ephemeral secret with a given number (R126). -/
opaque Config.ephemeralPublic : Nat → List Byte

/-- The identity key's signature over a message (Table 4-4). -/
opaque Config.identitySign : List Byte → List Byte

/-- The longest ISO 11898-1 length of a frame in nominal bit times, by identifier format, FD, rate switch, nominal and data rate and
data bytes (R487). -/
opaque Config.frameLength : Bool → Bool → Bool → Nat → Nat → Nat → Nat

/-- Random and unstated bytes, one stream per use of the fresh counter. -/
opaque Config.freeByte : Nat → Nat → Byte

/-- An unstated number, one per use of the fresh counter. -/
opaque Config.freeNat : Nat → Nat

/-- Whether a value that the spec shows in whole units without stating a rounding is rounded up (log entry 3). -/
opaque Config.roundUp : Nat → Nat → Bool

/-- The block whose lane memory an address of working SRAM belongs to: no section of the bitstream names the place (R36, Table 1-7; log
entry 53). -/
opaque Config.laneBlock : Nat → Option Nat

/-- First 4 bytes of the digest over the internal representation of an ownership map (R109), by a number that stands
for the map. -/
opaque Config.mapDigest : List Nat → BitVec 32

end Sys2Proof
end

