-- ==== Sys2Proof/Machine/Table.lean ====
section
/-!
DEFINITION. Sparse tables (the registers, the bytes of memory and the hidden state of each kind of unit are held as
sorted lists of key and value), bit fields of words, and the number helpers every unit shares.
-/
namespace Sys2Proof.Machine

/-- The value a table lists for key `k`, or `d` where it lists none. -/
def Tab.get {α : Type} (t : List (Nat × α)) (k : Nat) (d : α) : α :=
  match t with
  | [] => d
  | (k', v) :: r => if k' = k then v else Tab.get r k d

/-- Put the entry `(k, v)` before the first larger key. -/
def Tab.ins {α : Type} (t : List (Nat × α)) (k : Nat) (v : α) : List (Nat × α) :=
  match t with
  | [] => [(k, v)]
  | (k', v') :: r => if k < k' then (k, v) :: (k', v') :: r else (k', v') :: Tab.ins r k v

/-- Drop every entry of key `k`. -/
def Tab.del {α : Type} (t : List (Nat × α)) (k : Nat) : List (Nat × α) :=
  match t with
  | [] => []
  | (k', v') :: r => if k' = k then Tab.del r k else (k', v') :: Tab.del r k

/-- The table with key `k` at `v`. An entry equal to the default `d` is not listed, so that equal contents are
equal lists. -/
def Tab.put {α : Type} [DecidableEq α] (t : List (Nat × α)) (k : Nat) (v d : α) : List (Nat × α) :=
  if v = d then Tab.del t k else Tab.ins (Tab.del t k) k v

/-- The mask of bits hi..lo of a word (R3). -/
def Bits.mask (hi lo : Nat) : Word := BitVec.ofNat 32 (2 ^ (hi + 1 - lo) - 1) <<< lo

/-- Bits hi..lo of a word as a number (R3). -/
def Bits.get (w : Word) (hi lo : Nat) : Nat := (w.toNat >>> lo) % 2 ^ (hi + 1 - lo)

/-- The word with bits hi..lo replaced by the low bits of `v`. -/
def Bits.set (w : Word) (hi lo v : Nat) : Word :=
  (w &&& ~~~ Bits.mask hi lo) ||| ((BitVec.ofNat 32 v <<< lo) &&& Bits.mask hi lo)

/-- A number of `n` bits read as two's complement. -/
def Num.signed (n v : Nat) : Int :=
  if v % 2 ^ n < 2 ^ (n - 1) then ((v % 2 ^ n : Nat) : Int) else ((v % 2 ^ n : Nat) : Int) - ((2 ^ n : Nat) : Int)

/-- The two's-complement code of an integer in `n` bits. -/
def Num.code (n : Nat) (i : Int) : Nat := (i % ((2 ^ n : Nat) : Int)).toNat

/-- Limit an integer to lo..hi. -/
def Num.clamp (lo hi i : Int) : Int := if i < lo then lo else if hi < i then hi else i

/-- `v` plus one, stopping at `top`. -/
def Num.incTo (top v : Nat) : Nat := if v < top then v + 1 else top

/-- Division rounded to nearest, ties away from zero, for a positive divisor. -/
def Num.roundDiv (a : Int) (b : Nat) : Int :=
  if 0 ≤ a then (2 * a + (b : Int)) / (2 * (b : Int)) else - ((2 * (-a) + (b : Int)) / (2 * (b : Int)))

/-- Bit `i` of a number. -/
def Num.bit (v i : Nat) : Bool := v.testBit i

/-- The number with bit `i` set to `b`. -/
def Num.setBit (v i : Nat) (b : Bool) : Nat :=
  if v.testBit i = b then v else if b then v + 2 ^ i else v - 2 ^ i

/-- How many of the low `n` bits of `v` are 1. -/
def Num.ones (n v : Nat) : Nat := ((List.range n).filter (fun i => v.testBit i)).length

/-- Apply `f` to 0, 1, …, n − 1 in that order. -/
def Num.forEach {σ : Type} (n : Nat) (f : Nat → σ → σ) (s : σ) : σ :=
  (List.range n).foldl (fun acc i => f i acc) s

/-- A 0/1 value of a Bool. -/
def Num.ofBool (b : Bool) : Nat := if b then 1 else 0

/-- Little-endian number of a list of bytes (R4). -/
def Num.ofBytesLE (bs : List Byte) : Nat := bs.foldr (fun b acc => b.toNat + 256 * acc) 0

/-- Big-endian number of a list of bytes. -/
def Num.ofBytesBE (bs : List Byte) : Nat := bs.foldl (fun acc b => acc * 256 + b.toNat) 0

/-- The `n` bytes of a number, least significant first (R4). -/
def Num.bytesLE (n v : Nat) : List Byte := (List.range n).map (fun i => BitVec.ofNat 8 (v >>> (8 * i)))

/-- The `n` bytes of a number, most significant first. -/
def Num.bytesBE (n v : Nat) : List Byte := (Num.bytesLE n v).reverse

end Sys2Proof.Machine
end

