-- ==== Sys2Proof/Machine/Operands.lean ====
section
/-!
DEFINITION. The value forms of the device: Q15 values with their invalid code, 32-bit fixed point with the same invalid
code, rounding and saturation (R137, R138, R229, R281 to R283), angles in counts of 65,536 and wrapped step counts.
-/
namespace Sys2Proof.Machine

/-- The code 0x8000, which stands for "no valid value" (R138, R229). -/
def Q15.invalid : Nat := 0x8000

/-- The value of a Q15 code, none for 0x8000. -/
def Q15.val (v : Nat) : Option Int := if v % 0x10000 = 0x8000 then none else some (Num.signed 16 v)

/-- Saturate to −32,767 to +32,767 (R281). -/
def Q15.sat (i : Int) : Int := Num.clamp (-32767) 32767 i

/-- The Q15 code of an integer, saturated. -/
def Q15.code (i : Int) : Nat := Num.code 16 (Q15.sat i)

/-- The Q15 code of a value that may be missing. -/
def Q15.ofOpt (o : Option Int) : Nat :=
  match o with
  | none => 0x8000
  | some i => Q15.code i

/-- Apply an operation to two Q15 codes; an invalid input gives an invalid result (R284). -/
def Q15.map2 (f : Int → Int → Int) (a b : Nat) : Nat :=
  match Q15.val a, Q15.val b with
  | some x, some y => Q15.code (f x y)
  | _, _ => 0x8000

/-- Division by 2^n rounded to nearest, ties away from zero (R282). -/
def Num.roundShift (i : Int) (n : Nat) : Int := Num.roundDiv i (2 ^ n)

/-- The mean of a list of codes, rounded to nearest with ties away from zero; none of an empty list (R229). -/
def Num.mean (xs : List Int) : Option Int :=
  match xs with
  | [] => none
  | _ => some (Num.roundDiv (xs.foldl (· + ·) 0) xs.length)

/-- n ÷ d in whole units; where the spec states no rounding, a fraction goes up or down freely (log entry 3). -/
def Num.shown (n d : Nat) : Nat :=
  if d = 0 then 0 else if n % d = 0 then n / d else if Config.roundUp n d then n / d + 1 else n / d

/-- The largest integer whose square does not exceed `n`, by bits from 2^b down. -/
def Num.isqrtFrom (n r : Nat) (b : Nat) : Nat :=
  match b with
  | 0 => if (r + 1) * (r + 1) ≤ n then r + 1 else r
  | b' + 1 => if (r + 2 ^ (b' + 1)) * (r + 2 ^ (b' + 1)) ≤ n then Num.isqrtFrom n (r + 2 ^ (b' + 1)) b' else Num.isqrtFrom n r b'

/-- The integer square root of a number below 2^80. -/
def Num.isqrt (n : Nat) : Nat := Num.isqrtFrom n 0 39

/-- The integer nearest to √n, a tie up. -/
def Num.nearestSqrt (n : Nat) : Nat :=
  let r := Num.isqrt n
  if r * r + r < n then r + 1 else r

/-- The thermal factor F on a value: it acts while the region is at throttle; at 32,767 it leaves the value (R319, R421; DEDUCED, log entry 72). -/
def derate (f x : Int) : Int := if f = 32767 then x else Num.roundShift (x * f) 15

/-- π × 2^80, rounded down. -/
def Num.piScaled : Nat := 3797952473636338580787993

/-- The Taylor series of the sine: the terms from the i-th on, with the last term and the sum at scale 2^80. -/
def Num.sinTerms (x : Nat) (fuel i : Nat) (term sum : Int) : Int :=
  match fuel with
  | 0 => sum
  | f + 1 =>
    let t := (term * x / 2 ^ 80) * x / 2 ^ 80 / (2 * i * (2 * i + 1) : Nat)
    Num.sinTerms x f (i + 1) t (if i % 2 = 1 then sum - t else sum + t)

/-- round(amp × sin(2π r ÷ n)) for r at most n ÷ 4, with ties away from zero (R298, R447). -/
def Num.sinQuarter (amp r n : Nat) : Int :=
  let x := 2 * Num.piScaled * r / n
  (2 * amp * Num.sinTerms x 14 1 x x + 2 ^ 80) / 2 ^ 81

/-- round(amp × sin(2π a ÷ n)) with ties away from zero, for n a multiple of 4. -/
def Num.sinRound (amp a n : Nat) : Int :=
  let a := a % n
  let q := n / 4
  if a ≤ q then Num.sinQuarter amp a n
  else if a ≤ 2 * q then Num.sinQuarter amp (2 * q - a) n
  else if a ≤ 3 * q then - Num.sinQuarter amp (a - 2 * q) n
  else - Num.sinQuarter amp (4 * q - a) n

/-- round(amp × cos(2π a ÷ n)). -/
def Num.cosRound (amp a n : Nat) : Int := Num.sinRound amp (a + n / 4) n

end Sys2Proof.Machine
end

