-- ==== Sys2Proof/Machine/Flags.lean ====
section
/-!
DEFINITION. The check values of the device: the CRC-32 of bitstreams (R79), that of safe pairs (R450) and the CRC-8 of serial
position frames (R380). The status bits of each unit are computed beside the unit that shows them.
-/
namespace Sys2Proof.Machine

/-- One bit of a reflected 32-bit CRC. -/
def crcBit (poly r : BitVec 32) : BitVec 32 := if r.getLsbD 0 then (r >>> 1) ^^^ poly else r >>> 1

/-- One byte of a reflected 32-bit CRC. -/
def crcByte (poly r : BitVec 32) (b : Byte) : BitVec 32 :=
  (List.range 8).foldl (fun acc _ => crcBit poly acc) (r ^^^ b.setWidth 32)

/-- The reflected 32-bit CRC of R79 with the given reflected polynomial: initial value and final XOR 0xFFFF_FFFF. -/
def crc32With (poly : BitVec 32) (bs : List Byte) : BitVec 32 := (bs.foldl (crcByte poly) 0xFFFFFFFF#32) ^^^ 0xFFFFFFFF#32

/-- CRC-32 of R79: polynomial 0x04C1_1DB7, reflected. -/
def crc32 (bs : List Byte) : BitVec 32 := crc32With 0xEDB88320#32 bs

/-- The CRC of safe pairs (R450): polynomial 0xF4AC_FB13 in place of that of R79. -/
def crcPair (bs : List Byte) : BitVec 32 := crc32With 0xC8DF352F#32 bs

/-- One bit of a CRC-8 without reflection. -/
def crc8Bit (poly r : BitVec 8) : BitVec 8 := if r.getLsbD 7 then (r <<< 1) ^^^ poly else r <<< 1

/-- CRC-8 under a polynomial with initial value 0x00 and no reflection (R380). -/
def crc8 (poly : BitVec 8) (bs : List Byte) : BitVec 8 :=
  bs.foldl (fun r b => (List.range 8).foldl (fun acc _ => crc8Bit poly acc) (r ^^^ b)) 0

end Sys2Proof.Machine
end

