-- ==== Sys2Proof/Machine/RegBase.lean ====
section
/-!
DEFINITION. What a register and a field of a register are, the address arithmetic of R38, and the shape of the register
map's rows.
-/
namespace Sys2Proof.Machine

/-- A register: its address and its value after chip reset (R7). -/
structure RegId where
  addr  : Nat
  reset : Word
  deriving DecidableEq, Repr

/-- A field: its register and its bits hi..lo (R3). -/
structure Fld where
  reg : RegId
  hi  : Nat
  lo  : Nat
  deriving DecidableEq, Repr

/-- The base address of global cell c (R38). -/
def cellBase (c : Nat) : Nat :=
  0x10500000 + (c / 12) * 0x1000000 + (c / 6 % 2) * 0x200000 + (c % 6) * 0x10000

/-- The base address of global block k (R38). -/
def blockBase (k : Nat) : Nat := 0x10400000 + (k / 2) * 0x1000000 + (k % 2) * 0x200000

/-- The access codes of Table 0-4 (R8). -/
inductive Acc where
  | rw | ro | wo | w1c | w1s | rwl | rs
  deriving DecidableEq, Repr

/-- The range the spec states for a field. -/
inductive Lim where
  | any
  | within (lo hi : Nat)
  deriving DecidableEq, Repr

/-- One field of a row of the register map. -/
structure FieldRow where
  hi  : Nat
  lo  : Nat
  acc : Acc
  lim : Lim
  deriving DecidableEq, Repr

/-- The effect of a write beyond the register's own fields, named for the registers that have one. -/
inductive RegHook where
  | plain
  | powerCmd
  | bsCtrl
  | bsPort
  | ksKeyCtrl
  | hsCtrl
  | seqCtrl
  | seqFlags
  | seqFlagsClr
  | seqCommit
  | regionReturn
  | diagCtrl
  | dschCtrl
  | pwmShadow
  | tripStatus
  | tripCfg
  | sarMask
  | senseScale
  | compCfg
  | scmpCfg
  | measCtrl
  | measAuxCtrl
  | measCfg
  | measAuxCfg
  | measAuxSeq
  | capAreaCtrl
  | capAreaMask
  | capAreaCfg
  | inputValue
  | lawParam
  | lawCtrl
  | injCtrl
  | injCfg
  | capCtrl
  | capCfg
  | trioVeto
  | dtcCfg
  | trioCfg
  | motionCfg
  | startCfg
  | olEnd
  | reentryCtrl
  | posCfg
  | posGeom
  | posOffset
  | cmpCtrl
  | cmpCfg
  | chanCtrl
  | chanCfg
  | safePinCfg
  | safeCmd
  | threadReg
  | canTime
  | canCtrl
  | objCtrl
  | objData
  | spiCfg
  | spiGpio
  | spiXipCfg
  | spiXipCtrl
  | spiFrameCtrl
  | spiFrameCfg
  | keepCtrl
  | keepBuf
  | histCfg
  | tempCfg
  deriving DecidableEq, Repr

/-- A row of the register map: base address, strides with their counts (outermost first), effect, reset, fields. -/
structure RegRow where
  base   : Nat
  dims   : List (Nat × Nat)
  hook   : RegHook
  reset  : Word
  fields : List FieldRow
  deriving DecidableEq, Repr

/-- Table 20-6: reset of PART_HIST_h_CFG. -/
def histCfgReset (h : Nat) : Word :=
  match h with
  | 0 => 0x0008#32
  | 1 => 0x000A#32
  | 2 => 0x0009#32
  | _ => 0x0000#32

/-- Table 20-6: reset of PART_HIST_h_RANGE. -/
def histRangeReset (h : Nat) : Word :=
  match h with
  | 0 => 0x003CFE70#32
  | 1 => 0x04000000#32
  | 2 => 0x04000000#32
  | _ => 0x08008001#32

/-- Table 13-6: reset of POS_u_GEOM, whose layout the unit's type fixes (Table 13-1). -/
def posGeomReset (u : Nat) : Word :=
  if u < 3 then 0x04000000#32 else if u < 7 then 0x00000000#32 else if u < 9 then 0x00000400#32 else 0x78004000#32

/-- Table 13-6: reset of POS_u_GEOM2. -/
def posGeom2Reset (u : Nat) : Word :=
  if u < 3 then 0x00000010#32 else if u < 7 then 0x00000010#32 else if u < 9 then 0x00000000#32 else 0x03000010#32

end Sys2Proof.Machine
end

