-- ==== Sys2Proof/Machine/RegsBlock.lean ====
section
/-!
DEFINITION. The registers and fields of the control engine, torque control and commutation of a block (chapters 10 to 12), each at the address and with the reset value of its table.
A reset the tables give as X or BS is 0 (DESIGN CHOICE, log entry 1).
-/
namespace Sys2Proof.Machine

/-- BLK_k_INPUT_n_VALUE (Table 10-6). -/
def BLK_INPUT_VALUE (k n : Nat) : RegId := ⟨blockBase k + 0x4000 + n * 0x4, 0x0#32⟩
def BLK_INPUT_VALUE.VALUE (k n : Nat) : Fld := ⟨(BLK_INPUT_VALUE k n), 15, 0⟩
/-- BLK_k_INPUT_n_CFG (Table 10-6). -/
def BLK_INPUT_CFG (k n : Nat) : RegId := ⟨blockBase k + 0x4400 + n * 0x4, 0x0#32⟩
def BLK_INPUT_CFG.RAMPING (k n : Nat) : Fld := ⟨(BLK_INPUT_CFG k n), 31, 31⟩
def BLK_INPUT_CFG.TRACK_EN (k n : Nat) : Fld := ⟨(BLK_INPUT_CFG k n), 16, 16⟩
def BLK_INPUT_CFG.TRACK (k n : Nat) : Fld := ⟨(BLK_INPUT_CFG k n), 8, 0⟩
/-- BLK_k_LAW_l_B01 (Table 10-6). -/
def BLK_LAW_B01 (k l : Nat) : RegId := ⟨blockBase k + 0x5000 + l * 0x20, 0x0#32⟩
def BLK_LAW_B01.B1 (k l : Nat) : Fld := ⟨(BLK_LAW_B01 k l), 31, 16⟩
def BLK_LAW_B01.B0 (k l : Nat) : Fld := ⟨(BLK_LAW_B01 k l), 15, 0⟩
/-- BLK_k_LAW_l_B23 (Table 10-6). -/
def BLK_LAW_B23 (k l : Nat) : RegId := ⟨blockBase k + 0x5004 + l * 0x20, 0x0#32⟩
def BLK_LAW_B23.B3 (k l : Nat) : Fld := ⟨(BLK_LAW_B23 k l), 31, 16⟩
def BLK_LAW_B23.B2 (k l : Nat) : Fld := ⟨(BLK_LAW_B23 k l), 15, 0⟩
/-- BLK_k_LAW_l_A12 (Table 10-6). -/
def BLK_LAW_A12 (k l : Nat) : RegId := ⟨blockBase k + 0x5008 + l * 0x20, 0x0#32⟩
def BLK_LAW_A12.A2 (k l : Nat) : Fld := ⟨(BLK_LAW_A12 k l), 31, 16⟩
def BLK_LAW_A12.A1 (k l : Nat) : Fld := ⟨(BLK_LAW_A12 k l), 15, 0⟩
/-- BLK_k_LAW_l_A3 (Table 10-6). -/
def BLK_LAW_A3 (k l : Nat) : RegId := ⟨blockBase k + 0x500C + l * 0x20, 0x0#32⟩
def BLK_LAW_A3.A3 (k l : Nat) : Fld := ⟨(BLK_LAW_A3 k l), 15, 0⟩
/-- BLK_k_LAW_l_LIMITS (Table 10-6). -/
def BLK_LAW_LIMITS (k l : Nat) : RegId := ⟨blockBase k + 0x5010 + l * 0x20, 0x0#32⟩
def BLK_LAW_LIMITS.OUT_MAX (k l : Nat) : Fld := ⟨(BLK_LAW_LIMITS k l), 31, 16⟩
def BLK_LAW_LIMITS.OUT_MIN (k l : Nat) : Fld := ⟨(BLK_LAW_LIMITS k l), 15, 0⟩
/-- BLK_k_LAW_l_STATUS (Table 10-6). -/
def BLK_LAW_STATUS (k l : Nat) : RegId := ⟨blockBase k + 0x5014 + l * 0x20, 0x0#32⟩
def BLK_LAW_STATUS.LIMIT_COUNT (k l : Nat) : Fld := ⟨(BLK_LAW_STATUS k l), 31, 16⟩
def BLK_LAW_STATUS.HELD_COUNT (k l : Nat) : Fld := ⟨(BLK_LAW_STATUS k l), 15, 0⟩
/-- BLK_k_LAW_l_OUT (Table 10-6). -/
def BLK_LAW_OUT (k l : Nat) : RegId := ⟨blockBase k + 0x5018 + l * 0x20, 0x0#32⟩
def BLK_LAW_OUT.HELD (k l : Nat) : Fld := ⟨(BLK_LAW_OUT k l), 17, 17⟩
def BLK_LAW_OUT.LIMITED (k l : Nat) : Fld := ⟨(BLK_LAW_OUT k l), 16, 16⟩
def BLK_LAW_OUT.U (k l : Nat) : Fld := ⟨(BLK_LAW_OUT k l), 15, 0⟩
/-- BLK_k_LAW_l_CTRL (Table 10-6). -/
def BLK_LAW_CTRL (k l : Nat) : RegId := ⟨blockBase k + 0x501C + l * 0x20, 0x0#32⟩
def BLK_LAW_CTRL.CLEAR (k l : Nat) : Fld := ⟨(BLK_LAW_CTRL k l), 0, 0⟩
/-- BLK_k_INJ_CFG (Table 10-6). -/
def BLK_INJ_CFG (k : Nat) : RegId := ⟨blockBase k + 0x7000, 0x10000#32⟩
def BLK_INJ_CFG.HOLD (k : Nat) : Fld := ⟨(BLK_INJ_CFG k), 31, 16⟩
def BLK_INJ_CFG.ENTRIES (k : Nat) : Fld := ⟨(BLK_INJ_CFG k), 15, 12⟩
def BLK_INJ_CFG.WAVE (k : Nat) : Fld := ⟨(BLK_INJ_CFG k), 11, 10⟩
def BLK_INJ_CFG.NODE (k : Nat) : Fld := ⟨(BLK_INJ_CFG k), 8, 0⟩
/-- BLK_k_INJ_AMPL (Table 10-6). -/
def BLK_INJ_AMPL (k : Nat) : RegId := ⟨blockBase k + 0x7004, 0x10000#32⟩
def BLK_INJ_AMPL.BIT_STEPS (k : Nat) : Fld := ⟨(BLK_INJ_AMPL k), 31, 16⟩
def BLK_INJ_AMPL.AMPL (k : Nat) : Fld := ⟨(BLK_INJ_AMPL k), 15, 0⟩
/-- BLK_k_INJ_SWEEP (Table 10-6). -/
def BLK_INJ_SWEEP (k : Nat) : RegId := ⟨blockBase k + 0x7008, 0x0#32⟩
def BLK_INJ_SWEEP.SWEEP (k : Nat) : Fld := ⟨(BLK_INJ_SWEEP k), 31, 0⟩
/-- BLK_k_INJ_CTRL (Table 10-6). -/
def BLK_INJ_CTRL (k : Nat) : RegId := ⟨blockBase k + 0x700C, 0x0#32⟩
def BLK_INJ_CTRL.STOP (k : Nat) : Fld := ⟨(BLK_INJ_CTRL k), 1, 1⟩
def BLK_INJ_CTRL.START (k : Nat) : Fld := ⟨(BLK_INJ_CTRL k), 0, 0⟩
/-- BLK_k_INJ_STATUS (Table 10-6). -/
def BLK_INJ_STATUS (k : Nat) : RegId := ⟨blockBase k + 0x7010, 0x0#32⟩
def BLK_INJ_STATUS.VALUE (k : Nat) : Fld := ⟨(BLK_INJ_STATUS k), 31, 16⟩
def BLK_INJ_STATUS.ENTRY (k : Nat) : Fld := ⟨(BLK_INJ_STATUS k), 7, 4⟩
def BLK_INJ_STATUS.STATE (k : Nat) : Fld := ⟨(BLK_INJ_STATUS k), 1, 0⟩
/-- BLK_k_INJ_FREQ_e (Table 10-6). -/
def BLK_INJ_FREQ (k e : Nat) : RegId := ⟨blockBase k + 0x7040 + e * 0x4, 0x0#32⟩
def BLK_INJ_FREQ.INC (k e : Nat) : Fld := ⟨(BLK_INJ_FREQ k e), 31, 0⟩
/-- BLK_k_CAP_CFG (Table 10-6). -/
def BLK_CAP_CFG (k : Nat) : RegId := ⟨blockBase k + 0x7100, 0x0#32⟩
def BLK_CAP_CFG.DECIM (k : Nat) : Fld := ⟨(BLK_CAP_CFG k), 31, 16⟩
def BLK_CAP_CFG.ARM_AT_START (k : Nat) : Fld := ⟨(BLK_CAP_CFG k), 8, 8⟩
def BLK_CAP_CFG.ENABLE (k : Nat) : Fld := ⟨(BLK_CAP_CFG k), 7, 0⟩
/-- BLK_k_CAP_CH_c (Table 10-6). -/
def BLK_CAP_CH (k c : Nat) : RegId := ⟨blockBase k + 0x7104 + c * 0x4, 0x0#32⟩
def BLK_CAP_CH.KIND (k c : Nat) : Fld := ⟨(BLK_CAP_CH k c), 10, 9⟩
def BLK_CAP_CH.SIGNAL (k c : Nat) : Fld := ⟨(BLK_CAP_CH k c), 8, 0⟩
/-- BLK_k_CAP_LEN (Table 10-6). -/
def BLK_CAP_LEN (k : Nat) : RegId := ⟨blockBase k + 0x7124, 0x0#32⟩
def BLK_CAP_LEN.LENGTH (k : Nat) : Fld := ⟨(BLK_CAP_LEN k), 18, 0⟩
/-- BLK_k_CAP_PRE (Table 10-6). -/
def BLK_CAP_PRE (k : Nat) : RegId := ⟨blockBase k + 0x7128, 0x0#32⟩
def BLK_CAP_PRE.PRE (k : Nat) : Fld := ⟨(BLK_CAP_PRE k), 18, 0⟩
/-- BLK_k_CAP_TRIG (Table 10-6). -/
def BLK_CAP_TRIG (k : Nat) : RegId := ⟨blockBase k + 0x712C, 0x0#32⟩
def BLK_CAP_TRIG.LEVEL (k : Nat) : Fld := ⟨(BLK_CAP_TRIG k), 31, 16⟩
def BLK_CAP_TRIG.EDGE (k : Nat) : Fld := ⟨(BLK_CAP_TRIG k), 13, 12⟩
def BLK_CAP_TRIG.SOURCE (k : Nat) : Fld := ⟨(BLK_CAP_TRIG k), 11, 9⟩
def BLK_CAP_TRIG.SIGNAL (k : Nat) : Fld := ⟨(BLK_CAP_TRIG k), 8, 0⟩
/-- BLK_k_CAP_TRIG_STEP (Table 10-6). -/
def BLK_CAP_TRIG_STEP (k : Nat) : RegId := ⟨blockBase k + 0x7130, 0x0#32⟩
def BLK_CAP_TRIG_STEP.STEP (k : Nat) : Fld := ⟨(BLK_CAP_TRIG_STEP k), 31, 0⟩
/-- BLK_k_CAP_CTRL (Table 10-6). -/
def BLK_CAP_CTRL (k : Nat) : RegId := ⟨blockBase k + 0x7134, 0x0#32⟩
def BLK_CAP_CTRL.STOP (k : Nat) : Fld := ⟨(BLK_CAP_CTRL k), 1, 1⟩
def BLK_CAP_CTRL.ARM (k : Nat) : Fld := ⟨(BLK_CAP_CTRL k), 0, 0⟩
/-- BLK_k_CAP_STATUS (Table 10-6). -/
def BLK_CAP_STATUS (k : Nat) : RegId := ⟨blockBase k + 0x7138, 0x0#32⟩
def BLK_CAP_STATUS.STATE (k : Nat) : Fld := ⟨(BLK_CAP_STATUS k), 2, 0⟩
/-- BLK_k_CAP_FIRST (Table 10-6). -/
def BLK_CAP_FIRST (k : Nat) : RegId := ⟨blockBase k + 0x713C, 0x0#32⟩
def BLK_CAP_FIRST.FIRST (k : Nat) : Fld := ⟨(BLK_CAP_FIRST k), 18, 0⟩
/-- BLK_k_CAP_PRE_HELD (Table 10-6). -/
def BLK_CAP_PRE_HELD (k : Nat) : RegId := ⟨blockBase k + 0x7140, 0x0#32⟩
def BLK_CAP_PRE_HELD.COUNT (k : Nat) : Fld := ⟨(BLK_CAP_PRE_HELD k), 18, 0⟩
/-- BLK_k_CAP_TRIG_SEEN (Table 10-6). -/
def BLK_CAP_TRIG_SEEN (k : Nat) : RegId := ⟨blockBase k + 0x7144, 0x0#32⟩
def BLK_CAP_TRIG_SEEN.STEP (k : Nat) : Fld := ⟨(BLK_CAP_TRIG_SEEN k), 31, 0⟩
/-- BLK_k_SIG_s (Table 10-6). -/
def BLK_SIG (k s : Nat) : RegId := ⟨blockBase k + 0x8000 + s * 0x4, 0x8000#32⟩
def BLK_SIG.VALUE (k s : Nat) : Fld := ⟨(BLK_SIG k s), 15, 0⟩
/-- BLK_k_DTC_CFG (Table 11-4). -/
def BLK_DTC_CFG (k : Nat) : RegId := ⟨blockBase k + 0x9000, 0x0#32⟩
def BLK_DTC_CFG.GSHIFT (k : Nat) : Fld := ⟨(BLK_DTC_CFG k), 11, 9⟩
def BLK_DTC_CFG.ANGLE (k : Nat) : Fld := ⟨(BLK_DTC_CFG k), 8, 0⟩
/-- BLK_k_DTC_CORR (Table 11-4). -/
def BLK_DTC_CORR (k : Nat) : RegId := ⟨blockBase k + 0x9004, 0x0#32⟩
def BLK_DTC_CORR.RESID_LIMIT (k : Nat) : Fld := ⟨(BLK_DTC_CORR k), 31, 16⟩
def BLK_DTC_CORR.CORR (k : Nat) : Fld := ⟨(BLK_DTC_CORR k), 15, 0⟩
/-- BLK_k_DTC_STATUS (Table 11-4). -/
def BLK_DTC_STATUS (k : Nat) : RegId := ⟨blockBase k + 0x9008, 0x0#32⟩
def BLK_DTC_STATUS.ANGLE_MISSING (k : Nat) : Fld := ⟨(BLK_DTC_STATUS k), 31, 16⟩
def BLK_DTC_STATUS.HORIZON (k : Nat) : Fld := ⟨(BLK_DTC_STATUS k), 11, 8⟩
def BLK_DTC_STATUS.EFFECTIVE (k : Nat) : Fld := ⟨(BLK_DTC_STATUS k), 7, 4⟩
def BLK_DTC_STATUS.THROTTLED (k : Nat) : Fld := ⟨(BLK_DTC_STATUS k), 0, 0⟩
/-- BLK_k_TRIO_t_CFG (Table 11-4). -/
def BLK_TRIO_CFG (k t : Nat) : RegId := ⟨blockBase k + 0x9040 + t * 0x20, 0x0#32⟩
def BLK_TRIO_CFG.NEIGHBOURS (k t : Nat) : Fld := ⟨(BLK_TRIO_CFG k t), 31, 16⟩
def BLK_TRIO_CFG.ZERO_MIN (k t : Nat) : Fld := ⟨(BLK_TRIO_CFG k t), 0, 0⟩
/-- BLK_k_TRIO_t_BAND (Table 11-4). -/
def BLK_TRIO_BAND (k t : Nat) : RegId := ⟨blockBase k + 0x9044 + t * 0x20, 0x0#32⟩
def BLK_TRIO_BAND.BT (k t : Nat) : Fld := ⟨(BLK_TRIO_BAND k t), 31, 16⟩
def BLK_TRIO_BAND.BF (k t : Nat) : Fld := ⟨(BLK_TRIO_BAND k t), 15, 0⟩
/-- BLK_k_TRIO_t_VETO (Table 11-4). -/
def BLK_TRIO_VETO (k t : Nat) : RegId := ⟨blockBase k + 0x9048 + t * 0x20, 0x7FFF0000#32⟩
def BLK_TRIO_VETO.VB_HI (k t : Nat) : Fld := ⟨(BLK_TRIO_VETO k t), 31, 16⟩
def BLK_TRIO_VETO.VB_LO (k t : Nat) : Fld := ⟨(BLK_TRIO_VETO k t), 15, 0⟩
/-- BLK_k_TRIO_t_KT (Table 11-4). -/
def BLK_TRIO_KT (k t : Nat) : RegId := ⟨blockBase k + 0x904C + t * 0x20, 0x0#32⟩
def BLK_TRIO_KT.KS (k t : Nat) : Fld := ⟨(BLK_TRIO_KT k t), 19, 16⟩
def BLK_TRIO_KT.KT (k t : Nat) : Fld := ⟨(BLK_TRIO_KT k t), 15, 0⟩
/-- BLK_k_TRIO_t_SHARE (Table 11-4). -/
def BLK_TRIO_SHARE (k t : Nat) : RegId := ⟨blockBase k + 0x9050 + t * 0x20, 0x4000#32⟩
def BLK_TRIO_SHARE.SHARE (k t : Nat) : Fld := ⟨(BLK_TRIO_SHARE k t), 15, 0⟩
/-- BLK_k_TRIO_t_STATE (Table 11-4). -/
def BLK_TRIO_STATE (k t : Nat) : RegId := ⟨blockBase k + 0x9054 + t * 0x20, 0x140#32⟩
def BLK_TRIO_STATE.SECTOR (k t : Nat) : Fld := ⟨(BLK_TRIO_STATE k t), 14, 12⟩
def BLK_TRIO_STATE.HELD (k t : Nat) : Fld := ⟨(BLK_TRIO_STATE k t), 11, 11⟩
def BLK_TRIO_STATE.ALL_VETOED (k t : Nat) : Fld := ⟨(BLK_TRIO_STATE k t), 10, 10⟩
def BLK_TRIO_STATE.VETOED (k t : Nat) : Fld := ⟨(BLK_TRIO_STATE k t), 9, 9⟩
def BLK_TRIO_STATE.F_STATE (k t : Nat) : Fld := ⟨(BLK_TRIO_STATE k t), 8, 8⟩
def BLK_TRIO_STATE.T_STATE (k t : Nat) : Fld := ⟨(BLK_TRIO_STATE k t), 7, 6⟩
def BLK_TRIO_STATE.TABLE (k t : Nat) : Fld := ⟨(BLK_TRIO_STATE k t), 5, 3⟩
def BLK_TRIO_STATE.APPLIED (k t : Nat) : Fld := ⟨(BLK_TRIO_STATE k t), 2, 0⟩
/-- BLK_k_TRIO_t_COUNT (Table 11-4). -/
def BLK_TRIO_COUNT (k t : Nat) : RegId := ⟨blockBase k + 0x9058 + t * 0x20, 0x0#32⟩
def BLK_TRIO_COUNT.VETOES (k t : Nat) : Fld := ⟨(BLK_TRIO_COUNT k t), 31, 16⟩
def BLK_TRIO_COUNT.ALL_VETOED (k t : Nat) : Fld := ⟨(BLK_TRIO_COUNT k t), 15, 0⟩
/-- BLK_k_TRIO_t_HELD (Table 11-4). -/
def BLK_TRIO_HELD (k t : Nat) : RegId := ⟨blockBase k + 0x905C + t * 0x20, 0x0#32⟩
def BLK_TRIO_HELD.COUNT (k t : Nat) : Fld := ⟨(BLK_TRIO_HELD k t), 15, 0⟩
/-- BLK_k_CELL_i_EST_GV (Table 11-4). -/
def BLK_CELL_EST_GV (k i : Nat) : RegId := ⟨blockBase k + 0x9100 + i * 0x8, 0x0#32⟩
def BLK_CELL_EST_GV.GV (k i : Nat) : Fld := ⟨(BLK_CELL_EST_GV k i), 19, 0⟩
/-- BLK_k_CELL_i_EST_GR (Table 11-4). -/
def BLK_CELL_EST_GR (k i : Nat) : RegId := ⟨blockBase k + 0x9104 + i * 0x8, 0x0#32⟩
def BLK_CELL_EST_GR.GR (k i : Nat) : Fld := ⟨(BLK_CELL_EST_GR k i), 19, 0⟩
/-- BLK_k_TRIO_t_MOTION_CFG (Table 12-7). -/
def BLK_TRIO_MOTION_CFG (k t : Nat) : RegId := ⟨blockBase k + 0xA000 + t * 0x40, 0x141000#32⟩
def BLK_TRIO_MOTION_CFG.OBSERVE_MS (k t : Nat) : Fld := ⟨(BLK_TRIO_MOTION_CFG k t), 24, 16⟩
def BLK_TRIO_MOTION_CFG.REVERSE_ACTION (k t : Nat) : Fld := ⟨(BLK_TRIO_MOTION_CFG k t), 15, 14⟩
def BLK_TRIO_MOTION_CFG.SPEED_SRC (k t : Nat) : Fld := ⟨(BLK_TRIO_MOTION_CFG k t), 13, 12⟩
def BLK_TRIO_MOTION_CFG.SPEED_SIG (k t : Nat) : Fld := ⟨(BLK_TRIO_MOTION_CFG k t), 8, 0⟩
/-- BLK_k_TRIO_t_SPEED_CFG (Table 12-7). -/
def BLK_TRIO_SPEED_CFG (k t : Nat) : RegId := ⟨blockBase k + 0xA004 + t * 0x40, 0x320100#32⟩
def BLK_TRIO_SPEED_CFG.STOP_HZ (k t : Nat) : Fld := ⟨(BLK_TRIO_SPEED_CFG k t), 31, 16⟩
def BLK_TRIO_SPEED_CFG.ZC_HYST (k t : Nat) : Fld := ⟨(BLK_TRIO_SPEED_CFG k t), 15, 0⟩
/-- BLK_k_TRIO_t_COMM_CFG (Table 12-7). -/
def BLK_TRIO_COMM_CFG (k t : Nat) : RegId := ⟨blockBase k + 0xA008 + t * 0x40, 0x80100020#32⟩
def BLK_TRIO_COMM_CFG.COMM_DELAY (k t : Nat) : Fld := ⟨(BLK_TRIO_COMM_CFG k t), 31, 24⟩
def BLK_TRIO_COMM_CFG.ZC_BLANK (k t : Nat) : Fld := ⟨(BLK_TRIO_COMM_CFG k t), 23, 16⟩
def BLK_TRIO_COMM_CFG.DUTY_SLEW (k t : Nat) : Fld := ⟨(BLK_TRIO_COMM_CFG k t), 15, 0⟩
/-- BLK_k_TRIO_t_START_CFG (Table 12-7). -/
def BLK_TRIO_START_CFG (k t : Nat) : RegId := ⟨blockBase k + 0xA00C + t * 0x40, 0xFA02032#32⟩
def BLK_TRIO_START_CFG.OL_START (k t : Nat) : Fld := ⟨(BLK_TRIO_START_CFG k t), 31, 16⟩
def BLK_TRIO_START_CFG.OL_DEC (k t : Nat) : Fld := ⟨(BLK_TRIO_START_CFG k t), 15, 8⟩
def BLK_TRIO_START_CFG.ALIGN_MS (k t : Nat) : Fld := ⟨(BLK_TRIO_START_CFG k t), 7, 0⟩
/-- BLK_k_TRIO_t_START_DUTY (Table 12-7). -/
def BLK_TRIO_START_DUTY (k t : Nat) : RegId := ⟨blockBase k + 0xA010 + t * 0x40, 0xCCD0666#32⟩
def BLK_TRIO_START_DUTY.RAMP_DUTY (k t : Nat) : Fld := ⟨(BLK_TRIO_START_DUTY k t), 31, 16⟩
def BLK_TRIO_START_DUTY.ALIGN_DUTY (k t : Nat) : Fld := ⟨(BLK_TRIO_START_DUTY k t), 15, 0⟩
/-- BLK_k_TRIO_t_OL_END (Table 12-7). -/
def BLK_TRIO_OL_END (k t : Nat) : RegId := ⟨blockBase k + 0xA014 + t * 0x40, 0xC8#32⟩
def BLK_TRIO_OL_END.OL_END (k t : Nat) : Fld := ⟨(BLK_TRIO_OL_END k t), 15, 0⟩
/-- BLK_k_TRIO_t_MOTION_STATUS (Table 12-7). -/
def BLK_TRIO_MOTION_STATUS (k t : Nat) : RegId := ⟨blockBase k + 0xA020 + t * 0x40, 0x0#32⟩
def BLK_TRIO_MOTION_STATUS.SPEED (k t : Nat) : Fld := ⟨(BLK_TRIO_MOTION_STATUS k t), 31, 16⟩
def BLK_TRIO_MOTION_STATUS.REVERSE_SEEN (k t : Nat) : Fld := ⟨(BLK_TRIO_MOTION_STATUS k t), 12, 12⟩
def BLK_TRIO_MOTION_STATUS.SYNCED (k t : Nat) : Fld := ⟨(BLK_TRIO_MOTION_STATUS k t), 11, 11⟩
def BLK_TRIO_MOTION_STATUS.TWO_LEG (k t : Nat) : Fld := ⟨(BLK_TRIO_MOTION_STATUS k t), 10, 10⟩
def BLK_TRIO_MOTION_STATUS.COMM_STATE (k t : Nat) : Fld := ⟨(BLK_TRIO_MOTION_STATUS k t), 6, 4⟩
def BLK_TRIO_MOTION_STATUS.MOTION (k t : Nat) : Fld := ⟨(BLK_TRIO_MOTION_STATUS k t), 3, 0⟩
/-- BLK_k_TRIO_t_COMM_STATUS (Table 12-7). -/
def BLK_TRIO_COMM_STATUS (k t : Nat) : RegId := ⟨blockBase k + 0xA024 + t * 0x40, 0x0#32⟩
def BLK_TRIO_COMM_STATUS.INTERVAL (k t : Nat) : Fld := ⟨(BLK_TRIO_COMM_STATUS k t), 31, 16⟩
def BLK_TRIO_COMM_STATUS.NOISE (k t : Nat) : Fld := ⟨(BLK_TRIO_COMM_STATUS k t), 15, 8⟩
def BLK_TRIO_COMM_STATUS.MISSES (k t : Nat) : Fld := ⟨(BLK_TRIO_COMM_STATUS k t), 7, 0⟩
/-- LEG_c_REENTRY_CFG (Table 12-8). -/
def LEG_REENTRY_CFG (c : Nat) : RegId := ⟨cellBase c + 0x300, 0xA#32⟩
def LEG_REENTRY_CFG.RAMP_FRAMES (c : Nat) : Fld := ⟨(LEG_REENTRY_CFG c), 7, 0⟩
/-- LEG_c_REENTRY_CTRL (Table 12-8). -/
def LEG_REENTRY_CTRL (c : Nat) : RegId := ⟨cellBase c + 0x304, 0x0#32⟩
def LEG_REENTRY_CTRL.REQUEST (c : Nat) : Fld := ⟨(LEG_REENTRY_CTRL c), 0, 0⟩
/-- LEG_c_REENTRY_STATUS (Table 12-8). -/
def LEG_REENTRY_STATUS (c : Nat) : RegId := ⟨cellBase c + 0x308, 0x0#32⟩
def LEG_REENTRY_STATUS.CAUSE (c : Nat) : Fld := ⟨(LEG_REENTRY_STATUS c), 21, 16⟩
def LEG_REENTRY_STATUS.FRAMES_LEFT (c : Nat) : Fld := ⟨(LEG_REENTRY_STATUS c), 15, 8⟩
def LEG_REENTRY_STATUS.STATE (c : Nat) : Fld := ⟨(LEG_REENTRY_STATUS c), 2, 0⟩
/-- PART_CAPABILITY (Table 12-8). -/
def PART_CAPABILITY (p : Nat) : RegId := ⟨0x10200 + p * 0x1000, 0x0#32⟩
def PART_CAPABILITY.RAMPING (p : Nat) : Fld := ⟨(PART_CAPABILITY p), 31, 31⟩
def PART_CAPABILITY.UNAVAILABLE (p : Nat) : Fld := ⟨(PART_CAPABILITY p), 25, 21⟩
def PART_CAPABILITY.TWO_LEG (p : Nat) : Fld := ⟨(PART_CAPABILITY p), 20, 16⟩
def PART_CAPABILITY.AVAILABLE (p : Nat) : Fld := ⟨(PART_CAPABILITY p), 15, 0⟩

end Sys2Proof.Machine
end

