-- ==== Sys2Proof/Machine/RegsChip.lean ====
section
/-!
DEFINITION. The registers and fields of chip identity, supplies and timebase, bitstream loading, partitions, Turnstile and key store (chapters 1 to 4), each at the address and with the reset value of its table.
A reset the tables give as X or BS is 0 (DESIGN CHOICE, log entry 1).
-/
namespace Sys2Proof.Machine

/-- CHIP_ID (Table 1-9). -/
def CHIP_ID : RegId := ⟨0x0, 0x48804D01#32⟩
def CHIP_ID.PART : Fld := ⟨CHIP_ID, 31, 16⟩
def CHIP_ID.FAMILY : Fld := ⟨CHIP_ID, 15, 8⟩
def CHIP_ID.STEPPING : Fld := ⟨CHIP_ID, 7, 0⟩
/-- DIE_STATE (Table 1-9). -/
def DIE_STATE : RegId := ⟨0x4, 0x0#32⟩
def DIE_STATE.DIE (d : Nat) : Fld := ⟨DIE_STATE, d * 4 + 3, d * 4⟩
/-- FENCE_CELL_0 (Table 1-9). -/
def FENCE_CELL_0 : RegId := ⟨0x10, 0x0#32⟩
def FENCE_CELL_0.CELL : Fld := ⟨FENCE_CELL_0, 31, 0⟩
/-- FENCE_CELL_1 (Table 1-9). -/
def FENCE_CELL_1 : RegId := ⟨0x14, 0x0#32⟩
def FENCE_CELL_1.CELL : Fld := ⟨FENCE_CELL_1, 15, 0⟩
/-- FENCE_UNIT (Table 1-9). -/
def FENCE_UNIT : RegId := ⟨0x18, 0x0#32⟩
def FENCE_UNIT.REGION : Fld := ⟨FENCE_UNIT, 11, 8⟩
def FENCE_UNIT.BLOCK : Fld := ⟨FENCE_UNIT, 7, 0⟩
/-- CHIP_FAULT (Table 1-9). -/
def CHIP_FAULT : RegId := ⟨0x20, 0x0#32⟩
def CHIP_FAULT.CODE : Fld := ⟨CHIP_FAULT, 15, 0⟩
/-- LINK_d_ERR (Table 1-9). -/
def LINK_ERR (d : Nat) : RegId := ⟨0x40 + d * 0x4, 0x0#32⟩
def LINK_ERR.D1_COUNT (d : Nat) : Fld := ⟨(LINK_ERR d), 31, 16⟩
def LINK_ERR.D0_COUNT (d : Nat) : Fld := ⟨(LINK_ERR d), 15, 0⟩
/-- REGION_r_RETURN (Table 1-11). -/
def REGION_RETURN (r : Nat) : RegId := ⟨0x10000104 + r * 0x1000000, 0x0#32⟩
def REGION_RETURN.CAUSE (r : Nat) : Fld := ⟨(REGION_RETURN r), 31, 16⟩
def REGION_RETURN.STATE_1 (r : Nat) : Fld := ⟨(REGION_RETURN r), 11, 9⟩
def REGION_RETURN.STATE_0 (r : Nat) : Fld := ⟨(REGION_RETURN r), 8, 6⟩
def REGION_RETURN.CLEARED (r : Nat) : Fld := ⟨(REGION_RETURN r), 2, 2⟩
def REGION_RETURN.REQUEST_1 (r : Nat) : Fld := ⟨(REGION_RETURN r), 1, 1⟩
def REGION_RETURN.REQUEST_0 (r : Nat) : Fld := ⟨(REGION_RETURN r), 0, 0⟩
/-- CLK_STATUS (Table 2-6). -/
def CLK_STATUS : RegId := ⟨0x1000, 0x0#32⟩
def CLK_STATUS.MON_FAULT : Fld := ⟨CLK_STATUS, 15, 8⟩
def CLK_STATUS.XTAL_OK : Fld := ⟨CLK_STATUS, 1, 1⟩
def CLK_STATUS.PLL_LOCK : Fld := ⟨CLK_STATUS, 0, 0⟩
/-- SUPPLY_STATUS (Table 2-6). -/
def SUPPLY_STATUS : RegId := ⟨0x1004, 0x0#32⟩
def SUPPLY_STATUS.VDRV_OK : Fld := ⟨SUPPLY_STATUS, 11, 8⟩
def SUPPLY_STATUS.VANA_OK : Fld := ⟨SUPPLY_STATUS, 4, 4⟩
def SUPPLY_STATUS.VIO_OK : Fld := ⟨SUPPLY_STATUS, 3, 3⟩
def SUPPLY_STATUS.VCORE_L_OK : Fld := ⟨SUPPLY_STATUS, 2, 2⟩
def SUPPLY_STATUS.VCORE_OK : Fld := ⟨SUPPLY_STATUS, 1, 1⟩
def SUPPLY_STATUS.VSUP_OK : Fld := ⟨SUPPLY_STATUS, 0, 0⟩
/-- TB_STEP_LO (Table 2-6). -/
def TB_STEP_LO : RegId := ⟨0x1010, 0x0#32⟩
def TB_STEP_LO.STEP : Fld := ⟨TB_STEP_LO, 31, 0⟩
/-- TB_STEP_HI (Table 2-6). -/
def TB_STEP_HI : RegId := ⟨0x1014, 0x0#32⟩
def TB_STEP_HI.STEP : Fld := ⟨TB_STEP_HI, 31, 0⟩
/-- TB_PHASE (Table 2-6). -/
def TB_PHASE : RegId := ⟨0x1018, 0x0#32⟩
def TB_PHASE.PHASE : Fld := ⟨TB_PHASE, 8, 0⟩
/-- FRAME_CFG (Table 2-6). -/
def FRAME_CFG : RegId := ⟨0x1020, 0x10#32⟩
def FRAME_CFG.FRAME_STEPS : Fld := ⟨FRAME_CFG, 12, 0⟩
/-- OP_SECONDS (Table 2-6). -/
def OP_SECONDS : RegId := ⟨0x1030, 0x0#32⟩
def OP_SECONDS.SECONDS : Fld := ⟨OP_SECONDS, 31, 0⟩
/-- POWER_CYCLES (Table 2-6). -/
def POWER_CYCLES : RegId := ⟨0x1034, 0x0#32⟩
def POWER_CYCLES.COUNT : Fld := ⟨POWER_CYCLES, 31, 0⟩
/-- WARM_RESTARTS (Table 2-6). -/
def WARM_RESTARTS : RegId := ⟨0x1038, 0x0#32⟩
def WARM_RESTARTS.COUNT : Fld := ⟨WARM_RESTARTS, 15, 0⟩
/-- START_STATUS (Table 2-6). -/
def START_STATUS : RegId := ⟨0x1040, 0x0#32⟩
def START_STATUS.START_TIME : Fld := ⟨START_STATUS, 31, 16⟩
def START_STATUS.WAKE_CAN : Fld := ⟨START_STATUS, 11, 8⟩
def START_STATUS.RECORD_MISSING : Fld := ⟨START_STATUS, 7, 7⟩
def START_STATUS.CREDIT_USED : Fld := ⟨START_STATUS, 6, 6⟩
def START_STATUS.LONG_TEST_RAN : Fld := ⟨START_STATUS, 5, 5⟩
def START_STATUS.LAST_POWER_FAIL : Fld := ⟨START_STATUS, 4, 4⟩
def START_STATUS.WAKE_SRC : Fld := ⟨START_STATUS, 3, 2⟩
def START_STATUS.START_KIND : Fld := ⟨START_STATUS, 1, 0⟩
/-- WAKE_CFG (Table 2-6). -/
def WAKE_CFG : RegId := ⟨0x1044, 0x640000#32⟩
def WAKE_CFG.OFF_DELAY : Fld := ⟨WAKE_CFG, 31, 16⟩
def WAKE_CFG.AUTO_SHUTDOWN : Fld := ⟨WAKE_CFG, 8, 8⟩
def WAKE_CFG.CAN_WAKE_EN : Fld := ⟨WAKE_CFG, 7, 4⟩
def WAKE_CFG.WAKE_EDGE : Fld := ⟨WAKE_CFG, 0, 0⟩
/-- SHUTDOWN_CFG (Table 2-6). -/
def SHUTDOWN_CFG : RegId := ⟨0x1048, 0x1F40000#32⟩
def SHUTDOWN_CFG.STOP_TIMEOUT : Fld := ⟨SHUTDOWN_CFG, 31, 16⟩
def SHUTDOWN_CFG.DISCHARGE : Fld := ⟨SHUTDOWN_CFG, 0, 0⟩
/-- POWER_CMD (Table 2-6). -/
def POWER_CMD : RegId := ⟨0x104C, 0x0#32⟩
def POWER_CMD.KEY : Fld := ⟨POWER_CMD, 31, 16⟩
def POWER_CMD.RESTART : Fld := ⟨POWER_CMD, 1, 1⟩
def POWER_CMD.SHUTDOWN : Fld := ⟨POWER_CMD, 0, 0⟩
/-- BS_CTRL (Table 3-19). -/
def BS_CTRL : RegId := ⟨0x100, 0x0#32⟩
def BS_CTRL.KEY : Fld := ⟨BS_CTRL, 31, 16⟩
def BS_CTRL.PART : Fld := ⟨BS_CTRL, 15, 12⟩
def BS_CTRL.SOURCE : Fld := ⟨BS_CTRL, 11, 10⟩
def BS_CTRL.HOLD : Fld := ⟨BS_CTRL, 3, 3⟩
def BS_CTRL.SWITCH : Fld := ⟨BS_CTRL, 2, 2⟩
def BS_CTRL.ABORT : Fld := ⟨BS_CTRL, 1, 1⟩
def BS_CTRL.RELOAD : Fld := ⟨BS_CTRL, 0, 0⟩
/-- BS_STATUS (Table 3-19). -/
def BS_STATUS : RegId := ⟨0x104, 0x0#32⟩
def BS_STATUS.CAUSE : Fld := ⟨BS_STATUS, 31, 16⟩
def BS_STATUS.SOURCE : Fld := ⟨BS_STATUS, 7, 6⟩
def BS_STATUS.STATE : Fld := ⟨BS_STATUS, 3, 0⟩
/-- BS_BYTES (Table 3-19). -/
def BS_BYTES : RegId := ⟨0x108, 0x0#32⟩
def BS_BYTES.COUNT : Fld := ⟨BS_BYTES, 31, 0⟩
/-- BS_CAN_COUNT (Table 3-19). -/
def BS_CAN_COUNT : RegId := ⟨0x10C, 0x0#32⟩
def BS_CAN_COUNT.AHEAD : Fld := ⟨BS_CAN_COUNT, 31, 16⟩
def BS_CAN_COUNT.BEHIND : Fld := ⟨BS_CAN_COUNT, 15, 0⟩
/-- BS_PORT (Table 3-19). -/
def BS_PORT : RegId := ⟨0x800, 0x0#32⟩
def BS_PORT.DATA : Fld := ⟨BS_PORT, 31, 0⟩
/-- PART_BS_VERSION (Table 3-20). -/
def PART_BS_VERSION (p : Nat) : RegId := ⟨0x10100 + p * 0x1000, 0x0#32⟩
def PART_BS_VERSION.VERSION (p : Nat) : Fld := ⟨(PART_BS_VERSION p), 31, 0⟩
/-- PART_BS_SET (Table 3-20). -/
def PART_BS_SET (p : Nat) : RegId := ⟨0x10104 + p * 0x1000, 0x0#32⟩
def PART_BS_SET.SET_ID (p : Nat) : Fld := ⟨(PART_BS_SET p), 31, 0⟩
/-- PART_BS_FLOOR (Table 3-20). -/
def PART_BS_FLOOR (p : Nat) : RegId := ⟨0x10108 + p * 0x1000, 0x0#32⟩
def PART_BS_FLOOR.FLOOR (p : Nat) : Fld := ⟨(PART_BS_FLOOR p), 31, 0⟩
/-- PART_BS_STATE (Table 3-20). -/
def PART_BS_STATE (p : Nat) : RegId := ⟨0x1010C + p * 0x1000, 0x0#32⟩
def PART_BS_STATE.CAUSE (p : Nat) : Fld := ⟨(PART_BS_STATE p), 31, 16⟩
def PART_BS_STATE.STATE (p : Nat) : Fld := ⟨(PART_BS_STATE p), 3, 0⟩
/-- PART_RUN (Table 4-6). -/
def PART_RUN (p : Nat) : RegId := ⟨0x10000 + p * 0x1000, 0x0#32⟩
def PART_RUN.EPOCH (p : Nat) : Fld := ⟨(PART_RUN p), 31, 16⟩
def PART_RUN.BLOCKS (p : Nat) : Fld := ⟨(PART_RUN p), 15, 8⟩
def PART_RUN.KIND (p : Nat) : Fld := ⟨(PART_RUN p), 5, 4⟩
def PART_RUN.STATE (p : Nat) : Fld := ⟨(PART_RUN p), 3, 0⟩
/-- PART_FAULT (Table 4-6). -/
def PART_FAULT (p : Nat) : RegId := ⟨0x10004 + p * 0x1000, 0x0#32⟩
def PART_FAULT.CODE (p : Nat) : Fld := ⟨(PART_FAULT p), 15, 0⟩
/-- PART_SAFE (Table 4-6). -/
def PART_SAFE (p : Nat) : RegId := ⟨0x10008 + p * 0x1000, 0x0#32⟩
def PART_SAFE.SAFE_REACTION (p : Nat) : Fld := ⟨(PART_SAFE p), 1, 0⟩
/-- PART_CREDIT (Table 4-6). -/
def PART_CREDIT (p : Nat) : RegId := ⟨0x10010 + p * 0x1000, 0x0#32⟩
def PART_CREDIT.QUEUED (p : Nat) : Fld := ⟨(PART_CREDIT p), 26, 16⟩
def PART_CREDIT.AVAILABLE (p : Nat) : Fld := ⟨(PART_CREDIT p), 10, 0⟩
/-- PART_CREDIT_CFG (Table 4-6). -/
def PART_CREDIT_CFG (p : Nat) : RegId := ⟨0x10014 + p * 0x1000, 0x0#32⟩
def PART_CREDIT_CFG.REFILL (p : Nat) : Fld := ⟨(PART_CREDIT_CFG p), 26, 16⟩
def PART_CREDIT_CFG.DEPTH (p : Nat) : Fld := ⟨(PART_CREDIT_CFG p), 10, 0⟩
/-- PART_SESSION (Table 4-6). -/
def PART_SESSION (p : Nat) : RegId := ⟨0x10020 + p * 0x1000, 0x0#32⟩
def PART_SESSION.CAN_EXHAUSTED (p : Nat) : Fld := ⟨(PART_SESSION p), 3, 3⟩
def PART_SESSION.SER_EXHAUSTED (p : Nat) : Fld := ⟨(PART_SESSION p), 2, 2⟩
def PART_SESSION.CHANGEOVER (p : Nat) : Fld := ⟨(PART_SESSION p), 1, 1⟩
def PART_SESSION.ESTABLISHED (p : Nat) : Fld := ⟨(PART_SESSION p), 0, 0⟩
/-- PART_SER_COUNTER (Table 4-6). -/
def PART_SER_COUNTER (p : Nat) : RegId := ⟨0x10024 + p * 0x1000, 0x0#32⟩
def PART_SER_COUNTER.COUNTER (p : Nat) : Fld := ⟨(PART_SER_COUNTER p), 31, 0⟩
/-- PART_CAN_COUNTER (Table 4-6). -/
def PART_CAN_COUNTER (p : Nat) : RegId := ⟨0x10028 + p * 0x1000, 0x0#32⟩
def PART_CAN_COUNTER.COUNTER (p : Nat) : Fld := ⟨(PART_CAN_COUNTER p), 31, 0⟩
/-- TS_OWNER_COUNT (Table 4-7). -/
def TS_OWNER_COUNT (p : Nat) : RegId := ⟨0x20000 + p * 0x20, 0x0#32⟩
def TS_OWNER_COUNT.COUNT (p : Nat) : Fld := ⟨(TS_OWNER_COUNT p), 31, 0⟩
/-- TS_BUSY_COUNT (Table 4-7). -/
def TS_BUSY_COUNT (p : Nat) : RegId := ⟨0x20004 + p * 0x20, 0x0#32⟩
def TS_BUSY_COUNT.COUNT (p : Nat) : Fld := ⟨(TS_BUSY_COUNT p), 31, 0⟩
/-- TS_AUTH_COUNT (Table 4-7). -/
def TS_AUTH_COUNT (p : Nat) : RegId := ⟨0x20008 + p * 0x20, 0x0#32⟩
def TS_AUTH_COUNT.COUNT (p : Nat) : Fld := ⟨(TS_AUTH_COUNT p), 31, 0⟩
/-- TS_LAST_ADDR (Table 4-7). -/
def TS_LAST_ADDR (p : Nat) : RegId := ⟨0x2000C + p * 0x20, 0x0#32⟩
def TS_LAST_ADDR.ADDRESS (p : Nat) : Fld := ⟨(TS_LAST_ADDR p), 31, 0⟩
/-- TS_LAST (Table 4-7). -/
def TS_LAST (p : Nat) : RegId := ⟨0x20010 + p * 0x20, 0x0#32⟩
def TS_LAST.STATUS (p : Nat) : Fld := ⟨(TS_LAST p), 15, 8⟩
def TS_LAST.REQUESTER (p : Nat) : Fld := ⟨(TS_LAST p), 1, 0⟩
/-- TS_MAP_DIGEST (Table 4-8). -/
def TS_MAP_DIGEST : RegId := ⟨0x20400, 0x0#32⟩
def TS_MAP_DIGEST.DIGEST : Fld := ⟨TS_MAP_DIGEST, 31, 0⟩
/-- TS_MAP_STATUS (Table 4-8). -/
def TS_MAP_STATUS : RegId := ⟨0x20404, 0x0#32⟩
def TS_MAP_STATUS.MISMATCHES : Fld := ⟨TS_MAP_STATUS, 31, 16⟩
def TS_MAP_STATUS.FRAMES : Fld := ⟨TS_MAP_STATUS, 15, 0⟩
/-- KS_STATE (Table 4-9). -/
def KS_STATE : RegId := ⟨0x40080000, 0x0#32⟩
def KS_STATE.ROTATIONS : Fld := ⟨KS_STATE, 31, 16⟩
def KS_STATE.P0_SLOT : Fld := ⟨KS_STATE, 2, 2⟩
def KS_STATE.SEALED : Fld := ⟨KS_STATE, 1, 1⟩
def KS_STATE.PROVISIONED : Fld := ⟨KS_STATE, 0, 0⟩
/-- CHIP_UID_LO (Table 4-9). -/
def CHIP_UID_LO : RegId := ⟨0x40080008, 0x0#32⟩
def CHIP_UID_LO.UID : Fld := ⟨CHIP_UID_LO, 31, 0⟩
/-- CHIP_UID_HI (Table 4-9). -/
def CHIP_UID_HI : RegId := ⟨0x4008000C, 0x0#32⟩
def CHIP_UID_HI.UID : Fld := ⟨CHIP_UID_HI, 31, 0⟩
/-- CERT_LEN (Table 4-9). -/
def CERT_LEN : RegId := ⟨0x40080010, 0x0#32⟩
def CERT_LEN.CA : Fld := ⟨CERT_LEN, 31, 16⟩
def CERT_LEN.CHIP : Fld := ⟨CERT_LEN, 15, 0⟩
/-- KS_KEY_CTRL (Table 4-9). -/
def KS_KEY_CTRL : RegId := ⟨0x40080020, 0x0#32⟩
def KS_KEY_CTRL.KEY : Fld := ⟨KS_KEY_CTRL, 31, 16⟩
def KS_KEY_CTRL.OP : Fld := ⟨KS_KEY_CTRL, 1, 0⟩
/-- KS_KEY_STATUS (Table 4-9). -/
def KS_KEY_STATUS : RegId := ⟨0x40080024, 0x0#32⟩
def KS_KEY_STATUS.CODE : Fld := ⟨KS_KEY_STATUS, 15, 8⟩
def KS_KEY_STATUS.STATE : Fld := ⟨KS_KEY_STATUS, 1, 0⟩
/-- HS_CTRL (Table 4-9). -/
def HS_CTRL (p : Nat) : RegId := ⟨0x40081000 + p * 0x200, 0x0#32⟩
def HS_CTRL.SUBMIT (p : Nat) : Fld := ⟨(HS_CTRL p), 1, 1⟩
def HS_CTRL.START (p : Nat) : Fld := ⟨(HS_CTRL p), 0, 0⟩
/-- HS_STATUS (Table 4-9). -/
def HS_STATUS (p : Nat) : RegId := ⟨0x40081004 + p * 0x200, 0x0#32⟩
def HS_STATUS.CODE (p : Nat) : Fld := ⟨(HS_STATUS p), 15, 8⟩
def HS_STATUS.STATE (p : Nat) : Fld := ⟨(HS_STATUS p), 2, 0⟩

end Sys2Proof.Machine
end

