-- ==== Sys2Proof/Machine/RegsIface.lean ====
section
/-!
DEFINITION. The registers and fields of CAN, the serial port and the keep memory (chapters 18 to 20), each at the address and with the reset value of its table.
A reset the tables give as X or BS is 0 (DESIGN CHOICE, log entry 1).
-/
namespace Sys2Proof.Machine

/-- CAN_n_STATUS (Table 18-7). -/
def CAN_STATUS (n : Nat) : RegId := ⟨0x40000000 + n * 0x100, 0x0#32⟩
def CAN_STATUS.CYCLE (n : Nat) : Fld := ⟨(CAN_STATUS n), 23, 18⟩
def CAN_STATUS.COLUMN (n : Nat) : Fld := ⟨(CAN_STATUS n), 17, 12⟩
def CAN_STATUS.SYNC_OK (n : Nat) : Fld := ⟨(CAN_STATUS n), 3, 3⟩
def CAN_STATUS.STATE (n : Nat) : Fld := ⟨(CAN_STATUS n), 2, 0⟩
/-- CAN_n_ERR (Table 18-7). -/
def CAN_ERR (n : Nat) : RegId := ⟨0x40000004 + n * 0x100, 0x0#32⟩
def CAN_ERR.REC (n : Nat) : Fld := ⟨(CAN_ERR n), 23, 16⟩
def CAN_ERR.TEC (n : Nat) : Fld := ⟨(CAN_ERR n), 8, 0⟩
/-- CAN_n_COUNT_A (Table 18-7). -/
def CAN_COUNT_A (n : Nat) : RegId := ⟨0x40000008 + n * 0x100, 0x0#32⟩
def CAN_COUNT_A.DISCARDED (n : Nat) : Fld := ⟨(CAN_COUNT_A n), 31, 16⟩
def CAN_COUNT_A.SERVICE_DROPPED (n : Nat) : Fld := ⟨(CAN_COUNT_A n), 15, 0⟩
/-- CAN_n_COUNT_B (Table 18-7). -/
def CAN_COUNT_B (n : Nat) : RegId := ⟨0x4000000C + n * 0x100, 0x0#32⟩
def CAN_COUNT_B.SUPPRESSED (n : Nat) : Fld := ⟨(CAN_COUNT_B n), 31, 16⟩
def CAN_COUNT_B.BUS_OFFS (n : Nat) : Fld := ⟨(CAN_COUNT_B n), 15, 0⟩
/-- CAN_n_COUNT_C (Table 18-7). -/
def CAN_COUNT_C (n : Nat) : RegId := ⟨0x40000010 + n * 0x100, 0x0#32⟩
def CAN_COUNT_C.LATE (n : Nat) : Fld := ⟨(CAN_COUNT_C n), 31, 16⟩
def CAN_COUNT_C.ARB_LOST (n : Nat) : Fld := ⟨(CAN_COUNT_C n), 15, 0⟩
/-- CAN_n_TIME (Table 18-7). -/
def CAN_TIME (n : Nat) : RegId := ⟨0x40000014 + n * 0x100, 0x8001#32⟩
def CAN_TIME.AUTO_RECOVER (n : Nat) : Fld := ⟨(CAN_TIME n), 15, 15⟩
def CAN_TIME.MODE (n : Nat) : Fld := ⟨(CAN_TIME n), 14, 13⟩
def CAN_TIME.REF_ID (n : Nat) : Fld := ⟨(CAN_TIME n), 10, 0⟩
/-- CAN_n_CTRL (Table 18-7). -/
def CAN_CTRL (n : Nat) : RegId := ⟨0x40000018 + n * 0x100, 0x0#32⟩
def CAN_CTRL.KEY (n : Nat) : Fld := ⟨(CAN_CTRL n), 31, 16⟩
def CAN_CTRL.RECOVER (n : Nat) : Fld := ⟨(CAN_CTRL n), 2, 2⟩
def CAN_CTRL.STOP (n : Nat) : Fld := ⟨(CAN_CTRL n), 1, 1⟩
def CAN_CTRL.START (n : Nat) : Fld := ⟨(CAN_CTRL n), 0, 0⟩
/-- CAN_SERVICE_CFG (Table 18-7). -/
def CAN_SERVICE_CFG : RegId := ⟨0x40000400, 0xA0001#32⟩
def CAN_SERVICE_CFG.HB_PERIOD : Fld := ⟨CAN_SERVICE_CFG, 23, 16⟩
def CAN_SERVICE_CFG.RC_LOCK : Fld := ⟨CAN_SERVICE_CFG, 8, 8⟩
def CAN_SERVICE_CFG.SERVICE : Fld := ⟨CAN_SERVICE_CFG, 3, 0⟩
/-- CAN_NODE (Table 18-7). -/
def CAN_NODE : RegId := ⟨0x40000404, 0xFFFF#32⟩
def CAN_NODE.SEARCH_EPOCH : Fld := ⟨CAN_NODE, 31, 16⟩
def CAN_NODE.NODE : Fld := ⟨CAN_NODE, 15, 0⟩
/-- OBJ_o_CFG (Table 18-8). -/
def OBJ_CFG (o : Nat) : RegId := ⟨0x40010000 + o * 0x80, 0x0#32⟩
def OBJ_CFG.DATA_BYTES (o : Nat) : Fld := ⟨(OBJ_CFG o), 31, 24⟩
def OBJ_CFG.STALE_LIMIT (o : Nat) : Fld := ⟨(OBJ_CFG o), 23, 16⟩
def OBJ_CFG.CHANNEL (o : Nat) : Fld := ⟨(OBJ_CFG o), 9, 8⟩
def OBJ_CFG.FLAGS (o : Nat) : Fld := ⟨(OBJ_CFG o), 4, 0⟩
/-- OBJ_o_ID (Table 18-8). -/
def OBJ_ID (o : Nat) : RegId := ⟨0x40010004 + o * 0x80, 0x0#32⟩
def OBJ_ID.IDENTIFIER (o : Nat) : Fld := ⟨(OBJ_ID o), 28, 0⟩
/-- OBJ_o_STATUS (Table 18-8). -/
def OBJ_STATUS (o : Nat) : RegId := ⟨0x40010008 + o * 0x80, 0x0#32⟩
def OBJ_STATUS.AGE (o : Nat) : Fld := ⟨(OBJ_STATUS o), 31, 24⟩
def OBJ_STATUS.PENDING (o : Nat) : Fld := ⟨(OBJ_STATUS o), 8, 8⟩
def OBJ_STATUS.OPEN (o : Nat) : Fld := ⟨(OBJ_STATUS o), 7, 7⟩
def OBJ_STATUS.SKIPPED (o : Nat) : Fld := ⟨(OBJ_STATUS o), 6, 6⟩
def OBJ_STATUS.NOT_SENT (o : Nat) : Fld := ⟨(OBJ_STATUS o), 5, 5⟩
def OBJ_STATUS.NOT_ACKED (o : Nat) : Fld := ⟨(OBJ_STATUS o), 4, 4⟩
def OBJ_STATUS.STALE (o : Nat) : Fld := ⟨(OBJ_STATUS o), 3, 3⟩
def OBJ_STATUS.EXPIRED (o : Nat) : Fld := ⟨(OBJ_STATUS o), 2, 2⟩
def OBJ_STATUS.LOST (o : Nat) : Fld := ⟨(OBJ_STATUS o), 1, 1⟩
def OBJ_STATUS.NEW_DATA (o : Nat) : Fld := ⟨(OBJ_STATUS o), 0, 0⟩
/-- OBJ_o_CTRL (Table 18-8). -/
def OBJ_CTRL (o : Nat) : RegId := ⟨0x4001000C + o * 0x80, 0x0#32⟩
def OBJ_CTRL.SEND (o : Nat) : Fld := ⟨(OBJ_CTRL o), 2, 2⟩
def OBJ_CTRL.CLOSE (o : Nat) : Fld := ⟨(OBJ_CTRL o), 1, 1⟩
def OBJ_CTRL.OPEN (o : Nat) : Fld := ⟨(OBJ_CTRL o), 0, 0⟩
/-- OBJ_o_STAMP (Table 18-8). -/
def OBJ_STAMP (o : Nat) : RegId := ⟨0x40010010 + o * 0x80, 0x0#32⟩
def OBJ_STAMP.STEP (o : Nat) : Fld := ⟨(OBJ_STAMP o), 31, 0⟩
/-- OBJ_o_INFO (Table 18-8). -/
def OBJ_INFO (o : Nat) : RegId := ⟨0x40010014 + o * 0x80, 0x0#32⟩
def OBJ_INFO.LOST_COUNT (o : Nat) : Fld := ⟨(OBJ_INFO o), 31, 16⟩
def OBJ_INFO.PHASE (o : Nat) : Fld := ⟨(OBJ_INFO o), 8, 0⟩
/-- OBJ_o_FRAMES (Table 18-8). -/
def OBJ_FRAMES (o : Nat) : RegId := ⟨0x40010018 + o * 0x80, 0x0#32⟩
def OBJ_FRAMES.COUNT (o : Nat) : Fld := ⟨(OBJ_FRAMES o), 31, 0⟩
/-- OBJ_o_DATA_w (Table 18-8). -/
def OBJ_DATA (o w : Nat) : RegId := ⟨0x40010040 + o * 0x80 + w * 0x4, 0x0#32⟩
def OBJ_DATA.DATA (o w : Nat) : Fld := ⟨(OBJ_DATA o w), 31, 0⟩
/-- SPI_CFG (Table 19-7). -/
def SPI_CFG : RegId := ⟨0x40060000, 0x2229000#32⟩
def SPI_CFG.GAP : Fld := ⟨SPI_CFG, 27, 24⟩
def SPI_CFG.TRAIL : Fld := ⟨SPI_CFG, 23, 20⟩
def SPI_CFG.LEAD : Fld := ⟨SPI_CFG, 19, 16⟩
def SPI_CFG.POLL_DIV : Fld := ⟨SPI_CFG, 15, 12⟩
def SPI_CFG.SAMPLE_DLY : Fld := ⟨SPI_CFG, 11, 9⟩
def SPI_CFG.MODE3 : Fld := ⟨SPI_CFG, 8, 8⟩
def SPI_CFG.ROLE : Fld := ⟨SPI_CFG, 0, 0⟩
/-- SPI_STATUS (Table 19-7). -/
def SPI_STATUS : RegId := ⟨0x40060004, 0x0#32⟩
def SPI_STATUS.SOURCE : Fld := ⟨SPI_STATUS, 6, 4⟩
def SPI_STATUS.CONTINUOUS : Fld := ⟨SPI_STATUS, 3, 3⟩
def SPI_STATUS.PENDING_ROLE : Fld := ⟨SPI_STATUS, 2, 2⟩
def SPI_STATUS.BUSY : Fld := ⟨SPI_STATUS, 1, 1⟩
def SPI_STATUS.ROLE : Fld := ⟨SPI_STATUS, 0, 0⟩
/-- SPI_GPIO (Table 19-7). -/
def SPI_GPIO : RegId := ⟨0x40060008, 0x33#32⟩
def SPI_GPIO.IN : Fld := ⟨SPI_GPIO, 5, 4⟩
def SPI_GPIO.OE : Fld := ⟨SPI_GPIO, 3, 2⟩
def SPI_GPIO.OUT : Fld := ⟨SPI_GPIO, 1, 0⟩
/-- SPI_XIP_CFG (Table 19-7). -/
def SPI_XIP_CFG : RegId := ⟨0x40060010, 0x3700000#32⟩
def SPI_XIP_CFG.CMD : Fld := ⟨SPI_XIP_CFG, 31, 24⟩
def SPI_XIP_CFG.DIV : Fld := ⟨SPI_XIP_CFG, 23, 20⟩
def SPI_XIP_CFG.DUMMY : Fld := ⟨SPI_XIP_CFG, 19, 15⟩
def SPI_XIP_CFG.ADDR4 : Fld := ⟨SPI_XIP_CFG, 14, 14⟩
def SPI_XIP_CFG.CMD_LANES : Fld := ⟨SPI_XIP_CFG, 13, 12⟩
def SPI_XIP_CFG.LANES : Fld := ⟨SPI_XIP_CFG, 11, 10⟩
def SPI_XIP_CFG.OMIT : Fld := ⟨SPI_XIP_CFG, 9, 9⟩
def SPI_XIP_CFG.SEL : Fld := ⟨SPI_XIP_CFG, 3, 0⟩
/-- SPI_XIP_MODE (Table 19-7). -/
def SPI_XIP_MODE : RegId := ⟨0x40060014, 0x10A0#32⟩
def SPI_XIP_MODE.EXIT_CYCLES : Fld := ⟨SPI_XIP_MODE, 15, 8⟩
def SPI_XIP_MODE.MODE_BYTE : Fld := ⟨SPI_XIP_MODE, 7, 0⟩
/-- SPI_XIP_STATUS (Table 19-7). -/
def SPI_XIP_STATUS : RegId := ⟨0x40060018, 0x0#32⟩
def SPI_XIP_STATUS.MISSES : Fld := ⟨SPI_XIP_STATUS, 31, 16⟩
def SPI_XIP_STATUS.HITS : Fld := ⟨SPI_XIP_STATUS, 15, 0⟩
/-- SPI_XIP_CTRL (Table 19-7). -/
def SPI_XIP_CTRL : RegId := ⟨0x4006001C, 0x0#32⟩
def SPI_XIP_CTRL.INVALIDATE : Fld := ⟨SPI_XIP_CTRL, 0, 0⟩
/-- SPI_FRAME_CFG (Table 19-7). -/
def SPI_FRAME_CFG : RegId := ⟨0x40060020, 0x0#32⟩
def SPI_FRAME_CFG.DATA_BYTES : Fld := ⟨SPI_FRAME_CFG, 31, 19⟩
def SPI_FRAME_CFG.DIR : Fld := ⟨SPI_FRAME_CFG, 18, 18⟩
def SPI_FRAME_CFG.DATA_LANES : Fld := ⟨SPI_FRAME_CFG, 17, 16⟩
def SPI_FRAME_CFG.DUMMY : Fld := ⟨SPI_FRAME_CFG, 15, 11⟩
def SPI_FRAME_CFG.ADDR_LANES : Fld := ⟨SPI_FRAME_CFG, 10, 9⟩
def SPI_FRAME_CFG.ADDR_BITS : Fld := ⟨SPI_FRAME_CFG, 8, 3⟩
/-- SPI_FRAME_CMDCFG (Table 19-7). -/
def SPI_FRAME_CMDCFG : RegId := ⟨0x40060024, 0x0#32⟩
def SPI_FRAME_CMDCFG.CMD : Fld := ⟨SPI_FRAME_CMDCFG, 31, 16⟩
def SPI_FRAME_CMDCFG.CMD_LANES : Fld := ⟨SPI_FRAME_CMDCFG, 10, 9⟩
def SPI_FRAME_CMDCFG.CMD_BITS : Fld := ⟨SPI_FRAME_CMDCFG, 8, 4⟩
/-- SPI_FRAME_SEL (Table 19-7). -/
def SPI_FRAME_SEL : RegId := ⟨0x40060028, 0x0#32⟩
def SPI_FRAME_SEL.NOSEL : Fld := ⟨SPI_FRAME_SEL, 8, 8⟩
def SPI_FRAME_SEL.DIV : Fld := ⟨SPI_FRAME_SEL, 7, 4⟩
def SPI_FRAME_SEL.SEL : Fld := ⟨SPI_FRAME_SEL, 3, 0⟩
/-- SPI_FRAME_ADDR (Table 19-7). -/
def SPI_FRAME_ADDR : RegId := ⟨0x4006002C, 0x0#32⟩
def SPI_FRAME_ADDR.ADDR : Fld := ⟨SPI_FRAME_ADDR, 31, 0⟩
/-- SPI_FRAME_CTRL (Table 19-7). -/
def SPI_FRAME_CTRL : RegId := ⟨0x40060030, 0x0#32⟩
def SPI_FRAME_CTRL.GO : Fld := ⟨SPI_FRAME_CTRL, 0, 0⟩
/-- SPI_FRAME_STATUS (Table 19-7). -/
def SPI_FRAME_STATUS : RegId := ⟨0x40060034, 0x0#32⟩
def SPI_FRAME_STATUS.STATE : Fld := ⟨SPI_FRAME_STATUS, 1, 0⟩
/-- SPI_SLAVE_STATUS (Table 19-7). -/
def SPI_SLAVE_STATUS : RegId := ⟨0x40060040, 0x0#32⟩
def SPI_SLAVE_STATUS.RESP_LEN : Fld := ⟨SPI_SLAVE_STATUS, 31, 16⟩
def SPI_SLAVE_STATUS.UNDERRUN : Fld := ⟨SPI_SLAVE_STATUS, 4, 4⟩
def SPI_SLAVE_STATUS.LAST_REQ : Fld := ⟨SPI_SLAVE_STATUS, 3, 2⟩
def SPI_SLAVE_STATUS.STATE : Fld := ⟨SPI_SLAVE_STATUS, 1, 0⟩
/-- SPI_SLAVE_COUNT (Table 19-7). -/
def SPI_SLAVE_COUNT : RegId := ⟨0x40060044, 0x0#32⟩
def SPI_SLAVE_COUNT.FRAME_ERRORS : Fld := ⟨SPI_SLAVE_COUNT, 31, 16⟩
def SPI_SLAVE_COUNT.EXPIRED : Fld := ⟨SPI_SLAVE_COUNT, 15, 8⟩
def SPI_SLAVE_COUNT.REJECTED : Fld := ⟨SPI_SLAVE_COUNT, 7, 0⟩
/-- PART_KEEP_CTRL (Table 20-5). -/
def PART_KEEP_CTRL (p : Nat) : RegId := ⟨0x10300 + p * 0x1000, 0x0#32⟩
def PART_KEEP_CTRL.KEY (p : Nat) : Fld := ⟨(PART_KEEP_CTRL p), 31, 16⟩
def PART_KEEP_CTRL.REC_RESET (p : Nat) : Fld := ⟨(PART_KEEP_CTRL p), 2, 2⟩
def PART_KEEP_CTRL.CLEAR (p : Nat) : Fld := ⟨(PART_KEEP_CTRL p), 1, 1⟩
def PART_KEEP_CTRL.WRITE_PAGE (p : Nat) : Fld := ⟨(PART_KEEP_CTRL p), 0, 0⟩
/-- PART_KEEP_ADDR (Table 20-5). -/
def PART_KEEP_ADDR (p : Nat) : RegId := ⟨0x10304 + p * 0x1000, 0x0#32⟩
def PART_KEEP_ADDR.ADDR (p : Nat) : Fld := ⟨(PART_KEEP_ADDR p), 31, 0⟩
/-- PART_KEEP_STATUS (Table 20-5). -/
def PART_KEEP_STATUS (p : Nat) : RegId := ⟨0x10308 + p * 0x1000, 0x0#32⟩
def PART_KEEP_STATUS.CODE (p : Nat) : Fld := ⟨(PART_KEEP_STATUS p), 15, 8⟩
def PART_KEEP_STATUS.OP (p : Nat) : Fld := ⟨(PART_KEEP_STATUS p), 5, 4⟩
def PART_KEEP_STATUS.STATE (p : Nat) : Fld := ⟨(PART_KEEP_STATUS p), 2, 0⟩
/-- PART_KEEP_JOURNAL (Table 20-5). -/
def PART_KEEP_JOURNAL (p : Nat) : RegId := ⟨0x1030C + p * 0x1000, 0x0#32⟩
def PART_KEEP_JOURNAL.PAGE (p : Nat) : Fld := ⟨(PART_KEEP_JOURNAL p), 31, 16⟩
def PART_KEEP_JOURNAL.LAST (p : Nat) : Fld := ⟨(PART_KEEP_JOURNAL p), 15, 8⟩
def PART_KEEP_JOURNAL.JSTATE (p : Nat) : Fld := ⟨(PART_KEEP_JOURNAL p), 1, 0⟩
/-- PART_REC_CFG (Table 20-5). -/
def PART_REC_CFG (p : Nat) : RegId := ⟨0x10310 + p * 0x1000, 0xA#32⟩
def PART_REC_CFG.RATE (p : Nat) : Fld := ⟨(PART_REC_CFG p), 7, 0⟩
/-- PART_REC_STATUS (Table 20-5). -/
def PART_REC_STATUS (p : Nat) : RegId := ⟨0x10314 + p * 0x1000, 0x0#32⟩
def PART_REC_STATUS.ENTRIES_USED (p : Nat) : Fld := ⟨(PART_REC_STATUS p), 31, 16⟩
def PART_REC_STATUS.DEFERRED (p : Nat) : Fld := ⟨(PART_REC_STATUS p), 1, 1⟩
def PART_REC_STATUS.PRESENT (p : Nat) : Fld := ⟨(PART_REC_STATUS p), 0, 0⟩
/-- PART_HIST_h_CFG (Table 20-5). -/
def PART_HIST_CFG (p h : Nat) : RegId := ⟨0x10320 + p * 0x1000 + h * 0x8, histCfgReset h⟩
def PART_HIST_CFG.SOURCE (p h : Nat) : Fld := ⟨(PART_HIST_CFG p h), 15, 0⟩
/-- PART_HIST_h_RANGE (Table 20-5). -/
def PART_HIST_RANGE (p h : Nat) : RegId := ⟨0x10324 + p * 0x1000 + h * 0x8, histRangeReset h⟩
def PART_HIST_RANGE.WIDTH (p h : Nat) : Fld := ⟨(PART_HIST_RANGE p h), 31, 16⟩
def PART_HIST_RANGE.LO (p h : Nat) : Fld := ⟨(PART_HIST_RANGE p h), 15, 0⟩
/-- PART_KEEP_PAGE_w (Table 20-5). -/
def PART_KEEP_PAGE (p w : Nat) : RegId := ⟨0x10400 + p * 0x1000 + w * 0x4, 0x0#32⟩
def PART_KEEP_PAGE.DATA (p w : Nat) : Fld := ⟨(PART_KEEP_PAGE p w), 31, 0⟩
/-- KEEP_STATE (Table 20-7). -/
def KEEP_STATE : RegId := ⟨0x40070000, 0x80000000#32⟩
def KEEP_STATE.TEMP : Fld := ⟨KEEP_STATE, 31, 16⟩
def KEEP_STATE.ENGINE_BUSY : Fld := ⟨KEEP_STATE, 1, 1⟩
def KEEP_STATE.WRITE_OK : Fld := ⟨KEEP_STATE, 0, 0⟩
/-- KEEP_ECC (Table 20-7). -/
def KEEP_ECC : RegId := ⟨0x40070004, 0x0#32⟩
def KEEP_ECC.CORRECTED : Fld := ⟨KEEP_ECC, 31, 16⟩
def KEEP_ECC.UNCORRECTABLE : Fld := ⟨KEEP_ECC, 15, 0⟩
/-- KEEP_ECC_ADDR (Table 20-7). -/
def KEEP_ECC_ADDR : RegId := ⟨0x40070008, 0x0#32⟩
def KEEP_ECC_ADDR.ADDRESS : Fld := ⟨KEEP_ECC_ADDR, 31, 0⟩
/-- KEEP_HALF_n (Table 20-7). -/
def KEEP_HALF (n : Nat) : RegId := ⟨0x40070010 + n * 0x4, 0x0#32⟩
def KEEP_HALF.SECTOR (n : Nat) : Fld := ⟨(KEEP_HALF n), 31, 0⟩

end Sys2Proof.Machine
end

