-- ==== Sys2Proof/Machine/RegsLeg.lean ====
section
/-!
DEFINITION. The registers and fields of the cells: gate drive, PWM, sensing and channels (chapters 6, 7, 8 and 14), each at the address and with the reset value of its table.
A reset the tables give as X or BS is 0 (DESIGN CHOICE, log entry 1).
-/
namespace Sys2Proof.Machine

/-- LEG_c_GD_ON_HS (Table 6-6). -/
def LEG_GD_ON_HS (c : Nat) : RegId := ⟨cellBase c + 0x0, 0x49C88#32⟩
def LEG_GD_ON_HS.WEAK_TIMEOUT (c : Nat) : Fld := ⟨(LEG_GD_ON_HS c), 19, 15⟩
def LEG_GD_ON_HS.WEAK_I (c : Nat) : Fld := ⟨(LEG_GD_ON_HS c), 14, 10⟩
def LEG_GD_ON_HS.PRE_TIMEOUT (c : Nat) : Fld := ⟨(LEG_GD_ON_HS c), 9, 5⟩
def LEG_GD_ON_HS.PRE_LEVEL (c : Nat) : Fld := ⟨(LEG_GD_ON_HS c), 4, 0⟩
/-- LEG_c_GD_OFF_HS (Table 6-6). -/
def LEG_GD_OFF_HS (c : Nat) : RegId := ⟨cellBase c + 0x4, 0x49C88#32⟩
def LEG_GD_OFF_HS.WEAK_TIMEOUT (c : Nat) : Fld := ⟨(LEG_GD_OFF_HS c), 19, 15⟩
def LEG_GD_OFF_HS.WEAK_I (c : Nat) : Fld := ⟨(LEG_GD_OFF_HS c), 14, 10⟩
def LEG_GD_OFF_HS.PRE_TIMEOUT (c : Nat) : Fld := ⟨(LEG_GD_OFF_HS c), 9, 5⟩
def LEG_GD_OFF_HS.PRE_LEVEL (c : Nat) : Fld := ⟨(LEG_GD_OFF_HS c), 4, 0⟩
/-- LEG_c_GD_ON_LS (Table 6-6). -/
def LEG_GD_ON_LS (c : Nat) : RegId := ⟨cellBase c + 0x8, 0x49C88#32⟩
def LEG_GD_ON_LS.WEAK_TIMEOUT (c : Nat) : Fld := ⟨(LEG_GD_ON_LS c), 19, 15⟩
def LEG_GD_ON_LS.WEAK_I (c : Nat) : Fld := ⟨(LEG_GD_ON_LS c), 14, 10⟩
def LEG_GD_ON_LS.PRE_TIMEOUT (c : Nat) : Fld := ⟨(LEG_GD_ON_LS c), 9, 5⟩
def LEG_GD_ON_LS.PRE_LEVEL (c : Nat) : Fld := ⟨(LEG_GD_ON_LS c), 4, 0⟩
/-- LEG_c_GD_OFF_LS (Table 6-6). -/
def LEG_GD_OFF_LS (c : Nat) : RegId := ⟨cellBase c + 0xC, 0x49C88#32⟩
def LEG_GD_OFF_LS.WEAK_TIMEOUT (c : Nat) : Fld := ⟨(LEG_GD_OFF_LS c), 19, 15⟩
def LEG_GD_OFF_LS.WEAK_I (c : Nat) : Fld := ⟨(LEG_GD_OFF_LS c), 14, 10⟩
def LEG_GD_OFF_LS.PRE_TIMEOUT (c : Nat) : Fld := ⟨(LEG_GD_OFF_LS c), 9, 5⟩
def LEG_GD_OFF_LS.PRE_LEVEL (c : Nat) : Fld := ⟨(LEG_GD_OFF_LS c), 4, 0⟩
/-- LEG_c_GD_DVDT (Table 6-6). -/
def LEG_GD_DVDT (c : Nat) : RegId := ⟨cellBase c + 0x10, 0x1#32⟩
def LEG_GD_DVDT.DVDT_THR (c : Nat) : Fld := ⟨(LEG_GD_DVDT c), 4, 0⟩
/-- LEG_c_SC_HS (Table 6-6). -/
def LEG_SC_HS (c : Nat) : RegId := ⟨cellBase c + 0x14, 0x1232#32⟩
def LEG_SC_HS.BLANK (c : Nat) : Fld := ⟨(LEG_SC_HS c), 12, 8⟩
def LEG_SC_HS.THRESHOLD (c : Nat) : Fld := ⟨(LEG_SC_HS c), 5, 0⟩
/-- LEG_c_SC_LS (Table 6-6). -/
def LEG_SC_LS (c : Nat) : RegId := ⟨cellBase c + 0x18, 0x1232#32⟩
def LEG_SC_LS.BLANK (c : Nat) : Fld := ⟨(LEG_SC_LS c), 12, 8⟩
def LEG_SC_LS.THRESHOLD (c : Nat) : Fld := ⟨(LEG_SC_LS c), 5, 0⟩
/-- LEG_c_RATIO_HS (Table 6-6). -/
def LEG_RATIO_HS (c : Nat) : RegId := ⟨cellBase c + 0x1C, 0x186A0#32⟩
def LEG_RATIO_HS.RATIO (c : Nat) : Fld := ⟨(LEG_RATIO_HS c), 19, 0⟩
/-- LEG_c_RATIO_LS (Table 6-6). -/
def LEG_RATIO_LS (c : Nat) : RegId := ⟨cellBase c + 0x20, 0x186A0#32⟩
def LEG_RATIO_LS.RATIO (c : Nat) : Fld := ⟨(LEG_RATIO_LS c), 19, 0⟩
/-- LEG_c_BST_CFG (Table 6-6). -/
def LEG_BST_CFG (c : Nat) : RegId := ⟨cellBase c + 0x24, 0x1#32⟩
def LEG_BST_CFG.UVLO_SEL (c : Nat) : Fld := ⟨(LEG_BST_CFG c), 1, 0⟩
/-- LEG_c_GD_STATUS (Table 6-6). -/
def LEG_GD_STATUS (c : Nat) : RegId := ⟨cellBase c + 0x28, 0x0#32⟩
def LEG_GD_STATUS.BST_OK (c : Nat) : Fld := ⟨(LEG_GD_STATUS c), 7, 7⟩
def LEG_GD_STATUS.SOFT_OFF (c : Nat) : Fld := ⟨(LEG_GD_STATUS c), 6, 6⟩
def LEG_GD_STATUS.LS_PHASE (c : Nat) : Fld := ⟨(LEG_GD_STATUS c), 5, 3⟩
def LEG_GD_STATUS.HS_PHASE (c : Nat) : Fld := ⟨(LEG_GD_STATUS c), 2, 0⟩
/-- LEG_c_GD_COUNT (Table 6-6). -/
def LEG_GD_COUNT (c : Nat) : RegId := ⟨cellBase c + 0x2C, 0x0#32⟩
def LEG_GD_COUNT.INTERLOCK_WAITS (c : Nat) : Fld := ⟨(LEG_GD_COUNT c), 31, 16⟩
def LEG_GD_COUNT.SLOPE_TIMEOUTS (c : Nat) : Fld := ⟨(LEG_GD_COUNT c), 15, 0⟩
/-- LEG_c_SC_CAPTURE (Table 6-6). -/
def LEG_SC_CAPTURE (c : Nat) : RegId := ⟨cellBase c + 0x30, 0x0#32⟩
def LEG_SC_CAPTURE.SWITCH (c : Nat) : Fld := ⟨(LEG_SC_CAPTURE c), 16, 16⟩
def LEG_SC_CAPTURE.PEAK (c : Nat) : Fld := ⟨(LEG_SC_CAPTURE c), 15, 0⟩
/-- LEG_c_DIAG_CFG (Table 6-6). -/
def LEG_DIAG_CFG (c : Nat) : RegId := ⟨cellBase c + 0x40, 0x314#32⟩
def LEG_DIAG_CFG.OPEN_CHECK (c : Nat) : Fld := ⟨(LEG_DIAG_CFG c), 9, 9⟩
def LEG_DIAG_CFG.GND_CHECK (c : Nat) : Fld := ⟨(LEG_DIAG_CFG c), 8, 8⟩
def LEG_DIAG_CFG.SETTLE (c : Nat) : Fld := ⟨(LEG_DIAG_CFG c), 7, 0⟩
/-- LEG_c_DIAG_CTRL (Table 6-6). -/
def LEG_DIAG_CTRL (c : Nat) : RegId := ⟨cellBase c + 0x44, 0x0#32⟩
def LEG_DIAG_CTRL.RUN (c : Nat) : Fld := ⟨(LEG_DIAG_CTRL c), 0, 0⟩
/-- LEG_c_DIAG_RESULT (Table 6-6). -/
def LEG_DIAG_RESULT (c : Nat) : RegId := ⟨cellBase c + 0x48, 0x0#32⟩
def LEG_DIAG_RESULT.CAUSE (c : Nat) : Fld := ⟨(LEG_DIAG_RESULT c), 13, 8⟩
def LEG_DIAG_RESULT.TRIO_WIDE (c : Nat) : Fld := ⟨(LEG_DIAG_RESULT c), 6, 6⟩
def LEG_DIAG_RESULT.OPEN_UNTESTED (c : Nat) : Fld := ⟨(LEG_DIAG_RESULT c), 5, 5⟩
def LEG_DIAG_RESULT.DC_PLUS_UNTESTED (c : Nat) : Fld := ⟨(LEG_DIAG_RESULT c), 4, 4⟩
def LEG_DIAG_RESULT.PROCEDURE (c : Nat) : Fld := ⟨(LEG_DIAG_RESULT c), 3, 3⟩
def LEG_DIAG_RESULT.STATE (c : Nat) : Fld := ⟨(LEG_DIAG_RESULT c), 2, 0⟩
/-- LEG_c_DIAG_VOLTS (Table 6-6). -/
def LEG_DIAG_VOLTS (c : Nat) : RegId := ⟨cellBase c + 0x4C, 0x0#32⟩
def LEG_DIAG_VOLTS.LOW (c : Nat) : Fld := ⟨(LEG_DIAG_VOLTS c), 31, 16⟩
def LEG_DIAG_VOLTS.HIGH (c : Nat) : Fld := ⟨(LEG_DIAG_VOLTS c), 15, 0⟩
/-- REGION_r_VDRV_STATUS (Table 6-7). -/
def REGION_VDRV_STATUS (r : Nat) : RegId := ⟨0x10000100 + r * 0x1000000, 0x0#32⟩
def REGION_VDRV_STATUS.VDRV (r : Nat) : Fld := ⟨(REGION_VDRV_STATUS r), 31, 16⟩
def REGION_VDRV_STATUS.UVLO_SEL (r : Nat) : Fld := ⟨(REGION_VDRV_STATUS r), 2, 1⟩
def REGION_VDRV_STATUS.VDRV_OK (r : Nat) : Fld := ⟨(REGION_VDRV_STATUS r), 0, 0⟩
/-- DSCH_CFG (Table 6-7). -/
def DSCH_CFG : RegId := ⟨0x1100, 0x1141E#32⟩
def DSCH_CFG.ON_CHIP_FAULT : Fld := ⟨DSCH_CFG, 19, 19⟩
def DSCH_CFG.FALLBACK_EN : Fld := ⟨DSCH_CFG, 18, 18⟩
def DSCH_CFG.PIN_1_EN : Fld := ⟨DSCH_CFG, 17, 17⟩
def DSCH_CFG.PIN_0_EN : Fld := ⟨DSCH_CFG, 16, 16⟩
def DSCH_CFG.LIMIT : Fld := ⟨DSCH_CFG, 15, 8⟩
def DSCH_CFG.TARGET : Fld := ⟨DSCH_CFG, 7, 0⟩
/-- DSCH_FALLBACK (Table 6-7). -/
def DSCH_FALLBACK : RegId := ⟨0x1104, 0x320000#32⟩
def DSCH_FALLBACK.IPEAK : Fld := ⟨DSCH_FALLBACK, 24, 16⟩
def DSCH_FALLBACK.TRIOS : Fld := ⟨DSCH_FALLBACK, 15, 0⟩
/-- DSCH_CTRL (Table 6-7). -/
def DSCH_CTRL : RegId := ⟨0x1108, 0x0#32⟩
def DSCH_CTRL.KEY : Fld := ⟨DSCH_CTRL, 31, 16⟩
def DSCH_CTRL.STOP : Fld := ⟨DSCH_CTRL, 1, 1⟩
def DSCH_CTRL.START : Fld := ⟨DSCH_CTRL, 0, 0⟩
/-- DSCH_STATUS (Table 6-7). -/
def DSCH_STATUS : RegId := ⟨0x110C, 0x0#32⟩
def DSCH_STATUS.ELAPSED : Fld := ⟨DSCH_STATUS, 31, 16⟩
def DSCH_STATUS.STATE : Fld := ⟨DSCH_STATUS, 2, 0⟩
/-- LEG_c_PWM_CFG (Table 7-3). -/
def LEG_PWM_CFG (c : Nat) : RegId := ⟨cellBase c + 0x100, 0x2820#32⟩
def LEG_PWM_CFG.OFFSET_STEPS (c : Nat) : Fld := ⟨(LEG_PWM_CFG c), 26, 17⟩
def LEG_PWM_CFG.PERIOD_STEPS (c : Nat) : Fld := ⟨(LEG_PWM_CFG c), 16, 7⟩
def LEG_PWM_CFG.PEAK_RELOAD (c : Nat) : Fld := ⟨(LEG_PWM_CFG c), 6, 6⟩
def LEG_PWM_CFG.LS_COMPLEMENT (c : Nat) : Fld := ⟨(LEG_PWM_CFG c), 5, 5⟩
def LEG_PWM_CFG.DUTY_SRC (c : Nat) : Fld := ⟨(LEG_PWM_CFG c), 4, 4⟩
def LEG_PWM_CFG.CARRIER (c : Nat) : Fld := ⟨(LEG_PWM_CFG c), 3, 2⟩
def LEG_PWM_CFG.MODE (c : Nat) : Fld := ⟨(LEG_PWM_CFG c), 1, 0⟩
/-- LEG_c_PWM_HS_ON (Table 7-3). -/
def LEG_PWM_HS_ON (c : Nat) : RegId := ⟨cellBase c + 0x104, 0x0#32⟩
def LEG_PWM_HS_ON.ON (c : Nat) : Fld := ⟨(LEG_PWM_HS_ON c), 21, 0⟩
/-- LEG_c_PWM_HS_OFF (Table 7-3). -/
def LEG_PWM_HS_OFF (c : Nat) : RegId := ⟨cellBase c + 0x108, 0x0#32⟩
def LEG_PWM_HS_OFF.OFF (c : Nat) : Fld := ⟨(LEG_PWM_HS_OFF c), 21, 0⟩
/-- LEG_c_PWM_LS_ON (Table 7-3). -/
def LEG_PWM_LS_ON (c : Nat) : RegId := ⟨cellBase c + 0x10C, 0x0#32⟩
def LEG_PWM_LS_ON.ON (c : Nat) : Fld := ⟨(LEG_PWM_LS_ON c), 21, 0⟩
/-- LEG_c_PWM_LS_OFF (Table 7-3). -/
def LEG_PWM_LS_OFF (c : Nat) : RegId := ⟨cellBase c + 0x110, 0x0#32⟩
def LEG_PWM_LS_OFF.OFF (c : Nat) : Fld := ⟨(LEG_PWM_LS_OFF c), 21, 0⟩
/-- LEG_c_PWM_DEAD (Table 7-3). -/
def LEG_PWM_DEAD (c : Nat) : RegId := ⟨cellBase c + 0x114, 0x2000200#32⟩
def LEG_PWM_DEAD.DEAD_LS (c : Nat) : Fld := ⟨(LEG_PWM_DEAD c), 27, 16⟩
def LEG_PWM_DEAD.DEAD_HS (c : Nat) : Fld := ⟨(LEG_PWM_DEAD c), 11, 0⟩
/-- LEG_c_PWM_MIN_PULSE (Table 7-3). -/
def LEG_PWM_MIN_PULSE (c : Nat) : RegId := ⟨cellBase c + 0x118, 0xA0#32⟩
def LEG_PWM_MIN_PULSE.MIN_PULSE (c : Nat) : Fld := ⟨(LEG_PWM_MIN_PULSE c), 11, 0⟩
/-- LEG_c_PWM_STATUS (Table 7-3). -/
def LEG_PWM_STATUS (c : Nat) : RegId := ⟨cellBase c + 0x11C, 0x0#32⟩
def LEG_PWM_STATUS.FROZEN (c : Nat) : Fld := ⟨(LEG_PWM_STATUS c), 7, 7⟩
def LEG_PWM_STATUS.HALTED (c : Nat) : Fld := ⟨(LEG_PWM_STATUS c), 6, 6⟩
def LEG_PWM_STATUS.LOAD_WAITING (c : Nat) : Fld := ⟨(LEG_PWM_STATUS c), 5, 5⟩
def LEG_PWM_STATUS.SHADOW_PENDING (c : Nat) : Fld := ⟨(LEG_PWM_STATUS c), 4, 4⟩
def LEG_PWM_STATUS.VECTOR (c : Nat) : Fld := ⟨(LEG_PWM_STATUS c), 3, 2⟩
def LEG_PWM_STATUS.LS_CMD (c : Nat) : Fld := ⟨(LEG_PWM_STATUS c), 1, 1⟩
def LEG_PWM_STATUS.HS_CMD (c : Nat) : Fld := ⟨(LEG_PWM_STATUS c), 0, 0⟩
/-- LEG_c_PWM_COUNT (Table 7-3). -/
def LEG_PWM_COUNT (c : Nat) : RegId := ⟨cellBase c + 0x120, 0x0#32⟩
def LEG_PWM_COUNT.MIN_PULSE_EXT (c : Nat) : Fld := ⟨(LEG_PWM_COUNT c), 31, 16⟩
def LEG_PWM_COUNT.CYCLE_TRIPS (c : Nat) : Fld := ⟨(LEG_PWM_COUNT c), 15, 0⟩
/-- LEG_c_PWM_COUNTER (Table 7-3). -/
def LEG_PWM_COUNTER (c : Nat) : RegId := ⟨cellBase c + 0x124, 0x0#32⟩
def LEG_PWM_COUNTER.COUNT (c : Nat) : Fld := ⟨(LEG_PWM_COUNTER c), 21, 0⟩
/-- LEG_c_TRIP_STATUS (Table 7-3). -/
def LEG_TRIP_STATUS (c : Nat) : RegId := ⟨cellBase c + 0x128, 0x0#32⟩
def LEG_TRIP_STATUS.BLANKED (c : Nat) : Fld := ⟨(LEG_TRIP_STATUS c), 11, 8⟩
def LEG_TRIP_STATUS.ACTIVE (c : Nat) : Fld := ⟨(LEG_TRIP_STATUS c), 7, 4⟩
def LEG_TRIP_STATUS.LATCHED (c : Nat) : Fld := ⟨(LEG_TRIP_STATUS c), 3, 0⟩
/-- BLK_k_CELL_i_TRIP_n (Table 7-4). -/
def BLK_CELL_TRIP (k i n : Nat) : RegId := ⟨blockBase k + 0x1000 + i * 0x10 + n * 0x4, 0x0#32⟩
def BLK_CELL_TRIP.HURDLE (k i n : Nat) : Fld := ⟨(BLK_CELL_TRIP k i n), 12, 9⟩
def BLK_CELL_TRIP.COMP_ON (k i n : Nat) : Fld := ⟨(BLK_CELL_TRIP k i n), 8, 8⟩
def BLK_CELL_TRIP.ACTION (k i n : Nat) : Fld := ⟨(BLK_CELL_TRIP k i n), 7, 6⟩
def BLK_CELL_TRIP.TARGET (k i n : Nat) : Fld := ⟨(BLK_CELL_TRIP k i n), 5, 4⟩
def BLK_CELL_TRIP.SOURCE (k i n : Nat) : Fld := ⟨(BLK_CELL_TRIP k i n), 3, 0⟩
/-- BLK_k_HURDLE_h_CFG (Table 7-4). -/
def BLK_HURDLE_CFG (k h : Nat) : RegId := ⟨blockBase k + 0x2000 + h * 0x10, 0x0#32⟩
def BLK_HURDLE_CFG.LENGTH (k h : Nat) : Fld := ⟨(BLK_HURDLE_CFG k h), 27, 16⟩
def BLK_HURDLE_CFG.EDGE_MASK (k h : Nat) : Fld := ⟨(BLK_HURDLE_CFG k h), 7, 4⟩
def BLK_HURDLE_CFG.MODE (k h : Nat) : Fld := ⟨(BLK_HURDLE_CFG k h), 1, 0⟩
/-- BLK_k_HURDLE_h_START (Table 7-4). -/
def BLK_HURDLE_START (k h : Nat) : RegId := ⟨blockBase k + 0x2004 + h * 0x10, 0x0#32⟩
def BLK_HURDLE_START.START (k h : Nat) : Fld := ⟨(BLK_HURDLE_START k h), 21, 0⟩
/-- BLK_k_HURDLE_h_END (Table 7-4). -/
def BLK_HURDLE_END (k h : Nat) : RegId := ⟨blockBase k + 0x2008 + h * 0x10, 0x0#32⟩
def BLK_HURDLE_END.END (k h : Nat) : Fld := ⟨(BLK_HURDLE_END k h), 21, 0⟩
/-- LEG_c_SENSE_CFG (Table 8-5). -/
def LEG_SENSE_CFG (c : Nat) : RegId := ⟨cellBase c + 0x200, 0x2801#32⟩
def LEG_SENSE_CFG.SENSE_SETTLE (c : Nat) : Fld := ⟨(LEG_SENSE_CFG c), 15, 8⟩
def LEG_SENSE_CFG.SHUNT_GAIN (c : Nat) : Fld := ⟨(LEG_SENSE_CFG c), 1, 0⟩
/-- LEG_c_SHUNT (Table 8-5). -/
def LEG_SHUNT (c : Nat) : RegId := ⟨cellBase c + 0x204, 0x3E8#32⟩
def LEG_SHUNT.SHUNT (c : Nat) : Fld := ⟨(LEG_SHUNT c), 15, 0⟩
/-- LEG_c_SAR_MASK (Table 8-5). -/
def LEG_SAR_MASK (c : Nat) : RegId := ⟨cellBase c + 0x208, 0x55555555#32⟩
def LEG_SAR_MASK.SAR_1 (c : Nat) : Fld := ⟨(LEG_SAR_MASK c), 31, 16⟩
def LEG_SAR_MASK.SAR_0 (c : Nat) : Fld := ⟨(LEG_SAR_MASK c), 15, 0⟩
/-- LEG_c_XCHK_CFG (Table 8-5). -/
def LEG_XCHK_CFG (c : Nat) : RegId := ⟨cellBase c + 0x20C, 0x101A0444#32⟩
def LEG_XCHK_CFG.STEPS (c : Nat) : Fld := ⟨(LEG_XCHK_CFG c), 31, 24⟩
def LEG_XCHK_CFG.REL (c : Nat) : Fld := ⟨(LEG_XCHK_CFG c), 23, 16⟩
def LEG_XCHK_CFG.ABS (c : Nat) : Fld := ⟨(LEG_XCHK_CFG c), 11, 0⟩
/-- LEG_c_XCHK_STATUS (Table 8-5). -/
def LEG_XCHK_STATUS (c : Nat) : RegId := ⟨cellBase c + 0x210, 0x0#32⟩
def LEG_XCHK_STATUS.SAT_COUNT (c : Nat) : Fld := ⟨(LEG_XCHK_STATUS c), 31, 24⟩
def LEG_XCHK_STATUS.COUNT (c : Nat) : Fld := ⟨(LEG_XCHK_STATUS c), 23, 16⟩
def LEG_XCHK_STATUS.LAST_DIFF (c : Nat) : Fld := ⟨(LEG_XCHK_STATUS c), 15, 0⟩
/-- LEG_c_IFS (Table 8-5). -/
def LEG_IFS (c : Nat) : RegId := ⟨cellBase c + 0x214, 0x1D4C#32⟩
def LEG_IFS.IFS (c : Nat) : Fld := ⟨(LEG_IFS c), 15, 0⟩
/-- LEG_c_SAMPLE_I (Table 8-5). -/
def LEG_SAMPLE_I (c : Nat) : RegId := ⟨cellBase c + 0x220, 0x80008000#32⟩
def LEG_SAMPLE_I.SENSE (c : Nat) : Fld := ⟨(LEG_SAMPLE_I c), 31, 16⟩
def LEG_SAMPLE_I.SHUNT (c : Nat) : Fld := ⟨(LEG_SAMPLE_I c), 15, 0⟩
/-- LEG_c_SAMPLE_V (Table 8-5). -/
def LEG_SAMPLE_V (c : Nat) : RegId := ⟨cellBase c + 0x224, 0x80008000#32⟩
def LEG_SAMPLE_V.AUX (c : Nat) : Fld := ⟨(LEG_SAMPLE_V c), 31, 16⟩
def LEG_SAMPLE_V.VPH (c : Nat) : Fld := ⟨(LEG_SAMPLE_V c), 15, 0⟩
/-- LEG_c_SAMPLE_STATUS (Table 8-5). -/
def LEG_SAMPLE_STATUS (c : Nat) : RegId := ⟨cellBase c + 0x228, 0x0#32⟩
def LEG_SAMPLE_STATUS.STEP (c : Nat) : Fld := ⟨(LEG_SAMPLE_STATUS c), 31, 16⟩
def LEG_SAMPLE_STATUS.STATUS (c : Nat) : Fld := ⟨(LEG_SAMPLE_STATUS c), 15, 0⟩
/-- LEG_c_COMP_A_CFG (Table 8-5). -/
def LEG_COMP_A_CFG (c : Nat) : RegId := ⟨cellBase c + 0x230, 0x3FF#32⟩
def LEG_COMP_A_CFG.SLOPE (c : Nat) : Fld := ⟨(LEG_COMP_A_CFG c), 31, 21⟩
def LEG_COMP_A_CFG.RAMP_START (c : Nat) : Fld := ⟨(LEG_COMP_A_CFG c), 20, 20⟩
def LEG_COMP_A_CFG.HURDLE (c : Nat) : Fld := ⟨(LEG_COMP_A_CFG c), 19, 16⟩
def LEG_COMP_A_CFG.HYST (c : Nat) : Fld := ⟨(LEG_COMP_A_CFG c), 15, 14⟩
def LEG_COMP_A_CFG.INPUT (c : Nat) : Fld := ⟨(LEG_COMP_A_CFG c), 13, 12⟩
def LEG_COMP_A_CFG.POLARITY (c : Nat) : Fld := ⟨(LEG_COMP_A_CFG c), 11, 11⟩
def LEG_COMP_A_CFG.THR_SRC (c : Nat) : Fld := ⟨(LEG_COMP_A_CFG c), 10, 10⟩
def LEG_COMP_A_CFG.THRESHOLD (c : Nat) : Fld := ⟨(LEG_COMP_A_CFG c), 9, 0⟩
/-- LEG_c_COMP_B_CFG (Table 8-5). -/
def LEG_COMP_B_CFG (c : Nat) : RegId := ⟨cellBase c + 0x234, 0x3FF#32⟩
def LEG_COMP_B_CFG.SLOPE (c : Nat) : Fld := ⟨(LEG_COMP_B_CFG c), 31, 21⟩
def LEG_COMP_B_CFG.RAMP_START (c : Nat) : Fld := ⟨(LEG_COMP_B_CFG c), 20, 20⟩
def LEG_COMP_B_CFG.HURDLE (c : Nat) : Fld := ⟨(LEG_COMP_B_CFG c), 19, 16⟩
def LEG_COMP_B_CFG.HYST (c : Nat) : Fld := ⟨(LEG_COMP_B_CFG c), 15, 14⟩
def LEG_COMP_B_CFG.INPUT (c : Nat) : Fld := ⟨(LEG_COMP_B_CFG c), 13, 12⟩
def LEG_COMP_B_CFG.POLARITY (c : Nat) : Fld := ⟨(LEG_COMP_B_CFG c), 11, 11⟩
def LEG_COMP_B_CFG.THR_SRC (c : Nat) : Fld := ⟨(LEG_COMP_B_CFG c), 10, 10⟩
def LEG_COMP_B_CFG.THRESHOLD (c : Nat) : Fld := ⟨(LEG_COMP_B_CFG c), 9, 0⟩
/-- LEG_c_COMP_STATUS (Table 8-5). -/
def LEG_COMP_STATUS (c : Nat) : RegId := ⟨cellBase c + 0x238, 0x3FFFFC0#32⟩
def LEG_COMP_STATUS.B_THR (c : Nat) : Fld := ⟨(LEG_COMP_STATUS c), 25, 16⟩
def LEG_COMP_STATUS.A_THR (c : Nat) : Fld := ⟨(LEG_COMP_STATUS c), 15, 6⟩
def LEG_COMP_STATUS.B_LEVEL (c : Nat) : Fld := ⟨(LEG_COMP_STATUS c), 1, 1⟩
def LEG_COMP_STATUS.A_LEVEL (c : Nat) : Fld := ⟨(LEG_COMP_STATUS c), 0, 0⟩
/-- VDC_XCHK_CFG (Table 8-6). -/
def VDC_XCHK_CFG : RegId := ⟨0x30800, 0xFFFF5000#32⟩
def VDC_XCHK_CFG.PARTS : Fld := ⟨VDC_XCHK_CFG, 31, 16⟩
def VDC_XCHK_CFG.STEPS : Fld := ⟨VDC_XCHK_CFG, 15, 8⟩
def VDC_XCHK_CFG.SINGLE_ACTION : Fld := ⟨VDC_XCHK_CFG, 7, 7⟩
/-- VDC_XCHK_TOL (Table 8-6). -/
def VDC_XCHK_TOL : RegId := ⟨0x30804, 0x300#32⟩
def VDC_XCHK_TOL.ABS : Fld := ⟨VDC_XCHK_TOL, 11, 0⟩
/-- VDC_STATUS (Table 8-6). -/
def VDC_STATUS : RegId := ⟨0x30808, 0x80000000#32⟩
def VDC_STATUS.USED : Fld := ⟨VDC_STATUS, 31, 16⟩
def VDC_STATUS.COUNT : Fld := ⟨VDC_STATUS, 15, 8⟩
def VDC_STATUS.SINGLE : Fld := ⟨VDC_STATUS, 2, 2⟩
def VDC_STATUS.B_VALID : Fld := ⟨VDC_STATUS, 1, 1⟩
def VDC_STATUS.A_VALID : Fld := ⟨VDC_STATUS, 0, 0⟩
/-- VDC_READINGS (Table 8-6). -/
def VDC_READINGS : RegId := ⟨0x3080C, 0x80008000#32⟩
def VDC_READINGS.VDC_B : Fld := ⟨VDC_READINGS, 31, 16⟩
def VDC_READINGS.VDC_A : Fld := ⟨VDC_READINGS, 15, 0⟩
/-- SCMP_m_CFG (Table 8-7). -/
def SCMP_CFG (m : Nat) : RegId := ⟨0x30008000 + m * 0x10, 0x1900000#32⟩
def SCMP_CFG.CONFIRM (m : Nat) : Fld := ⟨(SCMP_CFG m), 28, 25⟩
def SCMP_CFG.RATE_DIV (m : Nat) : Fld := ⟨(SCMP_CFG m), 24, 18⟩
def SCMP_CFG.THRESHOLD (m : Nat) : Fld := ⟨(SCMP_CFG m), 17, 8⟩
def SCMP_CFG.POLARITY (m : Nat) : Fld := ⟨(SCMP_CFG m), 7, 7⟩
def SCMP_CFG.INPUT (m : Nat) : Fld := ⟨(SCMP_CFG m), 6, 0⟩
/-- SCMP_STATUS (Table 8-7). -/
def SCMP_STATUS : RegId := ⟨0x30008100, 0x0#32⟩
def SCMP_STATUS.CONFIRMED : Fld := ⟨SCMP_STATUS, 31, 16⟩
def SCMP_STATUS.LEVEL : Fld := ⟨SCMP_STATUS, 15, 0⟩
/-- LEG_c_CHAN_CFG (Table 14-6). -/
def LEG_CHAN_CFG (c : Nat) : RegId := ⟨cellBase c + 0x400, 0x80#32⟩
def LEG_CHAN_CFG.VLAW (c : Nat) : Fld := ⟨(LEG_CHAN_CFG c), 31, 24⟩
def LEG_CHAN_CFG.ILAW (c : Nat) : Fld := ⟨(LEG_CHAN_CFG c), 23, 16⟩
def LEG_CHAN_CFG.TEMP_EN (c : Nat) : Fld := ⟨(LEG_CHAN_CFG c), 14, 14⟩
def LEG_CHAN_CFG.TEMP_SEL (c : Nat) : Fld := ⟨(LEG_CHAN_CFG c), 13, 8⟩
def LEG_CHAN_CFG.CV_EN (c : Nat) : Fld := ⟨(LEG_CHAN_CFG c), 7, 7⟩
def LEG_CHAN_CFG.FLAG_EN (c : Nat) : Fld := ⟨(LEG_CHAN_CFG c), 6, 6⟩
def LEG_CHAN_CFG.FLAG (c : Nat) : Fld := ⟨(LEG_CHAN_CFG c), 4, 0⟩
/-- LEG_c_CHAN_DUTY (Table 14-6). -/
def LEG_CHAN_DUTY (c : Nat) : RegId := ⟨cellBase c + 0x404, 0xCCD7333#32⟩
def LEG_CHAN_DUTY.D_DIS (c : Nat) : Fld := ⟨(LEG_CHAN_DUTY c), 31, 16⟩
def LEG_CHAN_DUTY.D_CHG (c : Nat) : Fld := ⟨(LEG_CHAN_DUTY c), 15, 0⟩
/-- LEG_c_CHAN_PEAK (Table 14-6). -/
def LEG_CHAN_PEAK (c : Nat) : RegId := ⟨cellBase c + 0x408, 0x7FFF#32⟩
def LEG_CHAN_PEAK.PEAK_MAX (c : Nat) : Fld := ⟨(LEG_CHAN_PEAK c), 15, 0⟩
/-- LEG_c_CHAN_VLIM (Table 14-6). -/
def LEG_CHAN_VLIM (c : Nat) : RegId := ⟨cellBase c + 0x40C, 0x6B85FAE1#32⟩
def LEG_CHAN_VLIM.V_MAX (c : Nat) : Fld := ⟨(LEG_CHAN_VLIM c), 31, 16⟩
def LEG_CHAN_VLIM.V_MIN (c : Nat) : Fld := ⟨(LEG_CHAN_VLIM c), 15, 0⟩
/-- LEG_c_CHAN_END (Table 14-6). -/
def LEG_CHAN_END (c : Nat) : RegId := ⟨cellBase c + 0x410, 0x80000#32⟩
def LEG_CHAN_END.PROT_STEPS (c : Nat) : Fld := ⟨(LEG_CHAN_END c), 23, 16⟩
def LEG_CHAN_END.I_END (c : Nat) : Fld := ⟨(LEG_CHAN_END c), 15, 0⟩
/-- LEG_c_CHAN_TLIM (Table 14-6). -/
def LEG_CHAN_TLIM (c : Nat) : RegId := ⟨cellBase c + 0x414, 0x0#32⟩
def LEG_CHAN_TLIM.T_LIMIT (c : Nat) : Fld := ⟨(LEG_CHAN_TLIM c), 31, 0⟩
/-- LEG_c_CHAN_QLIM (Table 14-6). -/
def LEG_CHAN_QLIM (c : Nat) : RegId := ⟨cellBase c + 0x418, 0x0#32⟩
def LEG_CHAN_QLIM.Q_LIMIT (c : Nat) : Fld := ⟨(LEG_CHAN_QLIM c), 31, 0⟩
/-- LEG_c_CHAN_CTRL (Table 14-6). -/
def LEG_CHAN_CTRL (c : Nat) : RegId := ⟨cellBase c + 0x41C, 0x0#32⟩
def LEG_CHAN_CTRL.RESTART (c : Nat) : Fld := ⟨(LEG_CHAN_CTRL c), 3, 3⟩
def LEG_CHAN_CTRL.ACC_CLEAR (c : Nat) : Fld := ⟨(LEG_CHAN_CTRL c), 2, 2⟩
def LEG_CHAN_CTRL.ACC_STOP (c : Nat) : Fld := ⟨(LEG_CHAN_CTRL c), 1, 1⟩
def LEG_CHAN_CTRL.ACC_START (c : Nat) : Fld := ⟨(LEG_CHAN_CTRL c), 0, 0⟩
/-- LEG_c_CHAN_STATUS (Table 14-6). -/
def LEG_CHAN_STATUS (c : Nat) : RegId := ⟨cellBase c + 0x420, 0x80000000#32⟩
def LEG_CHAN_STATUS.TEMP (c : Nat) : Fld := ⟨(LEG_CHAN_STATUS c), 31, 16⟩
def LEG_CHAN_STATUS.CMD_INVALID (c : Nat) : Fld := ⟨(LEG_CHAN_STATUS c), 15, 15⟩
def LEG_CHAN_STATUS.ACC_SAT (c : Nat) : Fld := ⟨(LEG_CHAN_STATUS c), 14, 14⟩
def LEG_CHAN_STATUS.ACC_EST (c : Nat) : Fld := ⟨(LEG_CHAN_STATUS c), 13, 13⟩
def LEG_CHAN_STATUS.ACC_RUN (c : Nat) : Fld := ⟨(LEG_CHAN_STATUS c), 12, 12⟩
def LEG_CHAN_STATUS.END_REASON (c : Nat) : Fld := ⟨(LEG_CHAN_STATUS c), 11, 8⟩
def LEG_CHAN_STATUS.DIR (c : Nat) : Fld := ⟨(LEG_CHAN_STATUS c), 5, 4⟩
def LEG_CHAN_STATUS.STATE (c : Nat) : Fld := ⟨(LEG_CHAN_STATUS c), 2, 0⟩
/-- LEG_c_CHAN_PHASE_TIME (Table 14-6). -/
def LEG_CHAN_PHASE_TIME (c : Nat) : RegId := ⟨cellBase c + 0x424, 0x0#32⟩
def LEG_CHAN_PHASE_TIME.MS (c : Nat) : Fld := ⟨(LEG_CHAN_PHASE_TIME c), 31, 0⟩
/-- LEG_c_ACC_CHARGE_LO (Table 14-6). -/
def LEG_ACC_CHARGE_LO (c : Nat) : RegId := ⟨cellBase c + 0x430, 0x0#32⟩
def LEG_ACC_CHARGE_LO.CHARGE (c : Nat) : Fld := ⟨(LEG_ACC_CHARGE_LO c), 31, 0⟩
/-- LEG_c_ACC_CHARGE_HI (Table 14-6). -/
def LEG_ACC_CHARGE_HI (c : Nat) : RegId := ⟨cellBase c + 0x434, 0x0#32⟩
def LEG_ACC_CHARGE_HI.CHARGE (c : Nat) : Fld := ⟨(LEG_ACC_CHARGE_HI c), 31, 0⟩
/-- LEG_c_ACC_ENERGY_LO (Table 14-6). -/
def LEG_ACC_ENERGY_LO (c : Nat) : RegId := ⟨cellBase c + 0x438, 0x0#32⟩
def LEG_ACC_ENERGY_LO.ENERGY (c : Nat) : Fld := ⟨(LEG_ACC_ENERGY_LO c), 31, 0⟩
/-- LEG_c_ACC_ENERGY_HI (Table 14-6). -/
def LEG_ACC_ENERGY_HI (c : Nat) : RegId := ⟨cellBase c + 0x43C, 0x0#32⟩
def LEG_ACC_ENERGY_HI.ENERGY (c : Nat) : Fld := ⟨(LEG_ACC_ENERGY_HI c), 31, 0⟩
/-- LEG_c_ACC_PHASE_LO (Table 14-6). -/
def LEG_ACC_PHASE_LO (c : Nat) : RegId := ⟨cellBase c + 0x440, 0x0#32⟩
def LEG_ACC_PHASE_LO.PHASE_CHARGE (c : Nat) : Fld := ⟨(LEG_ACC_PHASE_LO c), 31, 0⟩
/-- LEG_c_ACC_PHASE_HI (Table 14-6). -/
def LEG_ACC_PHASE_HI (c : Nat) : RegId := ⟨cellBase c + 0x444, 0x0#32⟩
def LEG_ACC_PHASE_HI.PHASE_CHARGE (c : Nat) : Fld := ⟨(LEG_ACC_PHASE_HI c), 31, 0⟩
/-- LEG_c_ACC_EST_CYCLES (Table 14-6). -/
def LEG_ACC_EST_CYCLES (c : Nat) : RegId := ⟨cellBase c + 0x448, 0x0#32⟩
def LEG_ACC_EST_CYCLES.CYCLES (c : Nat) : Fld := ⟨(LEG_ACC_EST_CYCLES c), 31, 0⟩
/-- LEG_c_ACC_LAST (Table 14-6). -/
def LEG_ACC_LAST (c : Nat) : RegId := ⟨cellBase c + 0x44C, 0x0#32⟩
def LEG_ACC_LAST.SEQ (c : Nat) : Fld := ⟨(LEG_ACC_LAST c), 31, 16⟩
/-- PART_CHG_WIN (Table 14-7). -/
def PART_CHG_WIN (p : Nat) : RegId := ⟨0x10210 + p * 0x1000, 0x1C20064#32⟩
def PART_CHG_WIN.CHG_MAX (p : Nat) : Fld := ⟨(PART_CHG_WIN p), 31, 16⟩
def PART_CHG_WIN.CHG_MIN (p : Nat) : Fld := ⟨(PART_CHG_WIN p), 15, 0⟩
/-- PART_DIS_WIN (Table 14-7). -/
def PART_DIS_WIN (p : Nat) : RegId := ⟨0x10214 + p * 0x1000, 0x140258#32⟩
def PART_DIS_WIN.HYST (p : Nat) : Fld := ⟨(PART_DIS_WIN p), 23, 16⟩
def PART_DIS_WIN.DIS_MAX (p : Nat) : Fld := ⟨(PART_DIS_WIN p), 15, 0⟩

end Sys2Proof.Machine
end

