-- ==== Sys2Proof/Machine/RegsMeas.lean ====
section
/-!
DEFINITION. The registers and fields of the precision converters and capture areas (chapter 9), each at the address and with the reset value of its table.
A reset the tables give as X or BS is 0 (DESIGN CHOICE, log entry 1).
-/
namespace Sys2Proof.Machine

/-- MEAS_REF_STATUS (Table 9-5). -/
def MEAS_REF_STATUS : RegId := ⟨0x30000000, 0x0#32⟩
def MEAS_REF_STATUS.REFIN : Fld := ⟨MEAS_REF_STATUS, 31, 16⟩
def MEAS_REF_STATUS.REFIN_OK : Fld := ⟨MEAS_REF_STATUS, 1, 1⟩
def MEAS_REF_STATUS.INT_REF_OK : Fld := ⟨MEAS_REF_STATUS, 0, 0⟩
/-- MEAS_CH_n_CFG (Table 9-6). -/
def MEAS_CH_CFG (n : Nat) : RegId := ⟨0x30001000 + n * 0x40, 0x5000#32⟩
def MEAS_CH_CFG.WINDOW_MS (n : Nat) : Fld := ⟨(MEAS_CH_CFG n), 19, 10⟩
def MEAS_CH_CFG.WINDOW_SEL (n : Nat) : Fld := ⟨(MEAS_CH_CFG n), 9, 8⟩
def MEAS_CH_CFG.REF_SEL (n : Nat) : Fld := ⟨(MEAS_CH_CFG n), 7, 6⟩
def MEAS_CH_CFG.I_RANGE (n : Nat) : Fld := ⟨(MEAS_CH_CFG n), 5, 5⟩
def MEAS_CH_CFG.V_RANGE (n : Nat) : Fld := ⟨(MEAS_CH_CFG n), 4, 4⟩
def MEAS_CH_CFG.I_EN (n : Nat) : Fld := ⟨(MEAS_CH_CFG n), 3, 3⟩
def MEAS_CH_CFG.AUTO_START (n : Nat) : Fld := ⟨(MEAS_CH_CFG n), 2, 2⟩
def MEAS_CH_CFG.MODE (n : Nat) : Fld := ⟨(MEAS_CH_CFG n), 1, 0⟩
/-- MEAS_CH_n_CTRL (Table 9-6). -/
def MEAS_CH_CTRL (n : Nat) : RegId := ⟨0x30001004 + n * 0x40, 0x0#32⟩
def MEAS_CH_CTRL.CAL (n : Nat) : Fld := ⟨(MEAS_CH_CTRL n), 2, 2⟩
def MEAS_CH_CTRL.STOP (n : Nat) : Fld := ⟨(MEAS_CH_CTRL n), 1, 1⟩
def MEAS_CH_CTRL.START (n : Nat) : Fld := ⟨(MEAS_CH_CTRL n), 0, 0⟩
/-- MEAS_CH_n_STATUS (Table 9-6). -/
def MEAS_CH_STATUS (n : Nat) : RegId := ⟨0x30001008 + n * 0x40, 0x0#32⟩
def MEAS_CH_STATUS.CAL_STATE (n : Nat) : Fld := ⟨(MEAS_CH_STATUS n), 11, 10⟩
def MEAS_CH_STATUS.REF_SETTLED (n : Nat) : Fld := ⟨(MEAS_CH_STATUS n), 9, 9⟩
def MEAS_CH_STATUS.STATE (n : Nat) : Fld := ⟨(MEAS_CH_STATUS n), 2, 0⟩
/-- MEAS_CH_n_CAL_ZERO (Table 9-6). -/
def MEAS_CH_CAL_ZERO (n : Nat) : RegId := ⟨0x3000100C + n * 0x40, 0x0#32⟩
def MEAS_CH_CAL_ZERO.Z (n : Nat) : Fld := ⟨(MEAS_CH_CAL_ZERO n), 23, 0⟩
/-- MEAS_CH_n_V (Table 9-6). -/
def MEAS_CH_V (n : Nat) : RegId := ⟨0x30001010 + n * 0x40, 0x80000000#32⟩
def MEAS_CH_V.VALUE (n : Nat) : Fld := ⟨(MEAS_CH_V n), 31, 8⟩
/-- MEAS_CH_n_I (Table 9-6). -/
def MEAS_CH_I (n : Nat) : RegId := ⟨0x30001014 + n * 0x40, 0x80000000#32⟩
def MEAS_CH_I.VALUE (n : Nat) : Fld := ⟨(MEAS_CH_I n), 31, 8⟩
/-- MEAS_CH_n_STAMP (Table 9-6). -/
def MEAS_CH_STAMP (n : Nat) : RegId := ⟨0x30001018 + n * 0x40, 0x0#32⟩
def MEAS_CH_STAMP.STEP (n : Nat) : Fld := ⟨(MEAS_CH_STAMP n), 31, 0⟩
/-- MEAS_CH_n_FLAGS (Table 9-6). -/
def MEAS_CH_FLAGS (n : Nat) : RegId := ⟨0x3000101C + n * 0x40, 0x0#32⟩
def MEAS_CH_FLAGS.SEQ (n : Nat) : Fld := ⟨(MEAS_CH_FLAGS n), 31, 16⟩
def MEAS_CH_FLAGS.PHASE (n : Nat) : Fld := ⟨(MEAS_CH_FLAGS n), 15, 7⟩
def MEAS_CH_FLAGS.GAP (n : Nat) : Fld := ⟨(MEAS_CH_FLAGS n), 6, 6⟩
def MEAS_CH_FLAGS.SPARE (n : Nat) : Fld := ⟨(MEAS_CH_FLAGS n), 5, 5⟩
def MEAS_CH_FLAGS.CM_FAULT (n : Nat) : Fld := ⟨(MEAS_CH_FLAGS n), 4, 4⟩
def MEAS_CH_FLAGS.I_OVER (n : Nat) : Fld := ⟨(MEAS_CH_FLAGS n), 3, 3⟩
def MEAS_CH_FLAGS.V_OVER (n : Nat) : Fld := ⟨(MEAS_CH_FLAGS n), 2, 2⟩
def MEAS_CH_FLAGS.REF_FAULT (n : Nat) : Fld := ⟨(MEAS_CH_FLAGS n), 1, 1⟩
def MEAS_CH_FLAGS.VALID (n : Nat) : Fld := ⟨(MEAS_CH_FLAGS n), 0, 0⟩
/-- MEAS_CH_n_CAL_V_GAIN (Table 9-6). -/
def MEAS_CH_CAL_V_GAIN (n : Nat) : RegId := ⟨0x30001020 + n * 0x40, 0x40000000#32⟩
def MEAS_CH_CAL_V_GAIN.GAIN (n : Nat) : Fld := ⟨(MEAS_CH_CAL_V_GAIN n), 31, 0⟩
/-- MEAS_CH_n_CAL_V_OFFSET (Table 9-6). -/
def MEAS_CH_CAL_V_OFFSET (n : Nat) : RegId := ⟨0x30001024 + n * 0x40, 0x0#32⟩
def MEAS_CH_CAL_V_OFFSET.OFFSET (n : Nat) : Fld := ⟨(MEAS_CH_CAL_V_OFFSET n), 23, 0⟩
/-- MEAS_CH_n_CAL_I_GAIN (Table 9-6). -/
def MEAS_CH_CAL_I_GAIN (n : Nat) : RegId := ⟨0x30001028 + n * 0x40, 0x40000000#32⟩
def MEAS_CH_CAL_I_GAIN.GAIN (n : Nat) : Fld := ⟨(MEAS_CH_CAL_I_GAIN n), 31, 0⟩
/-- MEAS_CH_n_CAL_I_OFFSET (Table 9-6). -/
def MEAS_CH_CAL_I_OFFSET (n : Nat) : RegId := ⟨0x3000102C + n * 0x40, 0x0#32⟩
def MEAS_CH_CAL_I_OFFSET.OFFSET (n : Nat) : Fld := ⟨(MEAS_CH_CAL_I_OFFSET n), 23, 0⟩
/-- MEAS_AUX_j_CFG (Table 9-7). -/
def MEAS_AUX_CFG (j : Nat) : RegId := ⟨0x30002000 + j * 0x100, 0x0#32⟩
def MEAS_AUX_CFG.ENTRIES (j : Nat) : Fld := ⟨(MEAS_AUX_CFG j), 11, 8⟩
def MEAS_AUX_CFG.REF_SEL (j : Nat) : Fld := ⟨(MEAS_AUX_CFG j), 4, 3⟩
def MEAS_AUX_CFG.AUTO_START (j : Nat) : Fld := ⟨(MEAS_AUX_CFG j), 2, 2⟩
def MEAS_AUX_CFG.MODE (j : Nat) : Fld := ⟨(MEAS_AUX_CFG j), 1, 0⟩
/-- MEAS_AUX_j_CTRL (Table 9-7). -/
def MEAS_AUX_CTRL (j : Nat) : RegId := ⟨0x30002004 + j * 0x100, 0x0#32⟩
def MEAS_AUX_CTRL.CAL_RANGE (j : Nat) : Fld := ⟨(MEAS_AUX_CTRL j), 3, 3⟩
def MEAS_AUX_CTRL.CAL (j : Nat) : Fld := ⟨(MEAS_AUX_CTRL j), 2, 2⟩
def MEAS_AUX_CTRL.STOP (j : Nat) : Fld := ⟨(MEAS_AUX_CTRL j), 1, 1⟩
def MEAS_AUX_CTRL.START (j : Nat) : Fld := ⟨(MEAS_AUX_CTRL j), 0, 0⟩
/-- MEAS_AUX_j_STATUS (Table 9-7). -/
def MEAS_AUX_STATUS (j : Nat) : RegId := ⟨0x30002008 + j * 0x100, 0x0#32⟩
def MEAS_AUX_STATUS.PASS (j : Nat) : Fld := ⟨(MEAS_AUX_STATUS j), 31, 16⟩
def MEAS_AUX_STATUS.ENTRY (j : Nat) : Fld := ⟨(MEAS_AUX_STATUS j), 15, 12⟩
def MEAS_AUX_STATUS.CAL_STATE (j : Nat) : Fld := ⟨(MEAS_AUX_STATUS j), 11, 10⟩
def MEAS_AUX_STATUS.REF_SETTLED (j : Nat) : Fld := ⟨(MEAS_AUX_STATUS j), 9, 9⟩
def MEAS_AUX_STATUS.STATE (j : Nat) : Fld := ⟨(MEAS_AUX_STATUS j), 2, 0⟩
/-- MEAS_AUX_j_STAMP (Table 9-7). -/
def MEAS_AUX_STAMP (j : Nat) : RegId := ⟨0x3000200C + j * 0x100, 0x0#32⟩
def MEAS_AUX_STAMP.STEP (j : Nat) : Fld := ⟨(MEAS_AUX_STAMP j), 31, 0⟩
/-- MEAS_AUX_j_CAL_GAIN_g (Table 9-7). -/
def MEAS_AUX_CAL_GAIN (j g : Nat) : RegId := ⟨0x30002020 + j * 0x100 + g * 0x8, 0x40000000#32⟩
def MEAS_AUX_CAL_GAIN.GAIN (j g : Nat) : Fld := ⟨(MEAS_AUX_CAL_GAIN j g), 31, 0⟩
/-- MEAS_AUX_j_CAL_OFFSET_g (Table 9-7). -/
def MEAS_AUX_CAL_OFFSET (j g : Nat) : RegId := ⟨0x30002024 + j * 0x100 + g * 0x8, 0x0#32⟩
def MEAS_AUX_CAL_OFFSET.OFFSET (j g : Nat) : Fld := ⟨(MEAS_AUX_CAL_OFFSET j g), 23, 0⟩
/-- MEAS_AUX_j_SEQ_e (Table 9-7). -/
def MEAS_AUX_SEQ (j e : Nat) : RegId := ⟨0x30002040 + j * 0x100 + e * 0x4, 0xA05001#32⟩
def MEAS_AUX_SEQ.SETTLE (j e : Nat) : Fld := ⟨(MEAS_AUX_SEQ j e), 27, 20⟩
def MEAS_AUX_SEQ.WINDOW_MS (j e : Nat) : Fld := ⟨(MEAS_AUX_SEQ j e), 19, 10⟩
def MEAS_AUX_SEQ.WINDOW_SEL (j e : Nat) : Fld := ⟨(MEAS_AUX_SEQ j e), 9, 8⟩
def MEAS_AUX_SEQ.RANGE (j e : Nat) : Fld := ⟨(MEAS_AUX_SEQ j e), 7, 7⟩
def MEAS_AUX_SEQ.INPUT (j e : Nat) : Fld := ⟨(MEAS_AUX_SEQ j e), 6, 0⟩
/-- MEAS_AUX_j_RES_e (Table 9-7). -/
def MEAS_AUX_RES (j e : Nat) : RegId := ⟨0x30002080 + j * 0x100 + e * 0x4, 0x80000000#32⟩
def MEAS_AUX_RES.VALUE (j e : Nat) : Fld := ⟨(MEAS_AUX_RES j e), 31, 8⟩
def MEAS_AUX_RES.PASS (j e : Nat) : Fld := ⟨(MEAS_AUX_RES j e), 7, 4⟩
def MEAS_AUX_RES.GAP (j e : Nat) : Fld := ⟨(MEAS_AUX_RES j e), 3, 3⟩
def MEAS_AUX_RES.REF_FAULT (j e : Nat) : Fld := ⟨(MEAS_AUX_RES j e), 2, 2⟩
def MEAS_AUX_RES.OVER (j e : Nat) : Fld := ⟨(MEAS_AUX_RES j e), 1, 1⟩
def MEAS_AUX_RES.VALID (j e : Nat) : Fld := ⟨(MEAS_AUX_RES j e), 0, 0⟩
/-- MEAS_CAP_a_CFG (Table 9-10). -/
def MEAS_CAP_CFG (a : Nat) : RegId := ⟨0x30005000 + a * 0x20, 0x0#32⟩
def MEAS_CAP_CFG.AUTO_START (a : Nat) : Fld := ⟨(MEAS_CAP_CFG a), 2, 2⟩
def MEAS_CAP_CFG.MODE (a : Nat) : Fld := ⟨(MEAS_CAP_CFG a), 1, 0⟩
/-- MEAS_CAP_a_MASK_LO (Table 9-10). -/
def MEAS_CAP_MASK_LO (a : Nat) : RegId := ⟨0x30005004 + a * 0x20, 0x0#32⟩
def MEAS_CAP_MASK_LO.MASK (a : Nat) : Fld := ⟨(MEAS_CAP_MASK_LO a), 31, 0⟩
/-- MEAS_CAP_a_MASK_HI (Table 9-10). -/
def MEAS_CAP_MASK_HI (a : Nat) : RegId := ⟨0x30005008 + a * 0x20, 0x0#32⟩
def MEAS_CAP_MASK_HI.MASK (a : Nat) : Fld := ⟨(MEAS_CAP_MASK_HI a), 31, 0⟩
/-- MEAS_CAP_a_CTRL (Table 9-10). -/
def MEAS_CAP_CTRL (a : Nat) : RegId := ⟨0x3000500C + a * 0x20, 0x0#32⟩
def MEAS_CAP_CTRL.STOP (a : Nat) : Fld := ⟨(MEAS_CAP_CTRL a), 1, 1⟩
def MEAS_CAP_CTRL.START (a : Nat) : Fld := ⟨(MEAS_CAP_CTRL a), 0, 0⟩
/-- MEAS_CAP_a_STATUS (Table 9-10). -/
def MEAS_CAP_STATUS (a : Nat) : RegId := ⟨0x30005010 + a * 0x20, 0x0#32⟩
def MEAS_CAP_STATUS.WRAPS (a : Nat) : Fld := ⟨(MEAS_CAP_STATUS a), 31, 16⟩
def MEAS_CAP_STATUS.NEXT (a : Nat) : Fld := ⟨(MEAS_CAP_STATUS a), 15, 4⟩
def MEAS_CAP_STATUS.STATE (a : Nat) : Fld := ⟨(MEAS_CAP_STATUS a), 1, 0⟩

end Sys2Proof.Machine
end

