-- ==== Sys2Proof/Machine/RegsPos.lean ====
section
/-!
DEFINITION. The registers and fields of the position units and compare channels (chapter 13), each at the address and with the reset value of its table.
A reset the tables give as X or BS is 0 (DESIGN CHOICE, log entry 1).
-/
namespace Sys2Proof.Machine

/-- POS_u_CFG (Table 13-5). -/
def POS_CFG (u : Nat) : RegId := ⟨0x30004000 + u * 0x40, 0x40400#32⟩
def POS_CFG.FILTER (u : Nat) : Fld := ⟨(POS_CFG u), 23, 16⟩
def POS_CFG.POLE_PAIRS (u : Nat) : Fld := ⟨(POS_CFG u), 15, 10⟩
def POS_CFG.DIR (u : Nat) : Fld := ⟨(POS_CFG u), 9, 9⟩
def POS_CFG.ENABLE (u : Nat) : Fld := ⟨(POS_CFG u), 0, 0⟩
/-- POS_u_GEOM (Table 13-5). -/
def POS_GEOM (u : Nat) : RegId := ⟨0x30004004 + u * 0x40, posGeomReset u⟩
/-- POS_u_GEOM2 (Table 13-5). -/
def POS_GEOM2 (u : Nat) : RegId := ⟨0x30004008 + u * 0x40, posGeom2Reset u⟩
/-- POS_u_OFFSET (Table 13-5). -/
def POS_OFFSET (u : Nat) : RegId := ⟨0x3000400C + u * 0x40, 0x0#32⟩
def POS_OFFSET.ELEC_OFFSET (u : Nat) : Fld := ⟨(POS_OFFSET u), 31, 16⟩
def POS_OFFSET.REF_OFFSET (u : Nat) : Fld := ⟨(POS_OFFSET u), 15, 0⟩
/-- POS_u_SPEED_FS (Table 13-5). -/
def POS_SPEED_FS (u : Nat) : RegId := ⟨0x30004010 + u * 0x40, 0x2710#32⟩
def POS_SPEED_FS.SPEED_FS (u : Nat) : Fld := ⟨(POS_SPEED_FS u), 15, 0⟩
/-- POS_u_POSITION (Table 13-5). -/
def POS_POSITION (u : Nat) : RegId := ⟨0x30004020 + u * 0x40, 0x0#32⟩
def POS_POSITION.REV (u : Nat) : Fld := ⟨(POS_POSITION u), 31, 16⟩
def POS_POSITION.ANGLE (u : Nat) : Fld := ⟨(POS_POSITION u), 15, 0⟩
/-- POS_u_SPEED (Table 13-5). -/
def POS_SPEED (u : Nat) : RegId := ⟨0x30004024 + u * 0x40, 0x0#32⟩
def POS_SPEED.SPEED (u : Nat) : Fld := ⟨(POS_SPEED u), 31, 0⟩
/-- POS_u_STATUS (Table 13-5). -/
def POS_STATUS (u : Nat) : RegId := ⟨0x30004028 + u * 0x40, 0x0#32⟩
def POS_STATUS.MISS_RUN (u : Nat) : Fld := ⟨(POS_STATUS u), 7, 6⟩
def POS_STATUS.FLAGS (u : Nat) : Fld := ⟨(POS_STATUS u), 5, 0⟩
/-- POS_u_EDGE_STEP (Table 13-5). -/
def POS_EDGE_STEP (u : Nat) : RegId := ⟨0x3000402C + u * 0x40, 0x0#32⟩
def POS_EDGE_STEP.STEP (u : Nat) : Fld := ⟨(POS_EDGE_STEP u), 31, 0⟩
/-- POS_u_COUNT (Table 13-5). -/
def POS_COUNT (u : Nat) : RegId := ⟨0x30004030 + u * 0x40, 0x0#32⟩
def POS_COUNT.NOISE (u : Nat) : Fld := ⟨(POS_COUNT u), 31, 16⟩
def POS_COUNT.MISSES (u : Nat) : Fld := ⟨(POS_COUNT u), 15, 0⟩
/-- POS_u_SYNC_COUNT (Table 13-5). -/
def POS_SYNC_COUNT (u : Nat) : RegId := ⟨0x30004034 + u * 0x40, 0x0#32⟩
def POS_SYNC_COUNT.LOSSES (u : Nat) : Fld := ⟨(POS_SYNC_COUNT u), 15, 0⟩
/-- BLK_k_POS_SLOT_p (Table 13-7). -/
def BLK_POS_SLOT (k p : Nat) : RegId := ⟨blockBase k + 0xB200 + p * 0x4, 0x0#32⟩
def BLK_POS_SLOT.UNIT (k p : Nat) : Fld := ⟨(BLK_POS_SLOT k p), 3, 0⟩
/-- BLK_k_CMP_m_CFG (Table 13-7). -/
def BLK_CMP_CFG (k m : Nat) : RegId := ⟨blockBase k + 0xB000 + m * 0x80, 0x0#32⟩
def BLK_CMP_CFG.FLAG_EN (k m : Nat) : Fld := ⟨(BLK_CMP_CFG k m), 14, 14⟩
def BLK_CMP_CFG.FLAG (k m : Nat) : Fld := ⟨(BLK_CMP_CFG k m), 13, 9⟩
def BLK_CMP_CFG.DIR (k m : Nat) : Fld := ⟨(BLK_CMP_CFG k m), 8, 8⟩
def BLK_CMP_CFG.LIST_LAST (k m : Nat) : Fld := ⟨(BLK_CMP_CFG k m), 7, 4⟩
def BLK_CMP_CFG.SLOT (k m : Nat) : Fld := ⟨(BLK_CMP_CFG k m), 3, 2⟩
def BLK_CMP_CFG.MODE (k m : Nat) : Fld := ⟨(BLK_CMP_CFG k m), 1, 0⟩
/-- BLK_k_CMP_m_GRID (Table 13-7). -/
def BLK_CMP_GRID (k m : Nat) : RegId := ⟨blockBase k + 0xB004 + m * 0x80, 0x4000000#32⟩
def BLK_CMP_GRID.STEP (k m : Nat) : Fld := ⟨(BLK_CMP_GRID k m), 31, 16⟩
def BLK_CMP_GRID.BASE (k m : Nat) : Fld := ⟨(BLK_CMP_GRID k m), 15, 0⟩
/-- BLK_k_CMP_m_CTRL (Table 13-7). -/
def BLK_CMP_CTRL (k m : Nat) : RegId := ⟨blockBase k + 0xB008 + m * 0x80, 0x0#32⟩
def BLK_CMP_CTRL.DISARM (k m : Nat) : Fld := ⟨(BLK_CMP_CTRL k m), 1, 1⟩
def BLK_CMP_CTRL.ARM (k m : Nat) : Fld := ⟨(BLK_CMP_CTRL k m), 0, 0⟩
/-- BLK_k_CMP_m_STATUS (Table 13-7). -/
def BLK_CMP_STATUS (k m : Nat) : RegId := ⟨blockBase k + 0xB00C + m * 0x80, 0x0#32⟩
def BLK_CMP_STATUS.DISCARDED (k m : Nat) : Fld := ⟨(BLK_CMP_STATUS k m), 31, 16⟩
def BLK_CMP_STATUS.LIST_INDEX (k m : Nat) : Fld := ⟨(BLK_CMP_STATUS k m), 7, 4⟩
def BLK_CMP_STATUS.STATE (k m : Nat) : Fld := ⟨(BLK_CMP_STATUS k m), 2, 0⟩
/-- BLK_k_CMP_m_NEXT (Table 13-7). -/
def BLK_CMP_NEXT (k m : Nat) : RegId := ⟨blockBase k + 0xB010 + m * 0x80, 0x0#32⟩
def BLK_CMP_NEXT.NEXT (k m : Nat) : Fld := ⟨(BLK_CMP_NEXT k m), 15, 0⟩
/-- BLK_k_CMP_m_HITS (Table 13-7). -/
def BLK_CMP_HITS (k m : Nat) : RegId := ⟨blockBase k + 0xB014 + m * 0x80, 0x0#32⟩
def BLK_CMP_HITS.COUNT (k m : Nat) : Fld := ⟨(BLK_CMP_HITS k m), 31, 0⟩
/-- BLK_k_CMP_m_LAST (Table 13-7). -/
def BLK_CMP_LAST (k m : Nat) : RegId := ⟨blockBase k + 0xB018 + m * 0x80, 0x0#32⟩
def BLK_CMP_LAST.STEP (k m : Nat) : Fld := ⟨(BLK_CMP_LAST k m), 31, 0⟩
/-- BLK_k_CMP_m_LAST_PHASE (Table 13-7). -/
def BLK_CMP_LAST_PHASE (k m : Nat) : RegId := ⟨blockBase k + 0xB01C + m * 0x80, 0x0#32⟩
def BLK_CMP_LAST_PHASE.FIRED_ON_ESTIMATE (k m : Nat) : Fld := ⟨(BLK_CMP_LAST_PHASE k m), 9, 9⟩
def BLK_CMP_LAST_PHASE.PHASE (k m : Nat) : Fld := ⟨(BLK_CMP_LAST_PHASE k m), 8, 0⟩
/-- BLK_k_CMP_m_LIST_e (Table 13-7). -/
def BLK_CMP_LIST (k m e : Nat) : RegId := ⟨blockBase k + 0xB040 + m * 0x80 + e * 0x4, 0x0#32⟩
def BLK_CMP_LIST.POSITION (k m e : Nat) : Fld := ⟨(BLK_CMP_LIST k m e), 15, 0⟩
/-- Table 13-6. -/
def POS_GEOM.ENC_TOL (u : Nat) : Fld := ⟨(POS_GEOM u), 31, 24⟩
/-- Table 13-6. -/
def POS_GEOM.ENC_INDEX_EN (u : Nat) : Fld := ⟨(POS_GEOM u), 16, 16⟩
/-- Table 13-6. -/
def POS_GEOM.ENC_LINES (u : Nat) : Fld := ⟨(POS_GEOM u), 15, 0⟩
/-- Table 13-6. -/
def POS_GEOM2.ENC_WIN (u : Nat) : Fld := ⟨(POS_GEOM2 u), 7, 0⟩
/-- Table 13-6. -/
def POS_GEOM.HALL_MAP (u : Nat) : Fld := ⟨(POS_GEOM u), 17, 0⟩
/-- Table 13-6. -/
def POS_GEOM2.HALL_INV (u : Nat) : Fld := ⟨(POS_GEOM2 u), 15, 0⟩
/-- Table 13-6. -/
def POS_GEOM.TOOTH_EDGE (u : Nat) : Fld := ⟨(POS_GEOM u), 11, 11⟩
/-- Table 13-6. -/
def POS_GEOM.TOOTH_GAPS (u : Nat) : Fld := ⟨(POS_GEOM u), 10, 9⟩
/-- Table 13-6. -/
def POS_GEOM.TOOTH_KIND (u : Nat) : Fld := ⟨(POS_GEOM u), 8, 8⟩
/-- Table 13-6. -/
def POS_GEOM.TOOTH_TEETH (u : Nat) : Fld := ⟨(POS_GEOM u), 7, 0⟩
/-- Table 13-6. -/
def POS_GEOM.SER_BITS (u : Nat) : Fld := ⟨(POS_GEOM u), 31, 27⟩
/-- Table 13-6. -/
def POS_GEOM.SER_LSB (u : Nat) : Fld := ⟨(POS_GEOM u), 20, 16⟩
/-- Table 13-6. -/
def POS_GEOM.SER_BYTES (u : Nat) : Fld := ⟨(POS_GEOM u), 15, 12⟩
/-- Table 13-6. -/
def POS_GEOM.SER_CMD (u : Nat) : Fld := ⟨(POS_GEOM u), 11, 4⟩
/-- Table 13-6. -/
def POS_GEOM.SER_SEL (u : Nat) : Fld := ⟨(POS_GEOM u), 3, 0⟩
/-- Table 13-6. -/
def POS_GEOM2.SER_LIMIT (u : Nat) : Fld := ⟨(POS_GEOM2 u), 31, 24⟩
/-- Table 13-6. -/
def POS_GEOM2.SER_POLY (u : Nat) : Fld := ⟨(POS_GEOM2 u), 23, 16⟩
/-- Table 13-6. -/
def POS_GEOM2.SER_POLL (u : Nat) : Fld := ⟨(POS_GEOM2 u), 15, 0⟩

end Sys2Proof.Machine
end

