-- ==== Sys2Proof/Machine/RegsSafe.lean ====
section
/-!
DEFINITION. The registers and fields of thermal management, safety functions and self-test (chapters 15, 16 and 21), each at the address and with the reset value of its table.
A reset the tables give as X or BS is 0 (DESIGN CHOICE, log entry 1).
-/
namespace Sys2Proof.Machine

/-- THERM_z_LEVELS (Table 15-4). -/
def THERM_LEVELS (z : Nat) : RegId := ⟨0x40000 + z * 0x20, 0x57804E2#32⟩
def THERM_LEVELS.THROTTLE (z : Nat) : Fld := ⟨(THERM_LEVELS z), 31, 16⟩
def THERM_LEVELS.WARNING (z : Nat) : Fld := ⟨(THERM_LEVELS z), 15, 0⟩
/-- THERM_z_SHUT (Table 15-4). -/
def THERM_SHUT (z : Nat) : RegId := ⟨0x40004 + z * 0x20, 0x640#32⟩
def THERM_SHUT.SHUTDOWN (z : Nat) : Fld := ⟨(THERM_SHUT z), 15, 0⟩
/-- THERM_z_HYST (Table 15-4). -/
def THERM_HYST (z : Nat) : RegId := ⟨0x40008 + z * 0x20, 0x643232#32⟩
def THERM_HYST.SHUT_HYST (z : Nat) : Fld := ⟨(THERM_HYST z), 23, 16⟩
def THERM_HYST.THR_HYST (z : Nat) : Fld := ⟨(THERM_HYST z), 15, 8⟩
def THERM_HYST.WARN_HYST (z : Nat) : Fld := ⟨(THERM_HYST z), 7, 0⟩
/-- THERM_z_DERATE (Table 15-4). -/
def THERM_DERATE (z : Nat) : RegId := ⟨0x4000C + z * 0x20, 0x7FFF4000#32⟩
def THERM_DERATE.F (z : Nat) : Fld := ⟨(THERM_DERATE z), 31, 16⟩
def THERM_DERATE.FLOOR (z : Nat) : Fld := ⟨(THERM_DERATE z), 15, 0⟩
/-- THERM_z_STATUS (Table 15-4). -/
def THERM_STATUS (z : Nat) : RegId := ⟨0x40010 + z * 0x20, 0x80000000#32⟩
def THERM_STATUS.TEMP (z : Nat) : Fld := ⟨(THERM_STATUS z), 31, 16⟩
def THERM_STATUS.BROKEN (z : Nat) : Fld := ⟨(THERM_STATUS z), 2, 2⟩
def THERM_STATUS.LEVEL (z : Nat) : Fld := ⟨(THERM_STATUS z), 1, 0⟩
/-- THERM_z_COUNT (Table 15-4). -/
def THERM_COUNT (z : Nat) : RegId := ⟨0x40014 + z * 0x20, 0x0#32⟩
def THERM_COUNT.THROTTLES (z : Nat) : Fld := ⟨(THERM_COUNT z), 31, 16⟩
def THERM_COUNT.WARNINGS (z : Nat) : Fld := ⟨(THERM_COUNT z), 15, 0⟩
/-- THERM_SENSOR_s (Table 15-4). -/
def THERM_SENSOR (s : Nat) : RegId := ⟨0x41000 + s * 0x4, 0x8000#32⟩
def THERM_SENSOR.BROKEN (s : Nat) : Fld := ⟨(THERM_SENSOR s), 16, 16⟩
def THERM_SENSOR.TEMP (s : Nat) : Fld := ⟨(THERM_SENSOR s), 15, 0⟩
/-- TEMP_n_CFG (Table 15-5). -/
def TEMP_CFG (n : Nat) : RegId := ⟨0x30003000 + n * 0x20, 0x3E8#32⟩
def TEMP_CFG.TYPE (n : Nat) : Fld := ⟨(TEMP_CFG n), 31, 30⟩
def TEMP_CFG.BIAS (n : Nat) : Fld := ⟨(TEMP_CFG n), 29, 29⟩
def TEMP_CFG.REACT (n : Nat) : Fld := ⟨(TEMP_CFG n), 28, 28⟩
def TEMP_CFG.R_NOM (n : Nat) : Fld := ⟨(TEMP_CFG n), 15, 0⟩
/-- TEMP_n_COEF (Table 15-5). -/
def TEMP_COEF (n : Nat) : RegId := ⟨0x30003004 + n * 0x20, 0xF82#32⟩
def TEMP_COEF.COEF (n : Nat) : Fld := ⟨(TEMP_COEF n), 15, 0⟩
/-- TEMP_n_LEVELS (Table 15-5). -/
def TEMP_LEVELS (n : Nat) : RegId := ⟨0x30003008 + n * 0x20, 0x2BC0258#32⟩
def TEMP_LEVELS.THROTTLE (n : Nat) : Fld := ⟨(TEMP_LEVELS n), 31, 16⟩
def TEMP_LEVELS.WARNING (n : Nat) : Fld := ⟨(TEMP_LEVELS n), 15, 0⟩
/-- TEMP_n_SHUT (Table 15-5). -/
def TEMP_SHUT (n : Nat) : RegId := ⟨0x3000300C + n * 0x20, 0x14000320#32⟩
def TEMP_SHUT.HYST (n : Nat) : Fld := ⟨(TEMP_SHUT n), 31, 24⟩
def TEMP_SHUT.SHUTDOWN (n : Nat) : Fld := ⟨(TEMP_SHUT n), 15, 0⟩
/-- TEMP_n_STATUS (Table 15-5). -/
def TEMP_STATUS (n : Nat) : RegId := ⟨0x30003010 + n * 0x20, 0x80000000#32⟩
def TEMP_STATUS.TEMP (n : Nat) : Fld := ⟨(TEMP_STATUS n), 31, 16⟩
def TEMP_STATUS.BROKEN (n : Nat) : Fld := ⟨(TEMP_STATUS n), 2, 2⟩
def TEMP_STATUS.LEVEL (n : Nat) : Fld := ⟨(TEMP_STATUS n), 1, 0⟩
/-- TEMP_n_RAW (Table 15-5). -/
def TEMP_RAW (n : Nat) : RegId := ⟨0x30003014 + n * 0x20, 0x0#32⟩
def TEMP_RAW.VOLTS (n : Nat) : Fld := ⟨(TEMP_RAW n), 15, 0⟩
/-- SAFE_PIN_CFG (Table 16-8). -/
def SAFE_PIN_CFG : RegId := ⟨0x30000, 0x1401FF#32⟩
def SAFE_PIN_CFG.DISC_MS : Fld := ⟨SAFE_PIN_CFG, 23, 16⟩
def SAFE_PIN_CFG.DISC_EN : Fld := ⟨SAFE_PIN_CFG, 8, 8⟩
def SAFE_PIN_CFG.B_REGIONS : Fld := ⟨SAFE_PIN_CFG, 7, 4⟩
def SAFE_PIN_CFG.A_REGIONS : Fld := ⟨SAFE_PIN_CFG, 3, 0⟩
/-- SAFE_PIN_STATUS (Table 16-8). -/
def SAFE_PIN_STATUS : RegId := ⟨0x30004, 0x0#32⟩
def SAFE_PIN_STATUS.REGION_HOLD : Fld := ⟨SAFE_PIN_STATUS, 15, 12⟩
def SAFE_PIN_STATUS.DISCREPANCY : Fld := ⟨SAFE_PIN_STATUS, 3, 3⟩
def SAFE_PIN_STATUS.SRESET_N : Fld := ⟨SAFE_PIN_STATUS, 2, 2⟩
def SAFE_PIN_STATUS.STO_B : Fld := ⟨SAFE_PIN_STATUS, 1, 1⟩
def SAFE_PIN_STATUS.STO_A : Fld := ⟨SAFE_PIN_STATUS, 0, 0⟩
/-- SAFE_RESET_CFG (Table 16-8). -/
def SAFE_RESET_CFG : RegId := ⟨0x30008, 0xFFFF#32⟩
def SAFE_RESET_CFG.PARTS : Fld := ⟨SAFE_RESET_CFG, 15, 0⟩
/-- SAFE_RESET_COUNT (Table 16-8). -/
def SAFE_RESET_COUNT : RegId := ⟨0x3000C, 0x0#32⟩
def SAFE_RESET_COUNT.REJECTED : Fld := ⟨SAFE_RESET_COUNT, 31, 16⟩
def SAFE_RESET_COUNT.ACCEPTED : Fld := ⟨SAFE_RESET_COUNT, 15, 0⟩
/-- SAFE_SCMP_CMD (Table 16-8). -/
def SAFE_SCMP_CMD : RegId := ⟨0x30010, 0xFFFFFFFF#32⟩
def SAFE_SCMP_CMD.CMD (m : Nat) : Fld := ⟨SAFE_SCMP_CMD, m * 2 + 1, m * 2⟩
/-- SAFE_p_CFG (Table 16-9). -/
def SAFE_CFG (p : Nat) : RegId := ⟨0x30100 + p * 0x40, 0x40041004#32⟩
def SAFE_CFG.BLIND (p : Nat) : Fld := ⟨(SAFE_CFG p), 31, 24⟩
def SAFE_CFG.COUNT (p : Nat) : Fld := ⟨(SAFE_CFG p), 23, 16⟩
def SAFE_CFG.WINDOW (p : Nat) : Fld := ⟨(SAFE_CFG p), 15, 8⟩
def SAFE_CFG.TM_UNIT (p : Nat) : Fld := ⟨(SAFE_CFG p), 7, 4⟩
def SAFE_CFG.BLIND_ACTION (p : Nat) : Fld := ⟨(SAFE_CFG p), 2, 2⟩
def SAFE_CFG.TM_EN (p : Nat) : Fld := ⟨(SAFE_CFG p), 1, 1⟩
def SAFE_CFG.AUTO_FIRST (p : Nat) : Fld := ⟨(SAFE_CFG p), 0, 0⟩
/-- SAFE_p_TM_TOL (Table 16-9). -/
def SAFE_TM_TOL (p : Nat) : RegId := ⟨0x30104 + p * 0x40, 0x1A0666#32⟩
def SAFE_TM_TOL.REL (p : Nat) : Fld := ⟨(SAFE_TM_TOL p), 23, 16⟩
def SAFE_TM_TOL.ABS (p : Nat) : Fld := ⟨(SAFE_TM_TOL p), 15, 0⟩
/-- SAFE_p_TM_KT (Table 16-9). -/
def SAFE_TM_KT (p : Nat) : RegId := ⟨0x30108 + p * 0x40, 0x0#32⟩
def SAFE_TM_KT.KS (p : Nat) : Fld := ⟨(SAFE_TM_KT p), 19, 16⟩
def SAFE_TM_KT.KT (p : Nat) : Fld := ⟨(SAFE_TM_KT p), 15, 0⟩
/-- SAFE_p_SS1 (Table 16-9). -/
def SAFE_SS1 (p : Nat) : RegId := ⟨0x3010C + p * 0x40, 0xC800C8#32⟩
def SAFE_SS1.DECEL (p : Nat) : Fld := ⟨(SAFE_SS1 p), 31, 16⟩
def SAFE_SS1.MARGIN (p : Nat) : Fld := ⟨(SAFE_SS1 p), 15, 0⟩
/-- SAFE_p_SS1_LIM (Table 16-9). -/
def SAFE_SS1_LIM (p : Nat) : RegId := ⟨0x30110 + p * 0x40, 0x200003E8#32⟩
def SAFE_SS1_LIM.TORQUE (p : Nat) : Fld := ⟨(SAFE_SS1_LIM p), 31, 16⟩
def SAFE_SS1_LIM.MAX_MS (p : Nat) : Fld := ⟨(SAFE_SS1_LIM p), 15, 0⟩
/-- SAFE_p_CMD (Table 16-9). -/
def SAFE_CMD (p : Nat) : RegId := ⟨0x30114 + p * 0x40, 0x0#32⟩
def SAFE_CMD.CMD (p : Nat) : Fld := ⟨(SAFE_CMD p), 1, 0⟩
/-- SAFE_p_STATUS (Table 16-9). -/
def SAFE_STATUS (p : Nat) : RegId := ⟨0x30118 + p * 0x40, 0x0#32⟩
def SAFE_STATUS.CAUSE (p : Nat) : Fld := ⟨(SAFE_STATUS p), 31, 16⟩
def SAFE_STATUS.SS1 (p : Nat) : Fld := ⟨(SAFE_STATUS p), 15, 8⟩
def SAFE_STATUS.STOPPED (p : Nat) : Fld := ⟨(SAFE_STATUS p), 7, 0⟩
/-- SAFE_p_DATA_COUNT (Table 16-9). -/
def SAFE_DATA_COUNT (p : Nat) : RegId := ⟨0x3011C + p * 0x40, 0x0#32⟩
def SAFE_DATA_COUNT.MISMATCH (p : Nat) : Fld := ⟨(SAFE_DATA_COUNT p), 31, 24⟩
def SAFE_DATA_COUNT.SINGLE (p : Nat) : Fld := ⟨(SAFE_DATA_COUNT p), 23, 16⟩
def SAFE_DATA_COUNT.REPEAT (p : Nat) : Fld := ⟨(SAFE_DATA_COUNT p), 15, 8⟩
def SAFE_DATA_COUNT.CRC (p : Nat) : Fld := ⟨(SAFE_DATA_COUNT p), 7, 0⟩
/-- SAFE_p_SS1_STATUS (Table 16-9). -/
def SAFE_SS1_STATUS (p : Nat) : RegId := ⟨0x30120 + p * 0x40, 0x0#32⟩
def SAFE_SS1_STATUS.ENVELOPE (p : Nat) : Fld := ⟨(SAFE_SS1_STATUS p), 31, 16⟩
def SAFE_SS1_STATUS.SPEED (p : Nat) : Fld := ⟨(SAFE_SS1_STATUS p), 15, 0⟩
/-- SAFE_TRIO_t_TM_CFG (Table 16-9). -/
def SAFE_TRIO_TM_CFG (t : Nat) : RegId := ⟨0x30600 + t * 0x8, 0x0#32⟩
def SAFE_TRIO_TM_CFG.ANGLE_OFS (t : Nat) : Fld := ⟨(SAFE_TRIO_TM_CFG t), 15, 0⟩
/-- SAFE_TRIO_t_TM_STATUS (Table 16-9). -/
def SAFE_TRIO_TM_STATUS (t : Nat) : RegId := ⟨0x30604 + t * 0x8, 0x0#32⟩
def SAFE_TRIO_TM_STATUS.LAST_DIFF (t : Nat) : Fld := ⟨(SAFE_TRIO_TM_STATUS t), 31, 16⟩
def SAFE_TRIO_TM_STATUS.FAILS (t : Nat) : Fld := ⟨(SAFE_TRIO_TM_STATUS t), 15, 8⟩
def SAFE_TRIO_TM_STATUS.EVALUATED (t : Nat) : Fld := ⟨(SAFE_TRIO_TM_STATUS t), 0, 0⟩
/-- ST_CFG (Table 21-5). -/
def ST_CFG : RegId := ⟨0x1200, 0x3200003#32⟩
def ST_CFG.INTERVAL : Fld := ⟨ST_CFG, 31, 16⟩
def ST_CFG.CAROUSEL_EN : Fld := ⟨ST_CFG, 1, 1⟩
def ST_CFG.SHUTDOWN_EN : Fld := ⟨ST_CFG, 0, 0⟩
/-- ST_RESULT (Table 21-5). -/
def ST_RESULT : RegId := ⟨0x1204, 0x0#32⟩
def ST_RESULT.FAILED_DIES : Fld := ⟨ST_RESULT, 23, 16⟩
def ST_RESULT.LAST_KIND : Fld := ⟨ST_RESULT, 7, 4⟩
def ST_RESULT.LAST_RESULT : Fld := ⟨ST_RESULT, 3, 0⟩
/-- ST_CAROUSEL (Table 21-5). -/
def ST_CAROUSEL : RegId := ⟨0x1208, 0x0#32⟩
def ST_CAROUSEL.ROTATIONS : Fld := ⟨ST_CAROUSEL, 31, 16⟩
def ST_CAROUSEL.DEFERRED : Fld := ⟨ST_CAROUSEL, 15, 8⟩
/-- ST_MEAS_STATUS (Table 21-5). -/
def ST_MEAS_STATUS : RegId := ⟨0x120C, 0xFFFF0000#32⟩
def ST_MEAS_STATUS.SPARE_FOR : Fld := ⟨ST_MEAS_STATUS, 31, 24⟩
def ST_MEAS_STATUS.UNDER_TEST : Fld := ⟨ST_MEAS_STATUS, 23, 16⟩
def ST_MEAS_STATUS.REF_DEV : Fld := ⟨ST_MEAS_STATUS, 15, 0⟩
/-- ST_LANE_k (Table 21-5). -/
def ST_LANE (k : Nat) : RegId := ⟨0x1220 + k * 0x4, 0x3FF0000#32⟩
def ST_LANE.LAST_RETIRED (k : Nat) : Fld := ⟨(ST_LANE k), 25, 16⟩
def ST_LANE.UNTESTED (k : Nat) : Fld := ⟨(ST_LANE k), 8, 8⟩
def ST_LANE.RETIRED (k : Nat) : Fld := ⟨(ST_LANE k), 4, 0⟩
/-- ST_SCRUB_COUNT (Table 21-5). -/
def ST_SCRUB_COUNT : RegId := ⟨0x1240, 0x0#32⟩
def ST_SCRUB_COUNT.UNCORRECTABLE : Fld := ⟨ST_SCRUB_COUNT, 31, 16⟩
def ST_SCRUB_COUNT.CORRECTED : Fld := ⟨ST_SCRUB_COUNT, 15, 0⟩

end Sys2Proof.Machine
end

