-- ==== Sys2Proof/Machine/RegsSeq.lean ====
section
/-!
DEFINITION. The registers and fields of the Ringmaster, the block sequencers, lockstep and debug (chapters 5 and 17), each at the address and with the reset value of its table.
A reset the tables give as X or BS is 0 (DESIGN CHOICE, log entry 1).
-/
namespace Sys2Proof.Machine

/-- RM_STATUS (Table 5-8). -/
def RM_STATUS : RegId := ⟨0x20000000, 0x0#32⟩
def RM_STATUS.STEP_IN_FRAME : Fld := ⟨RM_STATUS, 12, 0⟩
/-- RM_DEADLOCK (Table 5-8). -/
def RM_DEADLOCK : RegId := ⟨0x20000010, 0x0#32⟩
def RM_DEADLOCK.PART : Fld := ⟨RM_DEADLOCK, 15, 0⟩
/-- RM_WAIT_ALL (Table 5-8). -/
def RM_WAIT_ALL : RegId := ⟨0x20000014, 0x0#32⟩
def RM_WAIT_ALL.PART : Fld := ⟨RM_WAIT_ALL, 15, 0⟩
/-- RM_COMMIT_COUNT_p (Table 5-8). -/
def RM_COMMIT_COUNT (p : Nat) : RegId := ⟨0x20000020 + p * 0x4, 0x0#32⟩
def RM_COMMIT_COUNT.COUNT (p : Nat) : Fld := ⟨(RM_COMMIT_COUNT p), 31, 0⟩
/-- RM_LANE_FINISH_k (Table 5-8). -/
def RM_LANE_FINISH (k : Nat) : RegId := ⟨0x20000080 + k * 0x4, 0x0#32⟩
def RM_LANE_FINISH.WORST (k : Nat) : Fld := ⟨(RM_LANE_FINISH k), 25, 16⟩
def RM_LANE_FINISH.LAST (k : Nat) : Fld := ⟨(RM_LANE_FINISH k), 9, 0⟩
/-- BLK_k_SEQ_CTRL (Table 5-9). -/
def BLK_SEQ_CTRL (k : Nat) : RegId := ⟨0x20010000 + k * 0x1000, 0x0#32⟩
def BLK_SEQ_CTRL.STOP (k : Nat) : Fld := ⟨(BLK_SEQ_CTRL k), 15, 8⟩
def BLK_SEQ_CTRL.START (k : Nat) : Fld := ⟨(BLK_SEQ_CTRL k), 7, 0⟩
/-- BLK_k_SEQ_STATE (Table 5-9). -/
def BLK_SEQ_STATE (k : Nat) : RegId := ⟨0x20010004 + k * 0x1000, 0x0#32⟩
def BLK_SEQ_STATE.THREAD (k t : Nat) : Fld := ⟨(BLK_SEQ_STATE k), t * 4 + 3, t * 4⟩
/-- BLK_k_SEQ_FLAGS (Table 5-9). -/
def BLK_SEQ_FLAGS (k : Nat) : RegId := ⟨0x20010008 + k * 0x1000, 0x0#32⟩
def BLK_SEQ_FLAGS.FLAG (k : Nat) : Fld := ⟨(BLK_SEQ_FLAGS k), 31, 0⟩
/-- BLK_k_SEQ_FLAGS_CLR (Table 5-9). -/
def BLK_SEQ_FLAGS_CLR (k : Nat) : RegId := ⟨0x2001000C + k * 0x1000, 0x0#32⟩
def BLK_SEQ_FLAGS_CLR.FLAG (k : Nat) : Fld := ⟨(BLK_SEQ_FLAGS_CLR k), 31, 0⟩
/-- BLK_k_SEQ_COMMIT (Table 5-9). -/
def BLK_SEQ_COMMIT (k : Nat) : RegId := ⟨0x20010010 + k * 0x1000, 0x0#32⟩
def BLK_SEQ_COMMIT.COMMIT (k : Nat) : Fld := ⟨(BLK_SEQ_COMMIT k), 0, 0⟩
/-- BLK_k_SEQ_FAULT (Table 5-9). -/
def BLK_SEQ_FAULT (k : Nat) : RegId := ⟨0x20010014 + k * 0x1000, 0x0#32⟩
def BLK_SEQ_FAULT.CODE (k : Nat) : Fld := ⟨(BLK_SEQ_FAULT k), 31, 16⟩
def BLK_SEQ_FAULT.THREAD (k : Nat) : Fld := ⟨(BLK_SEQ_FAULT k), 2, 0⟩
/-- BLK_k_SEQ_FAULT_PC (Table 5-9). -/
def BLK_SEQ_FAULT_PC (k : Nat) : RegId := ⟨0x20010018 + k * 0x1000, 0x0#32⟩
def BLK_SEQ_FAULT_PC.PC (k : Nat) : Fld := ⟨(BLK_SEQ_FAULT_PC k), 31, 0⟩
/-- BLK_k_SEQ_PC_t (Table 5-9). -/
def BLK_SEQ_PC (k t : Nat) : RegId := ⟨0x20010020 + k * 0x1000 + t * 0x4, 0x0#32⟩
def BLK_SEQ_PC.PC (k t : Nat) : Fld := ⟨(BLK_SEQ_PC k t), 31, 0⟩
/-- BLK_k_SEQ_EVENT_SEL_t (Table 5-9). -/
def BLK_SEQ_EVENT_SEL (k t : Nat) : RegId := ⟨0x20010040 + k * 0x1000 + t * 0x4, 0x0#32⟩
def BLK_SEQ_EVENT_SEL.REENTRY (k t : Nat) : Fld := ⟨(BLK_SEQ_EVENT_SEL k t), 14, 14⟩
def BLK_SEQ_EVENT_SEL.MEAS_RESULT (k t : Nat) : Fld := ⟨(BLK_SEQ_EVENT_SEL k t), 13, 13⟩
def BLK_SEQ_EVENT_SEL.NEW_DATA (k t : Nat) : Fld := ⟨(BLK_SEQ_EVENT_SEL k t), 12, 12⟩
def BLK_SEQ_EVENT_SEL.TRIP (k t : Nat) : Fld := ⟨(BLK_SEQ_EVENT_SEL k t), 11, 6⟩
def BLK_SEQ_EVENT_SEL.CELL_FAULT (k t : Nat) : Fld := ⟨(BLK_SEQ_EVENT_SEL k t), 5, 0⟩
/-- LS_STATUS (Table 17-5). -/
def LS_STATUS : RegId := ⟨0x20020000, 0x3F3F00#32⟩
def LS_STATUS.CHIP_GROUP : Fld := ⟨LS_STATUS, 21, 16⟩
def LS_STATUS.FAILED_GROUP : Fld := ⟨LS_STATUS, 13, 8⟩
def LS_STATUS.SELFTEST : Fld := ⟨LS_STATUS, 1, 0⟩
/-- LS_BLOCK_k (Table 17-5). -/
def LS_BLOCK (k : Nat) : RegId := ⟨0x20020100 + k * 0x8, 0x3FF#32⟩
def LS_BLOCK.GROUP (k : Nat) : Fld := ⟨(LS_BLOCK k), 25, 24⟩
def LS_BLOCK.LANE (k : Nat) : Fld := ⟨(LS_BLOCK k), 9, 0⟩
/-- LS_BLOCK_k_STEP (Table 17-5). -/
def LS_BLOCK_STEP (k : Nat) : RegId := ⟨0x20020104 + k * 0x8, 0x0#32⟩
def LS_BLOCK_STEP.STEP (k : Nat) : Fld := ⟨(LS_BLOCK_STEP k), 31, 0⟩
/-- DBG_SESSION (Table 17-5). -/
def DBG_SESSION : RegId := ⟨0x20020200, 0x0#32⟩
def DBG_SESSION.SCOPE : Fld := ⟨DBG_SESSION, 7, 4⟩
def DBG_SESSION.STATE : Fld := ⟨DBG_SESSION, 2, 0⟩
/-- DBG_HALT (Table 17-5). -/
def DBG_HALT : RegId := ⟨0x20020204, 0x0#32⟩
def DBG_HALT.FROZEN : Fld := ⟨DBG_HALT, 15, 8⟩
def DBG_HALT.HALTED : Fld := ⟨DBG_HALT, 7, 0⟩
/-- DBG_COUNT (Table 17-5). -/
def DBG_COUNT : RegId := ⟨0x20020208, 0x0#32⟩
def DBG_COUNT.AUTH_FAIL : Fld := ⟨DBG_COUNT, 31, 16⟩
def DBG_COUNT.ACCESSES : Fld := ⟨DBG_COUNT, 15, 0⟩
/-- BLK_k_SEQ_DBG_t_G_g (Table 17-5). -/
def BLK_SEQ_DBG_G (k t g : Nat) : RegId := ⟨0x20010800 + k * 0x1000 + t * 0x40 + g * 0x4, 0x0#32⟩
def BLK_SEQ_DBG_G.VALUE (k t g : Nat) : Fld := ⟨(BLK_SEQ_DBG_G k t g), 31, 0⟩

end Sys2Proof.Machine
end

