-- ==== Sys2Proof/Machine/State.lean ====
section
/-!
DEFINITION. The state of the block as plain data: every register (by address), every byte of addressed memory, the hidden
state of every unit that the spec's rules keep between events, and the queue of waiting commands.
-/
namespace Sys2Proof.Machine

/-- The status codes of Table 0-5 (R11). -/
inductive Status where
  | ok | busy | owner | fenced | auth | range | tempBlocked | halfCleared | notReady | staleEpoch | locked
  deriving DecidableEq, Repr

/-- The code of a status (Table 0-5). -/
def Status.code : Status → Nat
  | .ok => 0x00 | .busy => 0x01 | .owner => 0x02 | .fenced => 0x03 | .auth => 0x04 | .range => 0x05
  | .tempBlocked => 0x06 | .halfCleared => 0x07 | .notReady => 0x08 | .staleEpoch => 0x09 | .locked => 0x0A

/-- Where the part stands between power-off and service (chapter 2). `starting`: a start runs its stages; `running`: in
operation; the shutdown stages follow R66; `powerFail`: power-fail handling (R69). -/
inductive PowerPhase where
  | off | standby | waitSupply | waitPll | starting | running
  | shutPending | shutStopping | shutDischarge | shutTest | shutDone | powerFail
  deriving DecidableEq, Repr

/-- One recorded fault code with its timestamp (R14, R35). -/
structure FaultRec where
  code  : Nat
  step  : Nat
  phase : Nat
  deriving DecidableEq, Repr

-- ## The configuration a bitstream carries (chapter 3)

/-- A CAN_CHANNEL record (Table 3-5). -/
structure CanChan where
  nom : Nat := 0
  data : Nat := 0
  cycles : Nat := 1
  columns : Nat := 1
  columnBits : Nat := 160
  latchColumn : Nat := 0
  flags : Nat := 0
  deriving DecidableEq, Repr

/-- A PART_ENTRY (Table 3-6). -/
structure PartEntry where
  kind : Nat := 0
  blocks : Nat := 0
  keepBase : Nat := 0
  keepSectors : Nat := 0
  msgFirst : Nat := 0
  msgCount : Nat := 0
  measGrant : Nat := 0
  tempGrant : Nat := 0
  key : List Byte := []
  deriving DecidableEq, Repr

/-- PLATFORM content (Table 3-4). -/
structure Platform where
  frameSteps : Nat := 16
  wakeCfg : Word := 0
  shutdownCfg : Word := 0
  chans : List CanChan := []
  entries : List PartEntry := []
  deriving DecidableEq, Repr

/-- PARTITION content (Table 3-7). -/
structure PartSec where
  part : Nat := 0
  reaction : Nat := 0
  blocks : Nat := 0
  flags : Nat := 0
  depth : Nat := 1
  refill : Nat := 1
  epochPolicy : Nat := 0
  recKib : Nat := 0
  measClaim : Nat := 0
  tempClaim : Nat := 0
  msgFirst : Nat := 0
  msgCount : Nat := 0
  keepBase : Nat := 0
  keepSectors : Nat := 0
  floor : Nat := 0
  deriving DecidableEq, Repr

/-- A WRITER record (Table 3-9). -/
structure Writer where
  input : Nat
  kind : Nat
  source : Nat
  deriving DecidableEq, Repr

/-- BLOCK content (Table 3-8): each trio is its three local cells and the reversal flag. -/
structure BlockSec where
  block : Nat := 0
  mode : Nat := 0
  horizon : Nat := 0
  trioCount : Nat := 0
  trios : List (List Nat) := []
  writers : List Writer := []
  lanes : List Word := []
  deriving DecidableEq, Repr

/-- A LAW record (Table 3-11); coefficients as 16-bit codes. -/
structure LawRec where
  id : Nat := 0
  kind : Nat := 0
  lane : Nat := 0
  b : List Nat := []
  a : List Nat := []
  outMax : Nat := 0
  outMin : Nat := 0
  deriving DecidableEq, Repr

/-- TABLE content (Table 3-12): the bytes of a SWITCHING table, or the Q15 codes of the others. -/
structure TableSec where
  subtype : Nat
  item : Nat
  data : List Nat
  deriving DecidableEq, Repr

/-- SEQ content (Table 3-13). -/
structure SeqSec where
  block : Nat := 0
  start : List Nat := []
  enable : Nat := 0
  code : List Word := []
  deriving DecidableEq, Repr

/-- An object record (Table 3-14). -/
structure ObjRec where
  obj : Nat := 0
  chan : Nat := 0
  flags : Nat := 0
  ident : Nat := 0
  bytes : Nat := 0
  stale : Nat := 0
  pair : Nat := 0
  window : Nat := 0
  deriving DecidableEq, Repr

/-- A slot record (Table 3-15). -/
structure SlotRec where
  chan : Nat
  cycle : Nat
  column : Nat
  kind : Nat
  obj : Nat
  deriving DecidableEq, Repr

/-- One owner's accepted set of sections. -/
structure PSet where
  version : Nat := 0
  setId : Nat := 0
  part : PartSec := {}
  blocks : List BlockSec := []
  images : List (Nat × Word) := []
  laws : List (Nat × List LawRec) := []
  tables : List TableSec := []
  seqs : List SeqSec := []
  objs : List ObjRec := []
  slots : List SlotRec := []
  deriving DecidableEq, Repr

-- ## Hidden state of the units

/-- A value of a sequencer's stalled access (R140). -/
inductive Stall where
  | none
  | load (d : Nat) (addr : Nat)
  | store (addr : Nat) (value : Word)
  | pace (n target rate : Nat)
  | fetch (addr : Nat)
  deriving DecidableEq, Repr

/-- A thread (R141, R151, R160): the return stack, a fetched word, the WAIT in force, the stalled access,
and a STOP that waits for the instruction boundary. G_0 to G_15, PC and the state code are registers. -/
structure Thread where
  stack : List Nat := []
  fetched : Option Word := none
  mask : Nat := 0
  sources : Nat := 0
  timeout : Nat := 0
  fired : Nat := 0
  stall : Stall := .none
  stopReq : Bool := false
  deriving DecidableEq, Repr

/-- The active copy of the seven shadowed PWM registers (R208), in register order. -/
structure PwmSet where
  cfg : Word := 0x2820#32
  hsOn : Nat := 0
  hsOff : Nat := 0
  lsOn : Nat := 0
  lsOff : Nat := 0
  dead : Word := 0x02000200#32
  minPulse : Nat := 0x0A0
  deriving DecidableEq, Repr

/-- A switch of a cell: its gate-drive edge in progress and its PWM commands. -/
structure SwitchSt where
  profile : Word := 0          -- profile of the edge in progress (R168)
  dvdt : Word := 0
  waiting : Bool := false      -- a turn-on waits for confirmation (R169)
  low : Bool := true           -- the gate reads below 1.0 V without a break since the end of the dead time
  blank : Bool := false        -- short-circuit blanking (R177)
  raw : Bool := false          -- raw command (R201)
  rawAt : Nat := 0             -- tick of the last raw turn-on
  softWeak : Bool := false     -- the soft turn-off began in the weak phase, whose timeout still counts (Table 6-5)
  deadWait : Bool := false     -- an on command waits for its dead time (R205)
  minHold : Bool := false      -- MIN_PULSE has not expired (R206)
  extended : Bool := false     -- an off command waits for MIN_PULSE
  deriving DecidableEq, Repr

/-- How the cell's held switches are forced. -/
inductive Hold where
  | none | terminal | bothOff | frozen
  deriving DecidableEq, Repr

/-- A cell's leg-die state that no register shows. -/
structure Cell where
  fenced : Bool := false       -- cell-level fence
  fencedAt : Nat := 0          -- step in which it was set (R22)
  restSafe : Bool := false     -- a warm restart holds it in its safe state until its partition activates (R65)
  safeLow : Bool := false      -- the leg die's safe-state setting: the terminal state holds the low side on (R23)
  forcedOff : Nat := 0         -- switches that stay off until the fence state is applied (R176, Table 6-5): bit 0 high side, 1 low side
  preCharge : Nat := 0         -- a test that waits for the bootstrap supply (R172): 0 none, else as `diagFor`
  shortHold : Bool := false    -- both switches off after SHORT_IN_ACTIVE_SHORT (R180)
  testing : Bool := false      -- a test holds both switches off (R180)
  hold : Hold := .none
  repeated : Bool := false     -- its command slot was discarded in the previous step (R28)
  slotLost : Bool := false     -- its command slot was discarded in this step
  hs : SwitchSt := {}
  ls : SwitchSt := {}
  active : PwmSet := {}
  captured : Option PwmSet := none
  pendingSet : Bool := false   -- the captured set became pending at a boundary (R209)
  running : Bool := false      -- the carrier runs (R199)
  startTick : Nat := 0         -- tick of the last period start, counted from step 0
  wantStart : Bool := false    -- a start event waits for its aligned boundary
  startFrom : Nat := 0         -- first step boundary at which it may start
  capNew : Option PwmSet := none  -- set captured by the COMMIT of this step, until its record arrives
  dutyIn : Option Nat := none  -- lane duty received in this step
  duty : Nat := 0              -- lane duty in force (Q15 code)
  dutyNew : Option Nat := none
  vectorNew : Nat := 0         -- vector state received, in force from the next boundary
  outCmd : Nat := 0            -- command outputs sent with the last program: duty, vector state, thresholds
  outVec : Nat := 0
  thrA : Nat := 32767          -- lane thresholds received (Q15 codes)
  thrB : Nat := 32767
  thrNewA : Option Nat := none -- and those of this step, in force from the next boundary (R239)
  thrNewB : Option Nat := none
  outThrA : Nat := 32767
  outThrB : Nat := 32767
  levelA : Bool := false       -- the comparator's signal is past its threshold
  levelB : Bool := false
  baseA : Nat := 0x3FF         -- base threshold in force (R239, R240)
  baseB : Nat := 0x3FF
  rampA : Nat := 0             -- step of the last ramp start
  rampB : Nat := 0
  freezeOff : Nat := 0         -- switches a trip turned off during a freeze (R220): bit 0 high side, bit 1 low side
  disRaised : Bool := false    -- CURRENT_DISAGREE raised since the count was last cleared
  satRaised : Bool := false    -- SHUNT_SATURATED raised since the count was last cleared
  onHs : Option Nat := none    -- tick since which the effective command of a switch is on (R230)
  onLs : Option Nat := none
  spans : List (Switch × Nat × Nat) := []      -- times on that ended in this step
  spansPrev : List (Switch × Nat × Nat) := []  -- times on of the previous step
  raw0 : List Int := []        -- conversions of the last latch, for capture
  raw1 : List Int := []
  aux : Nat := 0x8000          -- last auxiliary average
  auxAt : Option Nat := none   -- step in which SAR_1's secondary positions are lent to self-test
  maskNow : Nat := 0x55555555  -- SAR masks in force (R227)
  maskPrev : Nat := 0x55555555 -- SAR masks of the previous step
  compEnd : Nat := 0           -- comparator levels at the end of the previous step
  diagStage : Nat := 0         -- Table 6-3: 0 none, 1 pre-check, 2 S1, 3 S2, 4 S3, 5 SC, 6 A, 7 B
  diagHigh : List Nat := []
  diagLow : List Nat := []
  diagPairs : List Nat := []
  diagRotating : Bool := false
  diagVdc : Nat := 0
  diagFor : Nat := 0           -- 0 RUN, 1 start or reload, 2 re-entry, 3 region return
  psi : Int := 0               -- flux estimate Ψ (chapter 11)
  residCount : Nat := 0
  residDone : Bool := false
  est : Nat := 0               -- flux state in the broadcast
  retWait : Bool := false      -- return checks passed, waiting for the frame boundary (R355)
  lastCmd : Nat := 0           -- COMMAND of the previous latch (chapter 14)
  chanRes : Option (Nat × Nat × Nat × Bool) := none  -- window result, and the step whose latch takes it (R401)
  restartReq : Bool := false   -- RESTART written
  iCp : Nat := 0               -- power current I_CP (R403)
  phaseStart : Option Nat := none  -- step of the last phase entry
  protHigh : Nat := 0          -- consecutive steps above V_MAX, below V_MIN and without a value (R407)
  protLow : Nat := 0
  protLost : Nat := 0
  chgRefused : Bool := false   -- temperature refusals (R405)
  disRefused : Bool := false
  fastV : Nat := 0x8000        -- fast cell voltage of the last latch (R397)
  accLast : Option Nat := none -- time of the last window end, in CLK_FAB cycles
  accClear : Bool := false     -- ACC_CLEAR waits for the next window end
  lastV : Int := 0             -- k_V and k_I of the last window with VALID and without CM_FAULT (R410)
  lastI : Int := 0
  deriving DecidableEq, Repr

/-- The shadowed torque-control registers of a block: CORR, BAND, VETO and KT of its two trios, GV and GR of its six
cells (R330). -/
structure TorqueSet where
  corr : Word := 0
  band : List Word := []
  veto : List Word := []
  kt : List Word := []
  gv : List Nat := []
  gr : List Nat := []
  deriving DecidableEq, Repr

/-- A block's hidden state: its section, its sequencer's round-robin place, the place in its lane program and the
state of its injector and capture unit, of its safety stop and of its lane slices. -/
structure Block where
  sec : Option BlockSec := none
  seq : Option SeqSec := none
  lastThread : Nat := 7
  fencedAt : Nat := 0          -- step in which its block fence was set (R22)
  hurdleOpen : Nat := 0        -- bit h: the window of Hurdle channel h is open (R213)
  lanePc : Nat := 0
  laneRuns : Bool := false
  inSafe : Nat := 3            -- safety command of input 120 in force
  safeIns : List Nat := [3, 3, 3, 3, 3, 3, 3, 3]
  acting : Nat := 3            -- command that takes effect at the next boundary
  release : Bool := false      -- released at the next frame boundary (R436)
  ss1On : Bool := false
  ss1Start : Nat := 0
  ss1Speed : Nat := 0
  ss1Wide : Bool := false      -- SS1 of a reaction: its scope is every block of the partition
  stopEnd : Bool := false      -- SS1 ends at the next boundary
  stopCause : Nat := 0
  haltReq : Bool := false
  freezeReq : Bool := false
  resumeReq : Bool := false
  stepReq : Bool := false
  stepping : Bool := false
  sigs : List (Nat × Nat) := []     -- signal values of the running program (0x8000 not listed)
  sigEnd : List (Nat × Nat) := []   -- signal values at the end of the last program
  sigLatch : List (Nat × Nat) := [] -- and at the latest sample latch (R294)
  injPhase : Nat := 0          -- phase P (R298)
  injLfsr : Nat := 0x7FFF
  injCount : Nat := 0          -- steps since START
  injHold : Nat := 0           -- carries of the entry in use
  injX : Int := 0              -- x of the present step
  injArm : Bool := false       -- START takes effect at the next boundary
  injStop : Bool := false      -- x is 0 from the next step
  injDone : Bool := false      -- the waveform has reached its end
  injStart : Nat := 0          -- step in which the injector last started, plus 1
  capFrom : Nat := 0           -- first step in which the capture unit acts
  capSlot : Nat := 0           -- slot of the next point
  capDecim : Nat := 0          -- steps until the next point
  capHave : Nat := 0           -- points stored: before the trigger all, after it those of the record
  capFlags : Nat := 0          -- event flags at the opening boundary
  torque : TorqueSet := {}     -- torque-control registers in force
  torqueCap : Option TorqueSet := none  -- and those captured by a COMMIT
  angleMissing : Nat := 0      -- steps without an angle, the running one included (R315, R330)
  posSnap : List (Nat × Nat) := []  -- position signals at the opening boundary (0x8000 not listed)
  retired : List Nat := []
  underTest : Option Nat := none
  laneDue : Option Nat := none -- a lane slice that came due during a halt (Table 21-4)
  deriving DecidableEq, Repr

/-- A compensator law's hidden state: the coefficients and limits in force (R292) and its history (chapter 10). -/
structure Law where
  recd : LawRec := {}
  present : Bool := false
  e : List Int := [0, 0, 0]
  u : List Int := [0, 0, 0]
  clear : Bool := false
  captured : Option LawRec := none   -- set captured by a COMMIT, used from the next step (R292)
  deriving DecidableEq, Repr

/-- A Pacer ramp (R294, R295). -/
structure Pacer where
  running : Bool := false
  value : Int := 0
  target : Int := 0
  rate : Int := 0
  since : Nat := 0             -- step in which its PACE completed
  deriving DecidableEq, Repr

/-- A partition's hidden state. -/
structure Part where
  entry : PartEntry := {}      -- PLATFORM entry in force
  cfg : Option PSet := none    -- set in force, or being armed
  map : Option PartSec := none -- its claims in the ownership map (R102)
  arming : Bool := false
  commitReq : Bool := false
  reaction : Bool := false     -- a partition-cause reaction holds its cells until a reload
  reacting : Bool := false     -- the declared reaction has begun and not yet reached its terminal state
  deadlock : Bool := false
  starting : Bool := false     -- activated; its threads and cells start at the next frame boundary
  nextEpoch : Nat := 0         -- epoch of its next activation, once a set is being armed (R115); 0 none
  src : List (Nat × Nat) := [] -- commands held by host, thread and pair sources (R430)
  key : Option (List Byte) := none
  newKey : Option (List Byte) := none
  hsStarts : List Nat := []    -- steps of the accepted STARTs of the last second (Table 4-4)
  hsSecret : Nat := 0          -- number of the device's ephemeral secret in the handshake (R126)
  ramp : Bool := false         -- a share ramp runs (R356)
  rampFrom : List Nat := []
  rampTo : List Nat := []
  rampF : Nat := 0
  rampN : List Nat := []       -- frames of each trio's ramp
  rampCells : List (Nat × Nat) := []  -- cells that re-enter, each with its RAMP_FRAMES
  lastFenced : List Nat := []  -- cells fenced at the last frame boundary
  deriving DecidableEq, Repr

/-- A fault entry of a recorder (Table 20-2). -/
structure RecEntry where
  code : Nat
  count : Nat := 0
  suppressed : Nat := 0
  last : Nat := 0
  inSecond : Nat := 0
  deriving DecidableEq, Repr

/-- A histogram of a recorder (R553, R554), accumulated in D7's own memory. -/
structure Hist where
  source : Nat := 0
  lo : Nat := 0
  width : Nat := 1
  invalid : Nat := 0
  bins : List (Nat × Nat) := []
  seen : Bool := false
  minV : Int := 0
  maxV : Int := 0
  minS : Nat := 0
  minC : Nat := 0
  maxS : Nat := 0
  maxC : Nat := 0
  deriving DecidableEq, Repr

/-- What D7 accumulates for a partition's recorder (R556). -/
structure Recorder where
  base : Nat := 0              -- address of its area plus 1; 0 while D7 holds nothing of it
  seq : Nat := 0
  torn : Bool := false
  deferred : Bool := false
  overflow : Nat := 0
  createdS : Nat := 0
  createdC : Nat := 0
  entries : List RecEntry := []
  hists : List Hist := [{}, {}, {}, {}]
  deriving DecidableEq, Repr

/-- A region's hidden state: the causes that hold its fence and those that have cleared, the command watchdog's run of
matching records, supplies, the STO hold and the link counters. -/
structure Region where
  fencedAt : Nat := 0          -- step of its last region fence (R22)
  causes : List Nat := []
  cleared : List Nat := []
  matching : Nat := 0          -- consecutive steps with matching records from D0 and D1
  matchAt : Nat := 0           -- the last of them
  sampleLost : Nat := 0        -- sample slots 0 to 3 discarded in this step
  sto : Bool := false
  compSlice : Nat := 0         -- comparator and cell of the next Carousel slices
  compBusy : Bool := false
  sarSlice : Nat := 0
  armed : Bool := false
  deriving DecidableEq, Repr

/-- A die's hidden state. -/
structure Die where
  clockBad : Bool := false
  retries : Nat := 0           -- failed retries of the exchange of R120
  retrying : Bool := false     -- an exchange has failed and is being retried
  bad0 : Nat := 0              -- consecutive steps without a good slot on the D0 link
  bad1 : Nat := 0
  good0 : Bool := false        -- a good slot arrived on the D0 link in this step
  good1 : Bool := false
  lost : Bool := false         -- a command slot of one cell was discarded in two consecutive steps (R28)
  hot : Bool := false          -- zone 5 at shutdown (die 6)
  readLost : Bool := false     -- D6's reading slot was discarded in this step (R237)
  deriving DecidableEq, Repr

/-- A candidate vector of the veto (R322 to R325). -/
structure Cand where
  code : Nat
  vetoed : Bool := false
  excess : Int := 0            -- largest x_u(h) − x_u(0)
  err : Nat := 0               -- |e_T(H)|
  trans : Nat := 0             -- transitions from the previous applied code
  deriving DecidableEq, Repr

/-- A trio's hidden state (chapters 11, 12 and 16). -/
structure Trio where
  selNow : Word := 0x140#32    -- torque-control states live in the running step, laid out as BLK_k_TRIO_t_STATE (R330)
  vetoes : Nat := 0            -- and its counts
  allVetoed : Nat := 0
  heldSteps : Nat := 0
  tref : Nat := 0x8000         -- T*e of the last SELECT
  thetas : List Int := []      -- flux angles of the last 65 steps, newest first, 2^48 to the turn
  cands : List Cand := []      -- candidates of this step's VETO
  vetoRan : Bool := false
  observed : List Nat := []    -- fenced cells seen at the last latch
  timer : Nat := 0             -- steps in the motion state
  nextMotion : Option Nat := none
  runDir : Int := 1            -- direction of the start
  coastRest : Bool := false    -- a new start waits until at rest (R358)
  thenAlign : Bool := false    -- COAST for one step, then ALIGN (Table 12-2)
  noRun : Bool := false        -- an orderly shutdown ignores RUN (R333)
  side : List Nat := [0, 0, 0] -- last registered side of each phase: 0 none, 1 above, 2 below
  crosses : List (Nat × Nat) := []  -- phase and step of the last crossings, newest first
  dir : Int := 0               -- established direction
  lost : Bool := false         -- the signal of SPEED_SRC 2 is invalid
  two : Bool := false          -- the tracker watches two phases
  emaxNow : Nat := 0           -- largest line-to-line magnitude since the last crossing
  emax : List Nat := []        -- and of the last intervals, newest first
  commStep : Nat := 0          -- step at which the commutation state began
  cPrev : Option Nat := none   -- step of the last accepted crossing
  lookFrom : Nat := 0
  crossed : Bool := false      -- a crossing registered in this state
  nextComm : Option Nat := none
  missRun : Nat := 0
  agree : Nat := 0             -- consecutive accepted crossings in OPEN_LOOP
  olI : Nat := 0               -- forced interval
  olNext : Nat := 0
  olCount : Nat := 0           -- forced commutations at OL_END
  interval : Nat := 0          -- I
  duty : Int := 0              -- applied duty
  catching : Bool := false
  catchBack : Bool := false    -- a catch against RUN (Table 12-2)
  tmSteps : Nat := 0           -- torque monitor: steps of the window, those with T_m, sums
  tmN : Nat := 0
  tmT : Int := 0
  tmE : Int := 0
  tmDue : Bool := false        -- a window is complete
  blind : Nat := 0
  blindDone : Bool := false
  deriving DecidableEq, Repr

/-- A precision converter's hidden state (chapter 9). -/
structure Conv where
  run : Nat := 0               -- mode of the run in progress (0 none)
  cal : Bool := false          -- what waits for its start is a calibration
  calPend : Bool := false      -- a calibration begins at the end of the current window
  calResume : Nat := 0         -- mode to restart with after a calibration
  calRange : Nat := 0
  frameSeen : Bool := false    -- a frame boundary followed the start
  stopping : Bool := false     -- goes idle after its window
  restart : Bool := false      -- a reference change restarts it after its window
  isOpen : Bool := false       -- a window is open
  cfgUse : Word := 0           -- configuration its window started with (R255)
  entryUse : Word := 0         -- entry its window started with
  entry : Nat := 0
  seq : Nat := 0
  gapNext : Bool := true       -- the next window does not abut a previous one
  gap : Bool := false          -- the open window does not
  refBad : Bool := false       -- reference not settled during the window
  refFault : Bool := false     -- REFIN excursion during the window
  entriesUse : Nat := 0        -- ENTRIES of its pass (R266)
  backNext : Bool := false     -- it is handed back at the end of the window in progress (R574)
  bySpare : Bool := false      -- the spare converter measures in its place (R574)
  spareNext : Bool := false    -- and takes over at the end of the window in progress
  held : Nat := 0              -- STOP and CAL written during a converter test (R576)
  failed : Bool := false       -- failed its test while the spare stands for another (R574)
  deriving DecidableEq, Repr

/-- A D6 capture area's hidden state. -/
structure CapArea where
  owner : Nat := 16
  deriving DecidableEq, Repr

/-- A position unit's hidden state (chapter 13). Times are in CLK_FAB cycles from step 0; positions are unwrapped counts
(REV × 65,536 + ANGLE). -/
structure PosUnit where
  valid : Bool := false
  synced : Bool := false
  extrap : Bool := false
  hallBad : Bool := false
  hallOut : Bool := false      -- that code has persisted for HALL_INV_STEPS
  homed : Bool := false
  broken : Bool := false
  count : Int := 0             -- encoder count
  level : Nat := 0             -- input levels (encoder) or code (Hall) seen last
  sector : Nat := 0
  dir : Int := 0               -- direction of the last sector change
  pos : Int := 0               -- position at `posAt`, in 2^-32 counts
  posAt : Nat := 0
  num : Int := 0               -- rate in counts per cycle: num / den
  den : Nat := 1
  lim : Option Int := none     -- a count the position does not pass (R373)
  edges : List (Nat × Int) := []   -- accepted edges or good frames, newest first: time, and count or position
  t12 : Nat := 0               -- tooth interval T in 1/12 cycles
  found : Bool := false        -- a search has found tooth 0 and waits for the next edge
  tooth : Nat := 0             -- edge of the wheel that passed last
  toothAt : Nat := 0           -- and its time, in 1/24 cycles
  late : Option Nat := none    -- time of the late edge of that tooth
  missed : Bool := false       -- that tooth was extrapolated
  estAng : Int := 0            -- angle of the tooth expected after the last accepted edge
  lastEdge : Nat := 0          -- time of the last accepted edge or good frame
  seen : Nat := 0              -- accepted edges or good frames since it became valid, to 2
  invSince : Nat := 0          -- step in which HALL_INVALID set
  errRun : Nat := 0            -- consecutive failures of a SERIAL unit
  pollAt : Nat := 0            -- step of its next poll
  polling : Bool := false      -- a poll is not complete
  deriving DecidableEq, Repr

/-- A compare channel's hidden state: the position up to which its crossings have been evaluated, whether the last movement
was a correction. -/
structure CmpCh where
  seenTo : Int := 0
  corr : Bool := false
  deriving DecidableEq, Repr

/-- A frame that the device has on the bus: the object it belongs to (65,536 a service frame, 65,537 a reference frame), and
whether its slot is exclusive. -/
structure CanTx where
  what : Nat
  frame : CanFrame
  exclusive : Bool
  deriving DecidableEq, Repr

/-- A CAN channel's hidden state (chapter 18). -/
structure CanCh where
  on : Bool := false                -- the schedule matrix runs
  startStep : Nat := 0              -- step in which column 0 of the cycle began
  latched : Bool := false           -- the latch instant of the cycle has passed
  wantStop : Bool := false
  recovering : Bool := false
  dominant : Bool := false
  onBus : Option CanTx := none
  refPend : Bool := false           -- a reference frame waits for the bus
  time : Word := 0x8001#32          -- CAN_n_TIME in force
  service : List CanFrame := []     -- service frames that wait for the bus
  refMissed : Nat := 0              -- basic cycles since the last usable reference frame
  lostRec : Bool := false           -- SYNC_LOST recorded since then
  deriving DecidableEq, Repr

/-- A copy of a safe pair that waits for its partner: which copy, its sequence number, its age in basic cycles and its bytes. -/
structure PairCopy where
  second : Bool
  seq : Nat
  age : Nat
  data : List Byte
  deriving DecidableEq, Repr

/-- A message object's hidden state. -/
structure Obj where
  cfg : Option ObjRec := none
  fresh : Bool := false             -- a frame was stored since the last latch instant
  snap : Option (List Byte) := none
  pend : Bool := false              -- its pending request has its snapshot
  seq : Nat := 0                    -- sequence number of a transmit pair
  sent : Option (Nat × List Byte) := none  -- what both copies of a transmit pair carry in this basic cycle
  lastSeq : Option Nat := none      -- last accepted sequence number of a receive pair
  copies : List PairCopy := []
  deriving DecidableEq, Repr

/-- The debug unit (chapter 17). -/
structure Debug where
  scope : Nat := 0
  chalStatus : Nat := 0
  respStatus : Nat := 0
  nonce : List Byte := []
  sig : List Byte := []
  failedAt : Option Nat := none   -- step of the last failed response
  expired : Bool := false         -- the last challenge ran out without a response
  lastAt : Nat := 0               -- step of the last completed access or control
  pending : Bool := false
  op : Nat := 0
  addr : Nat := 0
  data : Word := 0
  done : Bool := false
  accStatus : Nat := 0
  accData : Word := 0
  deriving DecidableEq, Repr

/-- A host request that an engine executes (R113, R499, R528): its transport (CAN channel 0 to 3, or 4 for the serial port), the words
it asks for, what admission answered, and the session key of its response tag. -/
structure HostReq where
  via : Nat := 4
  part : Nat := 0
  tagged : Bool := true
  write : Bool := false
  fixed : Bool := false
  count : Nat := 1
  epoch : Nat := 0
  counter : Nat := 0
  addr : Nat := 0
  data : List Word := []
  got : List Word := []        -- words that a read has completed
  cost : Nat := 0              -- credit taken; 0 where admission refused it
  status : Nat := 0
  key : Option (List Byte) := none
  ord : Nat := 0               -- place in the order of admission (R107)
  done : Nat := 0              -- words completed in the turns it has had (R114)
  deriving DecidableEq, Repr

/-- A frame of the serial port's master (R521): class 1 to 5, or 7 for an exit sequence; the line of a window frame; the unit of a poll;
and whether what it reads is no longer wanted (an invalidated line, a poll that came too late). -/
structure SpiJob where
  cls : Nat
  line : Nat := 0
  unit : Nat := 0
  void : Bool := false
  deriving DecidableEq, Repr

/-- An access to the direct-execution window that waits for its word (R525): who, its offset, whether it came after the line being read
was invalidated, and the word once it has arrived. -/
structure XipWait where
  who : Nat
  off : Nat
  late : Bool := false
  word : Option Word := none
  deriving DecidableEq, Repr

/-- A read of external flash that a start makes (R93): select code, command, address, lanes and address width as FLASH_MODE codes them
(Table 3-1), dummy cycles, SCK divider, and bytes read. -/
structure FlashRead where
  sel : Nat
  cmd : Nat
  addr : Nat
  mode : Nat
  dummy : Nat
  div : Nat
  count : Nat
  deriving DecidableEq, Repr

/-- The serial port (chapter 19). -/
structure Serial where
  queue : List SpiJob := []
  running : Option SpiJob := none
  lines : List (Nat × List Byte) := []   -- prefetch lines, most recently used last
  waits : List XipWait := []
  contSel : Nat := 0                     -- select code of the flash in continuous mode
  sel : Nat := 0                         -- levels that the master drives on SEL_0 to SEL_3 (R519)
  strobe : Bool := true                  -- level that the master drives on SSTB (Table 19-1)
  polled : List Nat := []                -- units whose poll frame has ended and is not yet applied
  req : Option HostReq := none
  resp : List Byte := []
  flashReads : List FlashRead := []      -- what stage 7 has read (R93)
  deriving DecidableEq, Repr

/-- A load in progress or ended (chapter 3). -/
structure Load where
  bytes : List Byte := []
  isPart : Bool := false
  part : Nat := 0
  hold : Bool := false
  switch : Bool := false
  reqKey : Nat := 18            -- who started it: partition 0 to 15, 17 an unauthenticated host
  staged : Option PSet := none
  stagedPlat : Option Platform := none
  deriving DecidableEq, Repr

/-- Roll call and services (chapter 18). -/
structure Service where
  participant : Bool := false
  epoch : Nat := 0                      -- the search it takes part in or is enrolled in
  heardEpoch : Nat := 0                 -- a search it only hears, and how many of its rounds have begun
  heardRounds : Nat := 0
  queue : List HostReq := []            -- CAN requests that wait for the host engine
  turn : Nat := 16                      -- queue that had the host engine's last turn (R114)
  deriving DecidableEq, Repr

/-- Discharge of the DC link (R189 to R192). -/
structure Discharge where
  driven : Bool := false       -- the enabled DSCH pins are driven high (R189, R190)
  startMs : Nat := 0
  startV : Nat := 0
  dirs : List (Nat × Bool) := []        -- trio and whether the pulse runs from B to A
  deriving DecidableEq, Repr

/-- Everything of the part but its addressed memory and the queue of commands. -/
structure Hw where
  fresh : Nat := 0
  power : PowerPhase := .waitSupply
  inh : Bool := true
  wakePin : Bool := false      -- level of the pin WAKE (R52)
  wakeShut : Bool := false     -- a wake event has come during a shutdown (R68), and its CAN channels
  wakeCan : Nat := 0
  admitted : Nat := 0          -- host requests admitted so far (R107)
  stepCount : Nat := 0
  phase : Nat := 0
  tick : Nat := 0              -- tick of the last event of this step that names one
  supplyBack : List (Nat × Nat) := []   -- supplies that were below their range: their SUPPLY_STATUS bit, and the steps until they are in range (R45)
  vdcEpisode : Bool := false
  keyBusy : Nat := 0
  rotKey : List Byte := []
  carouselNext : Nat := 0
  keepPend : List (Nat × List Byte) := []     -- device writes to sector 0 that wait for the engine: offset and bytes
  keepBlocked : List (Nat × List Byte) := []  -- those that met a closed write window (R72)
  keepCopies : List (Nat × (Nat × Word)) := []  -- upper halves copied by requester (R541): address and value
  sensorGood : List (Nat × Nat) := []   -- readings in range of a broken sensor (R418): on-die s, external 128 + n
  levels : List (Nat × Nat) := []       -- levels entered and not left (R420), bit 0 warning: zones, external 16 + n
  thermActed : List Nat := []           -- those whose shutdown level has acted
  lastStatus : Status := .ok
  lastData : Word := 0
  env : Option StartEnv := none
  edgeRelease : Nat := 0       -- bit p: the edge that caused a warm restart releases the initial stop of partition p (R436)
  convTest : Nat := 0xFF
  convNext : Nat := 0
  ramBad : List Nat := []
  headers : List (Nat × Nat) := []      -- keep sector header words: 1 CLEAR_IN_PROGRESS
  latches : List (Nat × (Nat × Word)) := []
  scmpRun : List (Nat × Nat) := []
  rmBlocked : Nat := 0
  p0Key : List Byte := []
  slotKeys : List (List Byte) := [[], []]
  platform : Option Platform := none
  lastGrants : List (Nat × Nat) := []   -- keep grants of the last applied PLATFORM: first sector and number of each entry
  startMs : Nat := 0                    -- time of the start that runs, in milliseconds
  opRun : Bool := false        -- OP_SECONDS counts (R71)
  chipAt : Nat := 0            -- step in which the chip fault was set, plus 1; 0 one of an earlier session (R22)
  faultStored : Bool := false  -- a chip fault of this session is in keep memory (R42)
  refinRec : Nat := 0          -- partitions for which the REFIN excursion in progress is recorded (R257)
  d6Cause : Nat := 0           -- partition cause for which D6's results are invalid; 0 none
  regs : List (Nat × Word) := []
  copies : List (Nat × Word) := []
  faultLog : List FaultRec := []
  load : Load := {}
  dbgSt : Debug := {}
  serial : Serial := {}
  service : Service := {}
  discharge : Discharge := {}
  cells : List (Nat × Cell) := []
  blocks : List (Nat × Block) := []
  threads : List (Nat × Thread) := []
  laws : List (Nat × Law) := []
  pacers : List (Nat × Pacer) := []
  parts : List (Nat × Part) := []
  recs : List (Nat × Recorder) := []
  regions : List (Nat × Region) := []
  dies : List (Nat × Die) := []
  trios : List (Nat × Trio) := []
  convs : List (Nat × Conv) := []
  areas : List (Nat × CapArea) := []
  units : List (Nat × PosUnit) := []
  cmps : List (Nat × CmpCh) := []
  chans : List (Nat × CanCh) := []
  objs : List (Nat × Obj) := []
  deriving DecidableEq, Repr

/-- The addressed memory of the part: bytes that differ from what an unwritten byte reads as, by rising address. -/
abbrev Memory := List Host.Cell

/-- The state: the queue of waiting commands, the addressed memory and everything else. -/
structure State where
  pending : List Instr := []
  mem : Memory := []
  hw : Hw := {}
  deriving DecidableEq, Repr

/-- Why the block stops. No rule of the spec stops the block: every condition it calls a fault is an effect on State. -/
inductive Fault where
  /-- Raised by no meaning; safe. The interface asks for a fault type, and the spec names no stop of the whole part. -/
  | none
  deriving DecidableEq, Repr

/-- Why the block refuses a command. -/
inductive Refusal where
  /-- A command whose meaning is not written yet (Dispatch.lean alone answers it); safe, it stops the run. -/
  | notModelled (mnemonic : String)
  deriving DecidableEq, Repr

/-- The state right after chip reset: every register at the reset value of its table, no partition declared, no cell
fenced, the part waiting for supply-good with INH high (R53, Table 2-4). -/
def State.reset : State := {}

end Sys2Proof.Machine
end

