-- ==== Sys2Proof/Machine/Ops.lean ====
section
/-!
DEFINITION. The named operations every meaning is written with: reading and writing registers, fields, memory and hidden
state; who owns what; recording a fault code; fences, safe reactions and the holds they put on cells.
-/
namespace Sys2Proof.Machine

-- ## Registers and fields

/-- The value of a register. -/
def Hw.reg (h : Hw) (r : RegId) : Word := Tab.get h.regs r.addr r.reset

/-- Set a register. -/
def Hw.setReg (h : Hw) (r : RegId) (w : Word) : Hw := { h with regs := Tab.put h.regs r.addr w r.reset }

/-- The value of a field. -/
def Hw.rd (h : Hw) (f : Fld) : Nat := Bits.get (h.reg f.reg) f.hi f.lo

/-- The value of a field read as two's complement. -/
def Hw.rdI (h : Hw) (f : Fld) : Int := Num.signed (f.hi + 1 - f.lo) (h.rd f)

/-- Set a field, leaving the register's other bits. -/
def Hw.wr (h : Hw) (f : Fld) (v : Nat) : Hw := h.setReg f.reg (Bits.set (h.reg f.reg) f.hi f.lo v)

/-- Set a field to a two's-complement code. -/
def Hw.wrI (h : Hw) (f : Fld) (i : Int) : Hw := h.wr f (Num.code (f.hi + 1 - f.lo) i)

/-- Whether a one-bit field is 1. -/
def Hw.on (h : Hw) (f : Fld) : Bool := h.rd f != 0

/-- Set a one-bit field. -/
def Hw.wrB (h : Hw) (f : Fld) (b : Bool) : Hw := h.wr f (Num.ofBool b)

/-- Add one to a field, modulo its width. -/
def Hw.inc (h : Hw) (f : Fld) : Hw := h.wr f (h.rd f + 1)

/-- Add one to a field that stops at its largest value. -/
def Hw.incTop (h : Hw) (f : Fld) : Hw := h.wr f (Num.incTo (2 ^ (f.hi + 1 - f.lo) - 1) (h.rd f))

/-- Bit `i` of a field. -/
def Hw.bit (h : Hw) (f : Fld) (i : Nat) : Bool := (h.rd f).testBit i

/-- Set bit `i` of a field. -/
def Hw.wrBit (h : Hw) (f : Fld) (i : Nat) (b : Bool) : Hw := h.wr f (Num.setBit (h.rd f) i b)

-- ## Hidden state

def Hw.cell (h : Hw) (c : Nat) : Cell := Tab.get h.cells c {}
def Hw.setCell (h : Hw) (c : Nat) (x : Cell) : Hw := { h with cells := Tab.put h.cells c x {} }
def Hw.block (h : Hw) (k : Nat) : Block := Tab.get h.blocks k {}
def Hw.setBlock (h : Hw) (k : Nat) (x : Block) : Hw := { h with blocks := Tab.put h.blocks k x {} }
/-- Thread t of block k. -/
def Hw.thread (h : Hw) (k t : Nat) : Thread := Tab.get h.threads (8 * k + t) {}
def Hw.setThread (h : Hw) (k t : Nat) (x : Thread) : Hw := { h with threads := Tab.put h.threads (8 * k + t) x {} }
/-- Law l of block k. -/
def Hw.law (h : Hw) (k l : Nat) : Law := Tab.get h.laws (256 * k + l) {}
def Hw.setLaw (h : Hw) (k l : Nat) (x : Law) : Hw := { h with laws := Tab.put h.laws (256 * k + l) x {} }
/-- The ramp on control input n of block k. -/
def Hw.pacer (h : Hw) (k n : Nat) : Pacer := Tab.get h.pacers (128 * k + n) {}
def Hw.setPacer (h : Hw) (k n : Nat) (x : Pacer) : Hw := { h with pacers := Tab.put h.pacers (128 * k + n) x {} }
def Hw.part (h : Hw) (p : Nat) : Part := Tab.get h.parts p {}
def Hw.setPart (h : Hw) (p : Nat) (x : Part) : Hw := { h with parts := Tab.put h.parts p x {} }
def Hw.recorder (h : Hw) (p : Nat) : Recorder := Tab.get h.recs p {}
def Hw.setRecorder (h : Hw) (p : Nat) (x : Recorder) : Hw := { h with recs := Tab.put h.recs p x {} }
def Hw.region (h : Hw) (r : Nat) : Region := Tab.get h.regions r {}
def Hw.setRegion (h : Hw) (r : Nat) (x : Region) : Hw := { h with regions := Tab.put h.regions r x {} }
def Hw.die (h : Hw) (d : Nat) : Die := Tab.get h.dies d {}
def Hw.setDie (h : Hw) (d : Nat) (x : Die) : Hw := { h with dies := Tab.put h.dies d x {} }
/-- Trio T(2k + t), by its global number. -/
def Hw.trio (h : Hw) (t : Nat) : Trio := Tab.get h.trios t {}
def Hw.setTrio (h : Hw) (t : Nat) (x : Trio) : Hw := { h with trios := Tab.put h.trios t x {} }
def Hw.conv (h : Hw) (n : Nat) : Conv := Tab.get h.convs n {}
def Hw.setConv (h : Hw) (n : Nat) (x : Conv) : Hw := { h with convs := Tab.put h.convs n x {} }
def Hw.area (h : Hw) (a : Nat) : CapArea := Tab.get h.areas a {}
def Hw.setArea (h : Hw) (a : Nat) (x : CapArea) : Hw := { h with areas := Tab.put h.areas a x {} }
def Hw.posUnit (h : Hw) (u : Nat) : PosUnit := Tab.get h.units u {}
def Hw.setPosUnit (h : Hw) (u : Nat) (x : PosUnit) : Hw := { h with units := Tab.put h.units u x {} }
/-- Compare channel m of block k. -/
def Hw.cmp (h : Hw) (k m : Nat) : CmpCh := Tab.get h.cmps (2 * k + m) {}
def Hw.setCmp (h : Hw) (k m : Nat) (x : CmpCh) : Hw := { h with cmps := Tab.put h.cmps (2 * k + m) x {} }
def Hw.chan (h : Hw) (n : Nat) : CanCh := Tab.get h.chans n {}
def Hw.setChan (h : Hw) (n : Nat) (x : CanCh) : Hw := { h with chans := Tab.put h.chans n x {} }
def Hw.obj (h : Hw) (o : Nat) : Obj := Tab.get h.objs o {}
def Hw.setObj (h : Hw) (o : Nat) (x : Obj) : Hw := { h with objs := Tab.put h.objs o x {} }

/-- One switch of a cell. -/
def Cell.sw (x : Cell) : Switch → SwitchSt
  | .hs => x.hs
  | .ls => x.ls

/-- Replace one switch of a cell. -/
def Cell.setSw (x : Cell) (s : Switch) (y : SwitchSt) : Cell :=
  match s with
  | .hs => { x with hs := y }
  | .ls => { x with ls := y }

/-- The other switch. -/
def otherSwitch : Switch → Switch
  | .hs => .ls
  | .ls => .hs

-- ## Addressed memory

/-- What a byte that nothing has written reads as: 0 (DESIGN CHOICE, log entry 4). -/
def Memory.unwritten : Byte := 0

/-- One byte of memory. -/
def Memory.byte (m : Memory) (a : Nat) : Byte := Tab.get m a Memory.unwritten

/-- Write one byte of memory. -/
def Memory.setByte (m : Memory) (a : Nat) (b : Byte) : Memory := Tab.put m a b Memory.unwritten

/-- `n` bytes from an address, lowest first. -/
def Memory.bytes (m : Memory) (a n : Nat) : List Byte := (List.range n).map (fun i => m.byte (a + i))

/-- Write bytes from an address upward. -/
def Memory.setBytes (m : Memory) (a : Nat) (bs : List Byte) : Memory :=
  match bs with
  | [] => m
  | b :: r => Memory.setBytes (m.setByte a b) (a + 1) r

/-- A little-endian 32-bit word of memory (R4). -/
def Memory.word (m : Memory) (a : Nat) : Word := BitVec.ofNat 32 (Num.ofBytesLE (m.bytes a 4))

/-- Write a little-endian 32-bit word (R4). -/
def Memory.setWord (m : Memory) (a : Nat) (w : Word) : Memory := m.setBytes a (Num.bytesLE 4 w.toNat)

/-- The entries of a run of bytes from an address: those that differ from an unwritten byte. -/
def Memory.run (a : Nat) (bs : List Byte) : Memory :=
  match bs with
  | [] => []
  | b :: r => if b = Memory.unwritten then Memory.run (a + 1) r else (a, b) :: Memory.run (a + 1) r

/-- Replace a whole run of bytes from an address. -/
def Memory.putRange (m : Memory) (a : Nat) (bs : List Byte) : Memory :=
  m.filter (fun e => decide (e.1 < a)) ++ Memory.run a bs ++ m.filter (fun e => decide (a + bs.length ≤ e.1))

/-- Write `n` bytes of one value. -/
def Memory.fill (m : Memory) (a n : Nat) (b : Byte) : Memory := m.putRange a (List.replicate n b)

/-- Whether the keys of a list rise strictly from above `lo`. -/
def Memory.rising (lo : Option Nat) (m : Memory) : Bool :=
  match m with
  | [] => true
  | (k, _) :: r => (match lo with | none => true | some l => decide (l < k)) && Memory.rising (some k) r

/-- The canonical form: addresses rise strictly, and no entry holds what an unwritten byte reads as. -/
def Memory.wf (m : Memory) : Bool := Memory.rising none m && m.all (fun e => e.2 != Memory.unwritten)

-- ## Ownership (chapter 4)

/-- The claims of the set in force for partition p. -/
def Hw.claims (h : Hw) (p : Nat) : PartSec :=
  match (h.part p).cfg with
  | some s => s.part
  | none => {}

/-- The claims of partition p in the ownership map, empty where it has none (R102). -/
def Hw.mapOf (h : Hw) (p : Nat) : PartSec := (h.part p).map.getD {}

/-- Whether the ownership map gives block k to partition p (R102). -/
def Hw.ownsBlock (h : Hw) (p k : Nat) : Bool := (h.mapOf p).blocks.testBit k

/-- The partition that owns block k (R18). -/
def Hw.owner (h : Hw) (k : Nat) : Option Nat := (List.range 16).find? (fun p => h.ownsBlock p k)

/-- The blocks partition p owns. -/
def Hw.blocksOf (h : Hw) (p : Nat) : List Nat := (List.range 8).filter (fun k => h.ownsBlock p k)

/-- The claimant of precision converter n. -/
def Hw.measOwner (h : Hw) (n : Nat) : Option Nat :=
  (List.range 16).find? (fun p => (h.mapOf p).measClaim.testBit n)

/-- The claimant of TEMP_n. -/
def Hw.tempOwner (h : Hw) (n : Nat) : Option Nat :=
  (List.range 16).find? (fun p => (h.mapOf p).tempClaim.testBit n)

/-- The claimant of message object o. -/
def Hw.objOwner (h : Hw) (o : Nat) : Option Nat :=
  (List.range 16).find? (fun p => decide ((h.mapOf p).msgFirst ≤ o ∧ o < (h.mapOf p).msgFirst + (h.mapOf p).msgCount))

/-- The partition whose keep window holds sector s (R539). -/
def Hw.keepOwner (h : Hw) (s : Nat) : Option Nat :=
  (List.range 16).find? (fun p => decide ((h.mapOf p).keepBase ≤ s ∧ s < (h.mapOf p).keepBase + (h.mapOf p).keepSectors))

/-- The capture areas that a set claims: those whose MEAS_CAP_a_CFG it writes (R272). -/
def PSet.areasOf (st : PSet) : List Nat :=
  (List.range 32).filter (fun a => st.images.any (fun e => e.1 == 0x30005000 + 0x20 * a))

/-- PART_RUN.STATE is active. -/
def Hw.active (h : Hw) (p : Nat) : Bool := h.rd (PART_RUN.STATE p) == 1

/-- The blocks that the set in force of partition p claims. -/
def Hw.setBlocks (h : Hw) (p : Nat) : List Nat := (List.range 8).filter (fun k => (h.claims p).blocks.testBit k)

/-- Whether block k belongs to a partition that is active or being armed (R47, R175). -/
def Hw.blockArmed (h : Hw) (k : Nat) : Bool :=
  (List.range 16).any (fun p => (h.active p && h.ownsBlock p k) || ((h.part p).arming && (h.claims p).blocks.testBit k))

/-- Whether block k belongs to an active partition. -/
def Hw.blockActive (h : Hw) (k : Nat) : Bool :=
  match h.owner k with
  | some p => h.active p
  | none => false

/-- Whether block k belongs to a partition between its activation or re-entry and step 5 of a reload: one that is active or fenced. -/
def Hw.blockEntered (h : Hw) (k : Nat) : Bool :=
  match h.owner k with
  | some p => h.rd (PART_RUN.STATE p) == 1 || h.rd (PART_RUN.STATE p) == 2
  | none => false

/-- Whether partition p runs its lanes: it is active, or its reaction is still going on (R442). -/
def Hw.partRuns (h : Hw) (p : Nat) : Bool := h.active p || (h.part p).reacting

/-- Whether any partition is active, as R86 and R100 use the word: one whose PART_RUN.STATE is not 0, fenced and reloading partitions
included (DESIGN CHOICE, log entry 66). -/
def Hw.anyActive (h : Hw) : Bool := (List.range 16).any (fun p => h.rd (PART_RUN.STATE p) != 0)

/-- Block, region and die of a cell, and its local index in its block. -/
def blockOf (c : Nat) : Nat := c / 6
def regionOf (c : Nat) : Nat := c / 12
def localOf (c : Nat) : Nat := c % 6

/-- The six cells of a block. -/
def cellsOf (k : Nat) : List Nat := (List.range 6).map (fun i => 6 * k + i)

/-- The mode of a block (Table 3-8): 1 TRIO, 2 SIX_STEP, 3 CHANNEL, 4 CONVERTER, 0 without a section. -/
def Hw.mode (h : Hw) (k : Nat) : Nat :=
  match (h.block k).sec with
  | some b => b.mode
  | none => 0

/-- The three global cells of trio T(2k + j), phases A, B and C; empty where the block has no such trio. -/
def Hw.trioCells (h : Hw) (t : Nat) : List Nat :=
  match (h.block (t / 2)).sec with
  | none => []
  | some b =>
    if (b.mode == 1 || b.mode == 2) && decide (t % 2 < b.trioCount) then
      ((b.trios.getD (t % 2) []).take 3).map (fun i => 6 * (t / 2) + i)
    else []

/-- The trios of a block. -/
def Hw.triosOf (h : Hw) (k : Nat) : List Nat :=
  [2 * k, 2 * k + 1].filter (fun t => !(h.trioCells t).isEmpty)

/-- The trio that a cell belongs to. -/
def Hw.trioOf (h : Hw) (c : Nat) : Option Nat :=
  (h.triosOf (blockOf c)).find? (fun t => (h.trioCells t).contains c)

-- ## Power

/-- The control dies run and the PLL has locked (R61): steps pass and host transactions are served. -/
def Hw.live (h : Hw) : Bool :=
  match h.power with
  | .off | .standby | .waitSupply | .waitPll => false
  | _ => true

/-- A chip fault holds (R42). -/
def Hw.chipFault (h : Hw) : Bool := h.rd CHIP_FAULT.CODE != 0

-- ## Comparator outputs, Hurdle windows and effective commands (R212, R213, R241, R242)

/-- The configuration register of comparator A or B of a cell. -/
def compCfg (c : Nat) (b : Bool) : RegId := if b then LEG_COMP_B_CFG c else LEG_COMP_A_CFG c

/-- Whether the window that a HURDLE field value names is open; 0 names none. -/
def Hw.hurdleOpen (h : Hw) (k n : Nat) : Bool := n != 0 && (h.block k).hurdleOpen.testBit (n - 1)

/-- Whether the comparators of cell c work: from the activation of its partition on, during fences and halts too, while its leg die has
VANA and its clock (R242). -/
def Hw.compWorks (h : Hw) (c : Nat) : Bool :=
  h.blockEntered (blockOf c) && !(h.die (regionOf c + 2)).clockBad && h.on SUPPLY_STATUS.VANA_OK

/-- A comparator's live level after blanking (R241, R242). -/
def Hw.compOut (h : Hw) (c : Nat) (b : Bool) : Bool :=
  (if b then (h.cell c).levelB else (h.cell c).levelA) && h.compWorks c &&
    !h.hurdleOpen (blockOf c) (Bits.get (h.reg (compCfg c b)) 19 16)

/-- The live level of trip source s in block k. -/
def Hw.tripSource (h : Hw) (k s : Nat) : Bool := s != 0 && h.compOut (6 * k + (s - 1) / 2) ((s - 1) % 2 == 1)

/-- Bring the comparator levels and the trip inputs' ACTIVE and BLANKED bits of block k in line. -/
def Hw.refreshTrips (h : Hw) (k : Nat) : Hw :=
  Num.forEach 6 (fun i acc =>
    let c := 6 * k + i
    let acc := (acc.wrB (LEG_COMP_STATUS.A_LEVEL c) (h.compOut c false)).wrB (LEG_COMP_STATUS.B_LEVEL c) (h.compOut c true)
    Num.forEach 4 (fun n acc =>
      let acc := acc.wrBit (LEG_TRIP_STATUS.ACTIVE c) n (h.tripSource k (h.rd (BLK_CELL_TRIP.SOURCE k i n)))
      acc.wrBit (LEG_TRIP_STATUS.BLANKED c) n (h.hurdleOpen k (h.rd (BLK_CELL_TRIP.HURDLE k i n)))) acc) h

/-- Open or close Hurdle channel `ch` of block k. -/
def Hw.setHurdle (h : Hw) (k ch : Nat) (o : Bool) : Hw :=
  (h.setBlock k { h.block k with hurdleOpen := Num.setBit (h.block k).hurdleOpen ch o }).refreshTrips k

/-- Changes of cell c's effective commands (bit 0 high-side on, 1 high-side off, 2 low-side on, 3 low-side off) open
the EDGE windows of its channels that select one of them (R213). -/
def Hw.edgeSeen (h : Hw) (c mask : Nat) : Hw :=
  let k := blockOf c
  Num.forEach 2 (fun j acc =>
    let ch := 2 * localOf c + j
    if acc.rd (BLK_HURDLE_CFG.MODE k ch) = 1 && (acc.rd (BLK_HURDLE_CFG.EDGE_MASK k ch) &&& mask) != 0 &&
        acc.rd (BLK_HURDLE_CFG.LENGTH k ch) != 0 then acc.setHurdle k ch true
    else acc) h

/-- The tick that opens the present step. -/
def Hw.now (h : Hw) : Nat := 4000 * h.stepCount

/-- The tick at which the present event stands: that of the last event of the step that named one (DESIGN CHOICE, log entry 65). -/
def Hw.nowTick (h : Hw) : Nat := h.now + h.tick

/-- The phase and tick of the present event: a CLK_FAB cycle is eight ticks. -/
def Hw.atPhase (h : Hw) (ph : Nat) : Hw := { h with phase := ph, tick := 8 * ph }
def Hw.atTick (h : Hw) (t : Nat) : Hw := { h with phase := t / 8, tick := t }

/-- What is known of the times on of one switch after its command becomes `on` at tick t (R230). -/
def spanOf (s : Switch) (since : Option Nat) (on : Bool) (t : Nat) : Option Nat × List (Switch × Nat × Nat) :=
  match since, on with
  | some a, true => (some a, [])
  | some a, false => (none, [(s, a, t)])
  | none, true => (some t, [])
  | none, false => (none, [])

/-- The effective commands of the cell change at tick t. -/
def Cell.commanded (x : Cell) (hs ls : Bool) (t : Nat) : Cell :=
  let a := spanOf .hs x.onHs hs t
  let b := spanOf .ls x.onLs ls t
  { x with onHs := a.1, onLs := b.1, spans := x.spans ++ a.2 ++ b.2 }

/-- Set the effective commands of a cell; a change is kept for its sense conversions (R230) and seen by its EDGE windows. -/
def Hw.setCmds (h : Hw) (c : Nat) (hs ls : Bool) : Hw :=
  let a := h.on (LEG_PWM_STATUS.HS_CMD c)
  let b := h.on (LEG_PWM_STATUS.LS_CMD c)
  let mask := (if hs && !a then 1 else 0) + (if a && !hs then 2 else 0) + (if ls && !b then 4 else 0) + (if b && !ls then 8 else 0)
  let h := (h.wrB (LEG_PWM_STATUS.HS_CMD c) hs).wrB (LEG_PWM_STATUS.LS_CMD c) ls
  if mask = 0 then h else (h.setCell c ((h.cell c).commanded hs ls h.nowTick)).edgeSeen c mask

-- ## Fault codes and their recorders

/-- A fault code (R14). -/
def faultCode (level unit cause : Nat) : Nat := level * 4096 + unit * 64 + cause

/-- The partitions whose recorder counts a code (R555). -/
def Hw.recorderOwners (h : Hw) (code : Nat) : List Nat :=
  let lvl := code / 4096
  let unit := code / 64 % 64
  let own (k : Nat) : List Nat := (h.owner k).toList
  match lvl with
  | 0 => own (unit / 6)
  | 1 => own unit
  | 2 => (0 :: (own (2 * unit) ++ own (2 * unit + 1))).dedup
  | 4 => [unit % 16]
  | 7 => if unit < 16 then [unit] else [0]
  | _ => [0]

/-- The greatest number of fault entries of a recorder area (R552). -/
def entriesMax (kib : Nat) : Nat := min ((kib * 1024 - 0x300) / 16) 65535

/-- Count one occurrence of a code in a list of entries (R555). -/
def Recorder.bump (es : List RecEntry) (code rate now : Nat) : List RecEntry :=
  es.map (fun e =>
    if e.code = code then
      if e.inSecond < rate then
        { e with count := Num.incTo 0xFFFFFFFF e.count, last := now, inSecond := e.inSecond + 1 }
      else { e with suppressed := Num.incTo 0xFFFFFFFF e.suppressed, last := now, inSecond := e.inSecond + 1 }
    else e)

/-- Count a code in partition p's recorder (R552, R555). -/
def Hw.countFault (h : Hw) (p code : Nat) : Hw :=
  let kib := (h.claims p).recKib
  let r := h.recorder p
  let now := h.rd OP_SECONDS.SECONDS
  if kib = 0 then h
  else if r.entries.any (fun e => e.code == code) then
    h.setRecorder p { r with entries := Recorder.bump r.entries code (h.rd (PART_REC_CFG.RATE p)) now }
  else if r.entries.length < entriesMax kib then
    let es := Recorder.bump (r.entries ++ [{ code := code }]) code (h.rd (PART_REC_CFG.RATE p)) now
    (h.setRecorder p { r with entries := es }).wr (PART_REC_STATUS.ENTRIES_USED p) es.length
  else h.setRecorder p { r with overflow := r.overflow + 1 }

/-- Record a fault code with its timestamp and count it (R22, R33, R35, R555). -/
def Hw.record (h : Hw) (code : Nat) : Hw :=
  (h.recorderOwners code).foldl (fun acc p => acc.countFault p code)
    { h with faultLog := { code := code, step := h.stepCount, phase := h.phase } :: h.faultLog }

/-- Record a cell cause (level 0). -/
def Hw.cellFault (h : Hw) (c cause : Nat) : Hw := h.record (faultCode 0 c cause)
/-- Record a block cause (level 1). -/
def Hw.blockFault (h : Hw) (k cause : Nat) : Hw := h.record (faultCode 1 k cause)

-- ## Fences (R19, R20, R40)

/-- Whether the region fence holds block k (Table 1-11). -/
def Hw.regionHolds (h : Hw) (k : Nat) : Bool :=
  let s := if k % 2 = 0 then h.rd (REGION_RETURN.STATE_0 (k / 2)) else h.rd (REGION_RETURN.STATE_1 (k / 2))
  decide (1 ≤ s ∧ s ≤ 3)

/-- Whether block k is fenced at block level. -/
def Hw.blockFenced (h : Hw) (k : Nat) : Bool := h.bit FENCE_UNIT.BLOCK k

/-- Whether cell c is fenced for any reason (R40). -/
def Hw.cellFenced (h : Hw) (c : Nat) : Bool :=
  (h.cell c).fenced || h.blockFenced (blockOf c) || h.regionHolds (blockOf c) || h.chipFault

/-- Bring the FENCE_CELL bits in line with the fences (R40). -/
def Hw.syncFences (h : Hw) : Hw :=
  let lo := (List.range 32).foldl (fun v c => v + (if h.cellFenced c then 2 ^ c else 0)) 0
  let hi := (List.range 16).foldl (fun v c => v + (if h.cellFenced (32 + c) then 2 ^ c else 0)) 0
  (h.wr FENCE_CELL_0.CELL lo).wr FENCE_CELL_1.CELL hi

/-- Whether VDRV_r is above its UVLO threshold. -/
def Hw.vdrvOk (h : Hw) (r : Nat) : Bool := h.bit SUPPLY_STATUS.VDRV_OK r

/-- Whether the terminal state of a cell holds its low side on, as its leg die's own safe-state setting says (R20, R21, R23, R180). -/
def Hw.terminalLow (h : Hw) (c : Nat) : Bool :=
  let x := h.cell c
  x.safeLow && h.vdrvOk (regionOf c) && !x.shortHold && !x.testing

/-- Whether block k is halted by the debugger. -/
def Hw.halted (h : Hw) (k : Nat) : Bool := h.bit DBG_HALT.HALTED k
/-- Whether block k is halted and not in a debug step (R472, R473). -/
def Hw.paused (h : Hw) (k : Nat) : Bool := h.halted k && !(h.block k).stepping
/-- Whether block k is frozen. -/
def Hw.frozen (h : Hw) (k : Nat) : Bool := h.bit DBG_HALT.FROZEN k

/-- Whether block k is in a safety stop (R433). -/
def Hw.stopped (h : Hw) (k : Nat) : Bool :=
  match h.owner k with
  | some p => h.bit (SAFE_STATUS.STOPPED p) k
  | none => false

/-- Whether a partition-level reaction or a reload holds the cells of block k (R445, Table 3-18). -/
def Hw.reacts (h : Hw) (k : Nat) : Bool :=
  match h.owner k with
  | some p => (h.part p).reaction
  | none => false

/-- Every cell is held off: stages 1 and on of an orderly shutdown (R66). -/
def Hw.heldOff (h : Hw) : Bool :=
  match h.power with
  | .shutStopping | .shutDischarge | .shutTest | .shutDone => true
  | _ => false

/-- How the rules hold cell c at this moment (R20, R66, R218, R219, R433, R439, R445). -/
def Hw.holdOf (h : Hw) (c : Nat) : Hold :=
  let k := blockOf c
  if h.heldOff then .bothOff
  else if h.cellFenced c || (h.region (regionOf c)).sto then .terminal
  else if (h.stopped k || h.reacts k) && !(h.block k).ss1On then .terminal
  else if h.halted k then (if h.on (LEG_PWM_STATUS.FROZEN c) then .frozen else .terminal)
  else if (h.cell c).restSafe && !h.blockActive k then .terminal
  else .none

/-- The terminal state of cell c: its pending commands go, and its effective commands are those of R20. -/
def Hw.holdTerminal (h : Hw) (c : Nat) : Hw :=
  let x := h.cell c
  let y := { x with hold := .terminal, forcedOff := 0,
                    hs := { x.hs with raw := false, deadWait := false, minHold := false, extended := false },
                    ls := { x.ls with raw := false, deadWait := false, minHold := false, extended := false } }
  (h.setCell c y).setCmds c false (h.terminalLow c)

/-- Put cell c into the hold the rules give it. In the terminal state the effective commands are those of R20, also while a trip latch
that targets the low side holds (DESIGN CHOICE, log entry 61); a freeze keeps them as they stand, but for switches a trip has turned off (R219, R220). In a shutdown both are off, but for the pulses of a
discharge (R191). -/
def Hw.applyHold (h : Hw) (c : Nat) : Hw :=
  let x := h.cell c
  match h.holdOf c with
  | .none => h.setCell c { x with hold := .none }
  | .frozen =>
    let y := { x with hold := .frozen }
    (h.setCell c y).setCmds c (h.on (LEG_PWM_STATUS.HS_CMD c) && !x.freezeOff.testBit 0)
      (h.on (LEG_PWM_STATUS.LS_CMD c) && !x.freezeOff.testBit 1)
  | .bothOff =>
    let y := { x with hold := .bothOff, forcedOff := 0,
                      hs := { x.hs with raw := false, deadWait := false, minHold := false, extended := false },
                      ls := { x.ls with raw := false, deadWait := false, minHold := false, extended := false } }
    if h.discharge.dirs.any (fun e => (h.trioCells e.1).contains c) then h.setCell c y else (h.setCell c y).setCmds c false false
  | .terminal => h.holdTerminal c

/-- A fence, STO, a chip fault or R21 ends the freeze of a cell at once (R220). -/
def Hw.endFreeze (h : Hw) (c : Nat) : Hw :=
  if h.on (LEG_PWM_STATUS.FROZEN c) then (h.wrB (LEG_PWM_STATUS.FROZEN c) false).applyHold c else h

/-- Apply the holds to every cell (the step boundary of R20). -/
def Hw.applyHolds (h : Hw) : Hw := Num.forEach 48 (fun c acc => acc.applyHold c) h

/-- Every thread of a block takes state FENCED (Table 5-2). -/
def Hw.fenceThreads (h : Hw) (k : Nat) : Hw :=
  Num.forEach 8 (fun t acc => acc.wr (BLK_SEQ_STATE.THREAD k t) 6) h

/-- A captured COMMIT set of a fenced cell is discarded (R223). -/
def Hw.dropSet (h : Hw) (c : Nat) : Hw :=
  (h.setCell c { h.cell c with capNew := none, captured := none, pendingSet := false }).wrB (LEG_PWM_STATUS.LOAD_WAITING c) false

-- ## Threads and the direct-execution window (R141, R156, R157, R524, R525)

/-- The state code of thread t of block k (Table 5-3). -/
def Hw.threadState (h : Hw) (k t : Nat) : Nat := h.rd (BLK_SEQ_STATE.THREAD k t)

/-- Change a thread's hidden state. -/
def Hw.updThread (h : Hw) (k t : Nat) (f : Thread → Thread) : Hw := h.setThread k t (f (h.thread k t))

/-- The base address of block k's code area (Table 1-7). -/
def codeBase (k : Nat) : Nat := 0x21000000 + k * 0x1000

/-- Partition p is no longer blocked without a break (R153, R155). -/
def Hw.breakBlocked (h : Hw) (k : Nat) : Hw :=
  match h.owner k with
  | some p => { h with rmBlocked := Num.setBit h.rmBlocked p false }
  | none => h

/-- A thread fault (R159). -/
def Hw.threadFault (h : Hw) (k t cause : Nat) (pc : Word) : Hw :=
  let h := (h.wr (BLK_SEQ_STATE.THREAD k t) 5).updThread k t (fun x => { x with stall := .none, fetched := none, stopReq := false })
  let h := (h.wr (BLK_SEQ_FAULT.CODE k) (faultCode 1 k cause)).wr (BLK_SEQ_FAULT.THREAD k) t
  (h.setReg (BLK_SEQ_FAULT_PC k) pc).blockFault k cause

/-- Change the port's hidden state. -/
def Hw.updSerial (h : Hw) (f : Serial → Serial) : Hw := { h with serial := f h.serial }

/-- The port is in slave role. -/
def Hw.spiSlave (h : Hw) : Bool := h.on SPI_STATUS.ROLE

/-- A chip fault ends a master frame: SSTB rises at once, which leaves a software frame done and delivers no data (R523, R534). -/
def Hw.frameBreaks (h : Hw) : Hw :=
  match h.serial.running with
  | none => h
  | some j =>
    let h := ((h.updSerial (fun s => { s with running := none, strobe := true })).wrB SPI_STATUS.BUSY false).wr SPI_STATUS.SOURCE 0
    if j.cls = 4 then h.wr SPI_FRAME_STATUS.STATE 3 else h

/-- Whether the window's read frame can send offset `a` (R524). -/
def Hw.xipReaches (h : Hw) (a : Nat) : Bool := decide (a < 0x4000000) && (h.on SPI_XIP_CFG.ADDR4 || decide (a < 0x1000000))

/-- The word of a line at an offset. -/
def lineWord (d : List Byte) (a : Nat) : Word := BitVec.ofNat 32 (Num.ofBytesLE ((d.drop (a % 64)).take 4))

/-- The line's bytes, if a prefetch line holds them. -/
def Hw.xipLine (h : Hw) (l : Nat) : Option (List Byte) := (h.serial.lines.find? (fun e => e.1 == l)).map (fun e => e.2)

/-- A line becomes the most recently used one. -/
def Hw.touchLine (h : Hw) (l : Nat) : Hw :=
  h.updSerial (fun s => { s with lines := s.lines.filter (fun e => e.1 != l) ++ s.lines.filter (fun e => e.1 == l) })

/-- A line is being read and still wanted. -/
def Hw.lineRuns (h : Hw) (l : Nat) : Bool :=
  match h.serial.running with
  | some j => (j.cls == 3 || j.cls == 5) && j.line == l && !j.void
  | none => false

/-- The line's stale copy is being read. -/
def Hw.lineRunsVoid (h : Hw) (l : Nat) : Bool :=
  match h.serial.running with
  | some j => (j.cls == 3 || j.cls == 5) && j.line == l && j.void
  | none => false

/-- A read frame of a line is asked for, unless one runs or waits; it takes the place of a waiting prefetch. -/
def Hw.wantLine (h : Hw) (l : Nat) : Hw :=
  if h.lineRuns l || h.serial.queue.any (fun j => j.cls == 3 && j.line == l) then h
  else h.updSerial (fun s => { s with queue := s.queue.filter (fun j => !(j.cls == 5 && j.line == l)) ++ [{ cls := 3, line := l }] })

/-- A new access to the window: a hit or a miss is counted, and the access waits for its word (R525). -/
def Hw.xipOpen (h : Hw) (who a : Nat) : Hw :=
  let l := a / 64
  match h.xipLine l with
  | some d =>
    ((h.inc SPI_XIP_STATUS.HITS).touchLine l).updSerial (fun s =>
      { s with waits := s.waits ++ [{ who := who, off := a, word := some (lineWord d a) }] })
  | none =>
    let late := h.lineRunsVoid l
    ((h.inc SPI_XIP_STATUS.MISSES).wantLine l).updSerial (fun s =>
      { s with waits := s.waits ++ [{ who := who, off := a, late := late }] })

/-- An access ends. -/
def Hw.xipClose (h : Hw) (who : Nat) : Hw := h.updSerial (fun s => { s with waits := s.waits.filter (fun w => w.who != who) })

/-- The fetch of thread t of block k, as one that waits in the window. -/
def whoFetch (k t : Nat) : Nat := 128 + 8 * k + t

/-- Thread t of block k fetches from the window: it stalls, or faults where the fetch cannot start (R157, R524). -/
def Hw.fetchStart (h : Hw) (k t a : Nat) : Hw :=
  let pc := BitVec.ofNat 32 (0x60000000 + a)
  if h.spiSlave || !h.xipReaches a then h.threadFault k t 0x0B pc
  else
    let h := (h.xipClose (whoFetch k t)).xipOpen (whoFetch k t) a
    (h.updThread k t (fun x => { x with stall := .fetch (0x60000000 + a), fetched := none })).wr (BLK_SEQ_STATE.THREAD k t) 3

/-- The PC of thread t of block k. -/
def Hw.threadPc (h : Hw) (k t : Nat) : Nat := (h.reg (BLK_SEQ_PC k t)).toNat

/-- Whether a PC of a thread of block k is permitted (R156). -/
def pcFits (k a : Nat) : Bool :=
  a % 4 == 0 && ((decide (codeBase k ≤ a) && decide (a < codeBase k + 0x1000)) || (decide (0x60000000 ≤ a) && decide (a < 0x64000000)))

/-- A thread's instruction is complete and its PC becomes `next`: it is READY, fetches from the window, or faults at the instruction that
produced the PC (R156, R157). -/
def Hw.goto (h : Hw) (k t next : Nat) : Hw :=
  if !pcFits k next then h.threadFault k t 0x09 (h.reg (BLK_SEQ_PC k t))
  else
    let h := (h.setReg (BLK_SEQ_PC k t) (BitVec.ofNat 32 next)).updThread k t (fun x => { x with fetched := none, stall := .none })
    if next < 0x60000000 then h.wr (BLK_SEQ_STATE.THREAD k t) 1 else h.fetchStart k t (next - 0x60000000)

/-- The thread goes on with the instruction after the one at its PC (R146). -/
def Hw.advance (h : Hw) (k t : Nat) : Hw := h.goto k t (h.threadPc k t + 4)

/-- Step of a thread's EVENT wake (R151): every WAITING thread of block k that declares EVENT and selects one of the
mask's events wakes with bit 5. A halted block remembers no event (R473). -/
def Hw.wakeEvent (h : Hw) (k : Nat) (mask : Nat) : Hw :=
  if h.paused k then h
  else Num.forEach 8 (fun t acc =>
    let x := acc.thread k t
    if acc.rd (BLK_SEQ_STATE.THREAD k t) = 2 && x.sources.testBit 5 &&
        (acc.rd ⟨BLK_SEQ_EVENT_SEL k t, 14, 0⟩ &&& mask) != 0 then
      (acc.advance k t).setReg (BLK_SEQ_DBG_G k t 15) 0x20#32
    else acc) h

/-- A test that runs on the cell, or waits for its bootstrap supply, is abandoned (R181). -/
def Hw.abandonTest (h : Hw) (c : Nat) : Hw :=
  let h := h.setCell c { h.cell c with preCharge := 0 }
  let x := h.cell c
  if x.diagStage = 0 then h.setCell c { x with testing := false }
  else ((h.setCell c { x with diagStage := 0, testing := false }).wr (LEG_DIAG_RESULT.STATE c) 4).wr (LEG_DIAG_RESULT.CAUSE c) 0

/-- A fence of the region of block k began in this step. -/
def Hw.regionNow (h : Hw) (k : Nat) : Bool := h.regionHolds k && (h.region (k / 2)).fencedAt == h.stepCount

/-- The chip fault began in this step. -/
def Hw.chipNow (h : Hw) : Bool := h.chipFault && h.chipAt == h.stepCount + 1

/-- A fence of block k, of its region or of the chip began in this step: a cell's own fence gives way to it (R22). -/
def Hw.higherNow (h : Hw) (k : Nat) : Bool :=
  h.chipNow || h.regionNow k || (h.blockFenced k && (h.block k).fencedAt == h.stepCount)

/-- Fence a cell at cell level without recording a cause: its captured set is discarded (R223), its CELL_FAULT event
occurs (Table 5-9), and it takes its terminal state at the next step boundary, or at once from a freeze (R20, R220). A fence of its block
region or the chip that began in the same step stands in its place (R22). -/
def Hw.fenceCellOnly (h : Hw) (c : Nat) : Hw :=
  if (h.cell c).fenced || h.higherNow (blockOf c) then h
  else
    let h := (h.setCell c { h.cell c with fenced := true, fencedAt := h.stepCount }).dropSet c
    ((h.syncFences).wakeEvent (blockOf c) (2 ^ localOf c)).endFreeze c

/-- A return whose checks have passed is abandoned (R355). -/
def Hw.abandonReturn (h : Hw) (c : Nat) : Hw :=
  if (h.cell c).retWait then
    (h.setCell c { h.cell c with retWait := false, testing := false, preCharge := 0 }).setReg (LEG_REENTRY_STATUS c) 0
  else h

/-- A return of cell c that is in progress is abandoned, its checks included: a fence of its block, step 5 of a reload, a shutdown (R358). -/
def Hw.dropReentry (h : Hw) (c : Nat) : Hw :=
  let h := h.abandonTest c
  let st := h.rd (LEG_REENTRY_STATUS.STATE c)
  if (h.cell c).retWait || st = 1 || st = 2 then
    (h.setCell c { h.cell c with retWait := false, testing := false, preCharge := 0 }).setReg (LEG_REENTRY_STATUS c) 0
  else h

/-- Fence a cell with a cause. The cause is recorded whether or not the cell is already fenced (R22), and a cause after
its return checks have passed abandons the return (R355). -/
def Hw.fenceCell (h : Hw) (c cause : Nat) : Hw := ((h.cellFault c cause).abandonReturn c).fenceCellOnly c

/-- The control engine of block k stops: ramps end where they are, the injector's value is 0 from the next step, and a
capture stops with its points readable (R296, R299, R302). -/
def Hw.stopEngine (h : Hw) (k : Nat) : Hw :=
  let h := h.pacers.foldl (fun (acc : Hw) (e : Nat × Pacer) =>
    if e.1 / 128 = k then (acc.setPacer k (e.1 % 128) {}).wrB (BLK_INPUT_CFG.RAMPING k (e.1 % 128)) false else acc) h
  let h := h.setBlock k { h.block k with injStop := true, injArm := false }
  let st := h.rd (BLK_CAP_STATUS.STATE k)
  if st = 1 || st = 2 then h.wr (BLK_CAP_STATUS.STATE k) 4 else h

/-- Consequences of a fence of block k or of its region, or of a chip fault: cell fences of the same step give way to it (R22), waiting sets
are discarded, tests abandoned, threads FENCED, a halt and, at once, a freeze end (R220, R476), its compare channels return to IDLE (R387), SS1 ends for its cells. -/
def Hw.fenceBlockParts (h : Hw) (k : Nat) : Hw :=
  let h := (cellsOf k).foldl (fun acc c =>
    let acc := (acc.dropSet c).dropReentry c
    if (acc.cell c).fenced && (acc.cell c).fencedAt == acc.stepCount then acc.setCell c { acc.cell c with fenced := false } else acc) h
  let h := ((h.fenceThreads k).wrBit DBG_HALT.HALTED k false).wrBit DBG_HALT.FROZEN k false
  let h := (cellsOf k).foldl (fun acc c => (acc.endFreeze c).wrB (LEG_PWM_STATUS.HALTED c) false) h
  let h := (h.wr (BLK_CMP_STATUS.STATE k 0) 0).wr (BLK_CMP_STATUS.STATE k 1) 0
  ((h.setBlock k { h.block k with ss1On := false, laneRuns := false, stepping := false, underTest := none }).stopEngine k).wakeEvent k 0x3F

/-- Fence a block without recording a cause (R154). A region or chip fence that began in the same step stands in its place (R22). -/
def Hw.fenceBlockOnly (h : Hw) (k : Nat) : Hw :=
  if h.blockFenced k || h.regionNow k || h.chipNow then h
  else
    let h := h.wrBit FENCE_UNIT.BLOCK k true
    ((h.setBlock k { h.block k with fencedAt := h.stepCount }).fenceBlockParts k).syncFences

/-- Fence a block with a cause: its records are replaced by a fence record from the next step boundary (Table 5-2). -/
def Hw.fenceBlock (h : Hw) (k cause : Nat) : Hw := (h.blockFault k cause).fenceBlockOnly k

/-- The two blocks of a region. -/
def blocksOfRegion (r : Nat) : List Nat := [2 * r, 2 * r + 1]

/-- Block k is fenced through its region or the chip: its own fence gives way if it began in this step (R22). -/
def Hw.fencePartsHigher (h : Hw) (k : Nat) : Hw :=
  let h := h.fenceBlockParts k
  if h.blockFenced k && (h.block k).fencedAt == h.stepCount then h.wrBit FENCE_UNIT.BLOCK k false else h

/-- A region fence holds region r from here: both blocks are held, a return in progress is abandoned, CAUSE shows the first cause (R43),
and the leg die's DIE_STATE reads fenced. -/
def Hw.regionHold (h : Hw) (r cause : Nat) : Hw :=
  let x := h.region r
  let h := h.setRegion r { x with causes := if x.causes.contains cause then x.causes else x.causes ++ [cause],
                                  cleared := x.cleared.filter (· != cause), armed := false, matching := 0,
                                  fencedAt := if h.bit FENCE_UNIT.REGION r then x.fencedAt else h.stepCount }
  let h := if h.rd (REGION_RETURN.CAUSE r) = 0 then h.wr (REGION_RETURN.CAUSE r) (faultCode 2 r cause) else h
  let h := (((h.wr (REGION_RETURN.STATE_0 r) 1).wr (REGION_RETURN.STATE_1 r) 1).wrB (REGION_RETURN.REQUEST_0 r) false).wrB
    (REGION_RETURN.REQUEST_1 r) false
  let h := ((h.wrB (REGION_RETURN.CLEARED r) false).wrBit FENCE_UNIT.REGION r true)
  if h.rd (DIE_STATE.DIE (r + 2)) = 1 then h.wr (DIE_STATE.DIE (r + 2)) 2 else h

/-- Fence a region with a cause. A chip fault that began in the same step stands in its place, but for a failed self-test, which the next
start asks for (R22, R567). A leg die that fences its region by itself, on a lost clock or a silent D0, takes the terminal state on its own
oscillator at once (R222, R23). -/
def Hw.fenceRegion (h : Hw) (r cause : Nat) : Hw :=
  let h := h.record (faultCode 2 r cause)
  if h.chipNow && cause != 0x06 then h
  else
    let h := ((blocksOfRegion r).foldl (fun acc k => acc.fencePartsHigher k) (h.regionHold r cause)).syncFences
    if cause = 0x02 || cause = 0x03 then (List.range 12).foldl (fun acc i => acc.applyHold (12 * r + i)) h else h

/-- A region fence that began in this step gives way to the chip's (R22). -/
def Hw.regionGivesWay (h : Hw) (r : Nat) : Hw :=
  if h.bit FENCE_UNIT.REGION r && (h.region r).fencedAt == h.stepCount && !(h.region r).causes.contains 0x06 then
    let h := h.setRegion r { h.region r with causes := [], cleared := [] }
    let h := (h.setReg (REGION_RETURN r) 0).wrBit FENCE_UNIT.REGION r false
    if h.rd (DIE_STATE.DIE (r + 2)) = 2 then h.wr (DIE_STATE.DIE (r + 2)) 1 else h
  else h

/-- A chip fault: the first code is held in CHIP_FAULT and in keep memory, every cell goes to its safe state at the next step boundary, at
once from a freeze or where the root clock or D0 stands still (R20, R23, R220), a load is discarded and no command reaches a cell until the
restart (R42, R98). ON_CHIP_FAULT drives the enabled DSCH pins
except for INTERFACE_DIE (R189). -/
def Hw.chipFaultSet (h : Hw) (cause : Nat) : Hw :=
  let code := faultCode 3 0 cause
  let h := h.record code
  let h := if h.chipFault then h else { h.wr CHIP_FAULT.CODE code with chipAt := h.stepCount + 1 }
  let h := if h.faultStored then h
    else { h with faultStored := true,
                  keepPend := h.keepPend ++ [(0x30, Num.bytesLE 2 code ++ [0, 0] ++ Num.bytesLE 4 (h.rd OP_SECONDS.SECONDS))] }
  let h := (List.range 8).foldl (fun acc k => acc.fencePartsHigher k) h
  let h := if h.chipNow then Num.forEach 4 (fun r acc => acc.regionGivesWay r) h else h
  let h := { h with load := {} }
  let h := (if h.rd BS_STATUS.STATE ≥ 2 && h.rd BS_STATUS.STATE ≤ 5 then h.wr BS_STATUS.STATE 0 else h).frameBreaks
  let h := if h.on DSCH_CFG.ON_CHIP_FAULT && cause != 3 then
      { h with discharge := { h.discharge with driven := true } }
    else h
  let h := h.syncFences
  if cause = 0x02 then h.applyHolds else h

-- ## Safe reactions (R445)

/-- SS1 begins in block k: S0, the largest speed in its scope, is kept with its start step (R443). -/
def Hw.beginSs1 (h : Hw) (k s0 : Nat) (wide : Bool) : Hw :=
  let b := h.block k
  let h := h.setBlock k { b with ss1On := true, ss1Start := h.stepCount, ss1Speed := s0, ss1Wide := wide, stopEnd := false }
  match h.owner k with
  | some p => h.wrBit (SAFE_STATUS.SS1 p) k true
  | none => h

/-- SS1 ends in block k. -/
def Hw.endSs1 (h : Hw) (k : Nat) : Hw :=
  let h := h.setBlock k { h.block k with ss1On := false, stopEnd := false }
  match h.owner k with
  | some p => h.wrBit (SAFE_STATUS.SS1 p) k false
  | none => h

/-- Block k enters a safety stop with a cause (0 where a command caused it); `how` is 0 for the terminal state and 1
for SS1 first. It takes effect at the next step boundary. -/
def Hw.askStop (h : Hw) (k how cause : Nat) : Hw :=
  let b := h.block k
  h.setBlock k { b with acting := if how = 0 then 0 else min b.acting 1, stopCause := cause, release := false }

/-- Whether a declared reaction decelerates first (Table 16-5). -/
def reactionSs1 (re : Nat) : Nat := if re ≥ 2 then 1 else 0

/-- A safety cause of partition p (level 7): recorded, and every block it owns enters a safety stop by the declared
reaction (R433, R445). -/
def Hw.safetyCause (h : Hw) (p cause : Nat) : Hw :=
  let code := faultCode 7 p cause
  let h := h.record code
  (h.blocksOf p).foldl (fun acc k =>
    (acc.wr (SAFE_STATUS.CAUSE p) code).askStop k (reactionSs1 (acc.claims p).reaction) code) h

-- ## The UVLO threshold of VDRV (R174, R175)

/-- The UVLO selection of region r: the highest among the cells of partitions that are active or being armed (R175). -/
def Hw.uvloSel (h : Hw) (r : Nat) : Nat :=
  (List.range 12).foldl (fun m i =>
    let c := 12 * r + i
    if h.blockArmed (blockOf c) then max m (h.rd (LEG_BST_CFG.UVLO_SEL c)) else m) 0

/-- Bring every region's UVLO_SEL in line with its partitions (R175). -/
def Hw.syncUvlo (h : Hw) : Hw := Num.forEach 4 (fun r acc => acc.wr (REGION_VDRV_STATUS.UVLO_SEL r) (acc.uvloSel r)) h

/-- The declared safe reaction of partition p to a code, if the partition is active and owns blocks: it is fenced and the reaction
holds its cells until a reload; a partition without blocks has no reaction (R445). -/
def Hw.partReact (h : Hw) (p code : Nat) : Hw :=
  if h.rd (PART_RUN.STATE p) = 1 && (h.claims p).blocks != 0 then
    let h := (h.wr (PART_RUN.STATE p) 2).wr (PART_FAULT.CODE p) code
    let h := h.setPart p { h.part p with reacting := true, commitReq := false }
    let h := (h.blocksOf p).foldl (fun acc k =>
      (acc.fenceThreads k).setBlock k { acc.block k with
        acting := if (acc.claims p).reaction ≥ 2 then min (acc.block k).acting 1 else 0
        stopCause := 0x10000 }) h
    h.syncUvlo
  else h

/-- A partition cause (level 4) with the declared safe reaction: from step 5 of a reload until re-entry it is only
recorded (R98). -/
def Hw.partCause (h : Hw) (p cause : Nat) : Hw := (h.record (faultCode 4 p cause)).partReact p (faultCode 4 p cause)

/-- Partitions that depend on D6 (Table 2-3): they own precision channels, or their SAFETY section uses the torque
monitor or VDC_B. -/
def Hw.dependsOnD6 (h : Hw) (p : Nat) : Bool :=
  h.active p && ((h.claims p).measClaim != 0 || h.on (SAFE_CFG.TM_EN p) ||
    (!(h.blocksOf p).isEmpty && h.bit VDC_XCHK_CFG.PARTS p))

/-- D6's results, VDC_B readings and verdicts are invalid: each dependent partition takes its reaction with the given
partition cause, running SS1 ends, and the supervisory comparators read 0 where the clock stopped (R60, R120, R244,
R444). -/
def Hw.d6Invalid (h : Hw) (cause : Nat) (clock : Bool) : Hw :=
  let h := { h with d6Cause := cause }
  let h := if clock then (h.setDie 6 { h.die 6 with clockBad := true }).setReg SCMP_STATUS 0 else h
  let h := (List.range 8).foldl (fun acc k =>
    if (acc.block k).ss1On then acc.setBlock k { acc.block k with stopEnd := true } else acc) h
  (List.range 16).foldl (fun acc p => if acc.dependsOnD6 p then acc.partCause p cause else acc) h

-- ## Answers of an access

/-- The status and data of the last access of a requester (the model's own record of the response). -/
def Hw.answer (h : Hw) (s : Status) (d : Word) : Hw := { h with lastStatus := s, lastData := d }

/-- The requester's key for read copies and keep latches: one per partition and one for the debugger (R57). -/
def Hw.copyKey (h : Hw) (q : Requester) : Nat :=
  match q with
  | .host p => p.val
  | .thread k _ => (h.owner k.val).getD 17
  | .debugger _ => 16
  | .unauth _ => 17

/-- Copy registers for a requester (R57, R246, R261, R389, R411). -/
def Hw.copyRegs (h : Hw) (key : Nat) (rs : List (RegId × Word)) : Hw :=
  { h with copies := rs.foldl (fun t e => Tab.put t (key * 0x100000000 + e.1.addr) e.2 e.1.reset) h.copies }

/-- The copy a requester holds of a register, or its reset value where it has taken none. -/
def Hw.copyOf (h : Hw) (key : Nat) (addr : Nat) (reset : Word) : Word :=
  Tab.get h.copies (key * 0x100000000 + addr) reset

-- ## Lifting an effect on the part to the state

/-- An effect on everything but memory. -/
def State.onHw (s : State) (f : Hw → Hw) : Host.Outcome State Fault Refusal := .next { s with hw := f s.hw }

/-- An effect that happens only while the control dies run (chapter 2); otherwise the state stands. -/
def State.onLive (s : State) (f : Hw → Hw) : Host.Outcome State Fault Refusal :=
  .next { s with hw := if s.hw.live then f s.hw else s.hw }

/-- Memory and everything else. -/
structure Mach where
  mem : Memory
  hw : Hw
  deriving DecidableEq, Repr

/-- An effect that may write memory, while the control dies run. -/
def State.onMach (s : State) (f : Mach → Mach) : Host.Outcome State Fault Refusal :=
  if s.hw.live then .next { s with mem := (f ⟨s.mem, s.hw⟩).mem, hw := (f ⟨s.mem, s.hw⟩).hw } else .next s

/-- Change only the hardware part. -/
def Mach.onHw (m : Mach) (f : Hw → Hw) : Mach := { m with hw := f m.hw }

end Sys2Proof.Machine
end

