-- ==== Sys2Proof/Machine/Gate.lean ====
section
/-!
DEFINITION. Gate drive and power-stage protection (chapter 6): the switching profile, the interlock, the bootstrap and VDRV
lockouts, short-circuit detection, off-state diagnostics, and the pulses of the discharge fallback.
-/
namespace Sys2Proof.Machine

/-- The gate phase of a switch in LEG_c_GD_STATUS (Table 6-6). -/
def gatePhase (c : Nat) : Switch → Fld
  | .hs => LEG_GD_STATUS.HS_PHASE c
  | .ls => LEG_GD_STATUS.LS_PHASE c

/-- The effective PWM command of a switch. -/
def gateCmd (c : Nat) : Switch → Fld
  | .hs => LEG_PWM_STATUS.HS_CMD c
  | .ls => LEG_PWM_STATUS.LS_CMD c

/-- The turn-on profile register of a switch. -/
def profileOn (c : Nat) : Switch → RegId
  | .hs => LEG_GD_ON_HS c
  | .ls => LEG_GD_ON_LS c

/-- The turn-off profile register of a switch. -/
def profileOff (c : Nat) : Switch → RegId
  | .hs => LEG_GD_OFF_HS c
  | .ls => LEG_GD_OFF_LS c

/-- Update one switch of a cell. -/
def Hw.updSw (h : Hw) (c : Nat) (s : Switch) (f : SwitchSt → SwitchSt) : Hw :=
  h.setCell c ((h.cell c).setSw s (f ((h.cell c).sw s)))

/-- Whether the gate runs a turn-on phase. -/
def Hw.gateOn (h : Hw) (c : Nat) (s : Switch) : Bool :=
  let p := h.rd (gatePhase c s)
  decide (1 ≤ p ∧ p ≤ 3)

/-- Phase 1 of a turn-on (R165, R168, R177): the profile in force is latched for the edge and blanking starts. -/
def Hw.startTurnOn (h : Hw) (c : Nat) (s : Switch) : Hw :=
  (h.updSw c s (fun y => { y with profile := h.reg (profileOn c s), dvdt := h.reg (LEG_GD_DVDT c),
                                  waiting := false, low := false, blank := true })).wr (gatePhase c s) 1

/-- Phase 1 of a turn-off (R165, R168). -/
def Hw.startTurnOff (h : Hw) (c : Nat) (s : Switch) : Hw :=
  (h.updSw c s (fun y => { y with profile := h.reg (profileOff c s), dvdt := h.reg (LEG_GD_DVDT c),
                                  waiting := false, blank := false })).wr (gatePhase c s) 4

/-- A turn-on whose command is on and whose dead time has elapsed: it starts, or waits for the opposite gate and the
wait is counted (R169). A soft turn-off in progress is not replaced (R179). -/
def Hw.gateTurnOn (h : Hw) (c : Nat) (s : Switch) : Hw :=
  let p := h.rd (gatePhase c s)
  if h.on (gateCmd c s) && !(h.on (gateCmd c (otherSwitch s))) && (p == 0 || p == 4 || p == 5) &&
      !((h.cell c).sw s).waiting then
    if ((h.cell c).sw (otherSwitch s)).low then h.startTurnOn c s
    else (h.updSw c s (fun y => { y with waiting := true })).incTop (LEG_GD_COUNT.INTERLOCK_WAITS c)
  else h

/-- GATE_TURN_ON (R165, R168, R240). -/
def execGateTurnOn (c : CellId) (sw : Switch) (s : State) := s.onLive (fun h => h.gateTurnOn c.val sw)

/-- A turn-off of a switch that is on or turning on; a soft turn-off in progress meets it (R179). It completes
whatever clock has stopped (R164). -/
def Hw.gateTurnOff (h : Hw) (c : Nat) (s : Switch) : Hw :=
  if h.on (gateCmd c s) then h
  else if h.gateOn c s then h.startTurnOff c s
  else h.updSw c s (fun y => { y with waiting := false })

/-- GATE_TURN_OFF (R164, R165): it needs no clock of the control dies. -/
def execGateTurnOff (c : CellId) (sw : Switch) (s : State) := s.onHw (fun h => h.gateTurnOff c.val sw)

/-- The strong phase of an edge gives way to the weak phase (Table 6-1). -/
def Hw.endStrong (h : Hw) (c : Nat) (s : Switch) : Hw :=
  let p := h.rd (gatePhase c s)
  if p = 1 then h.wr (gatePhase c s) 2 else if p = 4 then h.wr (gatePhase c s) 5 else h

/-- PRE_LEVEL_REACHED (R165). -/
def execPreLevelReached (c : CellId) (sw : Switch) (s : State) := s.onHw (fun h => h.endStrong c.val sw)

/-- PRE_TIMEOUT (R165): whichever of the two end conditions comes first ends the phase. -/
def execPreTimeout (c : CellId) (sw : Switch) (s : State) := s.onHw (fun h => h.endStrong c.val sw)

/-- The weak phase gives way to the hold phase: on-hold, or strong hold-off (Table 6-1). That the gate reads below 1.0 V is
INTERLOCK_CONFIRM's to say (R169, log entry 10). -/
def Hw.endWeak (h : Hw) (c : Nat) (s : Switch) : Hw :=
  let p := h.rd (gatePhase c s)
  if p = 2 then h.wr (gatePhase c s) 3
  else if p = 5 then h.wr (gatePhase c s) 0
  else h

/-- DVDT_TRANSITION (R166). -/
def execDvdtTransition (c : CellId) (sw : Switch) (s : State) := s.onHw (fun h => h.endWeak c.val sw)

/-- The expiry of WEAK_TIMEOUT in a weak phase is counted and the hold phase begins (R167). Where a short-circuit detection took the edge
over in its weak phase, it is counted as usual (Table 6-5). -/
def Hw.weakTimeout (h : Hw) (c : Nat) (s : Switch) : Hw :=
  let p := h.rd (gatePhase c s)
  if p = 2 || p = 5 then (h.endWeak c s).incTop (LEG_GD_COUNT.SLOPE_TIMEOUTS c)
  else if p = 6 && ((h.cell c).sw s).softWeak then
    (h.updSw c s (fun y => { y with softWeak := false })).incTop (LEG_GD_COUNT.SLOPE_TIMEOUTS c)
  else h

/-- WEAK_TIMEOUT (R167). -/
def execWeakTimeout (c : CellId) (sw : Switch) (s : State) := s.onHw (fun h => h.weakTimeout c.val sw)

/-- The opposite gate is confirmed below 1.0 V, and a waiting turn-on of `s` starts (R169). -/
def Hw.interlockConfirm (h : Hw) (c : Nat) (s : Switch) : Hw :=
  let o := otherSwitch s
  if h.gateOn c o then h
  else
    let h := h.updSw c o (fun y => { y with low := true })
    if ((h.cell c).sw s).waiting && h.on (gateCmd c s) then h.startTurnOn c s else h

/-- INTERLOCK_CONFIRM (R169). -/
def execInterlockConfirm (c : CellId) (sw : Switch) (s : State) := s.onHw (fun h => h.interlockConfirm c.val sw)

/-- Both switches of a cell are commanded off, no turn-on waits, and they stay off until the fence state is applied (R170, Table 6-5). -/
def Hw.dropCmds (h : Hw) (c : Nat) : Hw :=
  let x := h.cell c
  (h.setCell c { x with forcedOff := 3, hs := { x.hs with waiting := false, deadWait := false, minHold := false, extended := false },
                        ls := { x.ls with waiting := false, deadWait := false, minHold := false, extended := false } }).setCmds c false false

/-- A turn-on that the PWM unit commanded has waited 2 µs: INTERLOCK_TIMEOUT. The limit does not apply to a low-side
turn-on of a terminal state or an STO hold, nor to the pulses of a discharge (R170, R191). Both commands on at once: SHOOT_THROUGH_COMMAND. -/
def Hw.interlockTimeout (h : Hw) (c : Nat) (s : Switch) : Hw :=
  if h.on (gateCmd c .hs) && h.on (gateCmd c .ls) then (h.dropCmds c).fenceCell c 0x06
  else if ((h.cell c).sw s).waiting && ((h.cell c).hold == .none || (h.cell c).hold == .frozen) then (h.dropCmds c).fenceCell c 0x05
  else h

/-- INTERLOCK_TIMEOUT (R170). -/
def execInterlockTimeout (c : CellId) (sw : Switch) (s : State) := s.onLive (fun h => h.interlockTimeout c.val sw)

-- ## Supplies of the gates

/-- Whether every unfenced cell of region r that belongs to a block of a partition that is active or being armed has its bootstrap above UVLO, and
VDRV is above UVLO (R47, R173), and its zone is not at shutdown (R423). -/
def Hw.regionReady (h : Hw) (r : Nat) : Bool :=
  h.vdrvOk r && h.rd (THERM_STATUS.LEVEL (r + 1)) != 3 && (List.range 12).all (fun i =>
    let c := 12 * r + i
    !h.blockArmed (blockOf c) || h.cellFenced c || h.on (LEG_GD_STATUS.BST_OK c))

/-- Region r is armed once its supplies are above UVLO (R47); a fenced region is not. -/
def Hw.armRegion (h : Hw) (r : Nat) : Hw :=
  h.setRegion r { h.region r with armed := h.regionReady r && !h.bit FENCE_UNIT.REGION r }

/-- The fence of region r ends once none of its blocks is held (R43). -/
def Hw.regionSettle (h : Hw) (r : Nat) : Hw :=
  if h.bit FENCE_UNIT.REGION r && (blocksOfRegion r).all (fun k => !h.regionHolds k) then
    let h := ((h.wrBit FENCE_UNIT.REGION r false).wr (REGION_RETURN.CAUSE r) 0).wrB (REGION_RETURN.CLEARED r) false
    let h := h.setRegion r { h.region r with causes := [], cleared := [] }
    let h := if h.rd (DIE_STATE.DIE (r + 2)) = 2 then h.wr (DIE_STATE.DIE (r + 2)) 1 else h
    (h.armRegion r).syncFences
  else h.syncFences

/-- A block of a cleared region that no partition claims counts as returned (R43). -/
def Hw.returnUnclaimed (h : Hw) (r : Nat) : Hw :=
  if h.on (REGION_RETURN.CLEARED r) then
    let h := if (h.owner (2 * r)).isNone then h.wr (REGION_RETURN.STATE_0 r) 0 else h
    let h := if (h.owner (2 * r + 1)).isNone then h.wr (REGION_RETURN.STATE_1 r) 0 else h
    h.regionSettle r
  else h

/-- A region cause has cleared (Table 1-12); CLEARED is 1 once all have (R43). -/
def Hw.clearRegionCause (h : Hw) (r cause : Nat) : Hw :=
  let x := h.region r
  if x.causes.contains cause && !x.cleared.contains cause then
    let h := h.setRegion r { x with cleared := x.cleared ++ [cause] }
    if (h.region r).causes.all (fun k => (h.region r).cleared.contains k) then (h.wrB (REGION_RETURN.CLEARED r) true).returnUnclaimed r
    else h
  else h

/-- VDRV_r rises above its UVLO threshold: VDRV_OK, the region cause clears, and the region may arm (R47, R174). -/
def Hw.vdrvAbove (h : Hw) (r : Nat) : Hw :=
  (((h.wrBit SUPPLY_STATUS.VDRV_OK r true).wrB (REGION_VDRV_STATUS.VDRV_OK r) true).clearRegionCause r 4).armRegion r

/-- VDRV_ABOVE_UVLO (R47, R172, R174). -/
def execVdrvAboveUvlo (r : RegionId) (s : State) := s.onLive (fun h => h.vdrvAbove r.val)

/-- VDRV_r falls below UVLO: the region is fenced with VDRV_UVLO and its cells are held off (R21, R176). A soft
turn-off in progress completes first (Table 6-5). -/
def Hw.vdrvBelow (h : Hw) (r : Nat) : Hw :=
  if h.vdrvOk r then
    let h := (h.wrBit SUPPLY_STATUS.VDRV_OK r false).wrB (REGION_VDRV_STATUS.VDRV_OK r) false
    let h := h.fenceRegion r 0x04
    (List.range 12).foldl (fun acc i => acc.applyHold (12 * r + i)) h
  else h

/-- VDRV_UVLO (R21, R22, R174, R176). -/
def execVdrvUvlo (r : RegionId) (s : State) := s.onLive (fun h => h.vdrvBelow r.val)


/-- A UVLO threshold in 10 mV (R174). -/
def uvloLevel (sel : Nat) : Nat := [400, 750, 1000, 1200].getD sel 1200

/-- The thresholds rise with a set whose CELL sections have been written (R175), and R47 is judged against them: VDRV_r by its last reading,
with the region fence of R176 where an active partition has cells there; a bootstrap supply whose threshold rose from `old` counts as below
it until BOOTSTRAP_ABOVE_UVLO says otherwise (DESIGN CHOICE, log entry 64). -/
def Hw.raiseUvlo (h : Hw) (cells : List Nat) (old : Nat → Nat) : Hw :=
  let h := cells.foldl (fun (acc : Hw) c =>
    if old c < acc.rd (LEG_BST_CFG.UVLO_SEL c) then acc.wrB (LEG_GD_STATUS.BST_OK c) false else acc) h
  Num.forEach 4 (fun r acc =>
    let was := h.rd (REGION_VDRV_STATUS.UVLO_SEL r)
    let now := acc.rd (REGION_VDRV_STATUS.UVLO_SEL r)
    if was < now && decide (acc.rd (REGION_VDRV_STATUS.VDRV r) < uvloLevel now) then
      if (blocksOfRegion r).any (fun k => acc.blockActive k) then acc.vdrvBelow r
      else ((acc.wrBit SUPPLY_STATUS.VDRV_OK r false).wrB (REGION_VDRV_STATUS.VDRV_OK r) false).armRegion r
    else acc) h.syncUvlo

/-- A bootstrap supply below UVLO turns the high side off with its turn-off profile, where it stays, and fences the cell (R176). A soft
turn-off proceeds (Table 6-5). -/
def Hw.bootstrapLow (h : Hw) (c : Nat) : Hw :=
  if h.on (LEG_GD_STATUS.BST_OK c) then
    let x := h.cell c
    let h := (h.wrB (LEG_GD_STATUS.BST_OK c) false).setCell c
      { x with forcedOff := x.forcedOff ||| 1, hs := { x.hs with waiting := false, deadWait := false, minHold := false, extended := false } }
    ((h.setCmds c false (h.on (LEG_PWM_STATUS.LS_CMD c))).gateTurnOff c .hs).fenceCell c 0x03
  else h

/-- BOOTSTRAP_UVLO (R174, R176, R193). -/
def execBootstrapUvlo (c : CellId) (s : State) := s.onLive (fun h => h.bootstrapLow c.val)

-- ## Short-circuit detection

/-- BLANK_END: short-circuit blanking of a switch ends (R177). -/
def execBlankEnd (c : CellId) (sw : Switch) (s : State) :=
  s.onHw (fun h => h.updSw c.val sw (fun y => { y with blank := false }))

/-- Detection outside blanking while the switch is on: a soft turn-off starts, which nothing replaces (R178, R179). On
a low side that a terminal state holds on, both switches are held off and SHORT_IN_ACTIVE_SHORT is recorded (R180);
otherwise the cell is fenced. Both commands end, so a turn-on that waits does not start (Table 6-5). -/
def Hw.shortCircuit (h : Hw) (c : Nat) (s : Switch) : Hw :=
  if h.gateOn c s && !((h.cell c).sw s).blank then
    let inShort := s == .ls && (h.cell c).hold == .terminal && h.terminalLow c
    let h := h.updSw c s (fun y => { y with softWeak := h.rd (gatePhase c s) == 2 })
    let h := ((h.wr (gatePhase c s) 6).wrB (LEG_GD_STATUS.SOFT_OFF c) true).wrB (LEG_SC_CAPTURE.SWITCH c) (s == .ls)
    let h := h.dropCmds c
    if inShort then
      let h := h.setCell c { h.cell c with shortHold := true }
      h.fenceCell c 0x0C
    else h.fenceCell c (if s == .hs then 0x01 else 0x02)
  else h

/-- SHORT_CIRCUIT_DETECT (R19, R164, R177 to R180, R193). -/
def execShortCircuitDetect (c : CellId) (sw : Switch) (s : State) := s.onHw (fun h => h.shortCircuit c.val sw)

/-- The soft turn-off ends: strong hold-off, and the peak sense current in µA is recorded (R178). -/
def Hw.softEnd (h : Hw) (c : Nat) (s : Switch) (peak : Nat) : Hw :=
  if h.rd (gatePhase c s) = 6 then
    let h := (h.updSw c s (fun y => { y with softWeak := false })).wr (gatePhase c s) 0
    let h := h.wrB (LEG_GD_STATUS.SOFT_OFF c) (h.rd (gatePhase c (otherSwitch s)) == 6)
    h.wr (LEG_SC_CAPTURE.PEAK c) (min peak 0xFFFF)
  else h

/-- SOFT_TURN_OFF_END (R178). -/
def execSoftTurnOffEnd (c : CellId) (sw : Switch) (peak : Nat) (s : State) := s.onHw (fun h => h.softEnd c.val sw peak)

-- ## Off-state diagnostics

/-- Whether a cell does not run: the rules hold it, no active partition owns it, or it is commanded OFF with both switches off (R182). -/
def Hw.outOfService (h : Hw) (c : Nat) : Bool :=
  h.cellFenced c || (h.cell c).hold == .terminal || !h.blockActive (blockOf c) ||
    (h.rd (LEG_PWM_STATUS.VECTOR c) == 0 && (h.cell c).outVec == 0 && !h.on (LEG_PWM_STATUS.HS_CMD c) && !h.on (LEG_PWM_STATUS.LS_CMD c))

/-- The cells a diagnostic of cell c tests together: its trio where all three are held off, else the cell (R182). -/
def Hw.diagGroup (h : Hw) (c : Nat) : List Nat :=
  match h.trioOf c with
  | some t => if (h.trioCells t).all (fun x => h.outOfService x) then h.trioCells t else [c]
  | none => [c]

/-- Start diagnostics of cell c with its group: STATE running, results cleared, both switches held off (R180, R182). -/
def Hw.startDiag (h : Hw) (c why : Nat) : Hw :=
  let g := h.diagGroup c
  let single := g.length = 1
  g.foldl (fun acc x =>
    let acc := acc.setCell x { acc.cell x with
      diagStage := if single then 6 else 1, testing := true, diagHigh := [], diagLow := [], diagPairs := [],
      diagRotating := false, diagVdc := 0, diagFor := why }
    let acc := acc.setReg (LEG_DIAG_RESULT x) 0
    let acc := (acc.wr (LEG_DIAG_RESULT.STATE x) 1).wrB (LEG_DIAG_RESULT.PROCEDURE x) single
    if (acc.cell x).hold == .terminal then acc.setCmds x false false else acc) h

/-- A test runs on cell c, or waits for its bootstrap supply. -/
def Hw.inTest (h : Hw) (c : Nat) : Bool := (h.cell c).diagStage != 0 || (h.cell c).preCharge != 0

/-- A test of cell c waits for its bootstrap supply, or starts (R172). -/
def Hw.testStart (h : Hw) (c why : Nat) : Hw :=
  if h.on (LEG_GD_STATUS.BST_OK c) then h.startDiag c why
  else h.setCell c { h.cell c with preCharge := why, testing := true } |>.applyHold c

/-- A bootstrap supply rises above its threshold plus 0.4 V (R174), which may arm the region (R47) and lets a waiting test start (R172). -/
def Hw.bootstrapAbove (h : Hw) (c : Nat) : Hw :=
  let why := (h.cell c).preCharge
  let h := h.wrB (LEG_GD_STATUS.BST_OK c) true
  let h := if why = 0 then h else (h.setCell c { h.cell c with preCharge := 0 }).startDiag c why
  h.armRegion (regionOf c)

/-- BOOTSTRAP_ABOVE_UVLO (R47, R172, R174). -/
def execBootstrapAboveUvlo (c : CellId) (s : State) := s.onLive (fun h => h.bootstrapAbove c.val)

/-- A bootstrap supply that has not risen within 15 ms fences the cell, or fails the return that waits for it (R173, R354); the region then
arms its other cells. -/
def Hw.bootstrapLate (h : Hw) (c : Nat) : Hw :=
  if h.vdrvOk (regionOf c) && !h.on (LEG_GD_STATUS.BST_OK c) then
    let why := (h.cell c).preCharge
    let h := if why = 0 then h else (h.setCell c { h.cell c with preCharge := 0, testing := false })
    let h := if why = 2 then (h.wr (LEG_REENTRY_STATUS.STATE c) 5).wr (LEG_REENTRY_STATUS.CAUSE c) 0x04 else h
    let h := (h.fenceCell c 0x04).armRegion (regionOf c)
    if why = 0 then h else h.applyHold c
  else h

/-- BOOTSTRAP_PRECHARGE (R173, R354). -/
def execBootstrapPrecharge (c : CellId) (s : State) := s.onLive (fun h => h.bootstrapLate c.val)

/-- A RUN of diagnostics (R181): no effect while a test or a return check runs, NOT_READY for a cell in service. -/
def Hw.diagRun (h : Hw) (c : Nat) : Status × Hw :=
  if (h.cell c).diagStage ≠ 0 || h.rd (LEG_REENTRY_STATUS.STATE c) = 1 || (h.cell c).testing then (.ok, h)
  else if !h.cellFenced c then (.notReady, h)
  else (.ok, h.startDiag c 0)

/-- Whether any of a list of readings is at or below a level. -/
def anyAtMost (v : Nat) (xs : List Nat) : Bool := xs.any (fun x => decide (x ≤ v))
/-- Whether any of a list of readings is at or above a level. -/
def anyAtLeast (v : Nat) (xs : List Nat) : Bool := xs.any (fun x => decide (v ≤ x))

/-- The cause the trio procedure gives the i-th cell of the trio (Table 6-4), 0 on pass, and whether it is recorded
trio-wide (R185). Voltages in 10 mV. OPEN_CHECK, which Table 6-4 names in the single procedure alone, does not act here, and `gnd` is the
cell's own GND_CHECK (DESIGN CHOICE, log entry 62). -/
def classifyTrio (i : Nat) (gnd : Bool) (high low pairs : List Nat) (vdc : Nat) (rotating : Bool) : Nat × Bool :=
  let dc := decide (600 ≤ vdc)
  if rotating then
    if gnd && decide (high.getD i 0 ≤ 50) then (0x09, false)
    else if dc && decide (vdc - 100 ≤ low.getD i 0) then (0x08, false)
    else (0, false)
  else if gnd && anyAtMost 50 high then (0x09, true)
  else if dc && anyAtLeast (vdc - 100) low then (0x08, true)
  else
    let ab := decide (100 < pairs.getD 0 0)
    let bc := decide (100 < pairs.getD 1 0)
    let ca := decide (100 < pairs.getD 2 0)
    let mine := match i with
      | 0 => ab && ca
      | 1 => ab && bc
      | _ => bc && ca
    if mine then (0x0A, false) else (0, false)

/-- The cause the single procedure gives (Table 6-4), each reading against the VDC_A of its own time; below 6 V at either the DC+ check does
not apply (R186). -/
def classifySingle (gnd opn : Bool) (a b vdcA vdcB : Nat) : Nat :=
  if gnd && decide (a ≤ 50) && decide (b ≤ 50) then 0x09
  else if decide (600 ≤ min vdcA vdcB) && decide (vdcA - 100 ≤ a) && decide (vdcB - 100 ≤ b) then 0x08
  else if opn && decide (b + 200 < a) then 0x0A
  else 0

/-- The classification ends the test of cell x, i-th of its group: a failing cell is fenced with the cause (R188), a returning one stays
fenced (R354). The switches stay held off for the trip test of a return, else the terminal state resumes (R180). -/
def Hw.diagClassify (h : Hw) (x i : Nat) (single scFail : Bool) : Hw :=
  let y := h.cell x
  let gnd := h.on (LEG_DIAG_CFG.GND_CHECK x)
  let opn := h.on (LEG_DIAG_CFG.OPEN_CHECK x)
  let r := if single then (classifySingle gnd opn (y.diagHigh.getD 0 0) (y.diagLow.getD 0 0) (y.diagPairs.getD 0 0) y.diagVdc, false)
    else classifyTrio i gnd y.diagHigh y.diagLow y.diagPairs y.diagVdc y.diagRotating
  let cause := if r.1 ≠ 0 then r.1 else if scFail then 0x0B else 0
  let returns := y.diagFor == 2 && h.rd (LEG_REENTRY_STATUS.STATE x) == 1
  let h := h.setCell x { y with diagStage := 0, testing := (returns || y.diagFor == 3) && cause == 0 }
  let h := h.wrB (LEG_DIAG_RESULT.TRIO_WIDE x) (r.2 && r.1 != 0)
  let h := h.wrB (LEG_DIAG_RESULT.DC_PLUS_UNTESTED x) (decide ((if single then min (y.diagPairs.getD 0 0) y.diagVdc else y.diagVdc) < 600))
  let h := h.wr (LEG_DIAG_RESULT.CAUSE x) cause
  let h := h.wr (LEG_DIAG_RESULT.STATE x) (if cause = 0 then 2 else 3)
  let h := if cause = 0 then h
    else if returns then
      ((h.cellFault x cause).wr (LEG_REENTRY_STATUS.STATE x) 5).wr (LEG_REENTRY_STATUS.CAUSE x) cause
    else h.fenceCell x cause
  h.applyHold x

/-- The group that runs with cell c: the cells of its trio in the same stage, or the cell. -/
def Hw.diagRunning (h : Hw) (c : Nat) : List Nat :=
  if h.on (LEG_DIAG_RESULT.PROCEDURE c) then [c]
  else match h.trioOf c with
    | some t => h.trioCells t
    | none => [c]

/-- A stage ends and its reading is taken (Table 6-3); after the SC stage the cells are classified (R183 to R188). -/
def Hw.diagStageEnd (h : Hw) (c : Nat) (rd : DiagReading) : Hw :=
  let st := (h.cell c).diagStage
  let g := h.diagRunning c
  let single := h.on (LEG_DIAG_RESULT.PROCEDURE c)
  let each (f : Nat → Cell → Cell) (h : Hw) : Hw := g.foldl (fun acc x => acc.setCell x (f x (acc.cell x))) h
  let idx (x : Nat) : Nat := g.idxOf x
  match st with
  | 1 =>
    let rot := decide (100 < rd.lineMax)
    let h := each (fun _ y => { y with diagStage := 2, diagRotating := rot }) h
    g.foldl (fun acc x => acc.wrB (LEG_DIAG_RESULT.OPEN_UNTESTED x) rot) h
  | 2 =>
    let h := each (fun _ y => { y with diagStage := 3, diagHigh := if y.diagRotating then rd.maxes else rd.volts }) h
    g.foldl (fun acc x => acc.wr (LEG_DIAG_VOLTS.HIGH x) (min (rd.volts.getD (idx x) 0) 0xFFFF)) h
  | 3 =>
    let h := each (fun _ y => { y with diagStage := if y.diagRotating then 5 else 4, diagVdc := rd.vdcA,
                                       diagLow := if y.diagRotating then rd.mins else rd.volts }) h
    g.foldl (fun acc x => acc.wr (LEG_DIAG_VOLTS.LOW x) (min (rd.volts.getD (idx x) 0) 0xFFFF)) h
  | 4 => each (fun _ y => { y with diagStage := 5, diagPairs := rd.pairs }) h
  | 5 => g.foldl (fun acc x => acc.diagClassify x (idx x) single (rd.scMissed.contains x)) h
  | 6 =>
    let h := each (fun _ y => { y with diagStage := 7, diagHigh := rd.volts, diagPairs := [rd.vdcA] }) h
    h.wr (LEG_DIAG_VOLTS.HIGH c) (min (rd.volts.getD 0 0) 0xFFFF)
  | 7 =>
    let h := each (fun _ y => { y with diagStage := 5, diagLow := rd.volts, diagVdc := rd.vdcA }) h
    h.wr (LEG_DIAG_VOLTS.LOW c) (min (rd.volts.getD 0 0) 0xFFFF)
  | _ => h

/-- DIAG_STAGE_END (R64, R180, R183 to R188). -/
def execDiagStageEnd (c : CellId) (reading : DiagReading) (s : State) := s.onLive (fun h => h.diagStageEnd c.val reading)

-- ## The DC link (R189 to R192)

/-- The higher of the valid VDC_A and VDC_B readings, as a Q15 code of 128 V; with neither valid the lowest code (DESIGN CHOICE, log
entry 63). -/
def Hw.linkMax (h : Hw) : Int :=
  let a := h.rd VDC_READINGS.VDC_A
  let b := h.rd VDC_READINGS.VDC_B
  let va := if a = 0x8000 then (-32768 : Int) else Num.signed 16 a
  let vb := if b = 0x8000 then (-32768 : Int) else Num.signed 16 b
  max va vb

/-- Whether a trio's speed source reports a speed below its stop threshold (R66, R191). -/
def Hw.belowStop (h : Hw) (t : Nat) : Bool :=
  h.rd (BLK_TRIO_MOTION_CFG.SPEED_SRC (t / 2) (t % 2)) != 0 && !(h.trio t).lost &&
    decide ((h.rdI (BLK_TRIO_MOTION_STATUS.SPEED (t / 2) (t % 2))).natAbs < h.rd (BLK_TRIO_SPEED_CFG.STOP_HZ (t / 2) (t % 2)))

/-- Start a discharge: the enabled pins are driven high (R189, R190). -/
def Hw.startDischarge (h : Hw) : Hw :=
  let d : Discharge := { driven := true, startMs := h.stepCount, startV := h.linkMax.toNat }
  { (h.wr DSCH_STATUS.STATE 1).wr DSCH_STATUS.ELAPSED 0 with discharge := d }

/-- Whether a discharge runs. -/
def Hw.discharging (h : Hw) : Bool := h.rd DSCH_STATUS.STATE == 1 || h.rd DSCH_STATUS.STATE == 2

/-- The comparator code of a current in amperes on the scale of a cell's shunt (R232): 512 and 512 codes to I_FS, which LEG_IFS shows in
0.1 A. -/
def ampereCode (amps ifs : Nat) : Nat := min 1023 (512 + 512 * (10 * amps) / max ifs 1)

/-- Whether trio t may be pulsed: no chip fault, a gate supply, no fenced cell, and a speed below its stop threshold (R20, R21, R180, R189,
R191). -/
def Hw.mayPulse (h : Hw) (t : Nat) : Bool :=
  !h.chipFault && h.vdrvOk (t / 4) && (h.trioCells t).all (fun c => !h.cellFenced c && !(h.region (regionOf c)).sto) && h.belowStop t

/-- One pulse of the fallback in trio t: the high side of one phase and the low side of the other, with comparator A of the first at
IPEAK (R191, R232). -/
def Hw.fallbackPulse (h : Hw) (t : Nat) (back : Bool) : Hw :=
  let g := h.trioCells t
  let a := g.getD (if back then 1 else 0) 0
  let b := g.getD (if back then 0 else 1) 0
  let code := ampereCode (h.rd DSCH_FALLBACK.IPEAK) (h.rd (LEG_IFS.IFS a))
  let h := (h.setCell a { h.cell a with baseA := code }).wr (LEG_COMP_STATUS.A_THR a) code
  (h.setCmds a true false).setCmds b false true

/-- The switches of trio t are off between pulses. -/
def Hw.fallbackOff (h : Hw) (t : Nat) : Hw := (h.trioCells t).foldl (fun acc c => acc.setCmds c false false) h

/-- At every end of a discharge the pins are released and the pulses stop (R192). -/
def Hw.endDischarge (h : Hw) (st : Nat) : Hw :=
  let off := h.discharge.dirs.foldl (fun (acc : Hw) (e : Nat × Bool) => acc.fallbackOff e.1) h
  { off.wr DSCH_STATUS.STATE st with discharge := { startMs := h.discharge.startMs } }

/-- ELAPSED: the milliseconds since the last discharge started (Table 6-7). -/
def Hw.dischargeTime (h : Hw) : Hw :=
  if h.rd DSCH_STATUS.STATE = 0 then h else h.wr DSCH_STATUS.ELAPSED (min ((h.stepCount - h.discharge.startMs) / 800) 0xFFFF)

/-- The fallback starts where no pin is enabled, or the link has not fallen by 10 % in the first 200 ms, and
FALLBACK_EN is 1; it uses the listed trios at rest, and does not run in a chip fault (R189 to R191). -/
def Hw.fallbackStart (h : Hw) : Hw :=
  let noPin := !h.on DSCH_CFG.PIN_0_EN && !h.on DSCH_CFG.PIN_1_EN
  let little := decide (h.linkMax * 10 > (h.discharge.startV : Int) * 9)
  if h.rd DSCH_STATUS.STATE = 1 && h.on DSCH_CFG.FALLBACK_EN && (noPin || little) && !h.chipFault then
    let ts := (List.range 16).filter (fun t => h.bit DSCH_FALLBACK.TRIOS t && !(h.trioCells t).isEmpty && h.mayPulse t)
    let h := { h.wr DSCH_STATUS.STATE 2 with discharge := { h.discharge with dirs := ts.map (fun t => (t, false)) } }
    ts.foldl (fun acc t => acc.fallbackPulse t false) h
  else h

/-- DSCH_FALLBACK_START (R190, R191). -/
def execDschFallbackStart (s : State) := s.onLive Hw.fallbackStart

/-- FALLBACK_PULSE_END: IPEAK or 20 µs, and both switches turn off (R191). -/
def execFallbackPulseEnd (t : TrioId) (s : State) :=
  s.onLive (fun h => if h.discharge.dirs.any (fun e => e.1 == t.val) then h.fallbackOff t.val else h)

/-- The next pulse runs in the opposite direction, while the trio may be pulsed (R191). -/
def Hw.fallbackNext (h : Hw) (t : Nat) : Hw :=
  match h.discharge.dirs.find? (fun e => e.1 == t) with
  | none => h
  | some e =>
    if !h.mayPulse t then h
    else
    let h := { h with discharge := { h.discharge with dirs := h.discharge.dirs.map (fun (x : Nat × Bool) => if x.1 = t then (t, !e.2) else x) } }
    h.fallbackPulse t (!e.2)

/-- FALLBACK_NEXT_PULSE (R191). -/
def execFallbackNextPulse (t : TrioId) (s : State) := s.onLive (fun h => h.fallbackNext t.val)

/-- Whether any power partition is active (R189). -/
def Hw.powerActive (h : Hw) : Bool := (List.range 16).any (fun p => h.active p && h.rd (PART_RUN.KIND p) == 2)

/-- A write to DSCH_CTRL: the KEY, then START and STOP (R189, R192). A START while a discharge runs returns NOT_READY (DESIGN CHOICE, log
entry 48). -/
def Hw.dschWrite (h : Hw) (v : Word) : Status × Hw :=
  if Bits.get v 31 16 ≠ 0x2E71 then (.range, h)
  else if v.getLsbD 0 then
    if h.powerActive || h.discharging then (.notReady, h) else (.ok, h.startDischarge)
  else if v.getLsbD 1 then (.ok, if h.discharging then h.endDischarge 5 else h)
  else (.ok, h)

end Sys2Proof.Machine
end

