-- ==== Sys2Proof/Machine/Pwm.lean ====
section
/-!
DEFINITION. Pulse-width modulation and trip handling (chapter 7) with the comparator thresholds it restarts (R239, R240):
carriers, reload points, raw and effective commands, COMMIT sets, trips and Hurdle windows.
-/
namespace Sys2Proof.Machine

-- ## The active copy

def PwmSet.mode (a : PwmSet) : Nat := Bits.get a.cfg 1 0
def PwmSet.carrier (a : PwmSet) : Nat := Bits.get a.cfg 3 2
def PwmSet.dutySrc (a : PwmSet) : Nat := Bits.get a.cfg 4 4
def PwmSet.complement (a : PwmSet) : Bool := a.cfg.getLsbD 5
def PwmSet.peakReload (a : PwmSet) : Bool := a.cfg.getLsbD 6
def PwmSet.period (a : PwmSet) : Nat := Bits.get a.cfg 16 7
def PwmSet.offset (a : PwmSet) : Nat := Bits.get a.cfg 26 17
/-- The carrier period in ticks (R197). -/
def PwmSet.ticks (a : PwmSet) : Nat := 4000 * a.period
/-- The counter's maximum M (R198). -/
def PwmSet.top (a : PwmSet) : Nat := if a.carrier = 2 then a.ticks / 2 else a.ticks
/-- The dead time before a switch's turn-on (R205). -/
def PwmSet.deadOf (a : PwmSet) : Switch → Nat
  | .hs => Bits.get a.dead 11 0
  | .ls => Bits.get a.dead 27 16

/-- The carrier counter at period time p (R198). -/
def PwmSet.counter (a : PwmSet) (p : Nat) : Nat :=
  match a.carrier with
  | 1 => a.ticks - 1 - p
  | 2 => if p ≤ a.ticks / 2 then p else a.ticks - p
  | _ => p

/-- Whether a counter value lies in ON to OFF, values above M acting as M (R201). -/
def PwmSet.within (a : PwmSet) (on off c : Nat) : Bool := decide (min on a.top ≤ c ∧ c < min off a.top)

/-- The OFF value of a lane-delivered duty (R202). -/
def PwmSet.laneOff (a : PwmSet) (duty : Nat) : Nat := (max (Num.signed 16 duty) 0).toNat * a.top / 32768

/-- The raw command of a switch at period time p, from the active copy, the lane duty and the vector state in force
(R201 to R204). The vector state gates the duty in a CONVERTER block, where OFF holds both switches raw-off and LOW the low
side (R306), in a SIX_STEP block, where LOW holds the low side raw-on and HIGH applies the duty (R342), and in a CHANNEL block,
where OFF holds both switches raw-off (R394). -/
def PwmSet.raw (a : PwmSet) (bm duty vec p : Nat) (s : Switch) : Bool :=
  match a.mode with
  | 1 =>
    if 2 ≤ bm && (vec == 0 || vec == 3) then false
    else if bm == 4 && vec == 1 && s == .ls then false
    else if bm == 2 && vec == 1 then s == .ls
    else
    let c := a.counter p
    let high := if a.dutySrc = 1 then a.within 0 (a.laneOff duty) c else a.within a.hsOn a.hsOff c
    match s with
    | .hs => high
    | .ls => if a.dutySrc = 1 || a.complement then !high else a.within a.lsOn a.lsOff c
  | 2 =>
    match s with
    | .hs => vec == 2
    | .ls => vec == 1
  | _ => false

/-- The seven shadow registers as a set (R208). -/
def Hw.shadow (h : Hw) (c : Nat) : PwmSet :=
  { cfg := h.reg (LEG_PWM_CFG c), hsOn := h.rd (LEG_PWM_HS_ON.ON c), hsOff := h.rd (LEG_PWM_HS_OFF.OFF c),
    lsOn := h.rd (LEG_PWM_LS_ON.ON c), lsOff := h.rd (LEG_PWM_LS_OFF.OFF c), dead := h.reg (LEG_PWM_DEAD c),
    minPulse := h.rd (LEG_PWM_MIN_PULSE.MIN_PULSE c) }

-- ## Thresholds of comparators A and B (R239, R240)

/-- The threshold code of a lane value (R239). -/
def laneThreshold (d input : Nat) : Nat :=
  let v := Num.signed 16 d / 64
  (Num.clamp 0 1023 (if input = 1 then v else 512 + v)).toNat

/-- The base threshold a comparator would take now (R239). -/
def Hw.newBase (h : Hw) (c : Nat) (b : Bool) : Nat :=
  let w := h.reg (compCfg c b)
  if w.getLsbD 10 then laneThreshold (if b then (h.cell c).thrB else (h.cell c).thrA) (Bits.get w 13 12)
  else Bits.get w 9 0

/-- The threshold in force `t` ticks after its last ramp start (R240). -/
def rampThreshold (w : Word) (base t : Nat) : Nat :=
  let m := Bits.get w 31 21 * t / 64000
  if w.getLsbD 11 then min 1023 (base + m) else base - m

/-- Show a comparator's threshold in force at tick `now`. -/
def Hw.showThreshold (h : Hw) (c : Nat) (b : Bool) (now : Nat) : Hw :=
  let x := h.cell c
  let v := rampThreshold (h.reg (compCfg c b)) (if b then x.baseB else x.baseA) (now - (if b then x.rampB else x.rampA))
  h.wr (if b then LEG_COMP_STATUS.B_THR c else LEG_COMP_STATUS.A_THR c) v

/-- Take the new base threshold of a comparator at tick `now`. -/
def Hw.loadThreshold (h : Hw) (c : Nat) (b : Bool) (now : Nat) : Hw :=
  let base := h.newBase c b
  let x := h.cell c
  (h.setCell c (if b then { x with baseB := base } else { x with baseA := base })).showThreshold c b now

/-- Ramp starts of one kind (0 period start, 1 turn-on of the high side): the ramps that select it count from here, and with a slope they
restart from the new base (R239, R240). -/
def Hw.rampStart (h : Hw) (c kind now : Nat) : Hw :=
  [false, true].foldl (fun acc b =>
    let w := acc.reg (compCfg c b)
    if Bits.get w 20 20 == kind then
      let acc := acc.setCell c (if b then { acc.cell c with rampB := now } else { acc.cell c with rampA := now })
      if Bits.get w 31 21 != 0 then acc.loadThreshold c b now else acc
    else acc) h

/-- A step boundary at tick `now`: the lane values received in the step that ended are the newest; without a slope they take effect, with
one the threshold moves (R239, R240). -/
def Hw.thresholdStep (h : Hw) (c now : Nat) : Hw :=
  let x := h.cell c
  let h := h.setCell c { x with thrA := x.thrNewA.getD x.thrA, thrB := x.thrNewB.getD x.thrB, thrNewA := none, thrNewB := none }
  [false, true].foldl (fun acc b =>
    if Bits.get (acc.reg (compCfg c b)) 31 21 = 0 then acc.loadThreshold c b now else acc.showThreshold c b now) h

-- ## Effective commands

/-- Whether a trip latch that targets the switch holds (R216). -/
def Hw.tripHolds (h : Hw) (c : Nat) (s : Switch) : Bool :=
  (List.range 4).any (fun n => h.bit (LEG_TRIP_STATUS.LATCHED c) n &&
    (h.rd (BLK_CELL_TRIP.TARGET (blockOf c) (localOf c) n)).testBit (if s = .hs then 0 else 1))

/-- Whether a CYCLE latch with COMP_ON that targets only the other switch treats this one as raw-on (R215). -/
def Hw.compOn (h : Hw) (c : Nat) (s : Switch) : Bool :=
  (List.range 4).any (fun n => h.bit (LEG_TRIP_STATUS.LATCHED c) n &&
    h.rd (BLK_CELL_TRIP.ACTION (blockOf c) (localOf c) n) == 0 && h.on (BLK_CELL_TRIP.COMP_ON (blockOf c) (localOf c) n) &&
    h.rd (BLK_CELL_TRIP.TARGET (blockOf c) (localOf c) n) == (if s = .hs then 2 else 1))

/-- Whether the PWM unit asks for the switch on: its carrier runs, it is not DISABLED (R217), the rules do not hold the cell or the switch,
and no latch holds the switch off (R199, R216). -/
def Hw.wantsOn (h : Hw) (c : Nat) (s : Switch) : Bool :=
  let x := h.cell c
  x.running && x.active.mode != 0 && x.hold == .none && !x.testing && !x.forcedOff.testBit (if s = .hs then 0 else 1) && ((x.sw s).raw || h.compOn c s) && !h.tripHolds c s

/-- Turn one effective command on or off. -/
def Hw.setCmd (h : Hw) (c : Nat) (s : Switch) (v : Bool) : Hw :=
  match s with
  | .hs => h.setCmds c v (h.on (LEG_PWM_STATUS.LS_CMD c))
  | .ls => h.setCmds c (h.on (LEG_PWM_STATUS.HS_CMD c)) v

/-- The effective command of a switch turns on at tick `now`: its minimum pulse starts, and a high-side turn-on may
restart a ramp (R205, R206, R240). -/
def Hw.cmdOn (h : Hw) (c : Nat) (s : Switch) (now : Nat) : Hw :=
  let a := (h.cell c).active
  let h := h.updSw c s (fun y => { y with deadWait := false, minHold := a.mode != 2 && a.minPulse != 0, extended := false })
  let h := h.setCmd c s true
  if s = .hs then h.rampStart c 1 now else h

/-- The effective command of a switch turns off at once. -/
def Hw.cmdOff (h : Hw) (c : Nat) (s : Switch) : Hw :=
  (h.updSw c s (fun y => { y with deadWait := false, minHold := false, extended := false })).setCmd c s false

/-- Bring one switch's effective command in line with what is asked of it at tick `now`: a turn-on waits for its dead
time, a turn-off for the minimum pulse, which counts the extension (R205, R206). A held cell keeps what
holds it, also until its carrier starts after a halt (R221), and MIN_PULSE does not apply in VECTOR mode. -/
def Hw.settle (h : Hw) (c : Nat) (s : Switch) (now : Nat) : Hw :=
  if (h.cell c).hold != .none || !(h.cell c).running then h
  else if h.wantsOn c s then
    if h.on (gateCmd c s) then h.updSw c s (fun y => { y with extended := false })
    else if (h.cell c).active.deadOf s = 0 && !h.on (gateCmd c (otherSwitch s)) then h.cmdOn c s now
    else h.updSw c s (fun y => { y with deadWait := true })
  else if h.on (gateCmd c s) then
    if ((h.cell c).sw s).minHold && (h.cell c).active.mode != 2 && !h.tripHolds c s then
      if ((h.cell c).sw s).extended then h
      else (h.updSw c s (fun y => { y with extended := true })).incTop (LEG_PWM_COUNT.MIN_PULSE_EXT c)
    else h.cmdOff c s
  else h.updSw c s (fun y => { y with deadWait := false, extended := false })

/-- Settle both switches, the one that turns off first. -/
def Hw.settleBoth (h : Hw) (c now : Nat) : Hw :=
  if h.on (LEG_PWM_STATUS.HS_CMD c) then (h.settle c .hs now).settle c .ls now else (h.settle c .ls now).settle c .hs now

/-- The raw command of a switch at period time p, tick `now`. -/
def Hw.setRaw (h : Hw) (c : Nat) (s : Switch) (p now : Nat) : Hw :=
  let x := h.cell c
  let r := x.active.raw (h.mode (blockOf c)) x.duty (h.rd (LEG_PWM_STATUS.VECTOR c)) p s
  h.updSw c s (fun y => { y with raw := r, rawAt := if r && !y.raw then now else y.rawAt })

/-- Form both raw commands anew at period time p and settle the effective commands. -/
def Hw.reform (h : Hw) (c p now : Nat) : Hw := ((h.setRaw c .hs p now).setRaw c .ls p now).settleBoth c now

/-- The carrier counter as LEG_c_PWM_COUNTER shows it: bits 2 to 0 read 0. -/
def Hw.showCounter (h : Hw) (c p : Nat) : Hw := h.wr (LEG_PWM_COUNTER.COUNT c) ((h.cell c).active.counter p / 8 * 8)

-- ## Carrier start and reload points

/-- A start event: the carrier starts at its first aligned step boundary from step `s` on (R199). Its WINDOW channels
are closed until then (R213). -/
def Hw.wantCarrier (h : Hw) (c s : Nat) : Hw :=
  let h := h.setCell c { h.cell c with running := false, wantStart := true, startFrom := s }
  let k := blockOf c
  Num.forEach 2 (fun j acc =>
    if acc.rd (BLK_HURDLE_CFG.MODE k (2 * localOf c + j)) = 2 then acc.setHurdle k (2 * localOf c + j) false else acc) h

/-- Whether step s is an aligned boundary of the cell's carrier (R199). -/
def PwmSet.aligned (a : PwmSet) (s : Nat) : Bool :=
  (s + a.period - a.offset % (max a.period 1)) % (max a.period 1) == 0

/-- CARRIER_START: a waiting cell, fenced or not (R217), starts its carrier at an aligned boundary (R199), which is a period start and, for
ramps that select it, a ramp start (R240). -/
def Hw.carrierStart (h : Hw) (c : Nat) : Hw :=
  let x := h.cell c
  if x.wantStart && decide (x.startFrom ≤ h.stepCount) && x.active.aligned h.stepCount && !h.halted (blockOf c) then
    let h := h.setCell c { x with running := true, wantStart := false, startTick := h.now }
    ((h.rampStart c 0 h.now).reform c 0 h.now).showCounter c 0
  else h

/-- CARRIER_START (R199, R240). -/
def execCarrierStart (c : CellId) (s : State) := s.onLive (fun h => h.carrierStart c.val)

/-- The period time of tick `t` of a running cell. -/
def Cell.periodTime (x : Cell) (t : Nat) : Nat := (t - x.startTick) % (max x.active.ticks 1)

/-- The reload point of a carrier in the present step, as its tick and period time: a period start, or the peak of UP_DOWN where
PEAK_RELOAD is 1 (R200). The reload points of VECTOR mode are the step boundaries themselves, and STEP_BOUNDARY carries them out. -/
def Hw.reloadTick (h : Hw) (c : Nat) : Option (Nat × Nat) :=
  let x := h.cell c
  let a := x.active
  if !x.running || a.mode == 2 then none
  else [h.now, h.now + 2000].findSome? (fun t =>
    let p := x.periodTime t
    if p = 0 || (a.carrier == 2 && a.peakReload && p == a.ticks / 2) then some (t, p) else none)

/-- Whether trip input n of a cell acts: its source is active and its Hurdle window is closed (R214). -/
def Hw.tripActs (h : Hw) (c n : Nat) : Bool :=
  h.bit (LEG_TRIP_STATUS.ACTIVE c) n && !h.bit (LEG_TRIP_STATUS.BLANKED c) n

/-- Both, or one, of the switches that a TARGET value names turn off. -/
def Hw.turnOffTargets (h : Hw) (c target : Nat) : Hw :=
  let h := if target.testBit 0 then h.cmdOff c .hs else h
  if target.testBit 1 then h.cmdOff c .ls else h

/-- Trip input n acts (R214 to R216): its target switches turn off, its latch sets, and its ACTION follows. In a freeze
it only holds its switches off until the halt ends (R220). Switches that the rules hold, or that keep their safe state until the carrier
starts after a halt, stay as they are (DESIGN CHOICE, log entry 61). An input whose latch is already set acts no further. -/
def Hw.tripAct (h : Hw) (c n now : Nat) : Hw :=
  let k := blockOf c
  let target := h.rd (BLK_CELL_TRIP.TARGET k (localOf c) n)
  let action := h.rd (BLK_CELL_TRIP.ACTION k (localOf c) n)
  if h.tripActs c n && !h.bit (LEG_TRIP_STATUS.LATCHED c) n then
    let h := h.wrBit (LEG_TRIP_STATUS.LATCHED c) n true
    if (h.cell c).hold == .frozen then
      let h := h.setCell c { h.cell c with freezeOff := (h.cell c).freezeOff ||| target }
      let h := if action = 0 then h.incTop (LEG_PWM_COUNT.CYCLE_TRIPS c) else h
      h.turnOffTargets c target
    else
      let h := if (h.cell c).hold == .none && (h.cell c).running then (h.turnOffTargets c target).settleBoth c now else h
      match action with
      | 0 => h.incTop (LEG_PWM_COUNT.CYCLE_TRIPS c)
      | 2 => (h.wakeEvent k (2 ^ (6 + localOf c))).fenceCell c 0x10
      | _ => h.wakeEvent k (2 ^ (6 + localOf c))
  else h

/-- Every input of a cell that acts sets its latch. -/
def Hw.evalTrips (h : Hw) (c now : Nat) : Hw := Num.forEach 4 (fun n acc => acc.tripAct c n now) h

/-- TRIP_ACT (R214, R215, R216, R220, R223). -/
def execTripAct (c : CellId) (n : Fin 4) (s : State) := s.onLive (fun h => h.tripAct c.val n.val h.now)

/-- The CYCLE latches of a cell clear (R215). -/
def Hw.clearCycle (h : Hw) (c : Nat) : Hw :=
  Num.forEach 4 (fun n acc =>
    if acc.rd (BLK_CELL_TRIP.ACTION (blockOf c) (localOf c) n) = 0 then acc.wrBit (LEG_TRIP_STATUS.LATCHED c) n false
    else acc) h

/-- A set becomes the active copy at tick `t`, period time p: a change of PERIOD_STEPS starts a period there, and one that takes
MODE out of DISABLED is a start event (R199, R209). -/
def Hw.loadActive (h : Hw) (c : Nat) (a : PwmSet) (t : Nat) : Hw :=
  let x := h.cell c
  let h := h.setCell c { x with active := a, startTick := if a.period = x.active.period then x.startTick else t }
  if x.active.mode = 0 && a.mode ≠ 0 then h.wantCarrier c (if t = h.now then h.stepCount else h.stepCount + 1) else h

/-- A reload point once the captured set has loaded: the newest lane duty loads, CYCLE latches clear, ramps that select a period start
restart, the trip inputs are evaluated against the new raw commands and the effective commands follow (R200, R202, R215, R223, R240). -/
def Hw.reloadRest (h : Hw) (c t p : Nat) : Hw :=
  let h := match (h.cell c).dutyNew with
    | some d => h.setCell c { h.cell c with duty := d, dutyNew := none }
    | none => h
  let h := h.clearCycle c
  let p := if (h.cell c).startTick = t then 0 else p
  let h := if p = 0 || (h.cell c).active.mode == 2 then h.rampStart c 0 t else h
  let h := (((h.setRaw c .hs p t).setRaw c .ls p t).evalTrips c t).settleBoth c t
  if (h.cell c).running then h.showCounter c p else h

/-- A fenced cell at a reload point: nothing loads and the waiting set is discarded, CYCLE latches clear, and a ramp that selects the period
start restarts, since its comparators work on (R223, R240, R242). -/
def Hw.reloadFenced (h : Hw) (c t p : Nat) : Hw :=
  let h := (h.dropSet c).clearCycle c
  let h := if p = 0 || (h.cell c).active.mode == 2 then h.rampStart c 0 t else h
  if (h.cell c).running then h.showCounter c p else h

/-- A reload point of cell c at tick t, period time p: the pending captured set loads, and the rest follows (R200, R209, R223). A fenced
cell loads nothing, and neither does a halted one, whose ramps in VECTOR mode restart all the same (R240, R242). -/
def Hw.reloadAt (h : Hw) (c t p : Nat) : Hw :=
  if (h.cell c).hold == .frozen || h.on (LEG_PWM_STATUS.HALTED c) then
    (if (h.cell c).active.mode = 2 then h.rampStart c 0 t else h)
  else if h.cellFenced c then h.reloadFenced c t p
  else
    let x := h.cell c
    match x.captured, x.pendingSet with
    | some a, true =>
      let h := (h.setCell c { x with captured := none, pendingSet := false }).wrB (LEG_PWM_STATUS.LOAD_WAITING c) x.capNew.isSome
      (h.loadActive c a t).reloadRest c t p
    | _, _ => h.reloadRest c t p

/-- RELOAD_POINT: a reload point of the carrier. -/
def Hw.reloadPoint (h : Hw) (c : Nat) : Hw :=
  match h.reloadTick c with
  | none => h
  | some (t, p) => (h.atTick (t - h.now)).reloadAt c t p

/-- RELOAD_POINT (R161, R200, R202, R209, R215, R223, R240). -/
def execReloadPoint (c : CellId) (s : State) := s.onLive (fun h => h.reloadPoint c.val)

/-- RAW_COMMAND_EDGE: at period time `tick` the counter crosses ON or OFF, the switch's raw command is formed anew and the
effective command follows (R201, R205, R206, R213). -/
def Hw.rawEdge (h : Hw) (c : Nat) (s : Switch) (p : Nat) : Hw :=
  let x := h.cell c
  let t := h.now + (p + 4000 * x.active.period - x.periodTime h.now) % (max x.active.ticks 1)
  if x.running && x.active.mode == 1 && decide (p < x.active.ticks) && !h.on (LEG_PWM_STATUS.HALTED c) then
    (((h.atTick (min (t - h.now) 3999)).setRaw c s p t).settle c s t).showCounter c p
  else h

/-- RAW_COMMAND_EDGE (R201, R205, R206, R213). -/
def execRawCommandEdge (c : CellId) (sw : Switch) (tick : Nat) (s : State) := s.onLive (fun h => h.rawEdge c.val sw tick)

/-- DEAD_TIME_END: the opposite command has been off for DEAD ticks at the given tick of the step, and the command turns
on (R205). Where both raw commands turned on at one tick, both commands are issued (R207), and both at once keep both
switches off and fence the cell (R170). -/
def Hw.deadTimeEnd (h : Hw) (c : Nat) (s : Switch) (tick : Nat) : Hw :=
  let o := otherSwitch s
  let x := h.cell c
  if (x.sw s).deadWait && h.wantsOn c s then
    if !h.on (gateCmd c o) then (h.atTick tick).cmdOn c s (h.now + tick)
    else if (x.sw o).raw && (x.sw s).raw && (x.sw o).rawAt == (x.sw s).rawAt then (h.dropCmds c).fenceCell c 0x06
    else h
  else h

/-- DEAD_TIME_END (R169, R170, R205, R207, R213). -/
def execDeadTimeEnd (c : CellId) (sw : Switch) (tick : Fin 4000) (s : State) :=
  s.onLive (fun h => h.deadTimeEnd c.val sw tick.val)

/-- MIN_PULSE_END: the minimum pulse of a switch expires, and an extended command turns off (R206). -/
def Hw.minPulseEnd (h : Hw) (c : Nat) (s : Switch) : Hw :=
  let y := (h.cell c).sw s
  let h := h.updSw c s (fun y => { y with minHold := false })
  if y.extended && !h.wantsOn c s && (h.cell c).hold == .none && (h.cell c).running then
    let since := (match s with | .hs => (h.cell c).onHs | .ls => (h.cell c).onLs).getD h.now
    let h := h.atTick (max h.tick (min (since + (h.cell c).active.minPulse - h.now) 3999))
    (h.cmdOff c s).settle c (otherSwitch s) h.now
  else h

/-- MIN_PULSE_END (R206). -/
def execMinPulseEnd (c : CellId) (sw : Switch) (s : State) := s.onLive (fun h => h.minPulseEnd c.val sw)

/-- A write of 1 to LATCHED bits clears the latches whose inputs do not act (R215). -/
def Hw.clearLatches (h : Hw) (c mask : Nat) : Hw :=
  let h := Num.forEach 4 (fun n acc =>
    if mask.testBit n && !acc.tripActs c n then acc.wrBit (LEG_TRIP_STATUS.LATCHED c) n false else acc) h
  if (h.cell c).hold == .none then h.settleBoth c h.now else h

-- ## Hurdle windows

/-- HURDLE_EDGE_WINDOW_END: LENGTH ticks have passed, and the EDGE window closes (R213). An input or comparator whose
signal is still past its threshold reads active from here (R214, R241). -/
def Hw.hurdleEdgeEnd (h : Hw) (k ch : Nat) : Hw :=
  if h.rd (BLK_HURDLE_CFG.MODE k ch) = 1 then h.setHurdle k ch false else h

/-- HURDLE_EDGE_WINDOW_END (R213, R214, R241). -/
def execHurdleEdgeWindowEnd (k : BlockId) (h : Fin 12) (s : State) := s.onLive (fun x => x.hurdleEdgeEnd k.val h.val)

/-- HURDLE_WINDOW_BOUNDARY: the period time reaches START or END. The window opens, or closes; it never opens where START
is not below END or before the channel cell's carrier runs (R213). -/
def Hw.hurdleBoundary (h : Hw) (k ch : Nat) : Hw :=
  if h.rd (BLK_HURDLE_CFG.MODE k ch) = 2 then
    if (h.block k).hurdleOpen.testBit ch then h.setHurdle k ch false
    else if h.rd (BLK_HURDLE_START.START k ch) < h.rd (BLK_HURDLE_END.END k ch) && (h.cell (6 * k + ch / 2)).running then
      h.setHurdle k ch true
    else h
  else h

/-- HURDLE_WINDOW_BOUNDARY (R213, R214, R241). -/
def execHurdleWindowBoundary (k : BlockId) (h : Fin 12) (s : State) := s.onLive (fun x => x.hurdleBoundary k.val h.val)

-- ## Activation, re-entry, COMMIT capture and the step boundary

/-- A cell enters service: the shadow loads, its trip latches start clear, its commands are off and its carrier waits
(R199, R211). SHADOW_PENDING stays, since only a capture clears it (R208). -/
def Hw.enterService (h : Hw) (c : Nat) : Hw :=
  let x := h.cell c
  let h := h.setCell c { x with active := h.shadow c, capNew := none, captured := none, pendingSet := false, dutyNew := none, dutyIn := none,
                                duty := 0, vectorNew := 0, thrA := 32767, thrB := 32767, thrNewA := none, thrNewB := none, freezeOff := 0, forcedOff := 0, testing := false, hold := .none,
                                hs := { x.hs with raw := false, deadWait := false, minHold := false, extended := false },
                                ls := { x.ls with raw := false, deadWait := false, minHold := false, extended := false } }
  let h := (h.wr (LEG_TRIP_STATUS.LATCHED c) 0).wr (LEG_PWM_STATUS.VECTOR c) 0
  let h := (h.wrB (LEG_PWM_STATUS.LOAD_WAITING c) false).setCmds c false false
  (h.wantCarrier c h.stepCount).refreshTrips (blockOf c)

/-- A COMMIT sampled in this step captures the shadow of every unfenced cell of the partition (R209). -/
def Hw.captureSets (h : Hw) (p : Nat) : Hw :=
  ((h.blocksOf p).flatMap cellsOf).foldl (fun acc c =>
    if acc.cellFenced c then acc
    else (acc.setCell c { acc.cell c with capNew := some (acc.shadow c) }).wrB (LEG_PWM_STATUS.SHADOW_PENDING c) false) h

/-- The command record arrives: the captured set is held, in place of an earlier one (R209, R210). -/
def Hw.takeCapture (h : Hw) (c : Nat) : Hw :=
  let x := h.cell c
  match x.capNew with
  | none => h
  | some a =>
    (h.setCell c { x with capNew := none, captured := some a, pendingSet := false }).wrB (LEG_PWM_STATUS.LOAD_WAITING c) true

/-- A step boundary at a cell: what arrived in the previous step becomes pending, the vector state and the thresholds take effect, and in
VECTOR mode, where it is a reload point, a pending set loads first (R200, R202, R203, R209, R215, R223, R239). A cell whose command slot was
discarded keeps its previous command (R28). The counter of a fenced or DISABLED cell runs on (R217). -/
def Hw.pwmBoundary (h : Hw) (c : Nat) : Hw :=
  let x := h.cell c
  let h := h.setCell c { x with pendingSet := x.pendingSet || x.captured.isSome,
                                dutyNew := if x.dutyIn.isSome then x.dutyIn else x.dutyNew, dutyIn := none }
  let h := h.wr (LEG_PWM_STATUS.VECTOR c) x.vectorNew
  let h := h.thresholdStep c h.now
  let p := x.periodTime h.now
  if x.active.mode = 2 then h.reloadAt c h.now p
  else if !x.running || h.on (LEG_PWM_STATUS.HALTED c) then h
  else if x.hold == .none then (if 2 ≤ h.mode (blockOf c) then h.reform c p h.now else h).showCounter c p
  else h.showCounter c p

/-- A halt ends for a cell at a step boundary (R221): the newest waiting set loads, CYCLE latches clear, the carrier starts
anew, and until it starts the cell keeps its safe state, or both switches off after a freeze. -/
def Hw.haltEnds (h : Hw) (c : Nat) : Hw :=
  let x := h.cell c
  let h := match x.captured with
    | some a => (h.setCell c { x with active := a, captured := none, pendingSet := false }).wrB (LEG_PWM_STATUS.LOAD_WAITING c) false
    | none => h
  let h := if h.on (LEG_PWM_STATUS.FROZEN c) then h.setCmds c false false else h
  let h := (h.wrB (LEG_PWM_STATUS.HALTED c) false).wrB (LEG_PWM_STATUS.FROZEN c) false
  let h := h.setCell c { h.cell c with freezeOff := 0 }
  (h.clearCycle c).wantCarrier c h.stepCount

end Sys2Proof.Machine
end

