-- ==== Sys2Proof/Machine/Sense.lean ====
section
/-!
DEFINITION. Fast sensing and comparators (chapter 8): the sample averages and their cross-checks, the DC-link readings, the
comparators' levels and the supervisory comparators of D6.
-/
namespace Sys2Proof.Machine

/-- The shunt amplifier's gain (Table 8-5). -/
def shuntGain (g : Nat) : Nat := 10 * 2 ^ g

/-- I_FS of a cell in units of 0.1 A (R232): 1.5 V ÷ (G × SHUNT × 0.1 µΩ). The spec states no rounding of a fraction
(log entry 3). -/
def ifsValue (gain shunt : Nat) : Nat :=
  min 0xFFFF (Num.shown 150000000 (shuntGain gain * shunt))

/-- Show I_FS (R232). -/
def Hw.showIfs (h : Hw) (c : Nat) : Hw :=
  h.wr (LEG_IFS.IFS c) (ifsValue (h.rd (LEG_SENSE_CFG.SHUNT_GAIN c)) (h.rd (LEG_SHUNT.SHUNT c)))

/-- A conversion limited to its codes (R229). -/
def limitCode (v : Int) : Int := Num.clamp (-32767) 32767 v

/-- Whether a conversion gave a limit code. -/
def atLimit (v : Int) : Bool := decide (32767 ≤ v.natAbs)

/-- A counted sense conversion on the scale of I_FS (R231): code × 6.4 mA ÷ 32,768 × RATIO ÷ I_FS × 32,768. -/
def scaleSense (code : Int) (ratio gain shunt : Nat) : Int :=
  let v : Int := if 32767 ≤ code then 32768 else if code ≤ -32767 then -32768 else code
  Q15.sat (Num.roundDiv (v * (64 * ratio * shuntGain gain * shunt : Nat)) 150000000000)

/-- The conversions of the positions whose mask bit equals `b`, in order of position. -/
def pick (mask : Nat) (b : Bool) (xs : List Int) : List (Nat × Int) :=
  ((List.range 16).filter (fun j => mask.testBit j == b)).map (fun j => (j, xs.getD j 0))

/-- What the leg die sends of one cell for the step that ended: the four averages and the status of Table 8-2. -/
structure Sample where
  shunt : Nat
  sense : Nat
  vph : Nat
  aux : Nat
  status : Nat
  deriving DecidableEq, Repr

/-- The switch whose effective command was on, SENSE_SETTLE long (in ticks), at the sampling instant of position j of the step that opened
at tick `start`, and stayed on until the conversion was complete (R227, R230). -/
def Cell.steady (x : Cell) (settle start j : Nat) : Option Switch :=
  (x.spansPrev.find? (fun e => decide (e.2.1 + settle ≤ start + 250 * j) && decide (start + 250 * j + 240 ≤ e.2.2))).map (fun e => e.1)

/-- The averages and status of one cell (R228 to R231), with bits 8 and 9 the comparator levels at the end of the step. -/
def Hw.sampleOf (h : Hw) (c : Nat) (cs : CellSample) : Sample :=
  let x := h.cell c
  let lent := x.auxAt == some (h.stepCount - 1)
  let m0 := x.maskPrev % 0x10000
  let m1 := x.maskPrev / 0x10000
  let prim := (pick m0 true cs.sar0).map (fun e => limitCode e.2)
  let sec := (pick m0 false cs.sar0).filterMap (fun e =>
    match x.steady (8 * h.rd (LEG_SENSE_CFG.SENSE_SETTLE c)) (4000 * (h.stepCount - 1)) e.1 with
    | some s => some (e.2, s)
    | none => none)
  let ratio (s : Switch) : Nat := if s = .hs then h.rd (LEG_RATIO_HS.RATIO c) else h.rd (LEG_RATIO_LS.RATIO c)
  let gain := h.rd (LEG_SENSE_CFG.SHUNT_GAIN c)
  let sh := h.rd (LEG_SHUNT.SHUNT c)
  let vph := (pick m1 true cs.sar1).map (fun e => limitCode e.2)
  let aux := (pick m1 false cs.sar1).map (fun e => limitCode e.2)
  let st := (if prim.any atLimit then 1 else 0) + (if sec.any (fun e => atLimit e.1) then 2 else 0) +
    (if vph.any atLimit then 4 else 0) + 8 * min sec.length 8 + (if lent then 128 else 0) + 256 * (x.compEnd % 4)
  { shunt := Q15.ofOpt (Num.mean prim)
    sense := Q15.ofOpt (Num.mean (sec.map (fun e => scaleSense e.1 (ratio e.2) gain sh)))
    vph := Q15.ofOpt (Num.mean vph)
    aux := if lent then x.aux else Q15.ofOpt (Num.mean aux)
    status := st }

/-- The current cross-check and the saturation count of one cell (R235, R236): every step with four counted sense conversions makes a
comparison, also in a fence (R245); the counts hold at 0 while the cell's block belongs to no active partition. The result is the new state
and bits 10 and 11 of the status. -/
def Hw.crossCheck (h : Hw) (c : Nat) (sm : Sample) : Hw × Nat :=
  let counts := h.blockActive (blockOf c)
  let h := if !counts then
      ((h.wr (LEG_XCHK_STATUS.SAT_COUNT c) 0).wr (LEG_XCHK_STATUS.COUNT c) 0).setCell c { h.cell c with satRaised := false, disRaised := false }
    else if sm.status.testBit 0 then h.incTop (LEG_XCHK_STATUS.SAT_COUNT c)
    else (h.wr (LEG_XCHK_STATUS.SAT_COUNT c) 0).setCell c { h.cell c with satRaised := false }
  match Q15.val sm.shunt, Q15.val sm.sense with
  | some s, some k =>
    if 4 ≤ sm.status / 8 % 16 then
      let d := (s - k).natAbs
      let l := h.rd (LEG_XCHK_CFG.ABS c) + h.rd (LEG_XCHK_CFG.REL c) * s.natAbs / 256
      let h := h.wr (LEG_XCHK_STATUS.LAST_DIFF c) (min d 0xFFFF)
      if l < d then (if counts then h.incTop (LEG_XCHK_STATUS.COUNT c) else h, 0xC00)
      else ((h.wr (LEG_XCHK_STATUS.COUNT c) 0).setCell c { h.cell c with disRaised := false }, 0x400)
    else (h, 0)
  | _, _ => (h, 0)

/-- The samples of one cell: the leg die's registers take the averages of the step that ended (R228, R246), and the
cross-checks run on them. -/
def Hw.sampleCell (h : Hw) (c : Nat) (cs : CellSample) : Hw :=
  let sm := h.sampleOf c cs
  let (h, bits) := h.crossCheck c sm
  let h := (h.wr (LEG_SAMPLE_I.SENSE c) sm.sense).wr (LEG_SAMPLE_I.SHUNT c) sm.shunt
  let h := (h.wr (LEG_SAMPLE_V.AUX c) sm.aux).wr (LEG_SAMPLE_V.VPH c) sm.vph
  let h := (h.wr (LEG_SAMPLE_STATUS.STEP c) (h.stepCount - 1)).wr (LEG_SAMPLE_STATUS.STATUS c) (sm.status + bits)
  let h := h.setCell c { h.cell c with aux := sm.aux, raw0 := cs.sar0.map limitCode, raw1 := cs.sar1.map limitCode }
  if c % 12 = 0 then
    match Q15.val sm.aux with
    | some v => h.wr (REGION_VDRV_STATUS.VDRV (regionOf c)) (Num.shown ((max v 0).toNat * 2560) 32768)
    | none => h
  else h

/-- CURRENT_DISAGREE: the count of consecutive failures has reached STEPS, and the cell is fenced; raised once per run
of failures (R235, R245). -/
def Hw.currentDisagree (h : Hw) (c : Nat) : Hw :=
  if h.rd (LEG_XCHK_CFG.STEPS c) ≤ h.rd (LEG_XCHK_STATUS.COUNT c) && h.rd (LEG_XCHK_STATUS.COUNT c) != 0 &&
      !(h.cell c).disRaised && h.blockActive (blockOf c) then
    (h.setCell c { h.cell c with disRaised := true }).fenceCell c 0x11
  else h

/-- CURRENT_DISAGREE (R235, R245). -/
def execCurrentDisagree (c : CellId) (s : State) := s.onLive (fun h => h.currentDisagree c.val)

/-- SHUNT_SATURATED: eight consecutive saturated steps fence the cell (R236). -/
def Hw.shuntSaturated (h : Hw) (c : Nat) : Hw :=
  if 8 ≤ h.rd (LEG_XCHK_STATUS.SAT_COUNT c) && !(h.cell c).satRaised && h.blockActive (blockOf c) then
    (h.setCell c { h.cell c with satRaised := true }).fenceCell c 0x12
  else h

/-- SHUNT_SATURATED (R236). -/
def execShuntSaturated (c : CellId) (s : State) := s.onLive (fun h => h.shuntSaturated c.val)

-- ## The DC link

/-- Whether die d delivers readings: in service, with a good clock (R237). -/
def Hw.dieGood (h : Hw) (d : Nat) : Bool := h.rd (DIE_STATE.DIE d) == 1 && !(h.die d).clockBad && !(h.die d).hot

/-- The active partitions that VDC_XCHK_CFG.PARTS names. -/
def Hw.vdcParts (h : Hw) : List Nat := (List.range 16).filter (fun p => h.active p && h.bit VDC_XCHK_CFG.PARTS p)

/-- VDC_SINGLE is recorded for each affected partition, which takes its safe reaction if SINGLE_ACTION is 1. -/
def Hw.vdcSingle (h : Hw) : Hw :=
  h.vdcParts.foldl (fun acc p =>
    if acc.on VDC_XCHK_CFG.SINGLE_ACTION then acc.safetyCause p 0x32 else acc.record (faultCode 7 p 0x32)) h

/-- The two link readings of the step that ended (R237). -/
def Hw.sampleVdc (h : Hw) (i : LatchInputs) : Hw :=
  let a : Nat := if h.dieGood 2 && !i.regionLost.testBit 0 then h.rd (LEG_SAMPLE_V.AUX 1) else 0x8000
  let b : Nat := if h.dieGood 6 && !i.vdcBLost && !(h.die 6).readLost then Q15.ofOpt (Num.mean (i.vdcB.map limitCode)) else 0x8000
  let h := (h.wr VDC_READINGS.VDC_A a).wr VDC_READINGS.VDC_B b
  let h := (h.wrB VDC_STATUS.A_VALID (a != 0x8000)).wrB VDC_STATUS.B_VALID (b != 0x8000)
  match Q15.val a, Q15.val b with
  | some x, some y =>
    let h := (h.wr VDC_STATUS.USED a).wrB VDC_STATUS.SINGLE false
    if h.rd VDC_XCHK_TOL.ABS < (x - y).natAbs then h.incTop VDC_STATUS.COUNT
    else { h.wr VDC_STATUS.COUNT 0 with vdcEpisode := false }
  | none, none => ((h.wr VDC_STATUS.USED 0x8000).wrB VDC_STATUS.SINGLE false).incTop VDC_STATUS.COUNT
  | some _, none =>
    let was := h.on VDC_STATUS.SINGLE
    let h := (h.wr VDC_STATUS.USED a).wrB VDC_STATUS.SINGLE true
    if was then h else h.vdcSingle
  | none, some _ =>
    let was := h.on VDC_STATUS.SINGLE
    let h := (h.wr VDC_STATUS.USED b).wrB VDC_STATUS.SINGLE true
    if was then h else h.vdcSingle

/-- VDC_DISAGREE: the failure count has reached STEPS; raised once per episode for each active power partition of PARTS
(R237). -/
def Hw.vdcDisagree (h : Hw) : Hw :=
  if h.rd VDC_XCHK_CFG.STEPS ≤ h.rd VDC_STATUS.COUNT && h.rd VDC_STATUS.COUNT != 0 && !h.vdcEpisode then
    (h.vdcParts.filter (fun p => h.rd (PART_RUN.KIND p) == 2)).foldl (fun acc p => acc.safetyCause p 0x31)
      { h with vdcEpisode := true }
  else h

/-- VDC_DISAGREE (R237). -/
def execVdcDisagree (s : State) := s.onLive Hw.vdcDisagree

-- ## Comparators

/-- A signal in the units of a comparator: what its INPUT selects (R238). -/
def compPick (i : CompInputs) (input : Nat) : Int :=
  match input with
  | 0 => i.shunt
  | 1 => i.vph
  | _ => i.sense

/-- The Q15 code that a threshold code stands for on the scale of its signal (R238): 64 to a code from 512 on for the currents, 32 to a
code, 0.125 V of 128 V, for the phase voltage. -/
def compScale (input : Nat) (n : Int) : Int := if input = 1 then 32 * n else 64 * (n - 512)

/-- Whether a signal is past a threshold (R238): above it with POLARITY 0, below it with 1; once it was past, HYST codes further back. -/
def compPast (w : Word) (thr : Nat) (was : Bool) (sig : Int) : Bool :=
  let input := Bits.get w 13 12
  let hyst : Int := if was then [0, 1, 2, 4].getD (Bits.get w 15 14) 0 else 0
  if w.getLsbD 11 then decide (sig < compScale input (thr + hyst)) else decide (compScale input (thr - hyst) < sig)

/-- The threshold of a comparator in force at tick t (R240). -/
def Hw.thresholdAt (h : Hw) (c : Nat) (b : Bool) (t : Nat) : Nat :=
  let x := h.cell c
  rampThreshold (h.reg (compCfg c b)) (if b then x.baseB else x.baseA) (t - (if b then x.rampB else x.rampA))

/-- COMPARATOR_CROSSING: the signal passes its threshold, or returns; the live level follows, and with it the trip inputs
that take it as their source (R212, R214, R238, R242). -/
def Hw.comparatorCrossing (h : Hw) (c : Nat) (b : Bool) (i : CompInputs) : Hw :=
  let h := h.atTick i.tick.val
  let w := h.reg (compCfg c b)
  let x := h.cell c
  let past := compPast w (h.thresholdAt c b h.nowTick) (if b then x.levelB else x.levelA) (compPick i (Bits.get w 13 12))
  (h.setCell c (if b then { x with levelB := past } else { x with levelA := past })).refreshTrips (blockOf c)

/-- COMPARATOR_CROSSING (R212, R214, R238). -/
def execComparatorCrossing (c : CellId) (compB : Bool) (signals : CompInputs) (s : State) :=
  s.onLive (fun h => h.comparatorCrossing c.val compB signals)

/-- A step boundary: masks written in the previous step take effect (R227), the times on of the step that ended are kept for its sense
conversions (R230), and the comparator levels at its end for the status record (Table 8-2). -/
def Hw.senseBoundary (h : Hw) (c : Nat) : Hw :=
  let x := h.cell c
  let run (s : Switch) (since : Option Nat) : List (Switch × Nat × Nat) :=
    match since with
    | some a => [(s, a, h.now)]
    | none => []
  h.setCell c { x with maskPrev := x.maskNow, maskNow := (h.reg (LEG_SAR_MASK c)).toNat,
                       spansPrev := x.spans ++ run .hs x.onHs ++ run .ls x.onLs, spans := [],
                       compEnd := h.rd (LEG_COMP_STATUS.A_LEVEL c) + 2 * h.rd (LEG_COMP_STATUS.B_LEVEL c) }

-- ## Supervisory comparators

/-- Supervisory comparator m is off: LEVEL and CONFIRMED read 0 (R244, R248). -/
def Hw.scmpOff (h : Hw) (m : Nat) : Hw :=
  let h := (h.wrBit SCMP_STATUS.LEVEL m false).wrBit SCMP_STATUS.CONFIRMED m false
  { h with scmpRun := Tab.put h.scmpRun m 0 0 }

/-- SCMP_TICK: the comparator compares the input it selects, given in µV at the comparator, with THRESHOLD × 2.5 V ÷ 1,024 once and sets
LEVEL for its POLARITY; INPUT 0 reads 0, and a clock-monitor fault of D6 has stopped them (R243, R244). -/
def Hw.scmpTick (h : Hw) (m : Nat) (inputs : List Nat) : Hw :=
  if (h.die 6).clockBad then h
  else
    let i := h.rd (SCMP_CFG.INPUT m)
    let sig := 1024 * inputs.getD (i - 1) 0
    let thr := 2500000 * h.rd (SCMP_CFG.THRESHOLD m)
    let v := i != 0 && (if h.on (SCMP_CFG.POLARITY m) then decide (sig < thr) else decide (thr < sig))
    let h := h.wrBit SCMP_STATUS.LEVEL m v
    let n := if v = h.bit SCMP_STATUS.CONFIRMED m then 0 else Tab.get h.scmpRun m 0 + 1
    { h with scmpRun := Tab.put h.scmpRun m n 0 }

/-- SCMP_TICK (R243). -/
def execScmpTick (m : Fin 16) (inputs : List Nat) (s : State) := s.onLive (fun h => h.scmpTick m.val inputs)

/-- SCMP_CONFIRMED: CONFIRM consecutive ticks read the other level, and CONFIRMED follows (R243). -/
def Hw.scmpConfirmed (h : Hw) (m : Nat) : Hw :=
  if h.rd (SCMP_CFG.CONFIRM m) + 1 ≤ Tab.get h.scmpRun m 0 then
    { h.wrBit SCMP_STATUS.CONFIRMED m (h.bit SCMP_STATUS.LEVEL m) with scmpRun := Tab.put h.scmpRun m 0 0 }
  else h

/-- SCMP_CONFIRMED (R243). -/
def execScmpConfirmed (m : Fin 16) (s : State) := s.onLive (fun h => h.scmpConfirmed m.val)

end Sys2Proof.Machine
end

