-- ==== Sys2Proof/Machine/Engine.lean ====
section
/-!
DEFINITION. The control engine (chapter 10): signals, the lane operations MOVE to LAW, the compensator laws, the Pacer, the
injector and the capture unit. The wide operations and END stand in their chapters' files.
-/
namespace Sys2Proof.Machine

/-- Change a block's hidden state. -/
def Hw.updBlock (h : Hw) (k : Nat) (f : Block → Block) : Hw := h.setBlock k (f (h.block k))

-- ## Signals (Table 10-1)

/-- Whether a signal number is reserved. -/
def sigReserved (s : Nat) : Bool := decide (0x11B ≤ s ∧ s ≤ 0x11F) || decide (0x1C8 ≤ s ∧ s ≤ 0x1DF) || decide (512 ≤ s)

/-- Whether a signal may be the destination of a lane operation (R286). -/
def sigDest (s : Nat) : Bool := decide (0x080 ≤ s ∧ s ≤ 0x0FF) || decide (0x1B0 ≤ s ∧ s ≤ 0x1C7)

/-- Whether a signal may be the injector's node (R297): not a safety input, a vector-state output or a reserved number. -/
def sigNode (s : Nat) : Bool :=
  !sigReserved s && !decide (0x078 ≤ s ∧ s ≤ 0x07F) && !(decide (0x1B0 ≤ s ∧ s ≤ 0x1C7) && s % 4 == 1)

/-- Whether a signal is a command output. -/
def sigOutput (s : Nat) : Bool := decide (0x1B0 ≤ s ∧ s ≤ 0x1C7)

/-- The value of signal s of block k in the running program. -/
def Hw.sig (h : Hw) (k s : Nat) : Nat := Tab.get (h.block k).sigs s 0x8000

/-- Write a signal. -/
def Hw.setSig (h : Hw) (k s v : Nat) : Hw :=
  h.updBlock k (fun b => { b with sigs := Tab.put b.sigs s (v % 0x10000) 0x8000 })

/-- A signal at the end of the last program, as BLK_k_SIG_s shows it (Table 10-6). -/
def Hw.sigAtEnd (h : Hw) (k s : Nat) : Nat := if sigReserved s then 0x8000 else Tab.get (h.block k).sigEnd s 0x8000

/-- A signal at the latest sample latch (R294). -/
def Hw.sigAtLatch (h : Hw) (k s : Nat) : Nat := Tab.get (h.block k).sigLatch s 0x8000

/-- The value a lane operation reads: a running injector adds x to its node, unless the node is an output or holds
0x8000 (R284, R297). -/
def Hw.sigIn (h : Hw) (k s : Nat) : Nat :=
  let v := h.sig k s
  if h.rd (BLK_INJ_CFG.NODE k) = s && !sigOutput s && v != 0x8000 then Q15.code (Num.signed 16 v + (h.block k).injX) else v

/-- The value of a signal latched for cell-shared numbers: broadcast value f of cell c (R137, R138): 0x8000 for a fenced
cell or one whose sample slot was discarded, and never otherwise. -/
def Hw.broadcast (h : Hw) (lost : Nat → Bool) (f c : Nat) : Nat :=
  if h.cellFenced c || lost c then 0x8000
  else
    let v := match f with
      | 0 => (h.cell c).est
      | 1 => h.rd (LEG_SAMPLE_I.SHUNT c)
      | _ => h.rd (LEG_SAMPLE_V.VPH c)
    if v = 0x8000 then 0x8001 else v

/-- Sample f of cell c for its block (R228): 0x8000 of a fenced cell or a discarded slot. A CHANNEL block has the fast cell
voltage in place of the auxiliary sample (R397). -/
def Hw.sampleSig (h : Hw) (lost : Nat → Bool) (auxLost : Nat → Bool) (f c : Nat) : Nat :=
  if h.cellFenced c then 0x8000
  else if f = 3 && h.mode (blockOf c) = 3 then (h.cell c).fastV
  else if lost c then 0x8000
  else match f with
    | 0 => h.rd (LEG_SAMPLE_I.SHUNT c)
    | 1 => h.rd (LEG_SAMPLE_V.VPH c)
    | 2 => h.rd (LEG_SAMPLE_I.SENSE c)
    | _ => if auxLost (regionOf c) then 0x8000 else h.rd (LEG_SAMPLE_V.AUX c)

/-- Latch the signals of block k (R111, R228, Table 10-1): inputs, samples, link voltage, VDRV, F, the broadcast and the
position values; variables and outputs keep theirs. -/
def Hw.latchSigs (h : Hw) (k : Nat) (lost : Nat → Bool) (auxLost : Nat → Bool) (factor : Nat) (pos : Nat → Nat) : Hw :=
  let old := (h.block k).sigs
  let val (s : Nat) : Nat :=
    if s < 120 then h.rd (BLK_INPUT_VALUE.VALUE k s)
    else if s < 128 then (h.block k).safeIns.getD (s - 120) 3
    else if s < 0x100 then Tab.get old s 0x8000
    else if s < 0x118 then h.sampleSig lost auxLost ((s - 0x100) % 4) (6 * k + (s - 0x100) / 4)
    else if s = 0x118 then h.rd VDC_STATUS.USED
    else if s = 0x119 then (if auxLost (k / 2) then 0x8000 else h.rd (LEG_SAMPLE_V.AUX (12 * (k / 2))))
    else if s = 0x11A then factor
    else if s < 0x120 then 0x8000
    else if s < 0x1B0 then h.broadcast lost ((s - 0x120) / 48) ((s - 0x120) % 48)
    else if s < 0x1C8 then Tab.get old s 0x8000
    else if s < 0x1E0 then 0x8000
    else pos (s - 0x1E0)
  let now := ((List.range 512).map (fun s => (s, val s))).filter (fun e => e.2 != 0x8000)
  h.updBlock k (fun b => { b with sigs := now, sigLatch := now })

-- ## Lane program

/-- The word of block k's lane program that is due. -/
def Hw.laneWord (h : Hw) (k : Nat) : Option Word :=
  let b := h.block k
  match b.laneRuns, b.sec with
  | true, some x => x.lanes[b.lanePc]?
  | _, _ => none

/-- The opcode of a lane word (Table 10-2). -/
def laneOp (w : Word) : Nat := Bits.get w 31 28
def laneD (w : Word) : Nat := Bits.get w 27 19
def laneA (w : Word) : Nat := Bits.get w 18 10
def laneB (w : Word) : Nat := Bits.get w 9 1

/-- The trios a wide operation selects. -/
def laneTrios (w : Word) : List Nat := (List.range 2).filter (fun t => w.getLsbD t)

/-- The cycles of a lane operation (Table 10-3). -/
def laneCycles (horizon : Nat) (w : Word) : Nat :=
  match laneOp w with
  | 1 | 2 | 3 | 5 => 2
  | 4 => 3
  | 6 => 8
  | 8 => 184
  | 9 => 36 * horizon * (laneTrios w).length
  | 0xA => 48
  | 0xB => 16
  | _ => 0

/-- The cycle count of a program with a horizon: the configured one for the checker, the effective one for a step (R277, R327). -/
def BlockSec.cycles (b : BlockSec) (horizon : Nat) : Nat := b.lanes.foldl (fun (n : Nat) w => n + laneCycles horizon w) 0

/-- The lanes of block k complete: RM_LANE_FINISH shows the cycle, counted from the start at cycle 112 (R162, R277). -/
def Hw.laneFinish (h : Hw) (k : Nat) : Hw :=
  match (h.block k).sec with
  | none => h
  | some b =>
    let n := 112 + b.cycles (h.rd (BLK_DTC_STATUS.EFFECTIVE k))
    (h.wr (RM_LANE_FINISH.LAST k) n).wr (RM_LANE_FINISH.WORST k) (max n (h.rd (RM_LANE_FINISH.WORST k)))

/-- Perform the operation that is due in block k if its opcode is `op`, and go on to the next word (R277). -/
def Hw.laneDo (h : Hw) (k op : Nat) (f : Word → Hw → Hw) : Hw :=
  match h.laneWord k with
  | some w => if laneOp w = op then (f w h).updBlock k (fun b => { b with lanePc := b.lanePc + 1 }) else h
  | none => h

/-- A two-operand lane operation: 0x8000 in an operand gives 0x8000 (R284). -/
def Hw.laneBinary (h : Hw) (k op : Nat) (f : Int → Int → Int) : Hw :=
  h.laneDo k op (fun w x => x.setSig k (laneD w) (Q15.map2 f (x.sigIn k (laneA w)) (x.sigIn k (laneB w))))

/-- MOVE (R284, R285). -/
def execMove (k : BlockId) (s : State) :=
  s.onLive (fun h => h.laneDo k.val 1 (fun w x => x.setSig k.val (laneD w) (x.sigIn k.val (laneA w))))

/-- ADD (R281, R284, R285). -/
def execLaneAdd (k : BlockId) (s : State) := s.onLive (fun h => h.laneBinary k.val 2 (fun a b => a + b))

/-- SUB (R281, R284, R285). -/
def execLaneSub (k : BlockId) (s : State) := s.onLive (fun h => h.laneBinary k.val 3 (fun a b => a - b))

/-- MUL (R281, R282, R283, R284). -/
def execMul (k : BlockId) (s : State) := s.onLive (fun h => h.laneBinary k.val 4 (fun a b => Num.roundShift (a * b) 15))

/-- CLAMP (R284, R285). -/
def execClamp (k : BlockId) (s : State) :=
  s.onLive (fun h => h.laneBinary k.val 5 (fun a b => min (max a (-(b.natAbs : Int))) (b.natAbs : Int)))

/-- Saturation of the 40-bit accumulator (R282). -/
def accSat (i : Int) : Int := Num.clamp (-549755813888) 549755813887 i

/-- The accumulator of a law (R288): its products are added exactly, saturating at the accumulator's range. -/
def lawAcc (r : LawRec) (e : Int) (es us : List Int) : Int :=
  let b (i : Nat) : Int := Num.signed 16 (r.b.getD i 0)
  let a (i : Nat) : Int := Num.signed 16 (r.a.getD i 0)
  [b 0 * e, b 1 * es.getD 0 0, b 2 * es.getD 1 0, b 3 * es.getD 2 0,
   a 0 * us.getD 0 0, a 1 * us.getD 1 0, a 2 * us.getD 2 0].foldl (fun acc p => accSat (acc + p)) 0

/-- The output of a law before its clamp (R288). -/
def lawRaw (r : LawRec) (e : Int) (es us : List Int) (shift : Nat) : Int :=
  Q15.sat (Num.roundShift (lawAcc r e es us) (15 - shift))

/-- Run law l of block k on an input, a code (R288, R289, R290): the new state and the output. -/
def Hw.runLaw (h : Hw) (k l e shift : Nat) : Hw × Nat :=
  let x := h.law k l
  match Q15.val e with
  | none =>
    let u := Num.code 16 (x.u.getD 0 0)
    let h := (h.incTop (BLK_LAW_STATUS.HELD_COUNT k l)).wrB (BLK_LAW_OUT.HELD k l) true
    ((h.wrB (BLK_LAW_OUT.LIMITED k l) false).wr (BLK_LAW_OUT.U k l) u, u)
  | some ev =>
    let y := lawRaw x.recd ev x.e x.u shift
    let z := min (max y (Num.signed 16 x.recd.outMin)) (Num.signed 16 x.recd.outMax)
    let h := h.setLaw k l { x with e := [ev, x.e.getD 0 0, x.e.getD 1 0], u := [z, x.u.getD 0 0, x.u.getD 1 0] }
    let h := if z = y then h else h.incTop (BLK_LAW_STATUS.LIMIT_COUNT k l)
    let h := (h.wrB (BLK_LAW_OUT.HELD k l) false).wrB (BLK_LAW_OUT.LIMITED k l) (decide (z ≠ y))
    (h.wr (BLK_LAW_OUT.U k l) (Num.code 16 z), Num.code 16 z)

/-- LAW (R282, R283, R288 to R290). -/
def Hw.laneLaw (h : Hw) (k : Nat) : Hw :=
  h.laneDo k 6 (fun w x =>
    let r := x.runLaw k (Bits.get w 9 2) (x.sigIn k (laneA w)) (Bits.get w 1 0)
    r.1.setSig k (laneD w) r.2)

/-- LAW (R282, R283, R288, R289, R290). -/
def execLaw (k : BlockId) (s : State) := s.onLive (fun h => h.laneLaw k.val)

-- ## Law registers (R292, R293)

/-- The law that the registers of law l hold (Table 10-6). -/
def Hw.lawShadow (h : Hw) (k l : Nat) : LawRec :=
  { (h.law k l).recd with
    b := [h.rd (BLK_LAW_B01.B0 k l), h.rd (BLK_LAW_B01.B1 k l), h.rd (BLK_LAW_B23.B2 k l), h.rd (BLK_LAW_B23.B3 k l)],
    a := [h.rd (BLK_LAW_A12.A1 k l), h.rd (BLK_LAW_A12.A2 k l), h.rd (BLK_LAW_A3.A3 k l)],
    outMax := h.rd (BLK_LAW_LIMITS.OUT_MAX k l), outMin := h.rd (BLK_LAW_LIMITS.OUT_MIN k l) }

/-- The laws a block's set holds. -/
def Hw.lawsOf (h : Hw) (k : Nat) : List Nat :=
  (h.laws.filter (fun (e : Nat × Law) => e.1 / 256 == k && e.2.present)).map (fun (e : Nat × Law) => e.1 % 256)

/-- A COMMIT captures every law's shadow (R292). -/
def Hw.captureLaws (h : Hw) (k : Nat) : Hw :=
  (h.lawsOf k).foldl (fun acc l => acc.setLaw k l { acc.law k l with captured := some (acc.lawShadow k l) }) h

/-- Before a program starts, captured sets replace the active ones and CLEAR zeroes histories (R292, R293). A set captured
in step n is used by the program of step n + 1. -/
def Hw.lawsStart (h : Hw) (k : Nat) : Hw :=
  (h.lawsOf k).foldl (fun acc l =>
    let x := acc.law k l
    let x := match x.captured with
      | some r => { x with recd := r, captured := none }
      | none => x
    acc.setLaw k l (if x.clear then { x with e := [0, 0, 0], u := [0, 0, 0], clear := false } else x)) h

/-- Load a LAW record: the law is present, its registers show the record and its history is 0 (R293). -/
def Hw.loadLaw (h : Hw) (k : Nat) (r : LawRec) : Hw :=
  let l := r.id
  let h := h.setLaw k l { recd := r, present := true }
  let h := (h.wr (BLK_LAW_B01.B0 k l) (r.b.getD 0 0)).wr (BLK_LAW_B01.B1 k l) (r.b.getD 1 0)
  let h := (h.wr (BLK_LAW_B23.B2 k l) (r.b.getD 2 0)).wr (BLK_LAW_B23.B3 k l) (r.b.getD 3 0)
  let h := (h.wr (BLK_LAW_A12.A1 k l) (r.a.getD 0 0)).wr (BLK_LAW_A12.A2 k l) (r.a.getD 1 0)
  (((h.wr (BLK_LAW_A3.A3 k l) (r.a.getD 2 0)).wr (BLK_LAW_LIMITS.OUT_MAX k l) r.outMax).wr (BLK_LAW_LIMITS.OUT_MIN k l)
    r.outMin)

/-- A register write to a law (R291, R304): RANGE for a law without a record, for a nonzero B3 or A3 of KIND 0, and for
limits against R291. `h'` is the state with the value written. -/
def Hw.lawWriteOk (h' : Hw) (k l : Nat) : Bool :=
  let x := h'.law k l
  let r := h'.lawShadow k l
  x.present && (x.recd.kind != 0 || (r.b.getD 3 0 == 0 && r.a.getD 2 0 == 0)) &&
    r.outMin != 0x8000 && r.outMax != 0x8000 && decide (Num.signed 16 r.outMin ≤ Num.signed 16 r.outMax)

-- ## Inputs and the Pacer

/-- The writer source of a control input: kind and source of its WRITER record (R110). -/
def Hw.writerOf (h : Hw) (k n : Nat) : Option Writer :=
  match (h.block k).sec with
  | some b => b.writers.find? (fun w => w.input == n)
  | none => none

/-- Whether a requester is the writer of control input n of block k (R110, R296). -/
def Hw.isWriter (h : Hw) (k n : Nat) (q : Requester) : Bool :=
  match h.writerOf k n, q with
  | some w, .host _ => w.kind == 1
  | some w, .debugger _ => w.kind == 1
  | some w, .thread k' t => w.kind == 2 && k'.val == k && w.source == t.val
  | _, _ => false

/-- A ramp on an input ends where it stands (R296). -/
def Hw.endRamp (h : Hw) (k n : Nat) : Hw := (h.setPacer k n {}).wrB (BLK_INPUT_CFG.RAMPING k n) false

/-- A write of an input's value by its writer (R279, R296). -/
def Hw.inputWrite (h : Hw) (k n : Nat) (q : Requester) (v : Nat) : Status × Hw :=
  if !h.isWriter k n q then (.owner, h)
  else if v = 0x8000 then (.range, h)
  else (.ok, (h.endRamp k n).wr (BLK_INPUT_VALUE.VALUE k n) v)

/-- PACE on input n of block k by thread t, completing in the present step: its checks in order, then the ramp (R294). -/
def Hw.pace (h : Hw) (k t n target rate : Nat) : Status × Hw :=
  if 127 < n then (.range, h)
  else if !(match h.writerOf k n with | some w => w.kind == 2 && w.source == t | none => false) || 120 ≤ n then (.owner, h)
  else if target = 0x8000 || rate = 0 || 0x80000000 ≤ rate then (.range, h)
  else
    let p := h.pacer k n
    let from? : Option Int :=
      if p.running then some p.value
      else if h.on (BLK_INPUT_CFG.TRACK_EN k n) then
        (Q15.val (h.sigAtLatch k (h.rd (BLK_INPUT_CFG.TRACK k n)))).map (fun v => v * 65536)
      else some (Num.signed 16 (h.rd (BLK_INPUT_VALUE.VALUE k n)) * 65536)
    match from? with
    | none => (.notReady, h)
    | some v =>
      let h := h.setPacer k n { running := true, value := v, target := Num.signed 16 target * 65536, rate := (rate : Int),
                                since := h.stepCount }
      let h := h.wr (BLK_INPUT_VALUE.VALUE k n) (Num.code 16 (Num.roundShift v 16))
      (.ok, h.wrB (BLK_INPUT_CFG.RAMPING k n) true)

/-- PACER_MOVE: one move of a running ramp at a step boundary, from the second boundary after its PACE on (R295). -/
def Hw.paceMove (h : Hw) (k n : Nat) : Hw :=
  let p := h.pacer k n
  if p.running && decide (p.since + 2 ≤ h.stepCount) then
    let v := if p.value ≤ p.target then min p.target (p.value + p.rate) else max p.target (p.value - p.rate)
    let h := h.wr (BLK_INPUT_VALUE.VALUE k n) (Num.code 16 (Num.roundShift v 16))
    if v = p.target then h.endRamp k n else h.setPacer k n { p with value := v }
  else h

/-- The ramps of every block that is not halted move (R295, R296). -/
def Hw.paceMoves (h : Hw) : Hw :=
  h.pacers.foldl (fun (acc : Hw) (e : Nat × Pacer) => if acc.halted (e.1 / 128) then acc else acc.paceMove (e.1 / 128) (e.1 % 128)) h

-- ## Injector (R297 to R299)

/-- The phase increment of the present step. -/
def Hw.injInc (h : Hw) (k : Nat) : Nat :=
  let b := h.block k
  match h.rd (BLK_INJ_CFG.WAVE k) with
  | 0 => h.rd (BLK_INJ_FREQ.INC k 0)
  | 1 =>
    let f0 : Int := h.rd (BLK_INJ_FREQ.INC k 0)
    let f1 : Int := h.rd (BLK_INJ_FREQ.INC k 1)
    let sw := h.rd (BLK_INJ_SWEEP.SWEEP k)
    (f0 + (f1 - f0) * b.injCount / (sw : Int)).toNat
  | 2 => h.rd (BLK_INJ_FREQ.INC k (h.rd (BLK_INJ_STATUS.ENTRY k)))
  | _ => 0

/-- x of the present step (R298). -/
def Hw.injValue (h : Hw) (k : Nat) : Int :=
  let b := h.block k
  let a : Int := h.rd (BLK_INJ_AMPL.AMPL k)
  if h.rd (BLK_INJ_CFG.WAVE k) = 3 then (if b.injLfsr % 2 = 1 then a else -a)
  else Num.roundShift (a * Num.sinRound 32767 (b.injPhase / 2 ^ 20) 4096) 15

/-- The end of a step for a running injector: the phase or the shift register advances; CHIRP ends after SWEEP steps and
STEPPED after its last entry (R298). -/
def Hw.injAdvance (h : Hw) (k : Nat) : Hw :=
  let b := h.block k
  let cnt := b.injCount + 1
  match h.rd (BLK_INJ_CFG.WAVE k) with
  | 3 =>
    let l := b.injLfsr
    let shift := cnt % (max (h.rd (BLK_INJ_AMPL.BIT_STEPS k)) 1) == 0
    let l' := (2 * l + ((l >>> 14) ^^^ (l >>> 13)) % 2) % 32768
    h.setBlock k { b with injCount := cnt, injLfsr := if shift then l' else l }
  | w =>
    let p := b.injPhase + h.injInc k
    let carry := decide (2 ^ 32 ≤ p)
    let hold := if carry then b.injHold + 1 else b.injHold
    let e := h.rd (BLK_INJ_STATUS.ENTRY k)
    let entryEnd := w == 2 && decide (h.rd (BLK_INJ_CFG.HOLD k) ≤ hold)
    let done := (w == 1 && decide (h.rd (BLK_INJ_SWEEP.SWEEP k) ≤ cnt)) || (entryEnd && decide (h.rd (BLK_INJ_CFG.ENTRIES k) ≤ e))
    let h := h.setBlock k { b with injCount := cnt, injPhase := p % 2 ^ 32, injHold := if entryEnd then 0 else hold, injDone := done }
    if entryEnd && !done then h.wr (BLK_INJ_STATUS.ENTRY k) (e + 1) else h

/-- A step boundary for the injector: STOP, START, the advance of the step that ended, and x of the new step. -/
def Hw.injBoundary (h : Hw) (k : Nat) : Hw :=
  let b := h.block k
  let st := h.rd (BLK_INJ_STATUS.STATE k)
  if !b.injArm && !b.injStop && st != 1 then h
  else
    let h := if st = 1 && !b.injStop && !b.injDone then h.injAdvance k else h
    let h := if b.injStop then
        (h.updBlock k (fun x => { x with injStop := false, injX := 0, injDone := false })).wr (BLK_INJ_STATUS.STATE k)
          (if st = 1 then 0 else st)
      else h
    let h := if b.injArm then
        ((h.updBlock k (fun x => { x with injArm := false, injPhase := 0, injLfsr := 0x7FFF, injCount := 0, injHold := 0,
                                          injDone := false, injStart := h.stepCount + 1 })).wr (BLK_INJ_STATUS.ENTRY k) 0).wr
          (BLK_INJ_STATUS.STATE k) 1
      else h
    let x : Int := if h.rd (BLK_INJ_STATUS.STATE k) = 1 && !(h.block k).injDone then h.injValue k else 0
    (h.updBlock k (fun y => { y with injX := x })).wrI (BLK_INJ_STATUS.VALUE k) x

/-- START and STOP of the injector (R299): START with an INC of 0 in use, or with a SWEEP of 0, returns RANGE. -/
def Hw.injCtrlWrite (h : Hw) (k : Nat) (v : Word) : Status × Hw :=
  let start := v.getLsbD 0
  let stop := v.getLsbD 1
  let wave := h.rd (BLK_INJ_CFG.WAVE k)
  let inc0 := (wave == 0 && h.rd (BLK_INJ_FREQ.INC k 0) == 0) ||
    (wave == 2 && (List.range (h.rd (BLK_INJ_CFG.ENTRIES k) + 1)).any (fun e => h.rd (BLK_INJ_FREQ.INC k e) == 0))
  if start && stop then (.range, h)
  else if start && (inc0 || (wave == 1 && h.rd (BLK_INJ_SWEEP.SWEEP k) == 0)) then (.range, h)
  else if start then (.ok, h.updBlock k (fun b => { b with injArm := true, injStop := false }))
  else if stop then (.ok, h.updBlock k (fun b => { b with injArm := false, injStop := true }))
  else (.ok, h)

/-- INJECTOR_END: a CHIRP or STEPPED waveform has reached its end (R298). -/
def Hw.injectorEnd (h : Hw) (k : Nat) : Hw :=
  if (h.block k).injDone then
    ((h.updBlock k (fun b => { b with injDone := false, injX := 0 })).wr (BLK_INJ_STATUS.VALUE k) 0).wr (BLK_INJ_STATUS.STATE k) 2
  else h

/-- INJECTOR_END (R298). -/
def execInjectorEnd (k : BlockId) (s : State) := s.onLive (fun h => h.injectorEnd k.val)

-- ## Capture unit (R300 to R302)

/-- The enabled channels of the capture unit: kind and signal. -/
def Hw.capChans (h : Hw) (k : Nat) : List (Nat × Nat) :=
  ((List.range 8).filter (fun c => h.bit (BLK_CAP_CFG.ENABLE k) c)).map
    (fun c => (h.rd (BLK_CAP_CH.KIND k c), h.rd (BLK_CAP_CH.SIGNAL k c)))

/-- The width W of a point in 16-bit values (R300). -/
def capWidth (cs : List (Nat × Nat)) : Nat := cs.foldl (fun n c => n + (if c.1 = 0 then 1 else 16)) 0

/-- Whether a capture channel names a signal, or for raw conversions a local cell (R278, Table 10-6). -/
def capSignalOk (w : Word) : Bool := if Bits.get w 10 9 = 0 then !sigReserved (Bits.get w 8 0) else decide (Bits.get w 8 0 ≤ 5)

/-- Whether a trigger names a signal; a FLAG trigger names a flag in bits [4:0] (R278, R301). -/
def capTrigOk (w : Word) : Bool := Bits.get w 11 9 == 4 || !sigReserved (Bits.get w 8 0)

/-- Whether the configuration allows ARM (R300), with what R613 has left unjudged: every enabled channel and a LEVEL trigger name what
exists. -/
def Hw.capOk (h : Hw) (k : Nat) : Bool :=
  let cs := h.capChans k
  let w := capWidth cs
  let len := h.rd (BLK_CAP_LEN.LENGTH k)
  decide ((cs.filter (fun c => c.1 != 0)).length ≤ 4) && w != 0 && decide (1 ≤ len) && decide (len ≤ 262144 / w) &&
    decide (h.rd (BLK_CAP_PRE.PRE k) < len) &&
    (List.range 8).all (fun c => !h.bit (BLK_CAP_CFG.ENABLE k) c || capSignalOk (h.reg (BLK_CAP_CH k c))) && capTrigOk (h.reg (BLK_CAP_TRIG k))

/-- Arm the unit so that it acts from step `first` on (R301). -/
def Hw.capArm (h : Hw) (k first : Nat) : Hw :=
  let h := h.updBlock k (fun b => { b with capFrom := first, capSlot := 0, capDecim := 0, capHave := 0 })
  ((h.wr (BLK_CAP_STATUS.STATE k) 1).setReg (BLK_CAP_FIRST k) 0).setReg (BLK_CAP_PRE_HELD k) 0

/-- ARM and STOP (R300 to R302). -/
def Hw.capCtrlWrite (h : Hw) (k : Nat) (v : Word) : Status × Hw :=
  let arm := v.getLsbD 0
  let stop := v.getLsbD 1
  if arm && (stop || !h.capOk k) then (.range, h)
  else if arm then (.ok, h.capArm k (h.stepCount + 1))
  else if stop then
    let st := h.rd (BLK_CAP_STATUS.STATE k)
    (.ok, if st = 1 || st = 2 then h.wr (BLK_CAP_STATUS.STATE k) 4 else h)
  else (.ok, h)

/-- Whether a value crosses a level between two steps, in the direction of EDGE (R301). -/
def crosses (edge : Nat) (prev now : Option Int) (level : Int) : Bool :=
  match prev, now with
  | some a, some b =>
    let up := decide (a < level ∧ level ≤ b)
    let down := decide (level < a ∧ b ≤ level)
    match edge with
    | 0 => up
    | 1 => down
    | _ => up || down
  | _, _ => false

/-- Whether the trigger's condition holds in the present step (R301). `b.sigEnd` still holds the previous step's signals. -/
def Hw.capTriggered (h : Hw) (k : Nat) : Bool :=
  let b := h.block k
  let s := h.rd (BLK_CAP_TRIG.SIGNAL k)
  match h.rd (BLK_CAP_TRIG.SOURCE k) with
  | 0 => true
  | 1 => crosses (h.rd (BLK_CAP_TRIG.EDGE k)) (Q15.val (Tab.get b.sigEnd s 0x8000)) (Q15.val (Tab.get b.sigs s 0x8000))
      (h.rdI (BLK_CAP_TRIG.LEVEL k))
  | 2 => h.stepCount % 2 ^ 32 == h.rd (BLK_CAP_TRIG_STEP.STEP k)
  | 3 => b.injStart == h.stepCount + 1
  | _ => b.capFlags.testBit (s % 32)

/-- The values of a point in channel order (R300, R302). -/
def Hw.capPoint (h : Hw) (k : Nat) : List Nat :=
  (h.capChans k).flatMap (fun c =>
    match c.1 with
    | 0 => [h.sig k c.2]
    | 1 => (List.range 16).map (fun j => Num.code 16 ((h.cell (6 * k + c.2)).raw0.getD j 0))
    | _ => (List.range 16).map (fun j => Num.code 16 ((h.cell (6 * k + c.2)).raw1.getD j 0)))

/-- The base address of a block's capture area (R300). -/
def capBase (k : Nat) : Nat := 0x22000000 + k * 0x80000

/-- Store a point in the next slot (R302). -/
def Mach.capStore (m : Mach) (k : Nat) : Mach :=
  let h := m.hw
  let pt := h.capPoint k
  let b := h.block k
  let mem := m.mem.setBytes (capBase k + b.capSlot * pt.length * 2) (pt.flatMap (fun v => Num.bytesLE 2 v))
  ⟨mem, h.setBlock k { b with capSlot := (b.capSlot + 1) % max (h.rd (BLK_CAP_LEN.LENGTH k)) 1, capHave := b.capHave + 1,
                              capDecim := h.rd (BLK_CAP_CFG.DECIM k) }⟩

/-- The end of a step's program for the capture unit: the trigger is evaluated, and a point is stored every DECIM steps and in
the trigger step; a debug step of a halted block does neither (R301, R302, R472). -/
def Mach.capStep (m : Mach) (k : Nat) : Mach :=
  let h := m.hw
  let b := h.block k
  let st := h.rd (BLK_CAP_STATUS.STATE k)
  let len := h.rd (BLK_CAP_LEN.LENGTH k)
  if h.stepCount < b.capFrom || h.halted k then m
  else if st = 1 then
    if h.capTriggered k then
      let pre := min (h.rd (BLK_CAP_PRE.PRE k)) b.capHave
      let h := (h.wr (BLK_CAP_STATUS.STATE k) 2).wr (BLK_CAP_TRIG_SEEN.STEP k) h.stepCount
      let h := (h.wr (BLK_CAP_PRE_HELD.COUNT k) pre).wr (BLK_CAP_FIRST.FIRST k) ((b.capSlot + len - pre) % max len 1)
      (Mach.mk m.mem (h.setBlock k { b with capHave := pre })).capStore k
    else if b.capDecim = 0 then m.capStore k
    else m.onHw (fun h => h.setBlock k { b with capDecim := b.capDecim - 1 })
  else if st = 2 && decide (b.capHave < len) then
    if b.capDecim = 0 then m.capStore k else m.onHw (fun h => h.setBlock k { b with capDecim := b.capDecim - 1 })
  else m

/-- CAPTURE_DONE: LENGTH points exist after the trigger (R302). -/
def Hw.captureDone (h : Hw) (k : Nat) : Hw :=
  if h.rd (BLK_CAP_STATUS.STATE k) = 2 && decide (h.rd (BLK_CAP_LEN.LENGTH k) ≤ (h.block k).capHave) then
    h.wr (BLK_CAP_STATUS.STATE k) 3
  else h

/-- CAPTURE_DONE (R302). -/
def execCaptureDone (k : BlockId) (s : State) := s.onLive (fun h => h.captureDone k.val)

-- ## End of the program (R110, R287)

/-- The value sent for an output: what it carried before where it holds 0x8000, and the injected value on its node (R287,
R297). -/
def Hw.sent (h : Hw) (k s old : Nat) : Nat :=
  let v := h.sig k s
  if v = 0x8000 then old
  else if h.rd (BLK_INJ_CFG.NODE k) = s && sigNode s then Q15.code (Num.signed 16 v + (h.block k).injX) else v

/-- A vector-state output other than LOW or HIGH is sent as OFF (R287). -/
def sentVec (v : Nat) : Nat := if v = 1 || v = 2 then v else 0

/-- The command outputs of block k go into its cells' records (R287). -/
def Hw.sendOutputs (h : Hw) (k : Nat) : Hw :=
  Num.forEach 6 (fun i acc =>
    let c := 6 * k + i
    let x := acc.cell c
    let s := 0x1B0 + 4 * i
    acc.setCell c { x with outCmd := acc.sent k s x.outCmd, outVec := sentVec (acc.sent k (s + 1) x.outVec),
                           outThrA := acc.sent k (s + 2) x.outThrA, outThrB := acc.sent k (s + 3) x.outThrB }) h

/-- The control inputs that a lane output writes take its value (R110). -/
def Hw.laneWriters (h : Hw) (k : Nat) : Hw :=
  match (h.block k).sec with
  | none => h
  | some b => b.writers.foldl (fun acc w =>
      if w.kind = 4 then acc.wr (BLK_INPUT_VALUE.VALUE k w.input) (acc.sig k w.source) else acc) h

/-- Activation and re-entry of a block: inputs, lane variables and outputs take their first values, and the unit arms itself where ARM_AT_START asks for it (R279, R280, R301); `loadLaw` has set the laws. -/
def Hw.engineStart (h : Hw) (k : Nat) : Hw :=
  let h := Num.forEach 120 (fun n acc => acc.wr (BLK_INPUT_VALUE.VALUE k n) 0) h
  let outs := (List.range 24).map (fun j => (0x1B0 + j, if j % 4 < 2 then 0 else 32767))
  let sg := (List.range 128).map (fun j => (0x80 + j, 0)) ++ outs
  let h := h.updBlock k (fun b => { b with sigs := sg, sigEnd := sg, lanePc := 0, laneRuns := false })
  let h := Num.forEach 6 (fun i acc => acc.setCell (6 * k + i) { acc.cell (6 * k + i) with
    outCmd := 0, outVec := 0, outThrA := 32767, outThrB := 32767 }) h
  if h.on (BLK_CAP_CFG.ARM_AT_START k) && h.capOk k then h.capArm k h.stepCount else h

end Sys2Proof.Machine
end

