-- ==== Sys2Proof/Machine/Keep.lean ====
section
/-!
DEFINITION. Keep memory and the event recorder (chapter 20): windows, direct writes, page writes and clears, sector 0, and the
recorders with their histograms, extremes and fault counts.
-/
namespace Sys2Proof.Machine

/-- The first address of the keep memory, and the bytes of a sector. -/
def keepBase : Nat := 0x50000000
def sectorBytes : Nat := 0x10000

/-- The window of partition p: first address and bytes (R539). -/
def Hw.keepWindow (h : Hw) (p : Nat) : Nat × Nat :=
  (keepBase + (h.claims p).keepBase * sectorBytes, (h.claims p).keepSectors * sectorBytes)

/-- Whether an address lies in the recorder area of partition p (R539). -/
def Hw.inRecorder (h : Hw) (p a : Nat) : Bool :=
  let w := h.keepWindow p
  decide (w.1 ≤ a ∧ a < w.1 + (h.claims p).recKib * 1024)

/-- The write window is open (R545). -/
def Hw.keepOpen (h : Hw) : Bool := h.on KEEP_STATE.WRITE_OK

/-- Whether an operation of partition p is queued or running (R543). -/
def Hw.keepBusy (h : Hw) (p : Nat) : Bool :=
  let s := h.rd (PART_KEEP_STATUS.STATE p)
  s == 1 || s == 2 || s == 5

/-- Whether a clear of sector s runs, so that an access to it returns NOT_READY (R547). -/
def Hw.keepClearing (h : Hw) (s : Nat) : Bool :=
  (List.range 16).any (fun p =>
    h.rd (PART_KEEP_STATUS.OP p) == 2 && (h.rd (PART_KEEP_STATUS.STATE p) == 2 || h.rd (PART_KEEP_STATUS.STATE p) == 5) &&
      (h.rd (PART_KEEP_ADDR.ADDR p) - keepBase) / sectorBytes == s)

/-- Whether sector s is half-cleared (R549). -/
def Hw.keepHalf (h : Hw) (s : Nat) : Bool := h.bit (KEEP_HALF.SECTOR (s / 32)) (s % 32)

/-- The sector of an address. -/
def keepSector (a : Nat) : Nat := (a - keepBase) / sectorBytes

/-- Bring ENGINE_BUSY in line. -/
def Hw.keepShow (h : Hw) : Hw :=
  h.wrB KEEP_STATE.ENGINE_BUSY ((List.range 16).any (fun p => h.rd (PART_KEEP_STATUS.STATE p) == 2))

-- ## Device writes to sector 0 (R551)

/-- A device write of one word of sector 0 waits for the engine. -/
def Hw.keepStore (h : Hw) (off : Nat) (bs : List Byte) : Hw := { h with keepPend := h.keepPend ++ [(off, bs)] }

/-- Perform device writes. -/
def Memory.sector0 (m : Memory) (ws : List (Nat × List Byte)) : Memory :=
  ws.foldl (fun acc w => acc.setBytes (keepBase + w.1) w.2) m

/-- The engine takes the device's words first (R544); with the write window closed they wait for the retry (R72, R545). -/
def Mach.keepFlush (m : Mach) : Mach :=
  if m.hw.keepPend.isEmpty then m
  else if m.hw.keepOpen then
    ⟨m.mem.sector0 m.hw.keepPend, { m.hw with
      keepPend := [], keepBlocked := m.hw.keepBlocked.filter (fun b => !m.hw.keepPend.any (fun e => e.1 == b.1)) }⟩
  else m.onHw (fun h => { h with keepBlocked := h.keepBlocked ++ h.keepPend, keepPend := [] })

/-- KEEP_WRITE_RETRY: the writes that met a closed window are tried again (R72, R87, R545). -/
def Mach.keepRetry (m : Mach) : Mach :=
  if m.hw.keepOpen then ⟨m.mem.sector0 m.hw.keepBlocked, { m.hw with keepBlocked := [] }⟩ else m

/-- KEEP_WRITE_RETRY (R72, R87, R545). -/
def execKeepWriteRetry (s : State) := s.onMach Mach.keepRetry

/-- The word of OP_SECONDS and POWER_CYCLES (R73). -/
def Hw.secondsWord (h : Hw) : List Byte := Num.bytesLE 4 (h.rd OP_SECONDS.SECONDS) ++ Num.bytesLE 4 (h.rd POWER_CYCLES.COUNT)

-- ## Operations of a partition (R543 to R547)

/-- The journal of partition p in sector 0 and its register (R546). -/
def Mach.journal (m : Mach) (p page last st : Nat) (count : Bool) : Mach :=
  let a := keepBase + 0x100 + p * 8
  let serial := (m.mem.word (a + 4)).toNat + Num.ofBool count
  let mem := m.mem.setBytes a (Num.bytesLE 2 page ++ Num.bytesLE 1 last ++ Num.bytesLE 1 st ++ Num.bytesLE 4 serial)
  ⟨mem, m.hw.setReg (PART_KEEP_JOURNAL p) (BitVec.ofNat 32 (page * 65536 + last * 256 + st))⟩

/-- An operation of partition p ends with a state and a status. -/
def Hw.keepEnd (h : Hw) (p st : Nat) (code : Status) : Hw :=
  ((h.wr (PART_KEEP_STATUS.STATE p) st).wr (PART_KEEP_STATUS.CODE p) code.code).keepShow

/-- Set the header word of a sector: 1 CLEAR_IN_PROGRESS, 0 CLEAN (R547). -/
def Hw.setHeader (h : Hw) (s v : Nat) : Hw := { h with headers := Tab.put h.headers s v 0 }

/-- The number of the page at ADDR. -/
def Hw.keepPageNo (h : Hw) (p : Nat) : Nat := (h.rd (PART_KEEP_ADDR.ADDR p) - keepBase) / 0x100

/-- A queued operation starts at a step boundary while the write window is open (R545). -/
def Mach.keepBegin (m : Mach) (p : Nat) : Mach :=
  let h := m.hw
  if h.rd (PART_KEEP_STATUS.STATE p) = 1 && h.keepOpen then
    let m := m.onHw (fun h => (h.wr (PART_KEEP_STATUS.STATE p) 2).keepShow)
    if h.rd (PART_KEEP_STATUS.OP p) = 1 then m.journal p (h.keepPageNo p) 0xFF 1 true
    else m.onHw (fun h => h.setHeader (keepSector (h.rd (PART_KEEP_ADDR.ADDR p))) 1)
  else m

/-- A step boundary for the write engine. -/
def Mach.keepBoundary (m : Mach) : Mach := Num.forEach 16 (fun p acc => acc.keepBegin p) m.keepFlush

/-- The 256 bytes of the page buffer (R543). -/
def Hw.pageBytes (h : Hw) (p : Nat) : List Byte :=
  (List.range 64).flatMap (fun w => Num.bytesLE 4 (h.reg (PART_KEEP_PAGE p w)).toNat)

/-- PAGE_WRITE_DONE: the last word and the final journal word are written (R546). -/
def Mach.pageDone (m : Mach) (p : Nat) : Mach :=
  let h := m.hw
  if h.rd (PART_KEEP_STATUS.OP p) = 1 && ((h.rd (PART_KEEP_STATUS.STATE p) = 1 && h.keepOpen) || h.rd (PART_KEEP_STATUS.STATE p) = 2) then
    let mem := m.mem.putRange (h.rd (PART_KEEP_ADDR.ADDR p)) (h.pageBytes p)
    ((Mach.mk mem h).journal p (h.keepPageNo p) 31 2 (h.rd (PART_KEEP_STATUS.STATE p) = 1)).onHw (fun h => h.keepEnd p 3 .ok)
  else m

/-- PAGE_WRITE_DONE (R544, R546). -/
def execPageWriteDone (p : PartId) (s : State) := s.onMach (fun m => m.pageDone p.val)

/-- A clear of a sector completes: every word reads all ones, and the sector is whole again (R547, R549). -/
def Mach.clearSector (m : Mach) (s : Nat) : Mach :=
  ⟨m.mem.fill (keepBase + s * sectorBytes) sectorBytes 0xFF,
   (m.hw.setHeader s 0).wrBit (KEEP_HALF.SECTOR (s / 32)) (s % 32) false⟩

/-- CLEAR_DONE: a clear ends; while the write window is closed it waits (R545, R547). -/
def Mach.clearDone (m : Mach) (p : Nat) : Mach :=
  let h := m.hw
  if h.rd (PART_KEEP_STATUS.OP p) = 2 && h.keepBusy p && h.keepOpen then
    (m.clearSector (keepSector (h.rd (PART_KEEP_ADDR.ADDR p)))).onHw (fun h => h.keepEnd p 3 .ok)
  else m

/-- CLEAR_DONE (R544, R547, R549). -/
def execClearDone (p : PartId) (s : State) := s.onMach (fun m => m.clearDone p.val)

/-- The zone-6 reading opens or closes the write window (R545): a clear in progress pauses with WAIT_TEMP, and goes on. -/
def Hw.keepReading (h : Hw) (temp : Nat) (broken : Bool) : Hw :=
  let t := Num.signed 16 temp
  let ok := !broken && decide (-400 ≤ t) && decide (t ≤ 1250)
  let h := (h.wr KEEP_STATE.TEMP (if broken then 0x7FFF else temp)).wrB KEEP_STATE.WRITE_OK ok
  (Num.forEach 16 (fun p acc =>
    if acc.rd (PART_KEEP_STATUS.OP p) = 2 then
      match acc.rd (PART_KEEP_STATUS.STATE p), ok with
      | 2, false => acc.wr (PART_KEEP_STATUS.STATE p) 5
      | 5, true => acc.wr (PART_KEEP_STATUS.STATE p) 2
      | _, _ => acc
    else acc) h).keepShow

/-- What a power failure leaves of the page writes in progress (R546): how far each has come, and whether the word in progress
is old or new, are free values. -/
def Mach.keepCut (m : Mach) : Mach :=
  Num.forEach 16 (fun p acc =>
    let h := acc.hw
    if h.rd (PART_KEEP_STATUS.OP p) = 1 && h.rd (PART_KEEP_STATUS.STATE p) = 2 then
      let n := Config.freeNat h.fresh % 33
      let half := Config.freeNat (h.fresh + 1) % 2
      let bs := (h.pageBytes p).take (8 * (n + half))
      let acc := Mach.mk (acc.mem.setBytes (h.rd (PART_KEEP_ADDR.ADDR p)) bs) { h with fresh := h.fresh + 2 }
      if n = 32 then acc.journal p (h.keepPageNo p) 31 2 false
      else acc.journal p (h.keepPageNo p) (if n = 0 then 0xFF else n - 1) 1 false
    else acc) m

/-- Step 3 of a cold start: D7 reads the header words and the journals (R549). -/
def Mach.keepStart (m : Mach) : Mach :=
  let h := m.hw.headers.foldl (fun (acc : Hw) (e : Nat × Nat) =>
    (acc.wrBit (KEEP_HALF.SECTOR (e.1 / 32)) (e.1 % 32) true).record (faultCode 6 0 0x02)) m.hw
  ⟨m.mem, Num.forEach 16 (fun p acc =>
    let w := m.mem.word (keepBase + 0x100 + p * 8)
    acc.setReg (PART_KEEP_JOURNAL p) (BitVec.ofNat 32 (Bits.get w 15 0 * 65536 + Bits.get w 23 16 * 256 + Bits.get w 31 24))) h⟩

-- ## Direct access (R541, R542, R550)

/-- A write of the lower half of a keep word loads the requester's latch (R542). -/
def Hw.keepLower (h : Hw) (key a : Nat) (v : Word) : Hw := { h with latches := Tab.put h.latches key (a, v) (0, 0) }

/-- A write of the upper half writes the whole word, if it matches the latch (R542). -/
def Mach.keepUpper (m : Mach) (key a : Nat) (v : Word) : Status × Mach :=
  let l := Tab.get m.hw.latches key (0, 0)
  if l.1 + 4 ≠ a then (.range, m)
  else if m.hw.keepClearing (keepSector a) then (.notReady, m)
  else if !m.hw.keepOpen then (.tempBlocked, m)
  else if m.hw.keepHalf (keepSector a) then (.halfCleared, m)
  else (.ok, { m with mem := (m.mem.setWord l.1 l.2).setWord a v })

/-- The partition whose running page write covers `a`. -/
def Hw.pageRuns (h : Hw) (a : Nat) : Option Nat :=
  (List.range 16).find? (fun p => h.rd (PART_KEEP_STATUS.OP p) == 1 && h.rd (PART_KEEP_STATUS.STATE p) == 2 &&
    decide (h.rd (PART_KEEP_ADDR.ADDR p) ≤ a ∧ a < h.rd (PART_KEEP_ADDR.ADDR p) + 0x100))

/-- The word at `a` as a read finds it: within a page whose write runs, each 64-bit word is wholly old or wholly new, which is a free choice
(R546, R560). -/
def Mach.keepWord (m : Mach) (a : Nat) : Word :=
  let h := m.hw
  match h.pageRuns a with
  | some p => if Config.freeNat h.fresh % 2 = 0 then m.mem.word a else h.reg (PART_KEEP_PAGE p ((a - h.rd (PART_KEEP_ADDR.ADDR p)) / 4))
  | none => m.mem.word a

/-- A read of a word of keep memory (R541, R549, R550): `ecc` is 0 for a good word, 1 for a corrected one and 2 for one with an
uncorrectable error. The lower half copies the upper half, which the next read of the same upper half returns. -/
def Mach.keepRead (m : Mach) (key a ecc : Nat) : Status × Word × Mach :=
  let h := m.hw
  if h.keepClearing (keepSector a) then (.notReady, 0, m)
  else if h.keepHalf (keepSector a) then (.halfCleared, 0, m)
  else if ecc = 2 then
    let h := (h.incTop KEEP_ECC.UNCORRECTABLE).wr KEEP_ECC_ADDR.ADDRESS (a / 8 * 8)
    (.range, 0, ⟨m.mem, h.record (faultCode 6 0 0x01)⟩)
  else
    let h := { (if ecc = 1 then h.incTop KEEP_ECC.CORRECTED else h) with fresh := h.fresh + Num.ofBool (h.pageRuns a).isSome }
    if a % 8 = 0 then
      (.ok, m.keepWord a, ⟨m.mem, { h with keepCopies := Tab.put h.keepCopies key (a + 4, m.keepWord (a + 4)) (0, 0) }⟩)
    else
      let c := Tab.get h.keepCopies key (0, 0)
      if c.1 = a then (.ok, c.2, ⟨m.mem, { h with keepCopies := Tab.put h.keepCopies key (0, 0) (0, 0) }⟩)
      else (.ok, m.keepWord a, ⟨m.mem, h⟩)

-- ## The recorder (R552 to R558)

/-- Hottest zone among the regions of partition p's blocks; zone 6 for a partition without blocks (Table 20-4). -/
def Hw.hottestZone (h : Hw) (p : Nat) : Nat :=
  let zs := ((h.blocksOf p).map (fun k => k / 2 + 1)).dedup
  let zs := if zs.isEmpty then [6] else zs
  zs.foldl (fun best z =>
    let t := h.rd (THERM_STATUS.TEMP z)
    if Num.signed 16 best < Num.signed 16 t then t else best) 0x8000

/-- The value of a histogram source for partition p (Table 20-4); 0x8000 stands for none. -/
def Hw.histValue (h : Hw) (p src : Nat) : Nat :=
  if src = 0 then 0x8000
  else if src ≤ 7 then h.rd (THERM_STATUS.TEMP (src - 1))
  else if src = 8 then h.hottestZone p
  else if src = 9 then h.rd VDC_STATUS.USED
  else if src = 10 then
    let vs := ((h.blocksOf p).flatMap cellsOf).filterMap (fun c =>
      if h.cellFenced c then none else (Q15.val (h.rd (LEG_SAMPLE_I.SHUNT c))).map Int.natAbs)
    match vs with
    | [] => 0x8000
    | _ => vs.foldl max 0
  else if src < 0x1000 then h.rd (TEMP_STATUS.TEMP (src - 0x40))
  else h.sig ((src - 0x1000) / 0x200) ((src - 0x1000) % 0x200)

/-- Whether a source is a temperature, which produces a value at each reading; the others do at each sample latch (R554). -/
def histIsTemp (src : Nat) : Bool := (decide (1 ≤ src) && decide (src ≤ 8)) || (decide (0x40 ≤ src) && decide (src < 0x80))

/-- A value of its source updates a histogram's extremes (R554). -/
def Hist.extreme (x : Hist) (v sec cyc : Nat) : Hist :=
  if v = 0x8000 then x
  else
    let i := Num.signed 16 v
    let x := if !x.seen || decide (i < x.minV) then { x with minV := i, minS := sec, minC := cyc } else x
    let x := if !x.seen || decide (x.maxV < i) then { x with maxV := i, maxS := sec, maxC := cyc } else x
    { x with seen := true }

/-- A sample is placed in its bin (R553). -/
def Hist.sample (x : Hist) (v : Nat) : Hist :=
  if x.source = 0 then x
  else if v = 0x8000 then { x with invalid := Num.incTo 0xFFFFFFFF x.invalid }
  else
    let d := Num.signed 16 v - Num.signed 16 x.lo
    let b := if d < x.width then 0 else if 31 * (x.width : Int) ≤ d then 31 else (d / (max x.width 1 : Nat)).toNat
    { x with bins := Tab.put x.bins b (Num.incTo 0xFFFFFFFF (Tab.get x.bins b 0)) 0 }

/-- Sources that produce a value now update the extremes of every partition's histograms. -/
def Hw.histUpdate (h : Hw) (now : Nat → Bool) : Hw :=
  Num.forEach 16 (fun p acc =>
    let r := acc.recorder p
    if r.base = 0 then acc
    else acc.setRecorder p { r with hists := r.hists.map (fun x =>
      if now x.source then x.extreme (acc.histValue p x.source) (acc.rd OP_SECONDS.SECONDS) (acc.rd POWER_CYCLES.COUNT) else x) }) h

/-- The sources other than temperatures produce a value at each sample latch (R554). -/
def Hw.histLatch (h : Hw) : Hw := h.histUpdate (fun s => s != 0 && !histIsTemp s)

/-- One second passes for a recorder: a changed configuration clears its histogram, and each histogram takes a sample (R553). -/
def Hw.recSecond (h : Hw) (p : Nat) : Hw :=
  let r := h.recorder p
  let hs := (List.range 4).map (fun i =>
    let x := r.hists.getD i {}
    let src := h.rd (PART_HIST_CFG.SOURCE p i)
    let lo := h.rd (PART_HIST_RANGE.LO p i)
    let w := h.rd (PART_HIST_RANGE.WIDTH p i)
    let x := if x.source = src && x.lo = lo && x.width = w then x else { source := src, lo := lo, width := w }
    x.sample (h.histValue p src))
  h.setRecorder p { r with hists := hs, entries := r.entries.map (fun e => { e with inSecond := 0 }) }

/-- The bytes of a recorder area up to its last entry in use (Table 20-2). -/
def Hw.recBytes (h : Hw) (p : Nat) (r : Recorder) : List Byte :=
  let z (n : Nat) : List Byte := List.replicate n 0
  let head := Num.bytesLE 4 r.seq ++ Num.bytesLE 4 (Num.ofBool r.torn + 2 * Num.ofBool r.deferred) ++ Num.bytesLE 2 1 ++
    Num.bytesLE 2 (entriesMax (h.claims p).recKib) ++ Num.bytesLE 2 r.entries.length ++ z 2 ++ Num.bytesLE 4 r.overflow ++ z 4 ++
    Num.bytesLE 4 (h.rd OP_SECONDS.SECONDS) ++ Num.bytesLE 4 (h.rd POWER_CYCLES.COUNT) ++ Num.bytesLE 4 r.createdS ++
    Num.bytesLE 4 r.createdC ++ z 0x18
  let hist (x : Hist) : List Byte := Num.bytesLE 2 x.source ++ Num.bytesLE 2 x.lo ++ Num.bytesLE 2 x.width ++ z 2 ++
    Num.bytesLE 4 x.invalid ++ z 4 ++ (List.range 32).flatMap (fun b => Num.bytesLE 4 (Tab.get x.bins b 0))
  let ext (x : Hist) : List Byte := Num.bytesLE 2 (Num.code 16 x.minV) ++ Num.bytesLE 2 (Num.code 16 x.maxV) ++ z 4 ++
    Num.bytesLE 4 x.minS ++ Num.bytesLE 4 x.minC ++ Num.bytesLE 4 x.maxS ++ Num.bytesLE 4 x.maxC ++ z 8
  let ent (e : RecEntry) : List Byte := Num.bytesLE 2 e.code ++ z 2 ++ Num.bytesLE 4 e.count ++ Num.bytesLE 4 e.suppressed ++
    Num.bytesLE 4 e.last
  head ++ r.hists.flatMap hist ++ r.hists.flatMap ext ++ r.entries.flatMap ent

/-- An update of partition p's recorder area: whole, with SEQ even again (R556). -/
def Mach.recWrite (m : Mach) (p : Nat) : Mach :=
  let r := m.hw.recorder p
  let r := { r with seq := if r.seq = 0xFFFFFFFE then 0 else r.seq + 2 }
  ⟨m.mem.putRange (r.base - 1) (m.hw.recBytes p r), m.hw.setRecorder p r⟩

/-- The update that is due for partition p; held back while zone 6 is at throttle or the write window is closed (R558). -/
def Mach.recUpdate (m : Mach) (p : Nat) : Mach :=
  let h := m.hw
  let r := h.recorder p
  if r.base = 0 then m
  else if 2 ≤ h.rd (THERM_STATUS.LEVEL 6) || !h.keepOpen then m.onHw (fun h => h.wrB (PART_REC_STATUS.DEFERRED p) true)
  else
    let was := h.on (PART_REC_STATUS.DEFERRED p)
    (Mach.mk m.mem ((h.setRecorder p { r with deferred := was }).wrB (PART_REC_STATUS.DEFERRED p) false)).recWrite p

/-- Format the recorder area of partition p (R552): cleared, with its header. -/
def Mach.recFormat (m : Mach) (p : Nat) : Mach :=
  let h := m.hw
  let a := (h.keepWindow p).1
  let r : Recorder := { base := a + 1, createdS := h.rd OP_SECONDS.SECONDS, createdC := h.rd POWER_CYCLES.COUNT,
                        hists := (List.range 4).map (fun i =>
                          { source := h.rd (PART_HIST_CFG.SOURCE p i), lo := h.rd (PART_HIST_RANGE.LO p i),
                            width := h.rd (PART_HIST_RANGE.WIDTH p i) }) }
  let bs := h.recBytes p r
  let mem := m.mem.fill a ((h.claims p).recKib * 1024) 0
  ⟨(mem.putRange a (bs.take 0x18)).putRange (a + 0x20) ((bs.drop 0x20).take 0x20), (h.setRecorder p r).wr (PART_REC_STATUS.ENTRIES_USED p) 0⟩

/-- Read a recorder area into D7's memory (R552, R556, R557). An odd SEQ is made even, sets TORN and is recorded. -/
def Mach.recLoad (m : Mach) (p : Nat) : Mach :=
  let a := (m.hw.keepWindow p).1
  let w (o : Nat) : Nat := (m.mem.word (a + o)).toNat
  let half (o : Nat) : Nat := w o % 65536
  let torn := w 0 % 2 == 1
  let hist (i : Nat) : Hist :=
    let o := 0x40 + i * 0x90
    let e := 0x280 + i * 0x20
    { source := half o, lo := w o / 65536, width := half (o + 4), invalid := w (o + 8),
      bins := ((List.range 32).map (fun b => (b, w (o + 0x10 + 4 * b)))).filter (fun x => x.2 != 0),
      seen := decide (w (e + 0x08) ≠ 0 ∨ w (e + 0x0C) ≠ 0), minV := Num.signed 16 (half e), maxV := Num.signed 16 (w e / 65536),
      minS := w (e + 8), minC := w (e + 0x0C), maxS := w (e + 0x10), maxC := w (e + 0x14) }
  let ents := (List.range (half 0x0C)).map (fun i =>
    let o := 0x300 + 16 * i
    ({ code := half o, count := w (o + 4), suppressed := w (o + 8), last := w (o + 12) } : RecEntry))
  let r : Recorder := { base := a + 1, seq := if torn then (w 0 + 1) % 2 ^ 32 else w 0, torn := torn || (w 4).testBit 0,
                        deferred := (w 4).testBit 1, overflow := w 0x10, createdS := w 0x20, createdC := w 0x24, entries := ents,
                        hists := (List.range 4).map hist }
  let h := (m.hw.setRecorder p r).wr (PART_REC_STATUS.ENTRIES_USED p) ents.length
  if torn then
    ⟨(m.mem.setWord a (BitVec.ofNat 32 r.seq)).setWord (a + 4) (BitVec.ofNat 32 (w 4 / 2 * 2 + 1)),
     h.record (faultCode 6 0 0x03)⟩
  else ⟨m.mem, h⟩

/-- Activation and re-entry of partition p for its recorder (R552): it continues where it stopped, or its area is formatted. -/
def Mach.recActivate (m : Mach) (p : Nat) : Mach :=
  let h := m.hw
  let kib := (h.claims p).recKib
  let a := (h.keepWindow p).1
  if kib = 0 then ⟨m.mem, (h.setRecorder p {}).setReg (PART_REC_STATUS p) 0⟩
  else
    let m := m.onHw (fun h => h.wrB (PART_REC_STATUS.PRESENT p) true)
    let w := (m.mem.word (a + 8)).toNat
    if w % 65536 = 1 && w / 65536 = entriesMax kib then
      if (h.recorder p).base = a + 1 then m else m.recLoad p
    else m.recFormat p

/-- A second passes: the counter, its store every 60 s, and the recorders' samples and updates (R71 to R73, R553, R555, R556,
R558). -/
def Mach.opSecond (m : Mach) : Mach :=
  let h := m.hw.incTop OP_SECONDS.SECONDS
  let h := if h.rd OP_SECONDS.SECONDS % 60 = 0 then h.keepStore 0 h.secondsWord else h
  let h := Num.forEach 16 (fun p acc => if (acc.recorder p).base = 0 then acc else acc.recSecond p) h
  Num.forEach 16 (fun p acc => acc.recUpdate p) (Mach.mk m.mem h).keepFlush

/-- OP_SECONDS_INCREMENT: counted while the device is in operation, a warm restart's wait for the PLL included (R65, R71). -/
def execOpSecondsIncrement (s : State) : Host.Outcome State Fault Refusal :=
  if s.hw.opRun then .next { s with mem := (Mach.opSecond ⟨s.mem, s.hw⟩).mem, hw := (Mach.opSecond ⟨s.mem, s.hw⟩).hw } else .next s

-- ## Registers (R543, R561)

/-- KEEP_CTRL (R543): the refusals in their order. -/
def Mach.keepCtrlWrite (m : Mach) (p : Nat) (v : Word) : Status × Mach :=
  let h := m.hw
  let page := v.getLsbD 0
  let clear := v.getLsbD 1
  let reset := v.getLsbD 2
  let a := h.rd (PART_KEEP_ADDR.ADDR p)
  let w := h.keepWindow p
  let size := if page then 0x100 else sectorBytes
  if Bits.get v 31 16 ≠ 0x7E15 || (page && clear) || (page && reset) || (clear && reset) then (.range, m)
  else if page || clear then
    if a % size ≠ 0 || !(decide (w.1 ≤ a) && decide (a + size ≤ w.1 + w.2)) then (.range, m)
    else if h.inRecorder p a then (.locked, m)
    else if h.keepBusy p then (.notReady, m)
    else if !h.keepOpen then (.tempBlocked, m)
    else if page && h.keepHalf (keepSector a) then (.halfCleared, m)
    else (.ok, m.onHw (fun h => ((h.wr (PART_KEEP_STATUS.OP p) (if page then 1 else 2)).wr (PART_KEEP_STATUS.STATE p) 1).wr
      (PART_KEEP_STATUS.CODE p) 0))
  else if reset then
    if (h.claims p).recKib = 0 then (.range, m)
    else if h.keepBusy p then (.notReady, m)
    else if !h.keepOpen then (.tempBlocked, m)
    else (.ok, (m.recFormat p).onHw (fun h => (h.wr (PART_KEEP_STATUS.OP p) 3).keepEnd p 3 .ok))
  else (.ok, m)

/-- A write to the page buffer or to PART_KEEP_ADDR: NOT_READY while an operation is queued or running (R543). -/
def Hw.keepBufWrite (h : Hw) (p : Nat) (r : RegId) (w : Word) : Status × Hw :=
  if h.keepBusy p then (.notReady, h) else (.ok, h.setReg r w)

/-- Whether a SOURCE of a histogram of partition p is allowed (Table 20-4, Table 20-5). -/
def Hw.histSourceOk (h : Hw) (p src : Nat) : Bool :=
  decide (src ≤ 10) || (decide (0x40 ≤ src) && decide (src < 0x80) && (h.claims p).tempClaim.testBit (src - 0x40)) ||
    (decide (0x1000 ≤ src) && decide (src < 0x2000) && (h.claims p).blocks.testBit ((src - 0x1000) / 0x200) &&
      !sigReserved ((src - 0x1000) % 0x200))

/-- A queued operation of a partition that reaches step 5 of a reload is discarded with NOT_READY (R560). -/
def Hw.keepRelease (h : Hw) (p : Nat) : Hw :=
  if h.rd (PART_KEEP_STATUS.STATE p) = 1 then h.keepEnd p 4 .notReady else h

end Sys2Proof.Machine
end

