-- ==== Sys2Proof/Machine/Meas.lean ====
section
/-!
DEFINITION. Precision integrating converters (chapter 9): starts, windows, results, calibration, references, the auxiliary
sequences and the capture areas of D6.
-/
namespace Sys2Proof.Machine

/-- Fields that a channel converter (0 to 47) and an auxiliary converter (48 to 63) have in common. -/
def measState (n : Nat) : Fld := if n < 48 then MEAS_CH_STATUS.STATE n else MEAS_AUX_STATUS.STATE (n - 48)
def measSettled (n : Nat) : Fld := if n < 48 then MEAS_CH_STATUS.REF_SETTLED n else MEAS_AUX_STATUS.REF_SETTLED (n - 48)
def measCalState (n : Nat) : Fld := if n < 48 then MEAS_CH_STATUS.CAL_STATE n else MEAS_AUX_STATUS.CAL_STATE (n - 48)
def measMode (n : Nat) : Fld := if n < 48 then MEAS_CH_CFG.MODE n else MEAS_AUX_CFG.MODE (n - 48)
def measRefSel (n : Nat) : Fld := if n < 48 then MEAS_CH_CFG.REF_SEL n else MEAS_AUX_CFG.REF_SEL (n - 48)
def measAuto (n : Nat) : Fld := if n < 48 then MEAS_CH_CFG.AUTO_START n else MEAS_AUX_CFG.AUTO_START (n - 48)
def measCfgReg (n : Nat) : RegId := if n < 48 then MEAS_CH_CFG n else MEAS_AUX_CFG (n - 48)

/-- Change a converter's hidden state. -/
def Hw.updConv (h : Hw) (n : Nat) (f : Conv → Conv) : Hw := h.setConv n (f (h.conv n))

/-- A converter that is to start waits for its reference, and then for its start boundary (R254, R258). -/
def Hw.measWait (h : Hw) (n : Nat) : Hw :=
  (h.updConv n (fun x => { x with frameSeen := false, isOpen := false, gapNext := true, restart := false })).wr (measState n)
    (if h.on (measSettled n) then 2 else 1)

/-- Converter n is no longer under test. -/
def Hw.convFree (h : Hw) (n : Nat) : Hw :=
  { h.wr ST_MEAS_STATUS.UNDER_TEST 0xFF with convTest := 0xFF }.updConv n (fun x =>
    { x with bySpare := false, spareNext := false, backNext := false, held := 0 })

/-- A converter goes idle; one whose test has ended is handed back with that. -/
def Hw.measIdle (h : Hw) (n : Nat) : Hw :=
  let h := if (h.conv n).backNext then h.convFree n else h
  (h.updConv n (fun x => { x with run := 0, cal := false, calPend := false, calResume := 0, stopping := false, restart := false,
                                  isOpen := false, gapNext := true })).wr (measState n) 0

/-- START (R254, R258, R269): no effect while converting, calibrating or waiting, or after a D6 fault. -/
def Hw.measStart (h : Hw) (n : Nat) : Hw :=
  if h.rd (measState n) = 0 && !(h.die 6).clockBad then
    let m := h.rd (measMode n)
    let h := h.updConv n (fun x => { x with run := m, cal := false, calPend := false, stopping := false, seq := 0, entry := 0 })
    h.measWait n
  else h

/-- CAL (R258, R264, R265, R269): at the end of the current window, or under R254 if idle; no effect while calibrating. -/
def Hw.measCal (h : Hw) (n range : Nat) : Hw :=
  match h.rd (measState n) with
  | 0 => if (h.die 6).clockBad then h
         else (h.updConv n (fun x => { x with cal := true, calResume := 0, calRange := range })).measWait n
  | 1 | 2 => h.updConv n (fun x => if x.cal then x else { x with cal := true, calResume := x.run, calRange := range })
  | 3 => h.updConv n (fun x => if x.calPend then x else { x with calPend := true, calRange := range })
  | _ => h

/-- STOP (R269): the window in progress completes; a calibration ends at once as ABORTED. -/
def Hw.measStop (h : Hw) (n : Nat) : Hw :=
  match h.rd (measState n) with
  | 1 | 2 => h.measIdle n
  | 3 => if (h.conv n).isOpen then h.updConv n (fun x => { x with stopping := true, calPend := false }) else h.measIdle n
  | 4 => (h.measIdle n).wr (measCalState n) 3
  | _ => h

/-- The range conditions of a write to a CTRL register (R269). -/
def Hw.measFits (h : Hw) (n : Nat) (v : Word) : Bool :=
  !(v.getLsbD 1 && (v.getLsbD 0 || v.getLsbD 2)) && !((v.getLsbD 0 || v.getLsbD 2) && h.rd (measMode n) == 0)

/-- A write to a CTRL register: START, STOP, CAL and, on an auxiliary converter, CAL_RANGE (R269). -/
def Hw.measCtrlWrite (h : Hw) (n : Nat) (v : Word) : Status × Hw :=
  let start := v.getLsbD 0
  let stop := v.getLsbD 1
  let cal := v.getLsbD 2
  if !h.measFits n v then (.range, h)
  else if stop then (.ok, h.measStop n)
  else
    let h := if start then h.measStart n else h
    (.ok, if cal then h.measCal n (if n < 48 then 0 else Bits.get v 3 3) else h)

/-- Whether converter n uses REFIN: the reference selected, or that of its open window. -/
def Hw.usesRefin (h : Hw) (n : Nat) : Bool :=
  h.rd (measRefSel n) == 1 ||
    ((h.conv n).isOpen && (if n < 48 then Bits.get (h.conv n).cfgUse 7 6 else Bits.get (h.conv n).cfgUse 4 3) == 1)

/-- A converter that uses REFIN while it is out of range: MEAS_REFIN is recorded for its claimant, once per excursion (R257). -/
def Hw.refinConcern (h : Hw) (n : Nat) : Hw :=
  if h.on MEAS_REF_STATUS.REFIN_OK || !h.usesRefin n then h
  else match h.measOwner n with
    | some p => if h.refinRec.testBit p then h else { h with refinRec := h.refinRec + 2 ^ p }.record (faultCode 4 p 0x23)
    | none => h

/-- A change of REF_SEL clears REF_SETTLED; the supply reference needs no settling time (R256, R258). -/
def Hw.refChanged (h : Hw) (n : Nat) : Hw :=
  let h := (h.wrB (measSettled n) (h.rd (measRefSel n) == 2)).refinConcern n
  match h.rd (measState n) with
  | 3 => if (h.conv n).isOpen then h.updConv n (fun x => { x with restart := true }) else h.measWait n
  | 2 => h.measWait n
  | 1 => h.measWait n
  | _ => h

/-- A window opens with the configuration now in force (R255, R257). -/
def Hw.openWindow (h : Hw) (n : Nat) : Hw :=
  let ext := h.rd (measRefSel n) == 1
  (h.updConv n (fun x => { x with
    isOpen := true, gap := x.gapNext, gapNext := false, cfgUse := h.reg (measCfgReg n),
    run := h.rd (measMode n), refBad := !h.on (measSettled n) || !h.dieGood 6, refFault := ext && !h.on MEAS_REF_STATUS.REFIN_OK })).wr (measState n) 3

/-- The next window of a converting converter: an auxiliary entry takes its setting as it starts, the first one ENTRIES too, and waits its
SETTLE first (R254, R266). -/
def Hw.nextWindow (h : Hw) (n : Nat) : Hw :=
  if h.rd (measMode n) = 0 then h.measIdle n
  else if n < 48 then h.openWindow n
  else
    let e := (h.conv n).entry
    let h := (h.wr (MEAS_AUX_STATUS.ENTRY (n - 48)) e).updConv n (fun x =>
      { x with entryUse := h.reg (MEAS_AUX_SEQ (n - 48) e), entriesUse := if e = 0 then h.rd (MEAS_AUX_CFG.ENTRIES (n - 48)) else x.entriesUse })
    if h.rd (MEAS_AUX_SEQ.SETTLE (n - 48) (h.conv n).entry) = 0 then h.openWindow n
    else (h.updConv n (fun x => { x with isOpen := false, gapNext := true })).wr (measState n) 3

/-- FIRST_WINDOW_OPEN: an even step boundary after the next frame boundary (R254), for a run or a calibration. -/
def Hw.firstWindow (h : Hw) (n : Nat) : Hw :=
  let x := h.conv n
  if h.rd (measState n) = 2 && x.frameSeen && h.stepCount % 2 = 0 then
    if x.cal then (h.updConv n (fun y => { y with cal := false, isOpen := false })).wr (measState n) 4
    else h.nextWindow n
  else h

/-- FIRST_WINDOW_OPEN (R254). -/
def execFirstWindowOpen (n : ConvId) (s : State) := s.onLive (fun h => h.firstWindow n.val)

/-- AUX_SETTLE_END: the entry's SETTLE has passed and its window starts (R266). -/
def Hw.auxSettled (h : Hw) (n : Nat) : Hw :=
  if 48 ≤ n && h.rd (measState n) == 3 && !(h.conv n).isOpen then h.openWindow n else h

/-- AUX_SETTLE_END (R266). -/
def execAuxSettleEnd (n : ConvId) (s : State) := s.onLive (fun h => h.auxSettled n.val)

/-- A frame boundary passes for the converters that wait for it. -/
def Hw.measFrame (h : Hw) : Hw :=
  Num.forEach 64 (fun n acc => if acc.rd (measState n) = 2 then acc.updConv n (fun x => { x with frameSeen := true }) else acc) h

-- ## Results

/-- The code that stands for "no valid value" (R259). -/
def k24Invalid : Nat := 0x800000

/-- A raw code after calibration, saturated, and whether the input was beyond full scale: beyond the codes of the result (R259, R263). -/
def calibrated (raw : Int) (offset gain : Nat) : Int × Bool :=
  let k := Num.roundShift ((raw - Num.signed 24 offset) * (gain : Int)) 30
  (Num.clamp (-8388607) 8388607 k, decide (8388607 < k.natAbs))

/-- One delivered result: what a capture record and a channel's accumulators take of it. -/
structure MeasResult where
  conv : Nat
  seq : Nat := 0
  entry : Nat := 0
  v : Nat := 0x800000
  i : Nat := 0x800000
  flags : Nat := 0
  step : Nat := 0
  deriving DecidableEq, Repr

/-- The flag bits of a capture record (Table 9-9). -/
def recFlags (valid refFault vOver iOver cm spare gap : Bool) : Nat :=
  Num.ofBool valid + 2 * Num.ofBool refFault + 4 * Num.ofBool vOver + 8 * Num.ofBool iOver + 16 * Num.ofBool cm +
    32 * Num.ofBool spare + 64 * Num.ofBool gap

/-- A channel converter's result (R250, R251, R259 to R263): its registers and the delivered result. -/
def Hw.chanResult (h : Hw) (n : Nat) (rawV rawI : Int) (cm clamp : Bool) (phase : Nat) : Hw × MeasResult :=
  let h := h.updConv n (fun x => { x with seq := (x.seq + 1) % 0x10000 })
  let x := h.conv n
  let ien := x.cfgUse.getLsbD 3
  let v := calibrated rawV (h.rd (MEAS_CH_CAL_V_OFFSET.OFFSET n)) (h.rd (MEAS_CH_CAL_V_GAIN.GAIN n))
  let i := calibrated rawI (h.rd (MEAS_CH_CAL_I_OFFSET.OFFSET n)) (h.rd (MEAS_CH_CAL_I_GAIN.GAIN n))
  let iv := if ien && !cm then Num.code 24 i.1 else k24Invalid
  let valid := !x.refBad && !x.refFault && !clamp && !x.failed
  let iover := ien && !cm && i.2
  let h := (h.wr (MEAS_CH_V.VALUE n) (Num.code 24 v.1)).wr (MEAS_CH_I.VALUE n) iv
  let h := h.wr (MEAS_CH_STAMP.STEP n) h.stepCount
  let h := h.setReg (MEAS_CH_FLAGS n) (BitVec.ofNat 32 (x.seq * 65536 + phase * 128 + Num.ofBool x.gap * 64 +
    Num.ofBool x.bySpare * 32 + Num.ofBool cm * 16 + Num.ofBool iover * 8 + Num.ofBool v.2 * 4 + Num.ofBool x.refFault * 2 +
    Num.ofBool valid))
  (h, { conv := n, seq := x.seq, entry := 0, v := Num.code 24 v.1, i := iv, step := h.stepCount,
        flags := recFlags valid x.refFault v.2 iover cm x.bySpare x.gap })

/-- An auxiliary converter's result (R266): its entry's result register, then the next entry; PASS counts the passes. -/
def Hw.auxResult (h : Hw) (n : Nat) (raw : Int) (clamp : Bool) : Hw × MeasResult :=
  let j := n - 48
  let x := h.conv n
  let g := Bits.get x.entryUse 7 7
  let v := calibrated raw (Bits.get (h.reg (MEAS_AUX_CAL_OFFSET j g)) 23 0) (h.reg (MEAS_AUX_CAL_GAIN j g)).toNat
  let valid := !x.refBad && !x.refFault && !clamp && !x.failed
  let pass := h.rd (MEAS_AUX_STATUS.PASS j)
  let h := h.setReg (MEAS_AUX_RES j x.entry) (BitVec.ofNat 32 (Num.code 24 v.1 * 256 + pass % 16 * 16 + Num.ofBool x.gap * 8 +
    Num.ofBool x.refFault * 4 + Num.ofBool v.2 * 2 + Num.ofBool valid))
  let h := h.wr (MEAS_AUX_STAMP.STEP j) h.stepCount
  let r : MeasResult := { conv := n, seq := pass, entry := x.entry, v := Num.code 24 v.1, step := h.stepCount,
                          flags := recFlags valid x.refFault v.2 false false x.bySpare x.gap }
  if x.entriesUse ≤ x.entry then
    ((h.inc (MEAS_AUX_STATUS.PASS j)).updConv n (fun y => { y with entry := 0, seq := (y.seq + 1) % 0x10000 }), r)
  else (h.updConv n (fun y => { y with entry := y.entry + 1 }), r)

/-- The converter is no longer under test, and what was written to it meanwhile applies (R576); 64 is the spare. -/
def Hw.convBack (h : Hw) (n : Nat) : Hw :=
  if n = 64 then { h.wr ST_MEAS_STATUS.UNDER_TEST 0xFF with convTest := 0xFF }
  else
    let held := (h.conv n).held
    let h := h.convFree n
    if held = 0 then h else (h.measCtrlWrite n (BitVec.ofNat 32 held)).2

/-- After a window: a converter whose test has ended is handed back; then idle after STOP, SINGLE or a ONCE pass, a calibration that was asked
for, once its reference is settled, a restart after a reference change, or the next window (R254, R258, R265, R266, R269, R574). -/
def Hw.afterWindow (h : Hw) (n : Nat) : Hw :=
  let h := if (h.conv n).backNext then h.convBack n else h
  let x := h.conv n
  let h := h.updConv n (fun y => { y with isOpen := false, bySpare := y.bySpare || y.spareNext, spareNext := false })
  let passEnd := n < 48 || x.entry == 0
  if x.stopping then h.measIdle n
  else if x.calPend then
    let go := x.run == 2 || !passEnd
    let h := h.updConv n (fun y => { y with calPend := false, calResume := if go then y.run else 0 })
    if x.restart || !h.on (measSettled n) then (h.updConv n (fun y => { y with cal := true })).measWait n else h.wr (measState n) 4
  else if x.run = 1 && passEnd then h.measIdle n
  else if x.restart then h.measWait n
  else h.nextWindow n

/-- The event MEAS_RESULT of each block whose partition claims the converter (R260). -/
def Hw.measEvent (h : Hw) (n : Nat) : Hw :=
  match h.measOwner n with
  | some p => (h.blocksOf p).foldl (fun acc k => acc.wakeEvent k 0x2000) h
  | none => h

/-- The 16 bytes of a capture record (Table 9-9). -/
def MeasResult.bytes (r : MeasResult) : List Byte :=
  Num.bytesLE 4 r.step ++ Num.bytesLE 2 r.seq ++ Num.bytesLE 1 r.conv ++ Num.bytesLE 1 r.entry ++ Num.bytesLE 3 r.v ++
    Num.bytesLE 1 r.flags ++ Num.bytesLE 3 r.i ++ [0]

/-- The base address of capture area a. -/
def areaBase (a : Nat) : Nat := 0x31000000 + a * 0x10000

/-- Whether a recording area selects converter n, which its holder claims (R273). -/
def Hw.areaSelects (h : Hw) (a n : Nat) : Bool :=
  h.rd (MEAS_CAP_STATUS.STATE a) == 1 && h.measOwner n == some (h.area a).owner &&
    (if n < 32 then h.bit (MEAS_CAP_MASK_LO.MASK a) n else h.bit (MEAS_CAP_MASK_HI.MASK a) (n - 32))

/-- Append one record to an area: the record is written whole before NEXT advances (R273). -/
def Mach.capture (m : Mach) (a : Nat) (r : MeasResult) : Mach :=
  let h := m.hw
  let i := h.rd (MEAS_CAP_STATUS.NEXT a)
  let mem := m.mem.setBytes (areaBase a + 16 * i) r.bytes
  let h' := if i < 4095 then h.wr (MEAS_CAP_STATUS.NEXT a) (i + 1)
    else if h.rd (MEAS_CAP_CFG.MODE a) = 2 then (h.wr (MEAS_CAP_STATUS.NEXT a) 0).wr (MEAS_CAP_STATUS.STATE a) 2
    else (h.wr (MEAS_CAP_STATUS.NEXT a) 0).inc (MEAS_CAP_STATUS.WRAPS a)
  ⟨mem, h'⟩

/-- Append a delivered result to every recording area that selects its converter. -/
def Mach.captureAll (m : Mach) (r : MeasResult) : Mach :=
  Num.forEach 32 (fun a acc => if acc.hw.areaSelects a r.conv then acc.capture a r else acc) m

-- ## References, calibration and front ends

/-- REF_SETTLED: the settling time passes; a converter that waits for its reference then waits for its start boundary
(R256, R258). The external reference settles only in range (R257). -/
def Hw.refSettled (h : Hw) (n : Nat) : Hw :=
  if h.rd (measRefSel n) = 1 && !h.on MEAS_REF_STATUS.REFIN_OK then h
  else
    let h := h.wrB (measSettled n) true
    if h.rd (measState n) = 1 then (h.updConv n (fun x => { x with frameSeen := false })).wr (measState n) 2 else h

/-- REF_SETTLED (R256, R258). -/
def execRefSettled (n : ConvId) (s : State) := s.onLive (fun h => h.refSettled n.val)

/-- A calibration ends with a state; a converter that was converting restarts, its first window with GAP (R264, R265). -/
def Hw.calEnd (h : Hw) (n st : Nat) : Hw :=
  let r := (h.conv n).calResume
  let h := h.wr (measCalState n) st
  if r = 0 then h.measIdle n
  else (h.updConv n (fun x => { x with run := r, calResume := 0, cal := false })).measWait n

/-- Record a partition cause for the claimant of a converter. -/
def Hw.measRecord (h : Hw) (n cause : Nat) : Hw :=
  match h.measOwner n with
  | some p => h.record (faultCode 4 p cause)
  | none => h

/-- REFIN leaves 2.0 V to 3.0 V: the bits clear, open windows end with REF_FAULT, a calibration fails, and MEAS_REFIN is
recorded once for each partition concerned (R257, R269). -/
def Hw.refinExcursion (h : Hw) (mv : Nat) : Hw :=
  if 2000 ≤ mv && mv ≤ 3000 then h
  else
    let h := (h.wr MEAS_REF_STATUS.REFIN (min mv 0xFFFF)).wrB MEAS_REF_STATUS.REFIN_OK false
    let us := (List.range 64).filter (fun n => h.usesRefin n)
    us.foldl (fun acc n =>
      let acc := acc.refinConcern n
      let acc := if acc.rd (measRefSel n) = 1 then acc.wrB (measSettled n) false else acc
      let acc := if (acc.conv n).isOpen then acc.updConv n (fun x => { x with refFault := true }) else acc
      if acc.rd (measState n) = 4 then (acc.measRecord n 0x24).calEnd n 2
      else if acc.rd (measState n) = 2 then acc.measWait n else acc) h

/-- REFIN_EXCURSION (R257, R269). -/
def execRefinExcursion (millivolts : Nat) (s : State) := s.onLive (fun h => h.refinExcursion millivolts)

/-- REFIN returns within 2.0 V to 3.0 V: REFIN_OK sets, the excursion ends and the 2 ms settling begins (R257). -/
def Hw.refinInRange (h : Hw) (mv : Nat) : Hw :=
  if 2000 ≤ mv && mv ≤ 3000 then { (h.wr MEAS_REF_STATUS.REFIN mv).wrB MEAS_REF_STATUS.REFIN_OK true with refinRec := 0 } else h

/-- REFIN_IN_RANGE (R257). -/
def execRefinInRange (millivolts : Nat) (s : State) := s.onLive (fun h => h.refinInRange millivolts)

/-- OFFSET and GAIN from the sums of the twenty raw codes of P and of N, where they lie within their limits (R264). -/
def calFactors (p q : Int) : Option (Nat × Nat) :=
  if q < p then
    let off := Num.roundDiv (p + q) 40
    let gain := Num.roundDiv (2 * 6710886 * 1073741824 * 20) (p - q).toNat
    if off.natAbs ≤ 8389 && decide (1063004406 ≤ gain) && decide (gain ≤ 1084479242) then some (Num.code 24 off, gain.toNat)
    else none
  else none

/-- CAL_COMPLETE: the sums of the twenty raw codes of Z, P and N of the voltage modulator, then of the current modulator. New
factors are accepted within their limits; otherwise they stand, CAL_STATE is FAILED and MEAS_CAL is recorded (R264, R265). -/
def Hw.calComplete (h : Hw) (n : Nat) (sums : List Int) : Hw :=
  if h.rd (measState n) ≠ 4 then h
  else
    let v := calFactors (sums.getD 1 0) (sums.getD 2 0)
    if n < 48 then
      let h := h.wrI (MEAS_CH_CAL_ZERO.Z n) (Num.roundDiv (sums.getD 0 0) 20)
      let i := if h.on (MEAS_CH_CFG.I_EN n) then (calFactors (sums.getD 4 0) (sums.getD 5 0)).map some else some none
      match v, i with
      | some a, some b =>
        let h := (h.wr (MEAS_CH_CAL_V_OFFSET.OFFSET n) a.1).wr (MEAS_CH_CAL_V_GAIN.GAIN n) a.2
        let h := match b with
          | some b => (h.wr (MEAS_CH_CAL_I_OFFSET.OFFSET n) b.1).wr (MEAS_CH_CAL_I_GAIN.GAIN n) b.2
          | none => h
        h.calEnd n 1
      | _, _ => (h.measRecord n 0x24).calEnd n 2
    else
      let g := (h.conv n).calRange
      match v with
      | some a => ((h.setReg (MEAS_AUX_CAL_OFFSET (n - 48) g) (BitVec.ofNat 32 a.1)).setReg (MEAS_AUX_CAL_GAIN (n - 48) g)
          (BitVec.ofNat 32 a.2)).calEnd n 1
      | none => (h.measRecord n 0x24).calEnd n 2

/-- CAL_COMPLETE (R264, R265). -/
def execCalComplete (n : ConvId) (sums : List Int) (s : State) := s.onLive (fun h => h.calComplete n.val sums)

/-- FRONT_END_CLAMP: a clamp has conducted for 10 ms without a break (R268), recorded for the claimant of its converter or of its TEMP
input; the command is one event. -/
def execFrontEndClamp (input : ClampInput) (s : State) :=
  s.onLive (fun h => match input with
    | .conv n => h.measRecord n.val 0x25
    | .temp n => match h.tempOwner n.val with
      | some p => h.record (faultCode 4 p 0x25)
      | none => h)

-- ## Capture areas

/-- START and STOP of a capture area (R274). -/
def Hw.areaCtrlWrite (h : Hw) (a : Nat) (v : Word) : Status × Hw :=
  let start := v.getLsbD 0
  let stop := v.getLsbD 1
  if start && stop then (.range, h)
  else if start && h.rd (MEAS_CAP_CFG.MODE a) = 0 then (.range, h)
  else if start then
    (.ok, if h.rd (MEAS_CAP_STATUS.STATE a) = 1 then h else h.setReg (MEAS_CAP_STATUS a) 1)
  else if stop then (.ok, if h.rd (MEAS_CAP_STATUS.STATE a) = 1 then h.wr (MEAS_CAP_STATUS.STATE a) 3 else h)
  else (.ok, h)

/-- The claimant of a capture area (R272). -/
def Hw.areaOwner (h : Hw) (a : Nat) : Option Nat := if (h.area a).owner < 16 then some (h.area a).owner else none

/-- D6's clock fails: the converters stop until the next start, their results read 0x80_0000, SEQ of a converting one advances, and
recording areas stop (R262, R269, R274, Table 2-3). -/
def Hw.measClockLost (h : Hw) : Hw :=
  let h := Num.forEach 64 (fun n acc =>
    let acc := if acc.rd (measState n) = 3 && n < 48 then acc.wr (MEAS_CH_FLAGS.SEQ n) ((acc.conv n).seq + 1) else acc
    let acc := acc.measIdle n
    let acc := acc.wr (measState n) 5
    if n < 48 then
      ((acc.wr (MEAS_CH_V.VALUE n) k24Invalid).wr (MEAS_CH_I.VALUE n) k24Invalid).wr (MEAS_CH_FLAGS.VALID n) 0
    else
      Num.forEach 16 (fun e acc =>
        (acc.wr (MEAS_AUX_RES.VALUE (n - 48) e) k24Invalid).wr (MEAS_AUX_RES.VALID (n - 48) e) 0) acc) h
  Num.forEach 32 (fun a acc => if acc.rd (MEAS_CAP_STATUS.STATE a) = 1 then acc.wr (MEAS_CAP_STATUS.STATE a) 3 else acc) h

/-- Partition p stops for reload: its converters stop at once without a result, its recording areas stop and it holds
them no longer (R269, R272, R274). -/
def Hw.measRelease (h : Hw) (p : Nat) : Hw :=
  let h := Num.forEach 64 (fun n acc =>
    if acc.measOwner n = some p && acc.rd (measState n) ≠ 5 then acc.measIdle n else acc) h
  Num.forEach 32 (fun a acc =>
    if (acc.area a).owner = p then
      let acc := if acc.rd (MEAS_CAP_STATUS.STATE a) = 1 then acc.wr (MEAS_CAP_STATUS.STATE a) 3 else acc
      acc.setArea a { acc.area a with owner := 16 }
    else acc) h

/-- Partition p claims area a: the area is cleared to 0 (R272). -/
def Mach.claimArea (m : Mach) (p a : Nat) : Mach :=
  { m with mem := m.mem.fill (areaBase a) 0x10000 0, hw := m.hw.setArea a { m.hw.area a with owner := p } }

/-- D6's results are invalid for another reason than its clock (R422): the windows that are open end with VALID 0. -/
def Hw.measInvalid (h : Hw) : Hw :=
  Num.forEach 64 (fun n acc => if (acc.conv n).isOpen then acc.updConv n (fun x => { x with refBad := true }) else acc) h

/-- Partition p activates: its converters' references settle anew, AUTO_START starts its converters and its areas (R254,
R256, R274). -/
def Hw.measActivate (h : Hw) (p : Nat) : Hw :=
  let h := Num.forEach 64 (fun n acc =>
    if acc.measOwner n = some p then
      let acc := (acc.wrB (measSettled n) (acc.rd (measRefSel n) == 2)).refinConcern n
      if acc.on (measAuto n) && acc.rd (measMode n) != 0 then acc.measStart n else acc
    else acc) h
  Num.forEach 32 (fun a acc =>
    if (acc.area a).owner = p && acc.on (MEAS_CAP_CFG.AUTO_START a) && acc.rd (MEAS_CAP_CFG.MODE a) != 0 then
      (acc.areaCtrlWrite a 1).2
    else acc) h

end Sys2Proof.Machine
end

