-- ==== Sys2Proof/Machine/Position.lean ====
section
/-!
DEFINITION. Position units and compare channels (chapter 13): encoders, Hall trios, tooth wheels, serial sensors, the position
signals of a block's slots and the hits of its compare channels.
-/
namespace Sys2Proof.Machine

/-- The type of a position unit (Table 13-1): 0 ENCODER, 1 HALL, 2 TOOTH, 3 SERIAL. -/
def posKind (u : Nat) : Nat := if u < 3 then 0 else if u < 7 then 1 else if u < 9 then 2 else 3

/-- CLK_FAB cycles in a step, and in a second (Table 2-2). -/
def fabStep : Nat := 500
def fabSecond : Nat := 400000000

/-- The present moment in CLK_FAB cycles. -/
def Hw.fabTime (h : Hw) : Nat := h.stepCount * fabStep + h.phase

/-- One count of a position. -/
def posOne : Int := 4294967296

/-- The position of a unit at time t, in 2^-32 counts. -/
def PosUnit.at (x : PosUnit) (t : Nat) : Int :=
  let v := x.pos + x.num * ((t : Int) - x.posAt) / (x.den : Int)
  match x.lim with
  | some l => if 0 ≤ x.num then min v (max x.pos (l * posOne)) else max v (min x.pos (l * posOne))
  | none => v

/-- The position in whole counts. -/
def PosUnit.counts (x : PosUnit) : Int := x.pos / posOne

/-- A unit that stands still at its position of time t. -/
def PosUnit.hold (x : PosUnit) (t : Nat) : PosUnit := { x with pos := x.at t, posAt := t, num := 0, den := 1, lim := none }

/-- Blocks with a slot that names unit u (R363). -/
def Hw.blocksNaming (h : Hw) (u : Nat) : List Nat :=
  (List.range 8).filter (fun k => (List.range 4).any (fun p => h.rd (BLK_POS_SLOT.UNIT k p) == u + 1))

/-- Record a cause of unit u once for each block that names it (R391). -/
def Hw.posRecord (h : Hw) (u cause : Nat) : Hw := (h.blocksNaming u).foldl (fun acc k => acc.blockFault k cause) h

/-- Channels (block, number) that watch unit u. -/
def Hw.watchers (h : Hw) (u : Nat) : List (Nat × Nat) :=
  (List.range 16).filterMap (fun i =>
    if h.rd (BLK_POS_SLOT.UNIT (i / 2) (h.rd (BLK_CMP_CFG.SLOT (i / 2) (i % 2)))) = u + 1 then some (i / 2, i % 2) else none)

-- ## Speed (R382)

/-- s for one edge's worth in `dt` cycles, or for `n` of them: 0.1 Hz electrical, where no rounding is stated (log entry 3). -/
def Hw.posRate (h : Hw) (u : Nat) (n dt : Nat) : Nat :=
  let pp := h.rd (POS_CFG.POLE_PAIRS u)
  match posKind u with
  | 0 => Num.shown (n * pp * 10 * fabSecond) (4 * h.rd (POS_GEOM.ENC_LINES u) * dt)
  | 1 => Num.shown (n * 10 * fabSecond) (6 * dt)
  | 2 => Num.shown (n * pp * 10 * fabSecond) (h.rd (POS_GEOM.TOOTH_TEETH u) * dt)
  | _ => Num.shown (n * pp * 10 * fabSecond) (65536 * dt)

/-- s at the last accepted edge or good frame, and the interval it rests on. -/
def Hw.baseSpeed (h : Hw) (u t : Nat) : Int × Nat :=
  let x := h.posUnit u
  match posKind u with
  | 0 =>
    let w := h.rd (POS_GEOM2.ENC_WIN u) * fabStep
    let near := x.edges.filter (fun e => decide (t ≤ e.1 + w))
    let es := if near.length < 2 then x.edges.take 2 else near
    let a := es.head?.getD (0, 0)
    let b := es.getLast?.getD (0, 0)
    let m := h.posRate u (a.2 - b.2).natAbs (a.1 - b.1)
    (if a.2 < b.2 then -(m : Int) else (m : Int), a.1 - b.1)
  | 1 =>
    let n := x.edges.length - 1
    let sum := (x.edges.head?.getD (0, 0)).1 - (x.edges.getLast?.getD (0, 0)).1
    (x.dir * (h.posRate u n sum : Int), sum / max n 1)
  | 2 => ((h.posRate u 12 x.t12 : Int), x.t12 / 12)
  | _ =>
    let a := x.edges.getD 0 (0, 0)
    let b := x.edges.getD 1 (0, 0)
    let m := h.posRate u (a.2 - b.2).natAbs (a.1 - b.1)
    (if a.2 < b.2 then -(m : Int) else (m : Int), a.1 - b.1)

/-- s of unit u at time t; none until it has a speed. It falls while no edge arrives. -/
def Hw.unitSpeed (h : Hw) (u t : Nat) : Option Int :=
  let x := h.posUnit u
  if !x.valid || x.seen < 2 then none
  else
    let b := h.baseSpeed u t
    let dt := t - x.lastEdge
    if dt ≤ b.2 then some b.1
    else
      let worth := if posKind u = 3 then ((x.edges.getD 0 (0, 0)).2 - (x.edges.getD 1 (0, 0)).2).natAbs else 1
      let m := min b.1.natAbs (h.posRate u worth dt)
      some (if b.1 < 0 then -(m : Int) else (m : Int))

-- ## Showing a unit and moving its channels

/-- The status bits of slot field 3 (Table 13-2). -/
def PosUnit.flags (x : PosUnit) : Nat :=
  Num.ofBool x.valid + 2 * Num.ofBool x.synced + 4 * Num.ofBool x.extrap + 8 * Num.ofBool x.hallBad + 16 * Num.ofBool x.homed +
    32 * Num.ofBool x.broken

/-- The unit's read-only registers. -/
def Hw.showUnit (h : Hw) (u : Nat) : Hw :=
  let x := h.posUnit u
  let h := h.setReg (POS_POSITION u) (BitVec.ofInt 32 x.counts)
  let h := h.setReg (POS_SPEED u) (BitVec.ofInt 32 ((h.unitSpeed u h.fabTime).getD 0))
  h.wr (POS_STATUS.FLAGS u) x.flags

/-- A unit in a new state. A movement leaves crossings behind it for the channels of its direction; a jump leaves none. A
correction forward is marked, and one backward fires nothing (R369, R383). -/
def Hw.placeUnit (h : Hw) (u : Nat) (x : PosUnit) (jump corr : Bool) : Hw :=
  let old := (h.posUnit u).counts
  let new := x.counts
  let h := (h.setPosUnit u x).showUnit u
  (h.watchers u).foldl (fun acc km =>
    let c := acc.cmp km.1 km.2
    let back := if acc.on (BLK_CMP_CFG.DIR km.1 km.2) then c.seenTo < new || (corr && decide (new < old)) else new < c.seenTo
    let c := if jump || back || acc.rd (BLK_CMP_STATUS.STATE km.1 km.2) != 1 then { c with seenTo := new } else c
    acc.setCmp km.1 km.2 (if new = old then c else { c with corr := corr && decide (old < new) })) h

/-- Bring a unit to the present moment. -/
def Hw.bringUnit (h : Hw) (u : Nat) : Hw :=
  let x := h.posUnit u
  let t := h.fabTime
  h.placeUnit u { x with pos := x.at t, posAt := t } false false

/-- The rate of a HALL or SERIAL unit between its edges or frames: its speed (R373, R380). -/
def Hw.pacedUnit (h : Hw) (u : Nat) (x : PosUnit) : PosUnit :=
  let s := ((h.setPosUnit u x).unitSpeed u h.fabTime).getD 0
  let s := if posKind u = 1 then x.dir * (s.natAbs : Int) else s
  { x with num := s * 65536 * posOne, den := 10 * fabSecond * (if posKind u = 1 then 1 else max (h.rd (POS_CFG.POLE_PAIRS u)) 1) }

-- ## Compare channels (R383 to R387)

/-- The first grid point ahead of `x` in a direction (R385). -/
def nextGrid (grid : Word) (rev : Bool) (x : Nat) : Nat :=
  let base := Bits.get grid 15 0
  let st := max (Bits.get grid 31 16) 1
  let last := (65536 + st - 1) / st - 1
  let rel := (x + 65536 - base) % 65536
  if rev then
    if rel = 0 then (base + last * st) % 65536 else (base + min ((rel - 1) / st) last * st) % 65536
  else
    let j := rel / st + 1
    if last < j then base else (base + j * st) % 65536

/-- Whether a REGULAR channel may fire on unit u: SYNCED, or HOMED for an encoder (R385). -/
def Hw.unitRegular (h : Hw) (u : Nat) : Bool :=
  if posKind u = 0 then (h.posUnit u).homed else (h.posUnit u).synced

/-- A REGULAR channel starts or resumes: NEXT is the first grid point ahead of the compare position (R385). -/
def Hw.cmpAim (h : Hw) (k m u : Nat) : Hw :=
  let p := (h.posUnit u).counts
  let g := h.reg (BLK_CMP_GRID k m)
  (h.setCmp k m { seenTo := p, corr := false }).wr (BLK_CMP_NEXT.NEXT k m)
    (nextGrid g (h.on (BLK_CMP_CFG.DIR k m)) (Num.code 16 p))

/-- Whether a channel is armed. -/
def Hw.cmpArmed (h : Hw) (k m : Nat) : Bool :=
  let s := h.rd (BLK_CMP_STATUS.STATE k m)
  s == 1 || s == 2

/-- A LIST channel discards its entries that have not fired (R386). -/
def Hw.cmpAbort (h : Hw) (k m : Nat) : Hw :=
  let left := h.rd (BLK_CMP_CFG.LIST_LAST k m) + 1 - h.rd (BLK_CMP_STATUS.LIST_INDEX k m)
  ((h.wr (BLK_CMP_STATUS.DISCARDED k m) (min 0xFFFF (h.rd (BLK_CMP_STATUS.DISCARDED k m) + left))).wr
    (BLK_CMP_STATUS.STATE k m) 4).blockFault k 0x16

/-- Unit u loses synchronisation or validity for its channels: REGULAR ones are SUSPENDED, LIST ones abort (R385, R386). -/
def Hw.cmpLost (h : Hw) (u : Nat) (regular : Bool) : Hw :=
  (h.watchers u).foldl (fun acc km =>
    if acc.cmpArmed km.1 km.2 then
      if acc.rd (BLK_CMP_CFG.MODE km.1 km.2) = 2 then acc.cmpAbort km.1 km.2
      else if regular then acc.wr (BLK_CMP_STATUS.STATE km.1 km.2) 2 else acc
    else acc) h

/-- Unit u is synchronised: its SUSPENDED channels resume (R385). -/
def Hw.cmpResume (h : Hw) (u : Nat) : Hw :=
  if !h.unitRegular u then h
  else (h.watchers u).foldl (fun acc km =>
    if acc.rd (BLK_CMP_STATUS.STATE km.1 km.2) = 2 then (acc.cmpAim km.1 km.2 u).wr (BLK_CMP_STATUS.STATE km.1 km.2) 1 else acc) h

/-- A loss of synchronisation or validity: counted, and seen by the channels. -/
def Hw.unitLost (h : Hw) (u : Nat) : Hw := (h.incTop (POS_SYNC_COUNT.LOSSES u)).cmpLost u true

/-- ARM and DISARM (R385, R387). -/
def Hw.cmpCtrlWrite (h : Hw) (k m : Nat) (v : Word) : Status × Hw :=
  let arm := v.getLsbD 0
  let dis := v.getLsbD 1
  let u1 := h.rd (BLK_POS_SLOT.UNIT k (h.rd (BLK_CMP_CFG.SLOT k m)))
  if arm && (dis || u1 = 0) then (.range, h)
  else if dis then (.ok, h.wr (BLK_CMP_STATUS.STATE k m) 0)
  else if arm then
    match h.rd (BLK_CMP_CFG.MODE k m) with
    | 1 =>
      let h := (h.bringUnit (u1 - 1)).cmpAim k m (u1 - 1)
      (.ok, h.wr (BLK_CMP_STATUS.STATE k m) (if h.unitRegular (u1 - 1) then 1 else 2))
    | 2 =>
      let h := h.bringUnit (u1 - 1)
      let h := h.setCmp k m { seenTo := (h.posUnit (u1 - 1)).counts }
      (.ok, ((h.wr (BLK_CMP_STATUS.LIST_INDEX k m) 0).wr (BLK_CMP_STATUS.STATE k m) 1).wr (BLK_CMP_NEXT.NEXT k m)
        (h.rd (BLK_CMP_LIST.POSITION k m 0)))
    | _ => (.ok, h)
  else (.ok, h)

/-- A write to CFG, GRID or a list entry of a channel (R385, R387): `w` is the register's new value. -/
def Hw.cmpCfgWrite (h : Hw) (k m : Nat) (r : RegId) (w : Word) : Status × Hw :=
  if r = BLK_CMP_GRID k m then (.ok, h.setReg r w)
  else if h.cmpArmed k m then (.notReady, h)
  else (.ok, h.setReg r w)

/-- What a hit does (R384), and where the channel goes next (R385, R386). -/
def Hw.cmpHit (h : Hw) (k m u : Nat) (pos : Int) : Hw :=
  let c := h.cmp k m
  let est := c.corr || (posKind u == 2 && decide ((h.posUnit u).estAng < pos))
  let h := h.inc (BLK_CMP_HITS.COUNT k m)
  let h := (h.wr (BLK_CMP_LAST.STEP k m) h.stepCount).setReg (BLK_CMP_LAST_PHASE k m)
    (BitVec.ofNat 32 (h.phase + 512 * Num.ofBool est))
  let h := if h.on (BLK_CMP_CFG.FLAG_EN k m) then h.wrBit (BLK_SEQ_FLAGS.FLAG k) (h.rd (BLK_CMP_CFG.FLAG k m)) true else h
  if h.rd (BLK_CMP_CFG.MODE k m) = 2 then
    let h := h.setCmp k m { c with seenTo := pos }
    let i := h.rd (BLK_CMP_STATUS.LIST_INDEX k m)
    if h.rd (BLK_CMP_CFG.LIST_LAST k m) ≤ i then h.wr (BLK_CMP_STATUS.STATE k m) 3
    else (h.wr (BLK_CMP_STATUS.LIST_INDEX k m) (i + 1)).wr (BLK_CMP_NEXT.NEXT k m) (h.rd (BLK_CMP_LIST.POSITION k m (i + 1)))
  else
    let g := h.reg (BLK_CMP_GRID k m)
    (h.setCmp k m { c with seenTo := pos }).wr (BLK_CMP_NEXT.NEXT k m)
      (nextGrid g (h.on (BLK_CMP_CFG.DIR k m)) (Num.code 16 pos))

/-- COMPARE_HIT: the compare position has crossed the channel's value in its direction (R383). -/
def Hw.compareHit (h : Hw) (k m : Nat) : Hw :=
  let u1 := h.rd (BLK_POS_SLOT.UNIT k (h.rd (BLK_CMP_CFG.SLOT k m)))
  if u1 = 0 || h.rd (BLK_CMP_STATUS.STATE k m) != 1 then h
  else
    let u := u1 - 1
    let h := h.bringUnit u
    let runs := if h.rd (BLK_CMP_CFG.MODE k m) = 2 then (h.posUnit u).valid else h.unitRegular u
    let a := (h.cmp k m).seenTo
    let b := (h.posUnit u).counts
    let next : Int := h.rd (BLK_CMP_NEXT.NEXT k m)
    let rev := h.on (BLK_CMP_CFG.DIR k m)
    let d := if rev then (a - next - 1) % 65536 + 1 else (next - a - 1) % 65536 + 1
    if runs && !(rev && posKind u == 2) && decide (d ≤ (if rev then a - b else b - a)) then
      h.cmpHit k m u (if rev then a - d else a + d)
    else h

/-- COMPARE_HIT (R367, R383 to R386). -/
def execCompareHit (k : BlockId) (m : Fin 2) (phase : Fin 500) (s : State) :=
  s.onLive (fun h => (h.atPhase phase.val).compareHit k.val m.val)

-- ## Encoders (R368 to R370)

/-- Counts of one revolution of an encoder. -/
def Hw.encTurn (h : Hw) (u : Nat) : Nat := max (4 * h.rd (POS_GEOM.ENC_LINES u)) 1

/-- Position of an encoder count, without REF_OFFSET (R368). -/
def Hw.encPos (h : Hw) (u : Nat) (c : Int) : Int := c * 65536 / (h.encTurn u : Int)

/-- The position with its ANGLE replaced and REV kept. -/
def withAngle (pos : Int) (a : Nat) : Int := (pos / posOne / 65536 * 65536 + (a % 65536 : Nat)) * posOne

/-- An encoder counts from 0 (R369). -/
def Hw.encStart (h : Hw) (u : Nat) : Hw :=
  let x := h.posUnit u
  let home := !h.on (POS_GEOM.ENC_INDEX_EN u)
  let y := { x with valid := true, synced := home, homed := home, broken := false, count := 0, edges := [], seen := 0,
                    pos := withAngle x.pos (h.rd (POS_OFFSET.REF_OFFSET u)), posAt := h.fabTime, num := 0, den := 1, lim := none }
  (h.placeUnit u y true false).cmpResume u

/-- The place of a pair of levels in the order 00, A, AB, B in which a forward movement passes them (PRESUMED, log entry 15). -/
def quadPlace (l : Nat) : Nat := match l with | 0 => 0 | 1 => 1 | 3 => 2 | _ => 3

/-- ENCODER_EDGE: the accepted levels of A (bit 0) and B (bit 1). -/
def Hw.encoderEdge (h : Hw) (u lv : Nat) : Hw :=
  let x := h.posUnit u
  let on := h.on (POS_CFG.ENABLE u) && x.valid
  let y := { x with level := lv }
  let d := (quadPlace lv + 4 - quadPlace x.level) % 4
  if posKind u ≠ 0 then h
  else if !on || d = 0 then h.setPosUnit u y
  else if d = 2 then (h.setPosUnit u y).incTop (POS_COUNT.NOISE u)
  else
    let fwd := (d == 1) != h.on (POS_CFG.DIR u)
    let c := if fwd then x.count + 1 else x.count - 1
    let t := h.fabTime
    let w := h.rd (POS_GEOM2.ENC_WIN u) * fabStep
    let es := (t, c) :: x.edges
    let near := es.filter (fun e => decide (t ≤ e.1 + w))
    let y := { y with count := c, pos := x.pos + (h.encPos u c - h.encPos u x.count) * posOne, posAt := t, lastEdge := t,
                      edges := if near.length < 2 then es.take 2 else near, seen := min 2 (x.seen + 1) }
    (h.placeUnit u y false false).setReg (POS_EDGE_STEP u) (BitVec.ofNat 32 h.stepCount)

/-- ENCODER_EDGE (R364, R367, R368, R382). -/
def execEncoderEdge (u : UnitId) (levels : Fin 4) (phase : Fin 500) (s : State) :=
  s.onLive (fun h => (h.atPhase phase.val).encoderEdge u.val levels.val)

/-- INDEX_EDGE: an accepted rising edge of Z (R369). -/
def Hw.indexEdge (h : Hw) (u : Nat) : Hw :=
  let x := h.posUnit u
  let turn := h.encTurn u
  if posKind u ≠ 0 || !h.on (POS_CFG.ENABLE u) || !x.valid || !h.on (POS_GEOM.ENC_INDEX_EN u) then h
  else
    let shift (n : Int) : List (Nat × Int) := x.edges.map (fun e => (e.1, e.2 + n - x.count))
    if !x.homed then
      let y := { x with count := 0, edges := shift 0, homed := true, synced := true,
                        pos := withAngle x.pos (h.rd (POS_OFFSET.REF_OFFSET u)) }
      ((h.placeUnit u y true false).cmpLost u false).cmpResume u
    else
      let n := Num.roundDiv x.count turn * turn
      let d := x.count - n
      if d.natAbs ≤ h.rd (POS_GEOM.ENC_TOL u) then
        let y := { x with count := n, edges := shift n, pos := x.pos + (h.encPos u n - h.encPos u x.count) * posOne }
        h.placeUnit u y false true
      else
        ((h.placeUnit u { x with homed := false, synced := false } false false).unitLost u).posRecord u 0x13

/-- INDEX_EDGE (R369, R384, R386). -/
def execIndexEdge (u : UnitId) (phase : Fin 500) (s : State) := s.onLive (fun h => (h.atPhase phase.val).indexEdge u.val)

/-- WIRE_BROKEN (R370, R386). -/
def Hw.wireBroken (h : Hw) (u : Nat) : Hw :=
  let x := h.posUnit u
  if posKind u ≠ 0 || !h.on (POS_CFG.ENABLE u) || x.broken then h
  else
    let h := h.placeUnit u { x with broken := true, valid := false, synced := false, homed := false, seen := 0 } false false
    (h.unitLost u).posRecord u 0x14

/-- WIRE_BROKEN (R370, R386). -/
def execWireBroken (u : UnitId) (s : State) := s.onLive (fun h => h.wireBroken u.val)

/-- WIRE_RESTORED (R370): after 1 ms of valid levels the unit counts again from 0. -/
def execWireRestored (u : UnitId) (s : State) :=
  s.onLive (fun h => if (h.posUnit u.val).broken && h.on (POS_CFG.ENABLE u.val) then h.encStart u.val else h)

-- ## Hall trios (R371 to R373)

/-- Where electrical sector s begins (R371). -/
def Hw.sectorStart (h : Hw) (u s : Nat) : Nat :=
  ((Num.roundDiv ((s : Int) * 65536) 6).toNat + h.rd (POS_OFFSET.ELEC_OFFSET u)) % 65536

/-- The sector that MAP assigns to a code from 1 to 6. -/
def Hw.hallSector (h : Hw) (u code : Nat) : Nat := (h.rd (POS_GEOM.HALL_MAP u)) / 8 ^ (code - 1) % 8

/-- The first valid code: the unit becomes VALID and SYNCED. The spec does not say where in the sector ANGLE starts, so that is
a free value. -/
def Hw.hallFirst (h : Hw) (u code : Nat) : Hw :=
  let x := h.posUnit u
  let sec := h.hallSector u code
  let a := h.sectorStart u sec
  let width := (h.sectorStart u (sec + 1) + 65536 - a) % 65536
  let free := Config.freeNat h.fresh % max width 1
  let y := { x with valid := true, synced := true, hallBad := false, level := code, sector := sec, dir := 0, edges := [], seen := 0,
                    pos := withAngle x.pos (a + free), posAt := h.fabTime, num := 0, den := 1, lim := none }
  (({ h with fresh := h.fresh + 1 }).placeUnit u y true false).cmpResume u

/-- A change of sector (R372, R373): the position goes to the entered edge and then advances in the direction of the change. -/
def Hw.hallChange (h : Hw) (u code : Nat) : Hw :=
  let t := h.fabTime
  let x := h.posUnit u
  let sec := h.hallSector u code
  let d := (sec + 6 - x.sector) % 6
  let dir : Int := if d = 1 || d = 2 then 1 else if d = 4 || d = 5 then -1 else if x.dir = 0 then 1 else x.dir
  let cur := x.at t / posOne
  let edge := if dir = 1 then h.sectorStart u sec else h.sectorStart u ((sec + 1) % 6)
  let far := if dir = 1 then h.sectorStart u ((sec + 1) % 6) else h.sectorStart u sec
  let p := if dir = 1 then cur + ((edge : Int) - cur) % 65536 else cur - (cur - (edge : Int)) % 65536
  let lim := if dir = 1 then p + ((far : Int) - p) % 65536 - 1 else p - (p - (far : Int)) % 65536 + 1
  let y := { x with hallBad := false, level := code, sector := sec, dir := dir, edges := ((t, 0) :: x.edges).take 7,
                    seen := min 2 (x.seen + 1), lastEdge := t, pos := p * posOne, posAt := t, lim := some lim }
  let h := if d = 1 || d = 5 then h else h.incTop (POS_COUNT.NOISE u)
  (h.placeUnit u (h.pacedUnit u y) false false).setReg (POS_EDGE_STEP u) (BitVec.ofNat 32 h.stepCount)

/-- HALL_CODE_CHANGE: a code that each input has held for FILTER (R371 to R373). -/
def Hw.hallCode (h : Hw) (u code : Nat) : Hw :=
  let x := h.posUnit u
  if posKind u ≠ 1 then h
  else if !h.on (POS_CFG.ENABLE u) then h.setPosUnit u { x with level := code }
  else if code = 0 || code = 7 then
    if x.hallBad then h.setPosUnit u { x with level := code }
    else h.placeUnit u { x.hold h.fabTime with hallBad := true, hallOut := false, level := code, invSince := h.stepCount, lim := x.lim } false false
  else if !x.valid then h.hallFirst u code
  else if h.hallSector u code = x.sector then
    let y := { x.hold h.fabTime with hallBad := false, level := code, lim := x.lim }
    h.placeUnit u (h.pacedUnit u y) false false
  else h.hallChange u code

/-- HALL_CODE_CHANGE (R364, R371, R372, R373, R382). -/
def execHallCodeChange (u : UnitId) (code : Fin 8) (phase : Fin 500) (s : State) :=
  s.onLive (fun h => (h.atPhase phase.val).hallCode u.val code.val)

/-- HALL_INVALID_TIMEOUT: an invalid code has persisted for HALL_INV_STEPS, which is recorded once (R372, R391). -/
def Hw.hallTimeout (h : Hw) (u : Nat) : Hw :=
  let x := h.posUnit u
  if posKind u = 1 && h.on (POS_CFG.ENABLE u) && x.hallBad && !x.hallOut &&
      decide (x.invSince + h.rd (POS_GEOM2.HALL_INV u) ≤ h.stepCount) then
    let h := h.placeUnit u { x with valid := false, synced := false, hallOut := true, seen := 0 } false false
    (if x.valid then h.unitLost u else h).posRecord u 0x12
  else h

/-- HALL_INVALID_TIMEOUT (R372). -/
def execHallInvalidTimeout (u : UnitId) (s : State) := s.onLive (fun h => h.hallTimeout u.val)

-- ## Tooth wheels (R374 to R379)

/-- GAP_COUNT, whether the reference is an extra tooth, and TEETH. -/
def Hw.toothGaps (h : Hw) (u : Nat) : Nat := h.rd (POS_GEOM.TOOTH_GAPS u)
def Hw.toothExtra (h : Hw) (u : Nat) : Bool := h.on (POS_GEOM.TOOTH_KIND u)
def Hw.toothTeeth (h : Hw) (u : Nat) : Nat := max (h.rd (POS_GEOM.TOOTH_TEETH u)) 1

/-- Edges of one revolution: the teeth present, and the extra tooth as the last one. -/
def Hw.toothEdges (h : Hw) (u : Nat) : Nat :=
  if h.toothExtra u then h.toothTeeth u + 1 else h.toothTeeth u - h.toothGaps u

/-- The angle of edge e: tooth e, or the extra tooth halfway between the last position and the first. -/
def Hw.toothAngle (h : Hw) (u e : Nat) : Nat :=
  let n := h.toothTeeth u
  ((if e < n then e * 65536 / n else (2 * n - 1) * 65536 / (2 * n)) + h.rd (POS_OFFSET.REF_OFFSET u)) % 65536

/-- 2k of the interval that ends at edge e (R375). -/
def Hw.toothTwoK (h : Hw) (u e : Nat) : Nat :=
  if h.toothExtra u then (if e = 0 || e = h.toothTeeth u then 1 else 2) else if e = 0 then 2 * (h.toothGaps u + 1) else 2

/-- The edge that follows edge e. -/
def Hw.toothNext (h : Hw) (u e : Nat) : Nat := (e + 1) % max (h.toothEdges u) 1

/-- The predicted interval P that ends at edge e, in 1/24 cycles (R375). -/
def Hw.toothP (h : Hw) (u e : Nat) : Nat := h.toothTwoK u e * (h.posUnit u).t12

/-- Whether the interval that ends at edge e lies behind a missing gap. -/
def Hw.toothGap (h : Hw) (u e : Nat) : Bool := e == 0 && !h.toothExtra u

/-- The latest time of the next edge after the last tooth, in 1/24 cycles (R375, R377). -/
def Hw.toothUpper (h : Hw) (u : Nat) : Nat :=
  let x := h.posUnit u
  let e := h.toothNext u x.tooth
  let p := h.toothP u e
  if x.missed then x.toothAt + max (3 * p / 2) (match x.late with | some l => 24 * l - x.toothAt + 3 * p / 2 | none => 0)
  else if h.toothGap u e then x.toothAt + (2 * h.toothGaps u + 3) * x.t12
  else x.toothAt + 3 * p / 2

/-- The search for the reference restarts (R374, R379): ANGLE holds. -/
def PosUnit.search (x : PosUnit) (t : Nat) : PosUnit :=
  { x.hold t with valid := false, synced := false, extrap := false, found := false, missed := false, late := none, seen := 0 }

/-- Loss of synchronisation (R375, R377, R379). -/
def Hw.toothLost (h : Hw) (u : Nat) (es : List (Nat × Int)) : Hw :=
  let x := (h.posUnit u).search h.fabTime
  ((h.placeUnit u { x with edges := es } false false).unitLost u).posRecord u 0x11

/-- An accepted edge is edge e of the wheel (R375, R378): ANGLE rises to its angle if it lies below, and then advances so
as to reach the next tooth at its predicted time. -/
def Hw.toothAccept (h : Hw) (u e : Nat) (x : PosUnit) : PosUnit :=
  let t := h.fabTime
  let p := x.at t
  let c := p / posOne
  let d := Num.signed 16 (Num.code 16 ((h.toothAngle u e : Int) - c))
  let p := if 0 < d then (c + d) * posOne else p
  let nx := h.toothNext u e
  let tgt := c + d + ((h.toothAngle u nx + 65536 - h.toothAngle u e) % 65536 : Nat)
  { x with pos := p, posAt := t, lim := none, estAng := tgt, num := max 0 (tgt * posOne - p) * 24,
           den := max (h.toothTwoK u nx * x.t12) 1, lastEdge := t, seen := min 2 (x.seen + 1) }

/-- A late edge (R377): it is accepted as the extrapolated tooth and moves no position. -/
def Hw.toothLate (h : Hw) (u : Nat) : Hw :=
  let t := h.fabTime
  let x := h.posUnit u
  let nx := h.toothNext u x.tooth
  let p := x.at t
  let c := p / posOne
  let d := Num.signed 16 (Num.code 16 ((h.toothAngle u nx : Int) - c))
  let y := { x with late := some t, pos := p, posAt := t, num := max 0 ((c + d) * posOne - p) * 24, estAng := c + d,
                    den := max (x.toothAt + h.toothP u nx - 24 * t) 1, lastEdge := t, seen := min 2 (x.seen + 1) }
  ((h.placeUnit u y false false).wr (POS_STATUS.MISS_RUN u) 0).setReg (POS_EDGE_STEP u) (BitVec.ofNat 32 h.stepCount)

/-- An edge while the unit searches (R374). -/
def Hw.toothSearch (h : Hw) (u : Nat) : Hw :=
  let t := h.fabTime
  let x := h.posUnit u
  let t0 := (x.edges.getD 0 (0, 0)).1
  if x.found then
    let dt := 24 * (t - t0)
    let p := h.toothP u 1
    if p ≤ 2 * dt && 2 * dt ≤ 3 * p then
      let y := { x with valid := true, synced := true, found := false, tooth := 1, toothAt := 24 * t, t12 := 12 * (t - t0),
                        missed := false, late := none, seen := 0,
                        pos := withAngle x.pos (h.toothAngle u 1), posAt := t, num := 0, den := 1 }
      let h := (h.placeUnit u (h.toothAccept u 1 y) true false).cmpResume u
      (h.wr (POS_STATUS.MISS_RUN u) 0).setReg (POS_EDGE_STEP u) (BitVec.ofNat 32 h.stepCount)
    else h.setPosUnit u { x with found := false, edges := [(t, 0)] }
  else
    let es := ((t, 0) :: x.edges).take 4
    let gap (i : Nat) : Nat := (es.getD i (0, 0)).1 - (es.getD (i + 1) (0, 0)).1
    let g := h.toothGaps u
    let half (a b : Nat) : Bool := decide (b < 4 * a ∧ 4 * a < 3 * b)
    let hit := if h.toothExtra u then decide (4 ≤ es.length) && half (gap 0) (gap 2) && half (gap 1) (gap 2)
      else decide (3 ≤ es.length) && decide ((2 * g + 1) * gap 1 < 2 * gap 0 ∧ 2 * gap 0 < (2 * g + 3) * gap 1)
    let t12 := if h.toothExtra u then 24 * gap 0 else 12 * gap 0 / (g + 1)
    if hit then h.setPosUnit u { x with found := true, edges := [(t, 0)], t12 := t12 }
    else h.setPosUnit u { x with edges := es }

/-- An edge while the unit is synchronised (R375 to R378). -/
def Hw.toothSynced (h : Hw) (u : Nat) : Hw :=
  let t := h.fabTime
  let x := h.posUnit u
  let e := h.toothNext u x.tooth
  let p := h.toothP u e
  let dt := 24 * t - x.toothAt
  let gap := h.toothGap u e && !x.missed
  let noise (h : Hw) : Hw := h.incTop (POS_COUNT.NOISE u)
  if x.missed && x.late.isNone && decide (4 * dt < 3 * p) then h.toothLate u
  else if x.missed && decide (4 * dt < 3 * p) then noise h
  else if gap && decide (dt < (2 * h.toothGaps u + 1) * x.t12) then
    if dt < x.t12 then noise h else h.toothLost u [(t, 0)]
  else if !x.missed && !gap && decide (2 * dt < p) then noise h
  else if h.toothUpper u < 24 * t then h
  else
    let t12 := if x.missed then x.t12 else 24 * (t - x.toothAt / 24) / h.toothTwoK u e
    let y := { x with t12 := t12, tooth := e, toothAt := 24 * t, missed := false, late := none, extrap := false }
    ((h.placeUnit u (h.toothAccept u e y) false false).wr (POS_STATUS.MISS_RUN u) 0).setReg (POS_EDGE_STEP u)
      (BitVec.ofNat 32 h.stepCount)

/-- TOOTH_MISS: the window of the next tooth has passed without an edge (R377). -/
def Hw.toothMiss (h : Hw) (u : Nat) : Hw :=
  let x := h.posUnit u
  if posKind u ≠ 2 || !x.valid || decide (24 * h.fabTime < h.toothUpper u) then h
  else
    let run := h.rd (POS_STATUS.MISS_RUN u)
    let h := (h.incTop (POS_COUNT.MISSES u)).wr (POS_STATUS.MISS_RUN u) (min 3 (run + 1))
    if 1 ≤ run then h.toothLost u []
    else
      let e := h.toothNext u x.tooth
      h.placeUnit u { x with extrap := true, missed := true, late := none, tooth := e, toothAt := x.toothAt + h.toothP u e } false false

/-- A window that has run out before an edge is a miss first (R377). -/
def Hw.toothDue (h : Hw) (u : Nat) : Hw := if h.toothUpper u < 24 * h.fabTime then h.toothMiss u else h

/-- An edge of an enabled tooth wheel (R374 to R379). -/
def Hw.toothEdge (h : Hw) (u : Nat) : Hw :=
  let h := (h.toothDue u).toothDue u
  if (h.posUnit u).valid then h.toothSynced u else h.toothSearch u

/-- TOOTH_EDGE (R364, R374 to R379, R382, R385, R388). -/
def execToothEdge (u : UnitId) (phase : Fin 500) (s : State) :=
  s.onLive (fun h =>
    let h := h.atPhase phase.val
    if posKind u.val = 2 && h.on (POS_CFG.ENABLE u.val) then h.toothEdge u.val else h)

/-- TOOTH_MISS (R377, R379, R386). -/
def execToothMiss (u : UnitId) (phase : Fin 500) (s : State) := s.onLive (fun h => (h.atPhase phase.val).toothMiss u.val)

-- ## Serial absolute sensors (R380, R381)

/-- A poll fails: it is counted, and ERR_LIMIT failures in a row make the unit invalid. -/
def Hw.pollFailed (h : Hw) (u : Nat) : Hw :=
  let x := h.posUnit u
  let run := x.errRun + 1
  let h := (h.incTop (POS_COUNT.MISSES u)).setPosUnit u { x with errRun := run, polling := false }
  if run = h.rd (POS_GEOM2.SER_LIMIT u) then
    let was := x.valid
    let h := h.placeUnit u { (h.posUnit u).hold h.fabTime with valid := false, synced := false, seen := 0 } false false
    (if was then h.unitLost u else h).posRecord u 0x15
  else h

/-- The position in a frame's data, scaled to 16 bits, with REF_OFFSET (R380). -/
def Hw.framePos (h : Hw) (u : Nat) (data : List Byte) : Nat :=
  let n := h.rd (POS_GEOM.SER_BITS u) + 1
  let v := Num.ofBytesLE data / 2 ^ h.rd (POS_GEOM.SER_LSB u) % 2 ^ n
  (v * 65536 / 2 ^ n + h.rd (POS_OFFSET.REF_OFFSET u)) % 65536

/-- Whether a frame passes its CRC (R380). -/
def Hw.frameGood (h : Hw) (u : Nat) (data : List Byte) : Bool :=
  let poly := h.rd (POS_GEOM2.SER_POLY u)
  data.length == h.rd (POS_GEOM.SER_BYTES u) &&
    (poly == 0 || (data.getLast?.getD 0) == crc8 (BitVec.ofNat 8 poly) data.dropLast)

/-- A poll frame completes (R380, R381). -/
def Hw.pollFrame (h : Hw) (u : Nat) (data : List Byte) : Hw :=
  let t := h.fabTime
  let x := h.posUnit u
  if !h.frameGood u data then h.pollFailed u
  else
    let c := x.at t / posOne
    let p := c + Num.signed 16 (Num.code 16 ((h.framePos u data : Int) - c))
    let p := if x.valid then p else withAngle x.pos (h.framePos u data) / posOne
    let es := if x.valid then ((t, p) :: x.edges).take 2 else [(t, p)]
    let y := { x with valid := true, synced := true, polling := false, errRun := 0, edges := es, lastEdge := t,
                      seen := if x.valid then min 2 (x.seen + 1) else 1, pos := p * posOne, posAt := t, lim := none }
    let h := (h.placeUnit u (h.pacedUnit u y) (!x.valid) false).setReg (POS_EDGE_STEP u) (BitVec.ofNat 32 h.stepCount)
    if x.valid then h else h.cmpResume u

-- ## Configuration (R388, R389)

/-- Whether the configuration lets a unit run: LINES, MAP and TEETH (Table 13-6). -/
def Hw.unitConfigured (h : Hw) (u : Nat) : Bool :=
  match posKind u with
  | 0 => h.rd (POS_GEOM.ENC_LINES u) != 0
  | 1 => (List.range 6).all (fun s => (List.range 6).any (fun c => h.hallSector u (c + 1) == s))
  | 2 => decide (8 ≤ h.rd (POS_GEOM.TOOTH_TEETH u))
  | _ => true

/-- ENABLE becomes 1. A Hall unit takes the code that its inputs hold (log entry 16). -/
def Hw.unitEnable (h : Hw) (u : Nat) : Hw :=
  let x := h.posUnit u
  match posKind u with
  | 0 => h.encStart u
  | 1 => h.hallCode u x.level
  | 2 => h.placeUnit u { x.search h.fabTime with edges := [] } true false
  | _ => h.setPosUnit u { x with pollAt := h.stepCount + h.rd (POS_GEOM2.SER_POLL u), polling := false, errRun := 0 }

/-- ENABLE becomes 0: the unit is invalid, REGULAR channels are suspended and LIST channels abort (R388). -/
def Hw.unitDisable (h : Hw) (u : Nat) : Hw :=
  let x := h.posUnit u
  let h := h.placeUnit u { x.search h.fabTime with homed := false, broken := false, hallBad := false, polling := false, edges := [] }
    false false
  let h := h.wr (POS_STATUS.MISS_RUN u) 0
  if x.valid || x.synced then h.unitLost u else h.cmpLost u true

/-- A write to POS_u_CFG (R389): `w` is the register's new value. -/
def Hw.posCfgWrite (h : Hw) (u : Nat) (w : Word) : Status × Hw :=
  let was := h.on (POS_CFG.ENABLE u)
  let new := h.setReg (POS_CFG u) w
  if was && decide (Bits.set w 0 0 1 ≠ h.reg (POS_CFG u)) then (.notReady, h)
  else if !was && w.getLsbD 0 && !new.unitConfigured u then (.range, h)
  else if !was && w.getLsbD 0 then (.ok, new.unitEnable u)
  else if was && !w.getLsbD 0 then (.ok, new.unitDisable u)
  else (.ok, new)

/-- Fields of POS_u_GEOM and POS_u_GEOM2 by type: hi, lo and the limits of Table 13-6. -/
def geomFields (u second : Nat) : List (Nat × Nat × Nat × Nat) :=
  match posKind u, second with
  | 0, 0 => [(31, 24, 0, 255), (16, 16, 0, 1), (15, 0, 0, 65535)]
  | 0, _ => [(7, 0, 1, 255)]
  | 1, 0 => [(17, 0, 0, 0x3FFFF)]
  | 1, _ => [(15, 0, 1, 65535)]
  | 2, 0 => [(11, 11, 0, 1), (10, 9, 1, 3), (8, 8, 0, 1), (7, 0, 8, 255)]
  | 2, _ => []
  | _, 0 => [(31, 27, 7, 31), (20, 16, 0, 31), (15, 12, 1, 8), (11, 4, 0, 255), (3, 0, 0, 15)]
  | _, _ => [(31, 24, 1, 255), (23, 16, 0, 255), (15, 0, 1, 65535)]

/-- A write to POS_u_GEOM, POS_u_GEOM2 or POS_u_OFFSET (R9, R389, Table 13-6): NOT_READY while ENABLE is 1, and RANGE for a changed
field outside its limits or for GAP_COUNT other than 1 with an extra tooth. -/
def Hw.posGeomWrite (h : Hw) (u : Nat) (r : RegId) (v : Word) : Status × Hw :=
  let fs := if r = POS_GEOM u then geomFields u 0 else if r = POS_GEOM2 u then geomFields u 1
    else [(31, 16, 0, 65535), (15, 0, 0, 65535)]
  let old := h.reg r
  let new := fs.foldl (fun acc f => Bits.set acc f.1 f.2.1 (Bits.get v f.1 f.2.1)) old
  let bad := fs.any (fun f => Bits.get new f.1 f.2.1 != Bits.get old f.1 f.2.1 &&
    !(decide (f.2.2.1 ≤ Bits.get new f.1 f.2.1) && decide (Bits.get new f.1 f.2.1 ≤ f.2.2.2)))
  let gap := posKind u == 2 && r == POS_GEOM u && new.getLsbD 8 && Bits.get new 10 9 != 1
  if bad || gap then (.range, h)
  else if h.on (POS_CFG.ENABLE u) then (.notReady, h)
  else (.ok, h.setReg r new)

-- ## Position signals (R364 to R366)

/-- An angle as a signal: minus 32,768, with −32,768 delivered as −32,767 (R365). -/
def angleSignal (a : Nat) : Nat := Q15.code ((a % 65536 : Nat) - 32768)

/-- The electrical angle of unit u (R364). -/
def Hw.elecAngle (h : Hw) (u : Nat) : Nat :=
  let ang := h.rd (POS_POSITION.ANGLE u)
  if posKind u = 1 then ang else (ang * h.rd (POS_CFG.POLE_PAIRS u) + h.rd (POS_OFFSET.ELEC_OFFSET u)) % 65536

/-- Field f of slot p of block k at this moment (Table 13-2). -/
def Hw.posField (h : Hw) (k p f : Nat) : Nat :=
  let u1 := h.rd (BLK_POS_SLOT.UNIT k p)
  let u := u1 - 1
  let x := h.posUnit u
  let live := u1 != 0 && x.valid && h.on (POS_CFG.ENABLE u)
  let ang := h.rd (POS_POSITION.ANGLE u)
  match f with
  | 0 =>
    let ready := if posKind u = 0 then x.homed else x.synced
    if live && ready then
      angleSignal (h.elecAngle u)
    else 0x8000
  | 1 => if live && posKind u != 1 then angleSignal ang else 0x8000
  | 2 =>
    match (if live then h.unitSpeed u h.fabTime else none) with
    | some s => Q15.code (Num.roundDiv (s * 32768) (max (h.rd (POS_SPEED_FS.SPEED_FS u)) 1))
    | none => 0x8000
  | 3 => if u1 = 0 then 0 else x.flags
  | 4 => h.rd (BLK_CMP_HITS.COUNT k 0) % 32768
  | 5 => h.rd (BLK_CMP_HITS.COUNT k 1) % 32768
  | 6 => if u1 = 0 then Config.freeNat 0 % 32768 else h.rd (POS_POSITION.REV u) % 32768
  | _ => 0x8000

/-- A step boundary for the units: every running unit is shown as it stands, and the position signals of the blocks with a section are taken
for the next latch (R365), and for a flux that starts at this boundary (R316). -/
def Hw.posBoundary (h : Hw) : Hw :=
  let h := Num.forEach 11 (fun u acc =>
    if acc.on (POS_CFG.ENABLE u) then
      let acc := acc.bringUnit u
      let x := acc.posUnit u
      if (posKind u = 1 || posKind u = 3) && x.valid && !x.hallBad then acc.setPosUnit u (acc.pacedUnit u x) else acc
    else acc) h
  Num.forEach 8 (fun k acc =>
    if (acc.block k).sec.isSome then
      acc.updBlock k (fun b => { b with posSnap :=
        ((List.range 32).map (fun i => (i, acc.posField k (i / 8) (i % 8)))).filter (fun e => e.2 != 0x8000) })
    else acc) h

/-- Compare channels of block k return to IDLE at step 5 of a reload of its partition (R387). -/
def Hw.cmpIdle (h : Hw) (k : Nat) : Hw := (h.wr (BLK_CMP_STATUS.STATE k 0) 0).wr (BLK_CMP_STATUS.STATE k 1) 0

end Sys2Proof.Machine
end

