-- ==== Sys2Proof/Machine/Motion.lean ====
section
/-!
DEFINITION. Six-step commutation, starting, stopping and leg loss (chapter 12): the tracker, the motion states, COMMUTATE,
shares and capability. The return of a cell stands in LegLoss.lean.
-/
namespace Sys2Proof.Machine

-- ## Trios

/-- The cells of trio t in calculation order A, B, C: phases B and C are exchanged under the reverse flag (R313). -/
def Hw.phases (h : Hw) (t : Nat) : List Nat :=
  let g := h.trioCells t
  let rev := match (h.block (t / 2)).sec with
    | some b => (b.trios.getD (t % 2) []).getD 3 0 != 0
    | none => false
  if rev then [g.getD 0 0, g.getD 2 0, g.getD 1 0] else g

/-- Change a trio's hidden state. -/
def Hw.updTrio (h : Hw) (t : Nat) (f : Trio → Trio) : Hw := h.setTrio t (f (h.trio t))

def motionF (t : Nat) : Fld := BLK_TRIO_MOTION_STATUS.MOTION (t / 2) (t % 2)
def speedF (t : Nat) : Fld := BLK_TRIO_MOTION_STATUS.SPEED (t / 2) (t % 2)
def commStateF (t : Nat) : Fld := BLK_TRIO_MOTION_STATUS.COMM_STATE (t / 2) (t % 2)
def syncedF (t : Nat) : Fld := BLK_TRIO_MOTION_STATUS.SYNCED (t / 2) (t % 2)
def intervalF (t : Nat) : Fld := BLK_TRIO_COMM_STATUS.INTERVAL (t / 2) (t % 2)

/-- The motion state of trio t (Table 12-1). -/
def Hw.motion (h : Hw) (t : Nat) : Nat := h.rd (motionF t)

/-- Whether trio t belongs to a SIX_STEP block. -/
def Hw.sixStep (h : Hw) (t : Nat) : Bool := h.mode (t / 2) == 2

/-- The RUN command that acts on a trio: its latched input (R332), 0 in a HOLD (Table 16-2), after a shutdown (R333), and
outside RUN during SS1 (R442). -/
def Hw.runOf (h : Hw) (t : Nat) : Int :=
  let k := t / 2
  if (h.trio t).noRun || (h.block k).inSafe == 2 || (h.block k).ss1On then 0
  else match Q15.val (h.sig k (4 + t % 2)) with
    | some v => v.sign
    | none => 0

/-- Whether trio t is at rest (R338). -/
def Hw.atRest (h : Hw) (t : Nat) : Bool :=
  let src := h.rd (BLK_TRIO_MOTION_CFG.SPEED_SRC (t / 2) (t % 2))
  (!(h.trio t).lost && decide ((h.rdI (speedF t)).natAbs < h.rd (BLK_TRIO_SPEED_CFG.STOP_HZ (t / 2) (t % 2)))) ||
    (src == 0 && h.motion t == 7 && decide (800 * h.rd (BLK_TRIO_MOTION_CFG.OBSERVE_MS (t / 2) (t % 2)) ≤ (h.trio t).timer))

-- ## The tracker (R335 to R337)

/-- Differences of successive steps, newest first. -/
def intervalsOf (xs : List Nat) : List Nat := (List.zip xs xs.tail).map (fun e => e.1 - e.2)

/-- SPEED's magnitude from the crossings (R336): `per` intervals make a period; `d` steps have passed since the last. -/
def crossSpeed (xs : List Nat) (per now : Nat) : Nat :=
  let iv := (intervalsOf xs).take per
  let n := iv.length
  let sum := max (iv.foldl (· + ·) 0) 1
  if n < 2 then 0
  else
    let m := (Num.roundDiv (8000000 * n : Nat) (per * sum)).toNat
    let d := now - xs.headD now
    if sum < d * n then min m (Num.roundDiv 8000000 (per * max d 1)).toNat else m

/-- A crossing of phase j in the present step: direction follows from three in order (R335). The line-to-line maximum of
the interval that ends is kept for a catch (R346). -/
def Trio.cross (x : Trio) (j step : Nat) (two : Bool) : Trio :=
  let cs := ((j, step) :: x.crosses).take 7
  let dir : Int := if two then x.dir else match cs with
    | (a, _) :: (b, _) :: (c, _) :: _ =>
      if (c + 2) % 3 = b && (b + 2) % 3 = a then 1 else if (c + 1) % 3 = b && (b + 1) % 3 = a then -1 else x.dir
    | _ => x.dir
  { x with crosses := cs, dir := dir, emax := (x.emaxNow :: x.emax).take 6, emaxNow := 0 }

/-- One step of the tracker on its watched values; `j` counts the phase (R335). -/
def Trio.watch (x : Trio) (hyst : Nat) (step : Nat) (two : Bool) (j : Nat) (v : Int) : Trio :=
  let old := x.side.getD j 0
  let new := if (hyst : Int) ≤ v then 1 else if v ≤ -(hyst : Int) then 2 else 0
  if new = 0 then x
  else
    let y := { x with side := x.side.set j new }
    if old != 0 && old != new then y.cross j step two else y

/-- Show a speed in 0.1 Hz, limited to its field. -/
def Hw.setSpeed (h : Hw) (t : Nat) (v : Int) : Hw := h.wrI (speedF t) (Num.clamp (-32767) 32767 v)

/-- The speed of SPEED_SRC 2 (R337, R366): the signal, converted with SPEED_FS of the unit in its position slot. -/
def Hw.signalSpeed (h : Hw) (t : Nat) : Hw :=
  let k := t / 2
  let s := h.rd (BLK_TRIO_MOTION_CFG.SPEED_SIG k (t % 2))
  let u := h.rd (BLK_POS_SLOT.UNIT k ((s - 0x1E0) / 8 % 4))
  match if s < 0x1E0 then none else Q15.val (h.sigIn k s) with
  | some v => (h.updTrio t (fun x => { x with lost := false })).setSpeed t
      (Num.roundDiv (v * h.rd (POS_SPEED_FS.SPEED_FS (u - 1))) 32768)
  | none => h.updTrio t (fun x => { x with lost := true })

/-- The flux angle of the running step joins those of the last 64 (R337). -/
def Hw.pushAngle (h : Hw) (t : Nat) (a : Int) : Hw := h.updTrio t (fun x => { x with thetas := (a :: x.thetas).take 65 })

/-- The tracker registers what it watches: phase-to-neutral voltages, in BRAKE the shunt samples, with one fenced cell the difference of the
live phase voltages; and, of a TRIO trio, the flux angle in every state. It watches no phase in ALIGN, OPEN_LOOP and RUN (R335, R337). -/
def Hw.trackWatch (h : Hw) (t : Nat) (vs is : List Int) (turn : Option Int) : Hw :=
  let m := h.motion t
  let h := match turn with
    | some a => h.pushAngle t a
    | none => h
  if 4 ≤ m && m ≤ 6 then h
  else
    let x := h.trio t
    let two := x.observed.length == 1
    let x := if x.two = two then x else { x with two := two, side := [0, 0, 0], crosses := [] }
    let hyst := h.rd (BLK_TRIO_SPEED_CFG.ZC_HYST (t / 2) (t % 2))
    let w := if m = 3 && !two then is else vs
    let ll := max (max (w.getD 0 0 - w.getD 1 0).natAbs (w.getD 1 0 - w.getD 2 0).natAbs) (w.getD 2 0 - w.getD 0 0).natAbs
    let x := { x with emaxNow := max x.emaxNow ll }
    let live := ((List.range 3).filter (fun j => !x.observed.contains ((h.phases t).getD j 0)))
    h.setTrio t (if two then
        x.watch hyst h.stepCount true 0 (w.getD (live.getD 0 0) 0 - w.getD (live.getD 1 0) 0)
      else (List.range 3).foldl (fun y j => y.watch hyst h.stepCount false j (w.getD j 0)) x)

/-- SPEED by its source: the signal of SPEED_SRC 2, in RUN of a TRIO trio the flux angle's change over 64 steps, else the crossings (R336,
R337). -/
def Hw.trackSpeed (h : Hw) (t : Nat) : Hw :=
  let m := h.motion t
  let x := h.trio t
  if h.rd (BLK_TRIO_MOTION_CFG.SPEED_SRC (t / 2) (t % 2)) = 2 then h.signalSpeed t
  else if m = 6 && !h.sixStep t then
    match x.thetas[0]?, x.thetas[64]? with
    | some a, some b => h.setSpeed t (Num.roundDiv (Num.signed 48 (Num.code 48 (a - b)) * 125000) (2 ^ 48))
    | _, _ => h
  else
    h.setSpeed t (x.dir * (crossSpeed (x.crosses.map (·.2)) (if x.two && m ≠ 5 && m ≠ 6 then 2 else 6) h.stepCount : Int))

/-- TRACKER_CROSSING: one step of the tracker on the phase-to-neutral voltages and shunt samples of the trio in
calculation order (R335 to R337); `turn` gives the flux angle. -/
def Hw.track (h : Hw) (t : Nat) (vs : List Int) (is : List Int) (turn : Option Int) : Hw :=
  (h.trackWatch t vs is turn).trackSpeed t

/-- A step of the tracker without samples: no crossing, the flux as it stood, and SPEED as time passes. -/
def Hw.trackIdle (h : Hw) (t : Nat) : Hw :=
  (match (h.trio t).thetas with
    | a :: _ => h.pushAngle t a
    | [] => h).trackSpeed t

-- ## Motion states (Table 12-1)

/-- Enter a motion state. The tracker's sides and crossings go on, but for those from before the RUN of a TRIO trio, during which it watches no
phase (DESIGN CHOICE, log entry 73). -/
def Hw.enterMotion (h : Hw) (t m : Nat) : Hw :=
  let old := h.motion t
  let run := h.runOf t
  let h := (h.wr (motionF t) m).updTrio t (fun x => { x with timer := 0, nextMotion := none, thenAlign := false })
  match m with
  | 1 => (h.wrB (BLK_TRIO_MOTION_STATUS.REVERSE_SEEN (t / 2) (t % 2)) false).updTrio t (fun x =>
      { x with coastRest := false, catching := false, catchBack := false, runDir := if run < 0 then -1 else 1 })
  | 4 => (h.wr (commStateF t) 0).updTrio t (fun x => { x with runDir := if run < 0 then -1 else 1 })
  | 5 =>
    let i := h.rd (BLK_TRIO_START_CFG.OL_START (t / 2) (t % 2))
    h.updTrio t (fun x => { x with olI := i, olNext := h.stepCount + i, olCount := 0, agree := 0, cPrev := none, lookFrom := 0,
                                   crossed := false, commStep := h.stepCount, dir := x.runDir, crosses := [] })
  | 6 =>
    if h.sixStep t then
      let h := h.wrB (syncedF t) true
      if old = 5 then h.updTrio t (fun x => { x with duty := h.rd (BLK_TRIO_START_DUTY.RAMP_DUTY (t / 2) (t % 2)), missRun := 0 })
      else h.updTrio t (fun x => { x with missRun := 0, commStep := h.stepCount })
    else h
  | _ => (h.wrB (syncedF t) false).updTrio t (fun x =>
      { x with nextComm := none, catching := false, crosses := if old = 6 && !h.sixStep t then [] else x.crosses })

/-- The motion state of a trio changes at a step boundary (R333, R339, R347, R349, R358). -/
def Hw.motionBoundary (h : Hw) (t : Nat) : Hw :=
  let k := t / 2
  let x := h.trio t
  let m := h.motion t
  let six := h.sixStep t
  let lostCells := x.observed.length
  let h := h.wrB (BLK_TRIO_MOTION_STATUS.TWO_LEG k (t % 2)) (!six && lostCells == 1)
  let run := h.runOf t
  let start := if six then 4 else 6
  let h := h.updTrio t (fun y => { y with timer := y.timer + 1 })
  let rest := h.atRest t
  if 2 ≤ lostCells || (six && lostCells != 0) then (if m = 8 then h else h.enterMotion t 8)
  else if m = 8 then h.enterMotion t 0
  else if (h.block k).ss1On && m = 6 && x.nextMotion == none then h
  else if run = 0 && m ≠ 0 && m ≠ 7 && !((h.block k).ss1On && m = 6) then h.enterMotion t 7
  else if six && 4 ≤ m && m ≤ 6 && !(h.block k).ss1On && run ≠ x.runDir then
    (h.enterMotion t 7).updTrio t (fun y => { y with coastRest := true })
  else match m with
    | 0 => if run ≠ 0 then h.enterMotion t 1 else h
    | 7 =>
      if x.thenAlign && run ≠ 0 then h.enterMotion t 4
      else if run ≠ 0 && (!x.coastRest || rest) then h.enterMotion t 1
      else if run = 0 && rest then h.enterMotion t 0
      else h.updTrio t (fun y => { y with thenAlign := false })
    | 2 => if rest then h.enterMotion t start else h
    | 3 => if rest then h.enterMotion t start else h
    | _ =>
      if m = 6 && x.catchBack && rest then
        (h.enterMotion t 7).updTrio t (fun y => { y with thenAlign := true, catchBack := false })
      else match x.nextMotion with
        | some n => h.enterMotion t n
        | none => h

/-- OBSERVE_END: OBSERVE_MS has passed, and the trio takes its path of Table 12-2 at the next boundary; rotation against
RUN is recorded (R339, R340, R346). -/
def Hw.observeEnd (h : Hw) (t : Nat) : Hw :=
  let k := t / 2
  let x := h.trio t
  let six := h.sixStep t
  if h.motion t = 1 && x.nextMotion == none && !x.catching && h.runOf t ≠ 0 &&
      decide (800 * h.rd (BLK_TRIO_MOTION_CFG.OBSERVE_MS k (t % 2)) ≤ x.timer) then
    let run := h.runOf t
    let fenced := !x.observed.isEmpty
    let rest := if fenced then six else h.atRest t
    let dir : Int := if fenced then (if six then 0 else 1) else x.dir
    let h := h.updTrio t (fun y => { y with runDir := run, lookFrom := h.stepCount + 1 })
    let go (h : Hw) (n : Nat) : Hw := h.updTrio t (fun y => { y with nextMotion := some n })
    if rest || dir = 0 then go h (if six then 4 else 6)
    else if dir = run then
      if six then h.updTrio t (fun y => { y with catching := true, catchBack := false }) else go h 6
    else
      let h := (h.blockFault k 0x10).wrB (BLK_TRIO_MOTION_STATUS.REVERSE_SEEN k (t % 2)) true
      match h.rd (BLK_TRIO_MOTION_CFG.REVERSE_ACTION k (t % 2)) with
      | 0 => go h 2
      | 1 => go h 3
      | _ => if six then h.updTrio t (fun y => { y with catching := true, catchBack := true }) else go h 6
  else h

/-- OBSERVE_END (R339, R340, R346). -/
def execObserveEnd (t : TrioId) (s : State) := s.onLive (fun h => h.observeEnd t.val)

/-- ALIGN_END: ALIGN_MS has passed, and the trio enters OPEN_LOOP at the next boundary (R345). -/
def Hw.alignEnd (h : Hw) (t : Nat) : Hw :=
  if h.motion t = 4 && decide (800 * h.rd (BLK_TRIO_START_CFG.ALIGN_MS (t / 2) (t % 2)) ≤ (h.trio t).timer) then
    h.updTrio t (fun x => { x with nextMotion := some 5 })
  else h

/-- ALIGN_END (R345). -/
def execAlignEnd (t : TrioId) (s : State) := s.onLive (fun h => h.alignEnd t.val)

/-- START_FAILED: twelve forced commutations at OL_END have passed without synchronisation (R345). -/
def Hw.startFailed (h : Hw) (t : Nat) : Hw :=
  if h.motion t = 5 && decide (12 ≤ (h.trio t).olCount) && (h.trio t).nextMotion == none then
    (h.blockFault (t / 2) 0x0F).updTrio t (fun x => { x with nextMotion := some 7 })
  else h

/-- START_FAILED (R345). -/
def execStartFailed (t : TrioId) (s : State) := s.onLive (fun h => h.startFailed t.val)

-- ## Six-step commutation (R341 to R346)

/-- The phases HIGH, LOW and floating of a commutation state, and whether the floating phase's crossing rises in forward
rotation (Table 12-3). -/
def commRow (s : Nat) : Nat × Nat × Nat × Bool :=
  match s with
  | 0 => (0, 1, 2, false)
  | 1 => (0, 2, 1, true)
  | 2 => (1, 2, 0, false)
  | 3 => (1, 0, 2, true)
  | 4 => (2, 0, 1, false)
  | _ => (2, 1, 0, true)

/-- The next commutation state in a direction. -/
def commNext (s : Nat) (dir : Int) : Nat := if dir < 0 then (s + 5) % 6 else (s + 1) % 6

/-- The commutation delay after a crossing (R344). -/
def commDelay (i delay : Nat) : Nat := max (i * delay / 256) 1

/-- Steps of ceil(n ÷ 2). -/
def halfUp (n : Nat) : Nat := (n + 1) / 2

/-- Write the outputs of trio t for its motion and commutation state (R334, R342, Table 12-3). -/
def Hw.sixOutputs (h : Hw) (t : Nat) : Hw :=
  let k := t / 2
  let g := h.phases t
  let vecSig (j : Nat) : Nat := 0x1B0 + 4 * localOf (g.getD j 0) + 1
  let setVec (h : Hw) (j v : Nat) : Hw := h.setSig k (vecSig j) v
  let drive (h : Hw) (s : Nat) (duty : Int) : Hw :=
    let r := commRow s
    let h := setVec (setVec (setVec h r.1 2) r.2.1 1) r.2.2.1 0
    h.setSig k (0x1B0 + 4 * localOf (g.getD r.1 0)) (Q15.code duty)
  match h.motion t with
  | 3 => setVec (setVec (setVec h 0 1) 1 1) 2 1
  | 4 => drive h 0 (h.rd (BLK_TRIO_START_DUTY.ALIGN_DUTY k (t % 2)))
  | 5 => drive h (h.rd (commStateF t)) (h.rd (BLK_TRIO_START_DUTY.RAMP_DUTY k (t % 2)))
  | 6 => drive h (h.rd (commStateF t)) (h.trio t).duty
  | _ => setVec (setVec (setVec h 0 0) 1 0) 2 0

/-- Enter the next commutation state at the boundary that follows. -/
def Hw.advanceComm (h : Hw) (t : Nat) : Hw :=
  let x := h.trio t
  (h.setTrio t { x with nextComm := none, crossed := false, commStep := h.stepCount + 1 }).wr (commStateF t)
    (commNext (h.rd (commStateF t)) x.dir)

/-- Whether the floating phase shows the level that follows its crossing, after blanking (R343). -/
def Hw.floatCrossed (h : Hw) (t : Nat) : Bool :=
  let x := h.trio t
  let r := commRow (h.rd (commStateF t))
  let lvl := (h.rd (LEG_SAMPLE_STATUS.STATUS ((h.phases t).getD r.2.2.1 0))).testBit 8
  decide (x.commStep + h.rd (BLK_TRIO_COMM_CFG.ZC_BLANK (t / 2) (t % 2)) ≤ h.stepCount) &&
    (lvl == (r.2.2.2 == decide (0 ≤ x.dir)))

/-- The next commutation state is entered where it is due at the boundary that follows. -/
def Hw.dueComm (h : Hw) (t : Nat) : Hw :=
  match (h.trio t).nextComm with
  | some c => if c ≤ h.stepCount + 1 then h.advanceComm t else h
  | none => h

/-- Watch the floating phase against interval `i` (R344): a crossing too early is rejected and counted once, another is
accepted. -/
def Hw.watchFloat (h : Hw) (t i : Nat) : Hw :=
  let x := h.trio t
  let n := h.stepCount
  if x.crossed || decide (n < x.lookFrom) || !h.floatCrossed t then h
  else
    let early := match x.cPrev with
      | some c => decide (2 * (n - c) < i)
      | none => false
    if early then
      (h.setTrio t { x with lookFrom := x.cPrev.getD 0 + halfUp i }).incTop (BLK_TRIO_COMM_STATUS.NOISE (t / 2) (t % 2))
    else
      let iv := match x.cPrev with
        | some c => n - c
        | none => i
      let fl := (commRow (h.rd (commStateF t))).2.2.1
      (h.setTrio t { x with crossed := true, cPrev := some n, interval := iv, missRun := 0, agree := x.agree + 1,
                            crosses := ((fl, n) :: x.crosses).take 7 }).wr (intervalF t) (min iv 0xFFFF)

/-- The catch (R346): the first three-phase crossing after OBSERVE selects the matching state; the duty starts from the
observed back-EMF, and the trio enters RUN synchronised. -/
def Hw.catchTrio (h : Hw) (t : Nat) : Hw :=
  let x := h.trio t
  match x.crosses with
  | (j, st) :: _ =>
    if x.catching && x.lookFrom ≤ h.stepCount && st = h.stepCount then
      let rising := x.side.getD j 0 == 1
      let want := rising == decide (0 ≤ x.dir)
      let s := ((List.range 6).find? (fun s => (commRow s).2.2.1 == j && (commRow s).2.2.2 == want)).getD 0
      let iv := (intervalsOf (x.crosses.map (·.2))).take 6
      let sum := iv.foldl (· + ·) 0
      let i := (Num.roundDiv (sum : Nat) (max iv.length 1)).toNat
      let e := x.emax.foldl max x.emaxNow
      let dm : Int := match Q15.val (h.sigIn (t / 2) 0x118) with
        | some v => if 0 < v then min 32767 (Num.roundDiv (32767 * e : Nat) v.toNat) else 32767
        | none => 32767
      let d := commDelay i (h.rd (BLK_TRIO_COMM_CFG.COMM_DELAY (t / 2) (t % 2)))
      let y : Trio := { x with
        catching := false, nextMotion := some 6, duty := dm, interval := i, cPrev := some h.stepCount,
        lookFrom := 0, crossed := true, nextComm := some (h.stepCount + d) }
      (((h.setTrio t y).wr (commStateF t) s).wr (intervalF t) (min i 0xFFFF)).dueComm t
    else h
  | [] => h

/-- COMMUTATE for one trio (R334 to R338, R343 to R346): the tracker, the floating phase's threshold, its crossing, the
commutation that is due, the duty and the outputs. -/
def Hw.commutate (h : Hw) (t : Nat) : Hw :=
  let k := t / 2
  let g := h.phases t
  let vph (j : Nat) : Option Int := Q15.val (h.sigIn k (0x100 + 4 * localOf (g.getD j 0) + 1))
  let cur (j : Nat) : Int := (Q15.val (h.sigIn k (0x100 + 4 * localOf (g.getD j 0)))).getD 0
  let h := match vph 0, vph 1, vph 2 with
    | some a, some b, some c =>
      let n := Num.roundDiv (a + b + c) 3
      let fl := (commRow (h.rd (commStateF t))).2.2.1
      let h := h.setSig k (0x1B0 + 4 * localOf (g.getD fl 0) + 2) (Q15.code (2 * n))
      h.track t [a - n, b - n, c - n] [cur 0, cur 1, cur 2] none
    | _, _, _ =>
      let h := h.setSig k (0x1B0 + 4 * localOf (g.getD (commRow (h.rd (commStateF t))).2.2.1 0) + 2) 0x8000
      let lost := (h.trio t).observed
      if lost.length == 1 && (List.range 3).all (fun j => lost.contains (g.getD j 0) || (vph j).isSome) then
        h.track t ((List.range 3).map (fun j => (vph j).getD 0)) [cur 0, cur 1, cur 2] none
      else h.trackIdle t
  let n := h.stepCount
  let h := match h.motion t with
    | 1 => h.catchTrio t
    | 5 =>
      let h := h.watchFloat t (h.trio t).olI
      let x := h.trio t
      if 2 ≤ x.agree && x.crossed && x.nextMotion == none then
        (h.setTrio t { x with nextMotion := some 6, agree := 0,
                              nextComm := some (n + commDelay x.interval (h.rd (BLK_TRIO_COMM_CFG.COMM_DELAY k (t % 2)))) }).dueComm t
      else if x.olNext ≤ n + 1 then
        let e := h.rd (BLK_TRIO_OL_END.OL_END k (t % 2))
        let i := max (x.olI - h.rd (BLK_TRIO_START_CFG.OL_DEC k (t % 2))) e
        (h.setTrio t { x with olCount := if x.olI ≤ e then x.olCount + 1 else x.olCount, olI := i, olNext := x.olNext + i,
                              agree := if x.crossed then x.agree else 0 }).advanceComm t
      else h
    | 6 =>
      let x := h.trio t
      let h := h.watchFloat t x.interval
      let y := h.trio t
      let h := if y.crossed && !x.crossed then
          h.setTrio t { y with nextComm := some (n + commDelay y.interval (h.rd (BLK_TRIO_COMM_CFG.COMM_DELAY k (t % 2)))) }
        else h
      let h := h.dueComm t
      let want? : Option Int := if (h.trio t).catchBack || (h.block k).ss1On then some 0
        else (Q15.val (h.sigIn k (2 * (t % 2)))).map (fun d => max d 0)
      match want? with
      | none => h
      | some w =>
        let slew : Int := h.rd (BLK_TRIO_COMM_CFG.DUTY_SLEW k (t % 2))
        h.updTrio t (fun z => { z with duty := if z.duty ≤ w then min w (z.duty + slew) else max w (z.duty - slew) })
    | _ => h
  h.sixOutputs t

/-- COMMUTATE (R332, R334 to R338, R342 to R346). -/
def execCommutate (k : BlockId) (s : State) :=
  s.onLive (fun h => h.laneDo k.val 0xB (fun w x =>
    (h.triosOf k.val).foldl (fun acc t => if w.getLsbD (t % 2) then acc.commutate t else acc) x))

/-- COMMUTATION_MISS: no crossing by 1.5 intervals. One is taken at c_prev + I and counted; the second in a row is
COMMUTATION_LOST, and the trio enters COAST (R344). -/
def Hw.commMiss (h : Hw) (t : Nat) : Hw :=
  let k := t / 2
  let x := h.trio t
  match x.cPrev with
  | some c =>
    if h.motion t = 6 && h.sixStep t && !x.crossed && x.nextMotion == none && decide (c + halfUp (3 * x.interval) ≤ h.stepCount) then
      let h := h.incTop (BLK_TRIO_COMM_STATUS.MISSES k (t % 2))
      if 1 ≤ x.missRun then
        (h.blockFault k 0x0E).updTrio t (fun y => { y with missRun := 2, nextMotion := some 7 })
      else
        let due := max (c + x.interval + x.interval * h.rd (BLK_TRIO_COMM_CFG.COMM_DELAY k (t % 2)) / 256) (h.stepCount + 1)
        let h := h.setTrio t { x with cPrev := some (c + x.interval), crossed := true, missRun := x.missRun + 1, nextComm := some due }
        if due ≤ h.stepCount + 1 && (h.block k).laneRuns then (h.advanceComm t).sixOutputs t else h
    else h
  | none => h

/-- COMMUTATION_MISS (R344). -/
def execCommutationMiss (t : TrioId) (s : State) := s.onLive (fun h => h.commMiss t.val)

-- ## Shares and capability (R350, R352, R356, R357)

/-- The trios of partition p that lie in TRIO blocks. -/
def Hw.torqueTrios (h : Hw) (p : Nat) : List Nat :=
  ((h.blocksOf p).filter (fun k => h.mode k == 1)).flatMap (fun k => h.triosOf k)

/-- A table of the set in force for partition p (Table 3-12). -/
def Hw.tableOf (h : Hw) (p sub item : Nat) : Option (List Nat) :=
  match (h.part p).cfg with
  | some s => (s.tables.find? (fun t => t.subtype == sub && t.item == item)).map (·.data)
  | none => none

/-- SHARE of trio t by R350, with the cells of `f` fenced. -/
def Hw.shareOf (h : Hw) (p t : Nat) (f : List Nat) : Nat :=
  if 2 ≤ ((h.trioCells t).filter (fun c => f.contains c)).length then 0
  else match h.tableOf p 4 0 with
    | none => 16384
    | some r => if f.isEmpty then 16384 else f.foldl (fun m c => min m (r.getD (16 * c + t) 16384)) 0x7FFF

/-- The fenced cells of partition p's TRIO trios. -/
def Hw.fencedTrioCells (h : Hw) (p : Nat) : List Nat :=
  ((h.torqueTrios p).flatMap (fun t => h.trioCells t)).filter (fun c => h.cellFenced c)

/-- The SHARE register of a trio. -/
def shareF (t : Nat) : Fld := BLK_TRIO_SHARE.SHARE (t / 2) (t % 2)

/-- REDISTRIBUTION: every SHARE takes its value of R350. -/
def Hw.redistribute (h : Hw) (p : Nat) : Hw :=
  (h.torqueTrios p).foldl (fun acc t => acc.wr (shareF t) (h.shareOf p t (h.fencedTrioCells p))) h

/-- CAPABILITY_UPDATE (R352, Table 12-8). -/
def Hw.capabilityUpdate (h : Hw) (p : Nat) : Hw :=
  let ts := h.torqueTrios p
  let ks := h.blocksOf p
  let all := ks.flatMap (fun k => h.triosOf k)
  let av : Nat :=
    if ks.isEmpty then 0
    else if ts.isEmpty then
      let cs := ks.flatMap cellsOf
      (Num.roundDiv (32767 * (cs.filter (fun c => !h.cellFenced c)).length : Nat) (max cs.length 1)).toNat
    else min 32767 (Num.roundDiv (2 * (ts.map (fun t => h.rd (shareF t))).foldl (· + ·) 0 : Nat) ts.length).toNat
  let h := h.wr (PART_CAPABILITY.AVAILABLE p) av
  let h := h.wr (PART_CAPABILITY.UNAVAILABLE p) (all.filter (fun t => h.motion t == 8)).length
  let h := h.wr (PART_CAPABILITY.TWO_LEG p) (all.filter (fun t => h.on (BLK_TRIO_MOTION_STATUS.TWO_LEG (t / 2) (t % 2)))).length
  h.wrB (PART_CAPABILITY.RAMPING p) (h.part p).ramp

/-- The Ringmaster observes at the latch which cells of a trio are fenced (Table 5-2). -/
def Hw.observeFences (h : Hw) (t : Nat) : Hw :=
  h.updTrio t (fun x => { x with observed := (h.trioCells t).filter (fun c => h.cellFenced c) })

/-- Stage 1 of an orderly shutdown: every trio that is not STOPPED enters COAST, and RUN is ignored until the next
activation (R333). -/
def Hw.coastAll (h : Hw) : Hw :=
  Num.forEach 16 (fun t acc =>
    if (acc.trioCells t).isEmpty then acc
    else
      let acc := acc.updTrio t (fun x => { x with noRun := true })
      if acc.motion t = 0 || acc.motion t = 8 then acc else acc.updTrio t (fun x => { x with nextMotion := some 7 })) h

/-- Activation and re-entry of a partition: its trios are STOPPED (R333). -/
def Hw.motionStart (h : Hw) (t : Nat) : Hw :=
  let x := h.trio t
  (h.setTrio t { vetoes := x.vetoes, allVetoed := x.allVetoed, heldSteps := x.heldSteps }).setReg (BLK_TRIO_MOTION_STATUS (t / 2) (t % 2)) 0

/-- The end of a debug halt: trios with RUN not 0 enter OBSERVE and the others COAST (R358). -/
def Hw.motionAfterHalt (h : Hw) (t : Nat) : Hw :=
  let h := h.updTrio t (fun x => { x with thetas := [] })
  if h.motion t = 8 then h else h.enterMotion t (if h.runOf t ≠ 0 then 1 else 7)

end Sys2Proof.Machine
end

