-- ==== Sys2Proof/Machine/Torque.lean ====
section
/-!
DEFINITION. Coupled torque and flux control (chapter 11): ESTIMATE with the flux map, VETO, SELECT and their shadowed
registers.
-/
namespace Sys2Proof.Machine

-- ## Shadowed registers (R330)

/-- The torque-control registers of block k as written. -/
def Hw.torqueShadow (h : Hw) (k : Nat) : TorqueSet :=
  { corr := h.reg (BLK_DTC_CORR k)
    band := (List.range 2).map (fun t => h.reg (BLK_TRIO_BAND k t))
    veto := (List.range 2).map (fun t => h.reg (BLK_TRIO_VETO k t))
    kt := (List.range 2).map (fun t => h.reg (BLK_TRIO_KT k t))
    gv := (List.range 6).map (fun i => h.rd (BLK_CELL_EST_GV.GV k i))
    gr := (List.range 6).map (fun i => h.rd (BLK_CELL_EST_GR.GR k i)) }

/-- A COMMIT captures them (R292, R330). -/
def Hw.captureTorque (h : Hw) (k : Nat) : Hw := h.updBlock k (fun b => { b with torqueCap := some (h.torqueShadow k) })

/-- Captured values are in force from the next program on. -/
def Hw.torqueStart (h : Hw) (k : Nat) : Hw :=
  match (h.block k).torqueCap with
  | some t => h.updBlock k (fun b => { b with torque := t, torqueCap := none })
  | none => h

/-- Activation and re-entry: the values written are in force, and the trios' states are those of R319. -/
def Hw.torqueActivate (h : Hw) (k : Nat) : Hw :=
  let h := h.updBlock k (fun b => { b with torque := h.torqueShadow k, torqueCap := none })
  let hz := match (h.block k).sec with | some b => b.horizon | none => 0
  let h := h.wr (BLK_DTC_STATUS.HORIZON k) hz
  let h := h.wr (BLK_DTC_STATUS.EFFECTIVE k) (if h.on (BLK_DTC_STATUS.THROTTLED k) then min hz 2 else hz)
  Num.forEach 2 (fun t acc =>
    (acc.setReg (BLK_TRIO_STATE k t) (BLK_TRIO_STATE k t).reset).updTrio (2 * k + t) (fun x => { x with selNow := (BLK_TRIO_STATE k t).reset })) h

/-- A field of the torque-control states of trio t as they stand in the running step. -/
def Hw.selRd (h : Hw) (t : Nat) (f : Fld) : Nat := Bits.get (h.trio t).selNow f.hi f.lo

/-- Set such a field. -/
def Hw.selWr (h : Hw) (t : Nat) (f : Fld) (v : Nat) : Hw := h.updTrio t (fun x => { x with selNow := Bits.set x.selNow f.hi f.lo v })

/-- The torque and flux states after a debug halt (R319). -/
def Hw.torqueHalt (h : Hw) (k : Nat) : Hw :=
  Num.forEach 2 (fun t acc => (acc.selWr (2 * k + t) (BLK_TRIO_STATE.T_STATE k t) 1).selWr (2 * k + t) (BLK_TRIO_STATE.F_STATE k t) 1) h

/-- A program of block k has completed: its registers report that step (R330). -/
def Hw.torqueShown (h : Hw) (k : Nat) : Hw :=
  let h := (h.triosOf k).foldl (fun (acc : Hw) t =>
    let x := acc.trio t
    let acc := acc.setReg (BLK_TRIO_STATE k (t % 2)) x.selNow
    let acc := (acc.wr (BLK_TRIO_COUNT.VETOES k (t % 2)) x.vetoes).wr (BLK_TRIO_COUNT.ALL_VETOED k (t % 2)) x.allVetoed
    acc.wr (BLK_TRIO_HELD.COUNT k (t % 2)) x.heldSteps) h
  h.wr (BLK_DTC_STATUS.ANGLE_MISSING k) (h.block k).angleMissing

/-- KT and KS of trio t in force. -/
def Hw.ktOf (h : Hw) (t : Nat) : Nat × Nat :=
  let w := (h.block (t / 2)).torque.kt.getD (t % 2) 0
  (Bits.get w 15 0, Bits.get w 19 16)

-- ## Angles

/-- atan(2^(−i)) as a fraction of a turn, times 2^60, rounded to nearest. -/
def atanTable : List Int :=
  [144115188075855872, 85076163258429574, 44951908161305065, 22818290470345122, 11453424468330927] ++
   [5732295643252264, 2866847280169571, 1433511120421931, 716766496754739, 358384615492275] ++
   [179192478636968, 89596260679883, 44798133010118, 22399066838831, 11199533461137] ++
   [5599766735784, 2799883368544, 1399941684353, 699970842187, 349985421095] ++
   [174992710548, 87496355274, 43748177637, 21874088818, 10937044409] ++
   [5468522205, 2734261102, 1367130551, 683565276, 341782638] ++
   [170891319, 85445659, 42722830, 21361415, 10680707] ++
   [5340354, 2670177, 1335088, 667544, 333772] ++
   [166886, 83443, 41722, 20861, 10430]

/-- Rotate (x, y) onto the positive x axis, adding up the angle. -/
def rotate (ts : List Int) (i : Nat) (x y z : Int) : Int :=
  match ts with
  | [] => z
  | a :: r =>
    if 0 < y then rotate r (i + 1) (x + y / 2 ^ i) (y - x / 2 ^ i) (z + a)
    else rotate r (i + 1) (x - y / 2 ^ i) (y + x / 2 ^ i) (z - a)

/-- The angle of (x, y) from the x axis, 2^48 to the turn (R337). -/
def fluxTurn (x y : Int) : Int :=
  let s : Int := 2 ^ 70
  let a := if x < 0 then rotate atanTable 0 (-x * s) (-y * s) 0 + 2 ^ 59 else rotate atanTable 0 (x * s) (y * s) 0
  Num.roundDiv a (2 ^ 12)

/-- Whether √3·y ≥ x, exactly. -/
def sqrt3Ge (y x : Int) : Bool := decide (x * (x.natAbs : Int) ≤ 3 * (y * (y.natAbs : Int)))

/-- The sector of a flux vector (R318): its angle lies in [60°·s − 30°, 60°·s + 30°); the zero vector is in sector 0. -/
def sectorOf (x y : Int) : Nat :=
  if x = 0 && y = 0 then 0
  else if 0 < x then
    if sqrt3Ge y x then 1 else if sqrt3Ge y (-x) then 0 else 5
  else if x = 0 then (if 0 < y then 2 else 5)
  else
    if sqrt3Ge y (-x) && 3 * y * y != x * x then 2 else if sqrt3Ge (-y) (-x) then 4 else 3

-- ## The flux map (R315, R316)

/-- The angle u of block k's DTC_CFG.ANGLE, none where it is invalid: as the program reads it, or, where the flux starts anew outside the
program, as the latest step boundary shows it. -/
def Hw.fluxAngle (h : Hw) (k : Nat) (inj : Bool) : Option Nat :=
  let s := h.rd (BLK_DTC_CFG.ANGLE k)
  if s = 0 then none
  else (Q15.val (if inj then h.sigIn k s else Tab.get (h.block k).posSnap (s - 0x1E0) 0x8000)).map (fun v => (v + 32768).toNat)

/-- The interpolated map value ψ_map of a map, a current and an angle (R315). -/
def mapValue (m : List Nat) (i : Int) (u : Nat) : Int :=
  let at' (r c : Nat) : Int := Num.signed 16 (m.getD (64 * r + c) 0)
  let r0 := (i / 1024 + 32).toNat
  let fr := if r0 = 63 then 0 else i - ((r0 : Int) - 32) * 1024
  let r1 := min (r0 + 1) 63
  let c0 := u / 1024
  let fc : Int := u % 1024
  let c1 := (c0 + 1) % 64
  Num.roundShift ((1024 - fr) * (1024 - fc) * at' r0 c0 + fr * (1024 - fc) * at' r1 c0 + (1024 - fr) * fc * at' r0 c1 +
    fr * fc * at' r1 c1) 20

/-- The flux map of cell c in its partition's set. -/
def Hw.fluxMapOf (h : Hw) (c : Nat) : Option (List Nat) :=
  match h.owner (blockOf c) with
  | some p => h.tableOf p 2 c
  | none => none

/-- Ψ of a cell takes its starting value (R316): the map's value where the angle is valid and the cell has a map, else 0. -/
def Hw.psiInit (h : Hw) (c : Nat) : Hw :=
  let v : Int := match h.fluxMapOf c, h.fluxAngle (blockOf c) false, Q15.val (h.rd (LEG_SAMPLE_I.SHUNT c)) with
    | some m, some u, some i => mapValue m i u * 65536
    | _, _, _ => 0
  h.setCell c { h.cell c with psi := v, est := Q15.code (Num.roundShift v 16), residCount := 0, residDone := false }

/-- The flux states of a block's trio cells start anew (R316). -/
def Hw.fluxStart (h : Hw) (k : Nat) : Hw :=
  ((h.triosOf k).flatMap (fun t => h.trioCells t)).foldl (fun acc c => acc.psiInit c) h

-- ## ESTIMATE (R313 to R318, R348)

/-- Phase quantities to the two axes (R318). -/
def alphaOf (a b c : Int) : Int := Num.roundDiv (2 * a - b - c) 3
def betaOf (b c : Int) : Int := Num.roundDiv ((b - c) * 18919) 32768

/-- Torque from fluxes and currents of the three phases (R318). -/
def torqueOf (kt ks : Nat) (ps is : List Int) : Int :=
  let g (l : List Int) (j : Nat) : Int := l.getD j 0
  let pa := alphaOf (g ps 0) (g ps 1) (g ps 2)
  let pb := betaOf (g ps 1) (g ps 2)
  let ia := alphaOf (g is 0) (g is 1) (g is 2)
  let ib := betaOf (g is 1) (g is 2)
  Q15.sat (Num.roundShift (kt * Num.roundShift (pa * ib - pb * ia) 15) (15 - ks))

/-- Flux magnitude of three phases (R318). -/
def fluxMag (ps : List Int) : Nat :=
  let a := alphaOf (ps.getD 0 0) (ps.getD 1 0) (ps.getD 2 0)
  let b := betaOf (ps.getD 1 0) (ps.getD 2 0)
  min 32767 (Num.nearestSqrt (a * a + b * b).toNat)

/-- Samples f (0 shunt, 1 phase voltage) of the trio's cells in calculation order, with the substitutions of a two-leg
trio (R348). -/
def Hw.trioSamples (h : Hw) (t f : Nat) : List (Option Int) :=
  let k := t / 2
  let g := h.phases t
  let raw := g.map (fun c => Q15.val (h.sigIn k (0x100 + 4 * localOf c + f)))
  match (h.trio t).observed with
  | [x] =>
    let live := ((List.zip g raw).filter (fun e => e.1 != x)).map (·.2)
    let sub : Option Int := match live with
      | [some a, some b] =>
        if f = 0 then some (Q15.sat (-(a + b)))
        else if h.terminalLow x then some 0
        else match Q15.val (h.rd (LEG_SAMPLE_V.VPH x)) with
          | some v => some v
          | none => some (Num.roundDiv (a + b) 2)
      | _ => none
    (List.zip g raw).map (fun e => if e.1 = x then sub else e.2)
  | _ => raw

/-- The voltage model and the map correction of one cell (R314). -/
def Hw.psiStep (h : Hw) (c : Nat) (v i : Int) (angle : Option Nat) : Hw :=
  let k := blockOf c
  let q := (h.block k).torque
  let x := h.cell c
  let corr : Int := Bits.get q.corr 15 0
  let lim : Int := Bits.get q.corr 31 16
  let p := x.psi + Num.roundShift (q.gv.getD (localOf c) 0 * v - q.gr.getD (localOf c) 0 * i) 8
  let map? : Option Int := match h.fluxMapOf c, angle with
    | some m, some u => some (mapValue m i u)
    | _, _ => none
  let p := match map? with
    | some m => if corr = 0 then p else p + Num.roundShift (corr * (m * 65536 - p)) 15
    | none => p
  let p := Num.clamp (-(32767 * 65536)) (32767 * 65536) p
  let e := Num.roundShift p 16
  let x := { x with psi := p, est := Q15.code e }
  match map? with
  | some m =>
    if lim ≠ 0 && decide (lim < ((m - e).natAbs : Int)) then h.setCell c { x with residCount := x.residCount + 1 }
    else h.setCell c { x with residCount := 0, residDone := false }
  | none => h.setCell c x

/-- ESTIMATE for one trio: flux, torque, magnitude and sector, and the tracker. -/
def Hw.estimateTrio (h : Hw) (t : Nat) (angle : Option Nat) : Hw :=
  let k := t / 2
  let g := h.phases t
  let base := 0x0F0 + 8 * (t % 2)
  match h.trioSamples t 0, h.trioSamples t 1 with
  | [some i0, some i1, some i2], [some v0, some v1, some v2] =>
    let n := Num.roundDiv (v0 + v1 + v2) 3
    let vs := [v0 - n, v1 - n, v2 - n]
    let is := [i0, i1, i2]
    let h := (List.range 3).foldl (fun acc j => acc.psiStep (g.getD j 0) (vs.getD j 0) (is.getD j 0) angle) h
    let ps := g.map (fun c => Num.roundShift (h.cell c).psi 16)
    let kt := h.ktOf t
    let a := alphaOf (ps.getD 0 0) (ps.getD 1 0) (ps.getD 2 0)
    let b := betaOf (ps.getD 1 0) (ps.getD 2 0)
    let s := sectorOf a b
    let h := (h.setSig k base (Q15.code (torqueOf kt.1 kt.2 ps is))).setSig k (base + 1) (fluxMag ps)
    let h := (h.setSig k (base + 3) s).selWr t (BLK_TRIO_STATE.SECTOR k (t % 2)) s
    h.track t vs is (some (fluxTurn a b))
  | _, _ => (((h.setSig k base 0x8000).setSig k (base + 1) 0x8000).setSig k (base + 3) 0x8000).trackIdle t

/-- ESTIMATE of block k: each step with an invalid angle is counted (R315). -/
def Hw.estimate (h : Hw) (k : Nat) : Hw :=
  let angle := h.fluxAngle k true
  let h := if angle.isNone then h.updBlock k (fun b => { b with angleMissing := Num.incTo 0xFFFF b.angleMissing }) else h
  (h.triosOf k).foldl (fun acc t => acc.estimateTrio t angle) h

/-- ESTIMATE (R313 to R315, R318, R335 to R338, R348). -/
def execEstimate (k : BlockId) (s : State) := s.onLive (fun h => h.laneDo k.val 8 (fun _ x => x.estimate k.val))

/-- ESTIMATOR_RESIDUAL: 64 consecutive steps beyond RESID_LIMIT, recorded once (R317). -/
def Hw.estimatorResidual (h : Hw) (c : Nat) : Hw :=
  let x := h.cell c
  if 64 ≤ x.residCount && !x.residDone then (h.setCell c { x with residDone := true }).blockFault (blockOf c) 0x0D else h

/-- ESTIMATOR_RESIDUAL (R317). -/
def execEstimatorResidual (c : CellId) (s : State) := s.onLive (fun h => h.estimatorResidual c.val)

-- ## Set-point and candidates

/-- T*e of trio t (R319, R421, R442); none where the set-point is invalid. During SS1 a trio in RUN decelerates. -/
def Hw.torqueRef (h : Hw) (t : Nat) : Option Int :=
  let k := t / 2
  let share : Int := h.rd (shareF t)
  let f : Int := Num.signed 16 (h.sigIn k 0x11A)
  let base? : Option Int :=
    if (h.block k).ss1On && h.motion t = 6 then
      match h.owner k with
      | some p => some (-((h.rdI (speedF t)).sign) * Num.roundShift (h.rd (SAFE_SS1_LIM.TORQUE p) * share) 14)
      | none => none
    else (Q15.val (h.sigIn k (2 * (t % 2)))).map (fun r => Q15.sat (Num.roundShift (r * share) 14))
  base?.map (fun b => Q15.sat (derate f b))

/-- The codes of a set of bits. -/
def bitsOf (code : Nat) : Nat := Num.ones 3 code

/-- The zero vector that takes the fewer transitions from the previous code (R320). -/
def zeroVector (prev : Nat) : Nat := if bitsOf prev ≤ 1 then 0 else 7

/-- The mask of the phases in calculation order that are not fenced. -/
def Hw.liveMask (h : Hw) (t : Nat) : Nat :=
  let g := h.phases t
  (List.range 3).foldl (fun m j => m + (if (h.trio t).observed.contains (g.getD j 0) then 0 else 2 ^ j)) 0

/-- The broadcast value f of cell c as a lane operation of block k reads it. -/
def Hw.bcast (h : Hw) (k f c : Nat) : Nat := h.sigIn k (0x120 + 48 * f + c)

/-- One step h of the prediction (R322): fluxes at the scale of Ψ, currents in Q15; `gvr` holds GV and GR. -/
def predictStep (g : List Nat) (gshift : Nat) (ok : List Bool) (gvr : List (Nat × Nat)) (v psi cur : List Int) : List Int × List Int :=
  let dp := (List.range 48).map (fun j =>
    if ok.getD j false then
      Num.roundShift ((gvr.getD j (0, 0)).1 * v.getD j 0 - (gvr.getD j (0, 0)).2 * cur.getD j 0) 8
    else 0)
  let psi' := List.zipWith (fun a b => a + b) psi dp
  let cur' := (List.range 48).map (fun j =>
    if ok.getD j false then
      let s := (List.zipWith (fun (gv : Nat) (d : Int) => Num.signed 16 gv * d) ((g.drop (48 * j)).take 48) dp).foldl (· + ·) 0
      Q15.sat (cur.getD j 0 + Num.roundShift (s * 2 ^ gshift) 31)
    else 0)
  (psi', cur')

/-- Excursion of a flux magnitude from a band (R323). -/
def excursion (lo hi m : Nat) : Int := max (max ((lo : Int) - m) ((m : Int) - hi)) 0

/-- The prediction of one candidate over `n` more steps: the neighbours' largest growth of excursion, and the last values. -/
def predictFrom (n : Nat) (step : List Int → List Int → List Int × List Int) (growth : List Int → Int) (psi cur : List Int) (worst : Int) :
    Int × List Int × List Int :=
  match n with
  | 0 => (worst, psi, cur)
  | m + 1 =>
    let r := step psi cur
    predictFrom m step growth r.1 r.2 (max worst (growth r.1))

/-- VETO for one trio (R322 to R325). -/
def Hw.vetoTrio (h : Hw) (t : Nat) : Hw :=
  let k := t / 2
  match h.owner k, Q15.val (h.sigIn k 0x118) with
  | some p, some vdc =>
    let g := (h.tableOf p 3 0).getD []
    let gshift := h.rd (BLK_DTC_CFG.GSHIFT k)
    let cells := List.range 48
    let ok := cells.map (fun c => h.bcast k 0 c != 0x8000 && h.bcast k 1 c != 0x8000 && h.bcast k 2 c != 0x8000)
    let val (f c : Nat) : Int := if ok.getD c false then Num.signed 16 (h.bcast k f c) else 0
    let gvr := cells.map (fun c =>
      let q := (h.block (blockOf c)).torque
      (q.gv.getD (localOf c) 0, q.gr.getD (localOf c) 0))
    let meanOf (cs : List Nat) (f : Nat → Int) : Int :=
      let l := cs.filter (fun c => ok.getD c false)
      Num.roundDiv ((l.map f).foldl (· + ·) 0) (max l.length 1)
    let held := cells.map (fun c =>
      if !ok.getD c false then 0
      else match h.trioOf c with
        | some u => val 2 c - meanOf (h.trioCells u) (val 2)
        | none => val 2 c)
    let mine := h.phases t
    let psi0 := cells.map (fun c => val 0 c * 65536)
    let cur0 := cells.map (fun c => val 1 c)
    let ns := (List.range 16).filter (fun u => h.bit (BLK_TRIO_CFG.NEIGHBOURS k (t % 2)) u && !(h.trioCells u).isEmpty &&
      (h.trioCells u).all (fun c => h.bcast k 0 c != 0x8000))
    let x (u : Nat) (psi : List Int) : Int :=
      let w := (h.block (u / 2)).torque.veto.getD (u % 2) 0x7FFF0000
      excursion (Bits.get w 15 0) (Bits.get w 31 16) (fluxMag ((h.phases u).map (fun c => Num.roundShift (psi.getD c 0) 16)))
    let base := ns.map (fun u => (u, x u psi0))
    let growth (psi : List Int) : Int := (base.map (fun e => x e.1 psi - e.2)).foldl max (-65536)
    let live := h.liveMask t
    let prev := h.selRd t (BLK_TRIO_STATE.APPLIED k (t % 2))
    let kt := h.ktOf t
    let ref := (h.torqueRef t).getD 0
    let cand (code : Nat) : Cand :=
      let sent (c : Nat) : Int := if code.testBit (mine.idxOf c) then vdc else 0
      let mean := meanOf mine sent
      let v := cells.map (fun c => if mine.contains c then (if ok.getD c false then sent c - mean else 0) else held.getD c 0)
      let r := predictFrom (h.rd (BLK_DTC_STATUS.EFFECTIVE k)) (predictStep g gshift ok gvr v) growth psi0 cur0 (-65536)
      let te := torqueOf kt.1 kt.2 (mine.map (fun c => Num.roundShift (r.2.1.getD c 0) 16)) (mine.map (fun c => r.2.2.getD c 0))
      { code := code, vetoed := decide (0 < r.1), excess := r.1, err := (ref - te).natAbs,
        trans := Num.ones 3 ((code ^^^ prev) &&& live) }
    let codes := (List.range 8).filter (fun code => code &&& live == code)
    h.updTrio t (fun y => { y with cands := codes.map cand, vetoRan := true })
  | _, _ => h

/-- VETO (R322, R323, R325, R327). -/
def execVeto (k : BlockId) (s : State) :=
  s.onLive (fun h => h.laneDo k.val 9 (fun w x =>
    (x.triosOf k.val).foldl (fun acc t => if w.getLsbD (t % 2) then acc.vetoTrio t else acc) x))

/-- The better-ranked of two candidates (R325). -/
def Cand.better (a b : Cand) : Bool :=
  decide (a.err < b.err) || (a.err == b.err && (decide (a.trans < b.trans) || (a.trans == b.trans && decide (a.code < b.code))))

/-- The first candidate by a comparison. -/
def bestBy (f : Cand → Cand → Bool) (cs : List Cand) : Option Cand :=
  match cs with
  | [] => none
  | c :: r => some (r.foldl (fun m x => if f x m then x else m) c)

/-- The torque and flux states after their comparators (R319): −1, 0, 1 and 0, 1. -/
def nextTorque (s e bt : Int) : Int :=
  if bt < e then 1 else if e < -bt then -1 else if (s = 1 && decide (e ≤ 0)) || (s = -1 && decide (0 ≤ e)) then 0 else s
def nextFlux (s : Nat) (e bf : Int) : Nat := if bf < e then 1 else if e < -bf then 0 else s

/-- The vector-state outputs of a trio for a code, in RUN; OFF in the other states, and LOW in BRAKE (R312, R334). -/
def Hw.sendVector (h : Hw) (t code : Nat) : Hw :=
  let k := t / 2
  let g := h.phases t
  (List.range 3).foldl (fun acc j =>
    let v := match h.motion t with
      | 6 => if code.testBit j then 2 else 1
      | 3 => 1
      | _ => 0
    acc.setSig k (0x1B0 + 4 * localOf (g.getD j 0) + 1) v) h

/-- SELECT for one trio (R312, R319 to R321, R326, R329, R348). -/
def Hw.selectTrio (h : Hw) (t : Nat) : Hw :=
  let k := t / 2
  let j := t % 2
  let base := 0x0F0 + 8 * j
  let prev := h.selRd t (BLK_TRIO_STATE.APPLIED k j)
  let live := h.liveMask t
  let ref := h.torqueRef t
  let band := (h.block k).torque.band.getD j 0
  let ts : Int := (h.selRd t (BLK_TRIO_STATE.T_STATE k j) : Int) - 1
  let fs := h.selRd t (BLK_TRIO_STATE.F_STATE k j)
  let fin (h : Hw) (ts : Int) (fs table applied : Nat) (vetoed all held : Bool) : Hw :=
    let h := (h.selWr t (BLK_TRIO_STATE.T_STATE k j) (ts + 1).toNat).selWr t (BLK_TRIO_STATE.F_STATE k j) fs
    let h := (h.selWr t (BLK_TRIO_STATE.TABLE k j) table).selWr t (BLK_TRIO_STATE.APPLIED k j) applied
    let h := ((h.selWr t (BLK_TRIO_STATE.VETOED k j) (Num.ofBool vetoed)).selWr t (BLK_TRIO_STATE.ALL_VETOED k j) (Num.ofBool all)).selWr t
      (BLK_TRIO_STATE.HELD k j) (Num.ofBool held)
    let h := h.updTrio t (fun x => { x with vetoes := if vetoed then Num.incTo 0xFFFF x.vetoes else x.vetoes,
                                            allVetoed := if all then Num.incTo 0xFFFF x.allVetoed else x.allVetoed,
                                            heldSteps := if held then Num.incTo 0xFFFF x.heldSteps else x.heldSteps })
    let h := (h.setSig k (base + 4) (Q15.code ts)).setSig k (base + 5) fs
    let h := (h.setSig k (base + 6) table).setSig k (base + 7)
      (applied + 8 * Num.ofBool vetoed + 16 * Num.ofBool all + 32 * Num.ofBool held)
    (h.updTrio t (fun x => { x with cands := [], vetoRan := false })).sendVector t applied
  let h := (h.updTrio t (fun x => { x with tref := Q15.ofOpt ref })).setSig k (base + 2) (Q15.ofOpt ref)
  match ref, Q15.val (h.sigIn k (2 * j + 1)), Q15.val (h.sigIn k base), Q15.val (h.sigIn k (base + 1)) with
  | some r, some fr, some te, some fl =>
    let ts := nextTorque ts (r - te) (Bits.get band 31 16)
    let fs := nextFlux fs (fr - fl) (Bits.get band 15 0)
    let sec := h.selRd t (BLK_TRIO_STATE.SECTOR k j)
    let tbl := match h.owner k with | some p => (h.tableOf p 1 t).getD [] | none => []
    let code := tbl.getD ((ts + 1).toNat * 12 + fs * 6 + sec) 0
    let code := if h.on (BLK_TRIO_CFG.ZERO_MIN k j) && (code == 0 || code == 7) then zeroVector prev else code
    let code := code &&& live
    let x := h.trio t
    if x.vetoRan && x.cands.any (fun c => c.code == code && c.vetoed) then
      match bestBy Cand.better (x.cands.filter (fun c => !c.vetoed)) with
      | some c => fin h ts fs code c.code true false false
      | none =>
        let least (a b : Cand) : Bool := decide (a.excess < b.excess) || (a.excess == b.excess && a.better b)
        let c := ((bestBy least x.cands).map (·.code)).getD code
        fin h ts fs code c true true false
    else fin h ts fs code code false false false
  | _, _, _, _ =>
    let z := zeroVector prev &&& live
    fin h ts fs z z false false true

/-- SELECT (R312, R313, R319 to R321, R326, R329, R332, R334, R348). -/
def execSelect (k : BlockId) (s : State) :=
  s.onLive (fun h => h.laneDo k.val 0xA (fun w x =>
    (x.triosOf k.val).foldl (fun acc t => if w.getLsbD (t % 2) then acc.selectTrio t else acc) x))

-- ## The throttle (R327)

/-- Whether a control die is at its throttle level, as THROTTLED of every TRIO block shows it. -/
def Hw.throttleBoundary (h : Hw) (on : Bool) : Hw :=
  Num.forEach 8 (fun k acc =>
    if acc.mode k = 1 then
      let hz := acc.rd (BLK_DTC_STATUS.HORIZON k)
      (acc.wrB (BLK_DTC_STATUS.THROTTLED k) on).wr (BLK_DTC_STATUS.EFFECTIVE k) (if on then min hz 2 else hz)
    else acc) h

/-- The latch shows a fence of one of a trio's cells: the flux of a newly fenced cell starts anew (R316, R348). -/
def Hw.latchFences (h : Hw) (t : Nat) : Hw :=
  let old := (h.trio t).observed
  let h := h.observeFences t
  ((h.trio t).observed.filter (fun c => !old.contains c)).foldl (fun acc c => acc.psiInit c) h

end Sys2Proof.Machine
end

