-- ==== Sys2Proof/Machine/Channel.lean ====
section
/-!
DEFINITION. Cell channels (chapter 14): the channel controller of a CHANNEL block, its limits, gating and protection, the charge and
energy accumulators, and the two events that close its work, the end of a precision window and the end of a lane program.
-/
namespace Sys2Proof.Machine

/-- Whether cell c is a channel whose controller runs: until its partition reaches step 5 of a reload (R399, R412). -/
def Hw.isChannel (h : Hw) (c : Nat) : Bool := h.mode (blockOf c) == 3 && h.blockEntered (blockOf c)

/-- Control input 4i + j of channel i (Table 14-2). -/
def Hw.chanIn (h : Hw) (c j : Nat) : Nat := h.rd (BLK_INPUT_VALUE.VALUE (blockOf c) (4 * localOf c + j))

/-- Control input 4i + j read as a signed number. -/
def Hw.chanInI (h : Hw) (c j : Nat) : Int := Num.signed 16 (h.chanIn c j)

/-- COMMAND of channel c; under HOLD a channel acts as if it were 0 (R432). -/
def Hw.chanRaw (h : Hw) (c : Nat) : Nat := if (h.block (blockOf c)).inSafe = 2 then 0 else h.chanIn c 0

/-- COMMAND as the controller takes it: any value but 1 and 2 acts as 0 (R395). -/
def Hw.chanCommand (h : Hw) (c : Nat) : Nat := let v := h.chanRaw c; if v = 1 || v = 2 then v else 0

/-- Whether a state of Table 14-4 runs. -/
def chanRuns (st : Nat) : Bool := st == 1 || st == 2 || st == 3

/-- Set event flag FLAG of a channel that ends, without waking a WAIT (R408). -/
def Hw.chanFlag (h : Hw) (c : Nat) : Hw :=
  if h.on (LEG_CHAN_CFG.FLAG_EN c) then h.wrBit (BLK_SEQ_FLAGS.FLAG (blockOf c)) (h.rd (LEG_CHAN_CFG.FLAG c)) true else h

/-- A channel enters ENDED (5) or FAULT (6) with a reason (R408). -/
def Hw.chanEnd (h : Hw) (c st reason : Nat) : Hw :=
  ((h.wr (LEG_CHAN_STATUS.STATE c) st).wr (LEG_CHAN_STATUS.END_REASON c) reason).chanFlag c

-- ## Temperature (R405)

/-- The temperature of a channel's sensor as the thermal monitor last delivered it, none where it is reported open or shorted. -/
def Hw.chanTemp (h : Hw) (c : Nat) : Option Int :=
  let n := h.rd (LEG_CHAN_CFG.TEMP_SEL c)
  if h.on (TEMP_STATUS.BROKEN n) then none else some (h.rdI (TEMP_STATUS.TEMP n))

/-- The refusals of a latch (R405). A sensor that the partition no longer claims counts as none (DESIGN CHOICE, log entry 74). -/
def Hw.chanRefusals (h : Hw) (c : Nat) : Hw :=
  let x := h.cell c
  let p := (h.owner (blockOf c)).getD 0
  if !h.on (LEG_CHAN_CFG.TEMP_EN c) || !(h.claims p).tempClaim.testBit (h.rd (LEG_CHAN_CFG.TEMP_SEL c)) then
    (h.setCell c { x with chgRefused := true, disRefused := true }).wr (LEG_CHAN_STATUS.TEMP c) 0x8000
  else match h.chanTemp c with
    | none => (h.setCell c { x with chgRefused := true, disRefused := true }).wr (LEG_CHAN_STATUS.TEMP c) 0x7FFF
    | some t =>
      let lo := h.rdI (PART_CHG_WIN.CHG_MIN p)
      let hi := h.rdI (PART_CHG_WIN.CHG_MAX p)
      let dm := h.rdI (PART_DIS_WIN.DIS_MAX p)
      let hy : Int := h.rd (PART_DIS_WIN.HYST p)
      let chg := decide (t < lo) || decide (hi < t) || (x.chgRefused && !(decide (lo + hy ≤ t) && decide (t ≤ hi - hy)))
      let dis := decide (dm < t) || (x.disRefused && !decide (t ≤ dm - hy))
      (h.setCell c { x with chgRefused := chg, disRefused := dis }).wrI (LEG_CHAN_STATUS.TEMP c) t

/-- Whether the channel's present direction is refused; a channel without a direction is never gated (R399). -/
def Hw.chanRefused (h : Hw) (c : Nat) : Bool :=
  match h.rd (LEG_CHAN_STATUS.DIR c) with
  | 1 => (h.cell c).chgRefused
  | 2 => (h.cell c).disRefused
  | _ => false

-- ## Phases (R399 to R404)

/-- 64-bit accumulators: low and high word registers. -/
def Hw.acc64 (h : Hw) (lo hi : RegId) : Int := Num.signed 64 ((h.reg hi).toNat * 2 ^ 32 + (h.reg lo).toNat)

/-- Set a 64-bit accumulator, which stops at ±(2^63 − 1) and then sets ACC_SAT (R409). -/
def Hw.setAcc64 (h : Hw) (c : Nat) (lo hi : RegId) (v : Int) : Hw :=
  let w := Num.clamp (-9223372036854775807) 9223372036854775807 v
  let n := Num.code 64 w
  let h := (h.setReg lo (BitVec.ofNat 32 n)).setReg hi (BitVec.ofNat 32 (n / 2 ^ 32))
  if w = v then h else h.wrB (LEG_CHAN_STATUS.ACC_SAT c) true

/-- A phase entry (R400): CC or CP, law histories cleared, and the phase's counts at 0. -/
def Hw.chanEntry (h : Hw) (c dir : Nat) : Hw :=
  let k := blockOf c
  let v := h.rd (LEG_CHAN_CFG.VLAW c)
  let i := h.rd (LEG_CHAN_CFG.ILAW c)
  let h := h.setLaw k v { h.law k v with clear := true }
  let h := h.setLaw k i { h.law k i with clear := true }
  let x := h.cell c
  let run := chanRuns (h.rd (LEG_CHAN_STATUS.STATE c)) || h.rd (LEG_CHAN_STATUS.STATE c) == 4
  let h := h.setCell c { x with phaseStart := some h.stepCount, iCp := 0,
                                protHigh := if run then x.protHigh else 0, protLow := if run then x.protLow else 0,
                                protLost := if run then x.protLost else 0 }
  let h := ((h.wr (LEG_CHAN_STATUS.STATE c) (h.chanCommand c)).wr (LEG_CHAN_STATUS.END_REASON c) 0).wr (LEG_CHAN_STATUS.DIR c) dir
  ((h.setReg (LEG_ACC_PHASE_LO c) 0).setReg (LEG_ACC_PHASE_HI c) 0).setReg (LEG_CHAN_PHASE_TIME c) 0

/-- The protection counts of a latch (R407): a step that does not meet a condition clears its count. -/
def Hw.chanCounts (h : Hw) (c : Nat) : Hw :=
  let x := h.cell c
  let st := h.rd (LEG_CHAN_STATUS.STATE c)
  if !(chanRuns st || st == 4) then h.setCell c { x with protHigh := 0, protLow := 0, protLost := 0 }
  else match Q15.val x.fastV with
    | none => h.setCell c { x with protHigh := 0, protLow := 0, protLost := Num.incTo 256 x.protLost }
    | some v => h.setCell c { x with
        protHigh := if h.rdI (LEG_CHAN_VLIM.V_MAX c) < v then Num.incTo 256 x.protHigh else 0,
        protLow := if v < h.rdI (LEG_CHAN_VLIM.V_MIN c) then Num.incTo 256 x.protLow else 0, protLost := 0 }

/-- The cause and reason of a protection condition that has lasted more than PROT_STEPS steps. -/
def Hw.chanTripped (h : Hw) (c : Nat) : Option (Nat × Nat) :=
  let x := h.cell c
  let n := h.rd (LEG_CHAN_END.PROT_STEPS c)
  if n < x.protHigh then some (0x14, 7)
  else if n < x.protLow then some (0x15, 8)
  else if n < x.protLost then some (0x16, 9)
  else none

/-- The codes V_q and I_q of a result (R401). -/
def kToQ (k : Nat) : Int := Num.roundShift (Num.signed 24 k) 8

/-- The result that this latch takes, if any (R401). -/
def Hw.chanDue (h : Hw) (c : Nat) : Option (Int × Int × Bool) :=
  match (h.cell c).chanRes with
  | some (n, v, i, ok) => if n = h.stepCount then some (kToQ v, kToQ i, ok) else none
  | none => none

/-- The power current I_CP at a valid result (R403). -/
def Hw.chanPower (h : Hw) (c : Nat) (vq : Int) : Int :=
  let p := h.chanInI c 3
  let lim : Int := (h.chanInI c 1).natAbs
  let mag := if 0 < vq then min lim (Num.roundDiv ((p.natAbs : Int) * 32768) vq.toNat) else lim
  if p < 0 then -mag else if p = 0 then 0 else mag

/-- A valid result in their order: the power current (R403) and the checks of R402. At a change of COMMAND no end is recorded (R412). -/
def Hw.chanChecks (h : Hw) (c : Nat) (commanded : Bool) (vq iq : Int) : Hw :=
  let st := h.rd (LEG_CHAN_STATUS.STATE c)
  let dir := h.rd (LEG_CHAN_STATUS.DIR c)
  let vs := h.chanInI c 2
  let h := if st = 2 then h.setCell c { h.cell c with iCp := Num.code 16 (h.chanPower c vq) } else h
  let reached := (dir == 1 && decide (vs ≤ vq)) || (dir == 2 && decide (vq ≤ vs))
  let h := if (st = 1 || st = 2) && reached then
      if h.on (LEG_CHAN_CFG.CV_EN c) then h.wr (LEG_CHAN_STATUS.STATE c) 3 else if commanded then h else h.chanEnd c 5 2
    else h
  if commanded then h else
  let ie := h.rdI (LEG_CHAN_END.I_END c)
  let h := if h.rd (LEG_CHAN_STATUS.STATE c) = 3 && ie != 0 && decide ((iq.natAbs : Int) ≤ ie) then h.chanEnd c 5 1 else h
  let q := h.rd (LEG_CHAN_QLIM.Q_LIMIT c)
  if chanRuns (h.rd (LEG_CHAN_STATUS.STATE c)) && q != 0 &&
      decide (q * 65536 ≤ (h.acc64 (LEG_ACC_PHASE_LO c) (LEG_ACC_PHASE_HI c)).natAbs) then h.chanEnd c 5 4
  else h

/-- I_LIM of a channel (R404). -/
def Hw.chanLimit (h : Hw) (c : Nat) : Int :=
  let st := h.rd (LEG_CHAN_STATUS.STATE c)
  if !chanRuns st || h.rd (LEG_CHAN_STATUS.DIR c) = 0 then 0
  else if st = 1 || (st = 3 && h.chanCommand c = 1) then h.chanInI c 1
  else Num.signed 16 (h.cell c).iCp

/-- A channel's limit scaled by the region current factor F of the latch (R421). -/
def Hw.chanDerate (h : Hw) (c : Nat) (x : Int) : Int := derate (h.sig (blockOf c) 0x11A : Int) x

/-- The controller variables of a channel (Table 14-3). -/
def Hw.chanVars (h : Hw) (c : Nat) : Hw :=
  let k := blockOf c
  let s := 0xE0 + 4 * localOf c
  let st := h.rd (LEG_CHAN_STATUS.STATE c)
  let dir := h.rd (LEG_CHAN_STATUS.DIR c)
  let ev := match h.chanDue c with
    | some (v, _, true) =>
      if chanRuns st && dir = 1 then Q15.code (v - h.chanInI c 2)
      else if chanRuns st && dir = 2 then Q15.code (h.chanInI c 2 - v) else 0x8000
    | _ => 0x8000
  let lim := h.chanDerate c (h.chanLimit c)
  let sign : Int := if chanRuns st then (if dir = 1 then 32767 else if dir = 2 then -32767 else 0) else 0
  (((h.setSig k s ev).setSig k (s + 1) (Q15.code lim)).setSig k (s + 2) (Q15.code lim.natAbs)).setSig k (s + 3) (Q15.code sign)

/-- A running or gated channel after the entries of a latch: fence, protection, gating, and then the result (R402, R406, R407,
R412). A protection condition is left to its own event, and outranks gating and ends. -/
def Hw.chanRules (h : Hw) (c : Nat) (commanded : Bool) : Hw :=
  let st := h.rd (LEG_CHAN_STATUS.STATE c)
  if h.cellFenced c then (if st = 6 then h else h.chanEnd c 6 10)
  else if (h.chanTripped c).isSome then h
  else if st = 4 then (if h.chanRefused c then h else h.chanEnd c 5 5)
  else if chanRuns st && h.chanRefused c then (h.wr (LEG_CHAN_STATUS.STATE c) 4).cellFault c 0x17
  else if chanRuns st then
    match h.chanDue c with
    | some (v, i, true) => h.chanChecks c commanded v i
    | _ => h
  else h

/-- The channel controller at a sample latch (R399 to R407, R412). -/
def Hw.chanLatch (h : Hw) (c : Nat) : Hw :=
  let raw := h.chanRaw c
  let cmd := h.chanCommand c
  let h := (h.wrB (LEG_CHAN_STATUS.CMD_INVALID c) (decide (2 < h.chanIn c 0))).chanRefusals c
  let x := h.cell c
  let st := h.rd (LEG_CHAN_STATUS.STATE c)
  let dir := h.rd (LEG_CHAN_STATUS.DIR c)
  let v := h.chanInI c (if cmd = 1 then 1 else 3)
  let sgn := if 0 < v then 1 else if v < 0 then 2 else 0
  let new := if sgn = 0 then dir else sgn
  let commanded := decide (x.lastCmd ≠ raw)
  let turned := (chanRuns st || st == 4) && dir != 0 && new != dir
  let h := h.setCell c { x with lastCmd := raw, restartReq := false }
  let h :=
    if cmd = 0 then h.wr (LEG_CHAN_STATUS.STATE c) 0
    else if st ≠ 6 && (commanded || turned || (x.restartReq && st = 5)) then h.chanEntry c sgn
    else h.wr (LEG_CHAN_STATUS.DIR c) new
  let h := match (h.cell c).phaseStart with
    | some n => h.wr (LEG_CHAN_PHASE_TIME.MS c) (min 0xFFFFFFFF ((h.stepCount - n) / 800))
    | none => h
  let h := h.chanCounts c
  let h := if cmd = 0 then h else h.chanRules c commanded
  h.chanVars c

/-- The controller of a CHANNEL block at a latch (R392, R399). -/
def Hw.chanLatches (h : Hw) (k : Nat) : Hw :=
  if h.mode k = 3 then (cellsOf k).foldl (fun acc c => acc.chanLatch c) h else h

/-- The fast cell voltages of a latch (R397). No rounding to Q15 is stated, so a fraction goes up or down freely. -/
def Hw.fastVolts (h : Hw) (fast : List (Option Int)) (lost : Bool) : Hw :=
  Num.forEach 48 (fun c acc =>
    if acc.mode (blockOf c) ≠ 3 then acc
    else
      let ok := !lost && acc.dieGood 6 && acc.rd (measState c) == 3 && acc.on (measSettled c)
      let v := match fast.getD c none with
        | some raw =>
          let k := (calibrated raw (acc.rd (MEAS_CH_CAL_V_OFFSET.OFFSET c)) (acc.rd (MEAS_CH_CAL_V_GAIN.GAIN c))).1
          if ok then Q15.code (k / 256 + Num.ofBool (decide (k % 256 ≠ 0) && Config.roundUp (Num.code 24 k) 256)) else 0x8000
        | none => 0x8000
      acc.setCell c { acc.cell c with fastV := v }) h

/-- CHANNEL_PROTECTION: a protection condition has lasted more than PROT_STEPS steps (R407). -/
def Hw.chanProtect (h : Hw) (c : Nat) : Hw :=
  let st := h.rd (LEG_CHAN_STATUS.STATE c)
  match h.isChannel c && (chanRuns st || st == 4), h.chanTripped c with
  | true, some (cause, reason) => ((h.cellFault c cause).chanEnd c 6 reason).chanVars c
  | _, _ => h

/-- CHANNEL_PROTECTION (R407). -/
def execChannelProtection (c : CellId) (s : State) := s.onLive (fun h => h.chanProtect c.val)

/-- PHASE_TIME_LIMIT: PHASE_TIME has reached T_LIMIT (R402). -/
def Hw.chanTime (h : Hw) (c : Nat) : Hw :=
  let t := h.rd (LEG_CHAN_TLIM.T_LIMIT c)
  if h.isChannel c && chanRuns (h.rd (LEG_CHAN_STATUS.STATE c)) && t != 0 && decide (t ≤ h.rd (LEG_CHAN_PHASE_TIME.MS c)) then
    (h.chanEnd c 5 3).chanVars c
  else h

/-- PHASE_TIME_LIMIT (R402, R408). -/
def execPhaseTimeLimit (c : CellId) (s : State) := s.onLive (fun h => h.chanTime c.val)

/-- A debug halt of block k ends: its channels in CC, CP, CV or GATED end with reason HALT (R412). -/
def Hw.chanAfterHalt (h : Hw) (k : Nat) : Hw :=
  if h.mode k ≠ 3 then h
  else (cellsOf k).foldl (fun acc c =>
    let st := acc.rd (LEG_CHAN_STATUS.STATE c)
    if chanRuns st || st = 4 then acc.chanEnd c 5 6 else acc) h

/-- Activation and re-entry: every channel is IDLE, with its accumulators at 0 and ACC_RUN 0 (R399, R411). -/
def Hw.chanStart (h : Hw) (k : Nat) : Hw :=
  if h.mode k ≠ 3 then h
  else (cellsOf k).foldl (fun acc c =>
    let acc := acc.setCell c { acc.cell c with
      lastCmd := 0, chanRes := none, restartReq := false, iCp := 0, phaseStart := none, protHigh := 0, protLow := 0, protLost := 0,
      chgRefused := false, disRefused := false, fastV := 0x8000, accLast := none, accClear := false, lastV := 0, lastI := 0 }
    [LEG_CHAN_STATUS c, LEG_CHAN_PHASE_TIME c, LEG_ACC_CHARGE_LO c, LEG_ACC_CHARGE_HI c, LEG_ACC_ENERGY_LO c, LEG_ACC_ENERGY_HI c,
     LEG_ACC_PHASE_LO c, LEG_ACC_PHASE_HI c, LEG_ACC_EST_CYCLES c, LEG_ACC_LAST c].foldl (fun b r => b.setReg r r.reset) acc) h

-- ## Registers

/-- CHAN_CTRL (R400, R411). -/
def Hw.chanCtrlWrite (h : Hw) (c : Nat) (v : Word) : Status × Hw :=
  let start := v.getLsbD 0
  let stop := v.getLsbD 1
  let restart := v.getLsbD 3
  if (start && stop) || (restart && h.rd (LEG_CHAN_STATUS.STATE c) != 5) then (.range, h)
  else
    let h := if start then h.wrB (LEG_CHAN_STATUS.ACC_RUN c) true else if stop then h.wrB (LEG_CHAN_STATUS.ACC_RUN c) false else h
    let x := h.cell c
    (.ok, h.setCell c { x with accClear := x.accClear || v.getLsbD 2, restartReq := x.restartReq || restart })

/-- Table 14-1: the settings that channel c requires. -/
def Hw.chanTable (h : Hw) (c : Nat) : Bool :=
  let k := blockOf c
  let i := localOf c
  let v := h.rd (LEG_CHAN_CFG.VLAW c)
  h.rd (LEG_PWM_CFG.MODE c) == 1 && h.on (LEG_PWM_CFG.DUTY_SRC c) && h.rd (LEG_PWM_CFG.CARRIER c) == 0 &&
    h.rd (LEG_COMP_A_CFG.INPUT c) == 0 && !h.on (LEG_COMP_A_CFG.POLARITY c) && h.on (LEG_COMP_A_CFG.THR_SRC c) &&
    h.rd (LEG_COMP_B_CFG.INPUT c) == 0 && h.on (LEG_COMP_B_CFG.POLARITY c) && h.on (LEG_COMP_B_CFG.THR_SRC c) &&
    (List.range 2).all (fun n => h.rd (BLK_CELL_TRIP.SOURCE k i n) == 2 * i + 1 + n && h.rd (BLK_CELL_TRIP.ACTION k i n) == 0 &&
      h.rd (BLK_CELL_TRIP.TARGET k i n) == n + 1 && h.on (BLK_CELL_TRIP.COMP_ON k i n)) &&
    h.on (MEAS_CH_CFG.I_EN c) && h.rd (MEAS_CH_CFG.MODE c) == 2 && h.on (MEAS_CH_CFG.AUTO_START c) &&
    (h.law k v).present && (h.law k (h.rd (LEG_CHAN_CFG.ILAW c))).present && h.rd (BLK_LAW_LIMITS.OUT_MIN k v) == 0

/-- Whether every channel of the active CHANNEL blocks still meets Table 14-1 (R393). -/
def Hw.chanTablesOk (h : Hw) : Bool := (List.range 48).all (fun c => !h.isChannel c || h.chanTable c)

/-- Whether the channel registers of cell c hold V_MIN below V_MAX (R413). -/
def Hw.chanLimitsOk (h : Hw) (c : Nat) : Bool := decide (h.rdI (LEG_CHAN_VLIM.V_MIN c) < h.rdI (LEG_CHAN_VLIM.V_MAX c))

/-- Whether the temperature window of partition p holds CHG_MIN below CHG_MAX (R414). -/
def Hw.chargeWindowOk (h : Hw) (p : Nat) : Bool := decide (h.rdI (PART_CHG_WIN.CHG_MIN p) < h.rdI (PART_CHG_WIN.CHG_MAX p))

/-- Whether a CAL or STOP of converter n is refused because its channel runs (R410). -/
def Hw.measHeld (h : Hw) (n : Nat) (v : Word) : Bool :=
  decide (n < 48) && (v.getLsbD 1 || v.getLsbD 2) && h.isChannel n && chanRuns (h.rd (LEG_CHAN_STATUS.STATE n))

-- ## Accumulators (R409, R410)

/-- The length of a channel converter's window in modulator cycles (R253). -/
def windowCycles (cfg : Word) : Nat :=
  match Bits.get cfg 9 8 with
  | 0 => 200000
  | 1 => 166667
  | _ => 10000 * Bits.get cfg 19 10

/-- The increments of CHARGE and ENERGY for codes over `w` cycles. -/
def chargeOf (i : Int) (w : Nat) : Int := Num.roundShift (i * w) 8
def energyOf (v i : Int) (w : Nat) : Int := Num.roundShift (v * i * w) 31

/-- A window of converter c ends in a channel (R401, R409 to R411): `w` its length, `t` its end in CLK_FAB cycles. -/
def Hw.chanWindow (h : Hw) (c : Nat) (r : MeasResult) (w : Nat) (cm : Bool) : Hw :=
  if !h.isChannel c then h
  else
    let x := h.cell c
    let t := h.fabTime
    let good := r.flags.testBit 0 && !cm
    let v := if good then Num.signed 24 r.v else x.lastV
    let i := if good then Num.signed 24 r.i else x.lastI
    let gap := match x.accLast with
      | some l => if r.flags.testBit 6 then (t - l) / 40 - w else 0
      | none => 0
    let est := (if good then 0 else w) + gap
    let dq := chargeOf i w + chargeOf x.lastI gap
    let de := energyOf v i w + energyOf x.lastV x.lastI gap
    let h := h.setCell c { x with
      accLast := some t, accClear := false, lastV := v, lastI := i,
      chanRes := some ((t + 16 * fabStep + fabStep - 1) / fabStep, r.v, r.i, r.flags.testBit 0) }
    let h := if x.accClear then
        (([LEG_ACC_CHARGE_LO c, LEG_ACC_CHARGE_HI c, LEG_ACC_ENERGY_LO c, LEG_ACC_ENERGY_HI c, LEG_ACC_EST_CYCLES c].foldl
          (fun b r => b.setReg r 0) h).wrB (LEG_CHAN_STATUS.ACC_SAT c) false).wrB (LEG_CHAN_STATUS.ACC_EST c) false
      else h
    let st := h.rd (LEG_CHAN_STATUS.STATE c)
    let h := if chanRuns st || st = 4 then
        h.setAcc64 c (LEG_ACC_PHASE_LO c) (LEG_ACC_PHASE_HI c) (h.acc64 (LEG_ACC_PHASE_LO c) (LEG_ACC_PHASE_HI c) + dq)
      else h
    if h.on (LEG_CHAN_STATUS.ACC_RUN c) then
      let h := h.setAcc64 c (LEG_ACC_CHARGE_LO c) (LEG_ACC_CHARGE_HI c) (h.acc64 (LEG_ACC_CHARGE_LO c) (LEG_ACC_CHARGE_HI c) + dq)
      let h := h.setAcc64 c (LEG_ACC_ENERGY_LO c) (LEG_ACC_ENERGY_HI c) (h.acc64 (LEG_ACC_ENERGY_LO c) (LEG_ACC_ENERGY_HI c) + de)
      let h := h.wr (LEG_ACC_LAST.SEQ c) r.seq
      if est = 0 then h
      else (h.wr (LEG_ACC_EST_CYCLES.CYCLES c) (min 0xFFFFFFFF (h.rd (LEG_ACC_EST_CYCLES.CYCLES c) + est))).wrB
        (LEG_CHAN_STATUS.ACC_EST c) true
    else h

-- ## The end of a precision window (R260)

/-- WINDOW_END: a window that is open ends. Its result registers update, the areas that select it record it, the claimant's
threads see the event, a channel accumulates, and the converter goes on. -/
def Mach.windowEnd (m : Mach) (n : Nat) (rawV rawI : Int) (cm clamp : Bool) (phase : Nat) : Mach :=
  let h := m.hw.atPhase phase
  if h.rd (measState n) = 3 && (h.conv n).isOpen then
    let w := windowCycles (h.conv n).cfgUse
    let r := if n < 48 then h.chanResult n rawV rawI cm clamp phase else h.auxResult n rawV clamp
    let m := (Mach.mk m.mem r.1).captureAll r.2
    m.onHw (fun h =>
      let h := h.measEvent n
      let h := if n < 48 then h.chanWindow n r.2 w cm else h
      h.afterWindow n)
  else m

/-- WINDOW_END (R250, R251, R253, R255, R257 to R260, R262, R263, R266, R268, R273, R409, R410, R574). -/
def execWindowEnd (n : ConvId) (rawV rawI : Int) (cm clamp : Bool) (phase : Fin 500) (s : State) :=
  s.onMach (fun m => m.windowEnd n.val rawV rawI cm clamp phase.val)

-- ## The end of a lane program (R287, R398)

/-- The outputs of a channel at the end of the program (R398). A threshold output that holds 0x8000 keeps it, so that R287 sends
what it carried before. -/
def Hw.chanOutputs (h : Hw) (c : Nat) : Hw :=
  let k := blockOf c
  let s := 0x1B0 + 4 * localOf c
  let q := h.sig k (s + 2)
  let dir := if chanRuns (h.rd (LEG_CHAN_STATUS.STATE c)) then h.rd (LEG_CHAN_STATUS.DIR c) else 0
  let peak : Int := h.chanDerate c (h.rdI (LEG_CHAN_PEAK.PEAK_MAX c))
  let lim (f : Int → Int) : Nat := match Q15.val q with | some v => Q15.code (f v) | none => 0x8000
  match dir with
  | 1 => (((h.setSig k (s + 2) (lim (fun v => min v peak))).setSig k (s + 3) (Q15.code (-32767))).setSig k s
      (h.rd (LEG_CHAN_DUTY.D_CHG c))).setSig k (s + 1) 2
  | 2 => (((h.setSig k (s + 3) (lim (fun v => max v (-peak)))).setSig k (s + 2) 32767).setSig k s
      (h.rd (LEG_CHAN_DUTY.D_DIS c))).setSig k (s + 1) 2
  | _ => ((h.setSig k (s + 1) 0).setSig k (s + 2) 32767).setSig k (s + 3) (Q15.code (-32767))

/-- END of block k's program: the channel controller sets its outputs, the command outputs go into the records, inputs written
by lane outputs take their values, the capture unit takes its point, and the program has ended in this step (R31, R110, R287,
R301, R398). -/
def Mach.laneEnd (m : Mach) (k : Nat) : Mach :=
  match m.hw.laneWord k with
  | some w =>
    if laneOp w = 15 then
      let h := m.hw
      let h := if h.mode k = 3 then (cellsOf k).foldl (fun acc c => acc.chanOutputs c) h else h
      let h := (if h.mode k = 1 then h.torqueShown k else h).laneFinish k
      let m := (Mach.mk m.mem ((h.sendOutputs k).laneWriters k)).capStep k
      m.onHw (fun h => h.updBlock k (fun b => { b with sigEnd := b.sigs, laneRuns := false }))
    else m
  | none => m

/-- END (R31, R110, R287, R398). -/
def execEnd (k : BlockId) (s : State) := s.onMach (fun m => m.laneEnd k.val)

end Sys2Proof.Machine
end

