-- ==== Sys2Proof/Machine/Thermal.lean ====
section
/-!
DEFINITION. Thermal management (chapter 15): the on-die sensors and zones, the external inputs, levels with their hysteresis, and the
actions of the step boundary that follows a reading.
-/
namespace Sys2Proof.Machine

/-- Sensors of die d: first number and count (Table 15-1). -/
def dieSensors (d : Nat) : Nat × Nat :=
  match d with
  | 0 => (0, 8)
  | 1 => (8, 8)
  | 6 => (72, 4)
  | 7 => (76, 2)
  | d => (16 + 14 * (d - 2), 14)

/-- The zone of die d. -/
def dieZone (d : Nat) : Nat := if d ≤ 1 then 0 else d - 1

/-- The sensors of zone z. -/
def zoneSensors (z : Nat) : List Nat :=
  let r (a n : Nat) : List Nat := (List.range n).map (fun i => a + i)
  match z with
  | 0 => r 0 16
  | 5 => r 72 4
  | 6 => r 76 2
  | z => r (16 + 14 * (z - 1)) 14

/-- A reading limited to −55.0 °C and 200.0 °C (R417). -/
def tempLimit (t : Int) : Int := Num.clamp (-550) 2000 t

/-- Levels entered and not left, as bits, after a reading (R420): thresholds and hysteresis of warning, throttle and shutdown. -/
def levelBits (old : Nat) (t : Option Int) (thr hyst : List Int) : Nat :=
  (List.range 3).foldl (fun b j =>
    match t with
    | none => Num.setBit b j true
    | some v =>
      if thr.getD j 0 ≤ v then Num.setBit b j true
      else if v < thr.getD j 0 - hyst.getD j 0 then Num.setBit b j false else b) old

/-- The level in force: the highest entered and not left. -/
def levelOf (b : Nat) : Nat := if b.testBit 2 then 3 else if b.testBit 1 then 2 else if b.testBit 0 then 1 else 0

/-- One sensor's reading, none where its raw value is outside its range: a broken sensor reads 0x7FFF until ten readings in a
row are inside (R418). -/
def Hw.sensorRead (h : Hw) (s : Nat) (v : Option Int) : Hw :=
  match v with
  | none => { (h.setReg (THERM_SENSOR s) 0x17FFF#32) with sensorGood := Tab.put h.sensorGood s 0 0 }
  | some t =>
    let n := Tab.get h.sensorGood s 0 + 1
    if h.on (THERM_SENSOR.BROKEN s) && n < 10 then { h with sensorGood := Tab.put h.sensorGood s n 0 }
    else { ((h.wrB (THERM_SENSOR.BROKEN s) false).wrI (THERM_SENSOR.TEMP s) (tempLimit t)) with
             sensorGood := Tab.put h.sensorGood s 0 0 }

/-- Re-evaluate a zone: its temperature is the highest reading of its sensors (R417, R418, R420). -/
def Hw.zoneRead (h : Hw) (z : Nat) : Hw :=
  let ss := zoneSensors z
  let broken := ss.any (fun s => h.on (THERM_SENSOR.BROKEN s))
  let t := ss.foldl (fun m s => max m (h.rdI (THERM_SENSOR.TEMP s))) (-32768)
  let old := Tab.get h.levels z 0
  let b := levelBits old (if broken then none else some t)
    [h.rd (THERM_LEVELS.WARNING z), h.rd (THERM_LEVELS.THROTTLE z), h.rd (THERM_SHUT.SHUTDOWN z)]
    [h.rd (THERM_HYST.WARN_HYST z), h.rd (THERM_HYST.THR_HYST z), h.rd (THERM_HYST.SHUT_HYST z)]
  let h := { h with levels := Tab.put h.levels z b 0 }
  let h := if b.testBit 0 && !old.testBit 0 then h.incTop (THERM_COUNT.WARNINGS z) else h
  let h := if b.testBit 1 && !old.testBit 1 then h.incTop (THERM_COUNT.THROTTLES z) else h
  ((h.wr (THERM_STATUS.TEMP z) (if broken then 0x7FFF else Num.code 16 t)).wrB (THERM_STATUS.BROKEN z) broken).wr
    (THERM_STATUS.LEVEL z) (levelOf b)

/-- THERMAL_READING: die d reads its sensors, its zone's level follows, the histograms of the zone see a value, and a zone-6
reading judges the write window (R417, R418, R420, R545, R554). -/
def Hw.thermalReading (h : Hw) (d : Nat) (temps : List (Option Int)) : Hw :=
  let r := dieSensors d
  let z := dieZone d
  let h := (List.range (min r.2 temps.length)).foldl (fun acc i => acc.sensorRead (r.1 + i) (temps.getD i none)) h
  let h := (h.zoneRead z).histUpdate (fun s => s == z + 1 || s == 8)
  if z = 6 then h.keepReading (h.rd (THERM_STATUS.TEMP 6)) (h.on (THERM_STATUS.BROKEN 6)) else h

/-- THERMAL_READING (R327, R417, R418, R420 to R423, R425, R545, R554, R560). -/
def execThermalReading (d : DieId) (temps : List (Option Int)) (s : State) := s.onLive (fun h => h.thermalReading d.val temps)

-- ## External inputs (R419)

/-- ln 2 × 2^80. -/
def Num.ln2Scaled : Int := 837963523372001241319907

/-- The terms y^(2i+1) ÷ (2i+1) of the inverse hyperbolic tangent, from the i-th on, at scale 2^80. -/
def Num.atanhTerms (y2 p : Int) (fuel i : Nat) (sum : Int) : Int :=
  match fuel with
  | 0 => sum
  | f + 1 => Num.atanhTerms y2 (p * y2 / 2 ^ 80) f (i + 1) (sum + p / (2 * i + 1 : Nat))

/-- ln(a ÷ b) × 2^80 for positive a and b (R419). -/
def Num.lnScaled (a b : Nat) : Int :=
  let e : Int := (Nat.log2 a : Int) - (Nat.log2 b : Int)
  let n := if 0 ≤ e then a else a * 2 ^ (-e).toNat
  let d := if 0 ≤ e then b * 2 ^ e.toNat else b
  let y : Int := ((n : Int) - d) * 2 ^ 80 / ((n + d : Nat) : Int)
  e * Num.ln2Scaled + 2 * Num.atanhTerms (y * y / 2 ^ 80) y 60 0 0

/-- The temperature in 0.1 °C of a resistance ratio a ÷ b = R ÷ R_NOM: type 1 NTC with B in kelvin, type 2 PTC with α in ppm/K. -/
def elementTemp (typ coef a b : Nat) : Int :=
  if typ = 1 then
    let k : Int := 29815 * coef * 2 ^ 80
    let d : Int := 100 * coef * 2 ^ 80 + 29815 * Num.lnScaled a b
    if d ≤ 0 then 2000 else tempLimit (Num.roundDiv (20 * k - 5463 * d) (2 * d).toNat)
  else tempLimit (Num.roundDiv (((a : Int) - b) * 10000000) (b * coef))

/-- An input with TYPE off reads 0x8000 and is at no level (R419). -/
def Hw.extOff (h : Hw) (n : Nat) : Hw :=
  { (h.setReg (TEMP_STATUS n) 0x80000000#32) with levels := Tab.put h.levels (16 + n) 0 0 }

/-- EXT_TEMP_READING: D6 reads TEMP_n; `volts` is in 100 µV units (R419, R420). -/
def Hw.extTemp (h : Hw) (n volts : Nat) : Hw :=
  let typ := h.rd (TEMP_CFG.TYPE n)
  let h := h.wr (TEMP_RAW.VOLTS n) volts
  if typ = 0 then h.extOff n
  else
    let bad := decide (32000 < volts) || decide (volts < 100)
    let k := if bad then 0 else Tab.get h.sensorGood (128 + n) 0 + 1
    let broken := bad || (h.on (TEMP_STATUS.BROKEN n) && decide (k < 10))
    let h := { h with sensorGood := Tab.put h.sensorGood (128 + n) (if broken then k else 0) 0 }
    let a := if h.on (TEMP_CFG.BIAS n) then volts else 10 * volts
    let t := elementTemp typ (h.rd (TEMP_COEF.COEF n)) a (10 * h.rd (TEMP_CFG.R_NOM n))
    let hy : Int := h.rd (TEMP_SHUT.HYST n)
    let b := levelBits (Tab.get h.levels (16 + n) 0) (if broken then none else some t)
      [h.rdI (TEMP_LEVELS.WARNING n), h.rdI (TEMP_LEVELS.THROTTLE n), h.rdI (TEMP_SHUT.SHUTDOWN n)] [hy, hy, hy]
    let h := { h with levels := Tab.put h.levels (16 + n) b 0 }
    let h := ((h.wr (TEMP_STATUS.TEMP n) (if broken then 0x7FFF else Num.code 16 t)).wrB (TEMP_STATUS.BROKEN n) broken).wr
      (TEMP_STATUS.LEVEL n) (levelOf b)
    h.histUpdate (fun s => s == 0x40 + n)

/-- EXT_TEMP_READING (R405, R419, R420, R425, R554). -/
def execExtTempReading (n : Fin 64) (volts : Nat) (s : State) := s.onLive (fun h => h.extTemp n.val volts)

-- ## Actions at the step boundary after a reading (R420 to R422)

/-- The current factor of zone z (R421). -/
def Hw.zoneFactor (h : Hw) (z : Nat) : Nat :=
  if h.rd (THERM_STATUS.LEVEL z) = 2 then
    let fl : Int := h.rd (THERM_DERATE.FLOOR z)
    let t := h.rdI (THERM_STATUS.TEMP z)
    let thr : Int := h.rd (THERM_LEVELS.THROTTLE z)
    let sh : Int := h.rd (THERM_SHUT.SHUTDOWN z)
    let f := 32767 - Num.roundDiv ((32767 - fl) * (t - thr)) (sh - thr).toNat
    (Num.clamp fl 32767 f).toNat
  else 32767

/-- The shutdown action of zone z (Table 15-2). -/
def Hw.zoneShutdown (h : Hw) (z : Nat) : Hw :=
  match z with
  | 0 => h.chipFaultSet 0x09
  | 5 => ((h.setDie 6 { h.die 6 with hot := true }).measInvalid).d6Invalid 0x26 false
  | 6 => h.chipFaultSet 0x0A
  | z => h.fenceRegion (z - 1) 0x05

/-- A zone has left shutdown (R422, R423). -/
def Hw.zoneLeft (h : Hw) (z : Nat) : Hw :=
  match z with
  | 5 => { h.setDie 6 { h.die 6 with hot := false } with d6Cause := if h.d6Cause = 0x26 then 0 else h.d6Cause }
  | 0 => h
  | 6 => h
  | z =>
    let h := h.clearRegionCause (z - 1) 0x05
    if (h.region (z - 1)).armed then h else h.armRegion (z - 1)

/-- The level of zone z acts. -/
def Hw.zoneAct (h : Hw) (z : Nat) : Hw :=
  let h := if 1 ≤ z && z ≤ 4 then h.wr (THERM_DERATE.F z) (h.zoneFactor z) else h
  let acted := h.thermActed.contains z
  if h.rd (THERM_STATUS.LEVEL z) = 3 then
    if acted then h else ({ h with thermActed := z :: h.thermActed }).zoneShutdown z
  else if acted then ({ h with thermActed := h.thermActed.filter (· != z) }).zoneLeft z
  else h

/-- The level of TEMP_n acts on its claimant: recorded once per entry, and with REACT the safe reaction, which a reloading
claimant takes once it is active again (Table 15-2, R425). Marks 16 + n recorded, 128 + n reacted. -/
def Hw.extAct (h : Hw) (n : Nat) : Hw :=
  if h.rd (TEMP_STATUS.LEVEL n) = 3 then
    match h.tempOwner n with
    | none => h
    | some p =>
      let code := faultCode 4 p 0x27
      let h := if h.thermActed.contains (16 + n) then h
        else ({ h with thermActed := (16 + n) :: h.thermActed }).record code
      if h.on (TEMP_CFG.REACT n) && !h.thermActed.contains (128 + n) && h.active p then
        ({ h with thermActed := (128 + n) :: h.thermActed }).partReact p code
      else h
  else { h with thermActed := h.thermActed.filter (fun x => x != 16 + n && x != 128 + n) }

/-- The step boundary for thermal management: levels act, F takes its value, and the control zone's throttle limits the horizons
(R327, R420, R421). -/
def Hw.thermBoundary (h : Hw) : Hw :=
  let h := Num.forEach 7 (fun z acc => acc.zoneAct z) h
  let h := Num.forEach 64 (fun n acc => acc.extAct n) h
  h.throttleBoundary (decide (2 ≤ h.rd (THERM_STATUS.LEVEL 0)))

/-- Whether the thresholds of zone z satisfy R424. -/
def Hw.zoneOk (h : Hw) (z : Nat) : Bool :=
  let w := h.rd (THERM_LEVELS.WARNING z)
  let t := h.rd (THERM_LEVELS.THROTTLE z)
  let s := h.rd (THERM_SHUT.SHUTDOWN z)
  decide (500 ≤ w ∧ w < t ∧ t < s ∧ s ≤ 1750) && h.rd (THERM_HYST.SHUT_HYST z) != 0 && h.rd (THERM_HYST.THR_HYST z) != 0 &&
    h.rd (THERM_HYST.WARN_HYST z) != 0

/-- Whether the thresholds of TEMP_n satisfy R424. -/
def Hw.extOk (h : Hw) (n : Nat) : Bool :=
  let w := h.rdI (TEMP_LEVELS.WARNING n)
  let t := h.rdI (TEMP_LEVELS.THROTTLE n)
  let s := h.rdI (TEMP_SHUT.SHUTDOWN n)
  decide (-400 ≤ w ∧ w < t ∧ t < s ∧ s ≤ 1750) && h.rd (TEMP_SHUT.HYST n) != 0

/-- The first readings of a start (R423): a region at shutdown is not armed and not fenced, and at shutdown of zones 0 and 6 the start waits. -/
def Hw.thermStart (h : Hw) (temps : List (Option Int)) : Hw :=
  let h := Num.forEach 8 (fun d acc =>
    let r := dieSensors d
    acc.thermalReading d ((temps.drop r.1).take r.2)) { h with thermActed := [], levels := h.levels.filter (fun (e : Nat × Nat) => decide (16 ≤ e.1)) }
  { h with thermActed := [0, 1, 2, 3, 4, 6].filter (fun z => h.rd (THERM_STATUS.LEVEL z) == 3) }

end Sys2Proof.Machine
end

