-- ==== Sys2Proof/Machine/SafetyFns.lean ====
section
/-!
DEFINITION. Safety functions (chapter 16): safety commands and their sources, safety stops and their release, the STO pins, safe
stop 1 with its envelope, and the torque monitor.
-/
namespace Sys2Proof.Machine

-- ## Safety commands and their sources (R429, R430, Table 16-1)

/-- The command a source of partition p holds: a comparator's while confirmed, a pin's by its level, and STO from activation until
the first delivery of a host, a thread or a pair. -/
def Hw.safetySource (h : Hw) (p src : Nat) : Nat :=
  if src < 0x10 then (if h.bit SCMP_STATUS.CONFIRMED src then h.rd (SAFE_SCMP_CMD.CMD src) else 3)
  else if src = 0x40 then (if h.on SAFE_PIN_STATUS.STO_A then 3 else 0)
  else if src = 0x41 then (if h.on SAFE_PIN_STATUS.STO_B then 3 else 0)
  else Tab.get (h.part p).src src 0

/-- The combination held at safety input n of block k: the most restrictive, and RUN where no kind-5 record feeds it (R112, R430). -/
def Hw.safetyInput (h : Hw) (k n : Nat) : Nat :=
  match (h.block k).sec, h.owner k with
  | some b, some p => (b.writers.filter (fun w => w.kind == 5 && w.input == n)).foldl (fun m w => min m (h.safetySource p w.source)) 3
  | _, _ => 3

/-- The safety commands of block k are taken at a latch (R111, R112). -/
def Hw.safetyLatch (h : Hw) (k : Nat) : Hw :=
  h.updBlock k (fun b => { b with safeIns := (List.range 8).map (fun i => h.safetyInput k (120 + i)) })

/-- A source of partition p delivers a command. -/
def Hw.deliver (h : Hw) (p src code : Nat) : Hw :=
  h.setPart p { h.part p with src := Tab.ins (Tab.del (h.part p).src src) src code }

/-- SAFE_p_CMD: a host, or a debug session of scope p, delivers as source 0x0080, and thread t of block k as 0x0100 + 8k + t;
anyone but partition p receives OWNER (R456). -/
def Hw.safeCmdWrite (h : Hw) (q : Requester) (p code : Nat) : Status × Hw :=
  match q with
  | .host o => if o.val = p then (.ok, h.deliver p 0x80 code) else (.owner, h)
  | .debugger o => if o.val = p then (.ok, h.deliver p 0x80 code) else (.owner, h)
  | .thread k t => if h.owner k.val = some p then (.ok, h.deliver p (0x100 + 8 * k.val + t.val) code) else (.owner, h)
  | .unauth _ => (.owner, h)

-- ## Speeds and safe stop 1 (R442 to R444)

/-- The trios in the scope of block k's SS1: its own, or the partition's for a reaction. -/
def Hw.ss1Trios (h : Hw) (k : Nat) : List Nat :=
  match h.owner k with
  | some p => if (h.block k).ss1Wide then (h.blocksOf p).flatMap (fun j => h.triosOf j) else h.triosOf k
  | none => h.triosOf k

/-- |speed| of trio t for the envelope, in 0.1 Hz: that of the unit in TM_UNIT, converted as R366 states, or its SPEED. A unit
without a speed gives a free value (log entry 3). -/
def Hw.envSpeed (h : Hw) (p t : Nat) : Nat :=
  match h.rd (SAFE_CFG.TM_UNIT p) with
  | 0 => (h.rdI (speedF t)).natAbs
  | n + 1 =>
    let fs := max (h.rd (POS_SPEED_FS.SPEED_FS n)) 1
    match h.unitSpeed n h.fabTime with
    | some s => (Num.roundDiv (Q15.sat (Num.roundDiv (s * 32768) fs) * fs) 32768).natAbs
    | none => Config.freeNat (h.fresh + t) % 65536

/-- The largest |speed| of a list of trios. -/
def Hw.topSpeed (h : Hw) (p : Nat) (ts : List Nat) : Nat := ts.foldl (fun m t => max m (h.envSpeed p t)) 0

/-- Whether block k decelerates at all: only TRIO and SIX_STEP blocks do (R442). -/
def Hw.decelerates (h : Hw) (k : Nat) : Bool := h.mode k == 1 || h.mode k == 2

/-- A safety cause found in SS1 of blocks `ks`: recorded once, each goes to its terminal state at the next boundary and is in a
safety stop (R444, Table 16-10). -/
def Hw.ss1Fails (h : Hw) (p cause : Nat) (ks : List Nat) : Hw :=
  if ks.isEmpty then h
  else
    let code := faultCode 7 p cause
    let h := (h.record code).wr (SAFE_STATUS.CAUSE p) code
    ks.foldl (fun acc k => (acc.wrBit (SAFE_STATUS.STOPPED p) k true).updBlock k (fun b => { b with stopEnd := true })) h

/-- Whether the check of block k's envelope fails, with E and the largest speed. -/
def Hw.envelope (h : Hw) (p k : Nat) : Bool × Nat × Nat :=
  let b := h.block k
  let t := (h.stepCount - b.ss1Start) / 800
  let e := (b.ss1Speed - h.rd (SAFE_SS1.DECEL p) * t) + h.rd (SAFE_SS1.MARGIN p)
  let v := h.topSpeed p (h.ss1Trios k)
  (decide (e < v), e, v)

/-- The envelope checks of a frame boundary (R443): D6's monitor lanes check every SS1 of partition p; without valid verdicts of D6 an
SS1 ends (R444). -/
def Hw.envelopes (h : Hw) (p : Nat) : Hw :=
  let ks := (h.blocksOf p).filter (fun k => (h.block k).ss1On)
  if ks.isEmpty then h
  else if !h.dieGood 6 then ks.foldl (fun acc k => acc.updBlock k (fun b => { b with stopEnd := true })) h
  else
    let bad := ks.filter (fun k => (h.envelope p k).1)
    let last := h.envelope p (ks.getLastD 0)
    let h := (h.wr (SAFE_SS1_STATUS.ENVELOPE p) (min last.2.1 0xFFFF)).wr (SAFE_SS1_STATUS.SPEED p) (min last.2.2 0xFFFF)
    { h.ss1Fails p 0x34 bad with fresh := h.fresh + 16 }

/-- SS1_TIMEOUT: MAX_MS has passed in SS1 (R444). -/
def Hw.ss1Timeout (h : Hw) (p : Nat) : Hw :=
  h.ss1Fails p 0x35 ((h.blocksOf p).filter (fun k =>
    (h.block k).ss1On && !(h.block k).stopEnd && decide ((h.block k).ss1Start + 800 * h.rd (SAFE_SS1_LIM.MAX_MS p) ≤ h.stepCount)))

/-- SS1_TIMEOUT (R444). -/
def execSs1Timeout (p : PartId) (s : State) := s.onLive (fun h => h.ss1Timeout p.val)

-- ## The step boundary (R432, R433, R444, R445, Table 16-5)

/-- SS1 of block k ends at this boundary: a cause to end it, verdicts of D6 that are invalid, or every trio in its scope at rest (R444). -/
def Hw.ss1Ends (h : Hw) (k : Nat) : Bool :=
  (h.block k).ss1On && ((h.block k).stopEnd || !h.dieGood 6 || (h.ss1Trios k).all (fun t => h.atRest t))

/-- Block k enters what its command or cause asks for: 0 the terminal state, 1 SS1 first. A release that still waits for its frame boundary
is lost (DEDUCED, log entry 76). -/
def Hw.enterStop (h : Hw) (p k how : Nat) : Hw :=
  let b := h.block k
  let held := h.stopped k || (h.part p).reaction
  let h := if b.stopCause = 0x10000 then h.setPart p { h.part p with reaction := true }
    else
      let h := if !h.stopped k && b.acting = 3 then h.wr (SAFE_STATUS.CAUSE p) 0 else h
      (h.wrBit (SAFE_STATUS.STOPPED p) k true).updBlock k (fun b => { b with release := false })
  if how = 0 then (if b.ss1On then h.endSs1 k else h)
  else if b.ss1On then (if b.acting = 1 then h.updBlock k (fun b => { b with ss1Wide := true }) else h)
  else if held || !h.decelerates k then h
  else
    let wide := b.acting == 1
    let ts := if wide then (h.blocksOf p).flatMap (fun j => h.triosOf j) else h.triosOf k
    let good := h.dieGood 6
    ({ h.beginSs1 k (h.topSpeed p ts) wide with fresh := h.fresh + 16 }).updBlock k (fun b => { b with stopEnd := !good })

/-- The safety command of the last latch and the reactions asked for take effect in block k (R31, R432, R433, R445). -/
def Hw.safeStep (h : Hw) (k : Nat) : Hw :=
  match h.owner k with
  | none => h
  | some p =>
    let cmd := if h.partRuns p then (h.block k).safeIns.getD 0 3 else 3
    let how := min (h.block k).acting (if cmd ≤ 1 then cmd else 3)
    let h := h.updBlock k (fun b => { b with inSafe := cmd })
    let h := if how ≤ 1 then h.enterStop p k how else h
    h.updBlock k (fun b => { b with acting := 3, stopCause := 0 })

/-- Whether the reaction of partition p has reached its terminal state in every block. -/
def Hw.terminalReached (h : Hw) (p : Nat) : Bool :=
  (h.part p).reaction && (h.blocksOf p).all (fun k => !(h.block k).ss1On && (h.block k).acting == 3)

/-- The safety functions at a step boundary: SS1 ends where its end has come, then what the latch and the causes ask for begins. -/
def Hw.safeBoundary (h : Hw) : Hw :=
  let ends := (List.range 8).filter (fun k => h.ss1Ends k)
  let h := ends.foldl (fun acc k => acc.endSs1 k) h
  let h := Num.forEach 8 (fun k acc => acc.safeStep k) h
  Num.forEach 16 (fun p acc =>
    if (acc.part p).reacting && (acc.blocksOf p).all (fun k => !(acc.block k).ss1On) then
      acc.setPart p { acc.part p with reacting := false, reaction := true }
    else acc) h

/-- Whether block k's lanes run: in an active partition, and during the reaction of one that a cause stops, unless the block is
halted or fenced (R442, R474). -/
def Hw.lanesRun (h : Hw) (k : Nat) : Bool :=
  match h.owner k with
  | some p => h.partRuns p && !h.paused k && !h.blockFenced k && !h.regionHolds k
  | none => false

-- ## Start and release of safety stops (R434 to R437)

/-- Whether an STO pin that selects region r is low (R436, R439). -/
def Hw.pinHolds (h : Hw) (r : Nat) : Bool :=
  (!h.on SAFE_PIN_STATUS.STO_A && h.bit SAFE_PIN_CFG.A_REGIONS r) || (!h.on SAFE_PIN_STATUS.STO_B && h.bit SAFE_PIN_CFG.B_REGIONS r)

/-- Whether the conditions of a release hold for block k (R436). -/
def Hw.releasable (h : Hw) (k : Nat) : Bool :=
  decide (2 ≤ h.safetyInput k 120) && !h.pinHolds (k / 2) && !(h.block k).ss1On && !h.on SAFE_PIN_STATUS.DISCREPANCY

/-- An accepted edge outside a chip fault and a shutdown: every stopped block of the partitions in PARTS whose conditions hold is
released at the next frame boundary; an edge that releases nothing is REJECTED (R436, R437). The pin reads high at its acceptance. -/
def Hw.releaseEdge (h : Hw) : Hw :=
  let ks := (List.range 8).filter (fun k =>
    match h.owner k with
    | some p => h.bit SAFE_RESET_CFG.PARTS p && h.stopped k && h.releasable k
    | none => false)
  let h := h.wrB SAFE_PIN_STATUS.SRESET_N true
  if ks.isEmpty then h.incTop SAFE_RESET_COUNT.REJECTED
  else (ks.foldl (fun acc k => acc.updBlock k (fun b => { b with release := true })) h).incTop SAFE_RESET_COUNT.ACCEPTED

/-- Block k leaves its safety stop: its trios are STOPPED, its channels IDLE, and its cells take their commands again (R436). -/
def Hw.releaseBlock (h : Hw) (k : Nat) : Hw :=
  match h.owner k with
  | none => h
  | some p =>
    let h := (h.wrBit (SAFE_STATUS.STOPPED p) k false).updBlock k (fun b => { b with release := false })
    let h := (h.triosOf k).foldl (fun acc t => acc.motionStart t) h
    let h := if h.mode k = 3 then (cellsOf k).foldl (fun acc c => acc.wr (LEG_CHAN_STATUS.STATE c) 0) h else h
    (cellsOf k).foldl (fun acc c =>
      let acc := acc.applyHold c
      if (acc.cell c).running && (acc.cell c).hold == .none then acc.reform c ((acc.cell c).periodTime acc.now) acc.now else acc) h

/-- Releases take effect at a frame boundary. -/
def Hw.releases (h : Hw) : Hw := Num.forEach 8 (fun k acc => if (acc.block k).release then acc.releaseBlock k else acc) h

/-- Activation and re-entry of partition p (R430, R434): every source that delivers holds STO, and every block starts in a safety
stop, or with AUTO_FIRST, or by the edge of a warm restart whose conditions hold (R436), with the command its sources hold. -/
def Hw.safeStart (h : Hw) (p : Nat) : Hw :=
  let h := h.setPart p { h.part p with src := [], reaction := false, reacting := false }
  let h := (((h.wr (SAFE_STATUS.CAUSE p) 0).wr (SAFE_STATUS.SS1 p) 0).wr (SAFE_STATUS.STOPPED p) 0)
  (h.blocksOf p).foldl (fun acc k =>
    let ins := (List.range 8).map (fun i => acc.safetyInput k (120 + i))
    let free := acc.on (SAFE_CFG.AUTO_FIRST p) || (acc.edgeRelease.testBit p && acc.releasable k)
    let acc := acc.updBlock k (fun b => { b with safeIns := ins, inSafe := ins.getD 0 3, acting := 3, stopCause := 0, release := false,
                                                 ss1On := false, stopEnd := false })
    if free && decide (2 ≤ ins.getD 0 3) then acc else acc.wrBit (SAFE_STATUS.STOPPED p) k true) h

-- ## The STO pins (R438 to R441)

/-- Bring the hardware holds in line with the pins: a newly held region's SS1s and freezes end, and its cells take their terminal
state at once; a region that no pin holds keeps what the command path holds (R220, R439, R440). -/
def Hw.syncSto (h : Hw) : Hw :=
  Num.forEach 4 (fun r acc =>
    let on := acc.pinHolds r
    if (acc.region r).sto = on then acc
    else
      let acc := (acc.setRegion r { acc.region r with sto := on }).wrBit SAFE_PIN_STATUS.REGION_HOLD r on
      let acc := if on then (blocksOfRegion r).foldl (fun a k =>
          let a := if (a.block k).ss1On then a.endSs1 k else a
          (cellsOf k).foldl (fun b c => b.wrB (LEG_PWM_STATUS.FROZEN c) false) (a.wrBit DBG_HALT.FROZEN k false)) acc
        else acc
      (List.range 12).foldl (fun a i => a.applyHold (12 * r + i)) acc) h

/-- A pin takes a level. -/
def Hw.setPin (h : Hw) (b level : Bool) : Hw :=
  (h.wrB (if b then SAFE_PIN_STATUS.STO_B else SAFE_PIN_STATUS.STO_A) level).syncSto

/-- STO_PIN_FALL (R21, R220, R438 to R440, R454): it needs no clock. -/
def execStoPinFall (b : Bool) (s : State) := s.onHw (fun h => h.setPin b false)

/-- STO_PIN_RISE (R440): only the hardware hold ends. -/
def execStoPinRise (b : Bool) (s : State) := s.onHw (fun h => h.setPin b true)

/-- Whether the two pins differ. -/
def Hw.pinsDiffer (h : Hw) : Bool := h.on SAFE_PIN_STATUS.STO_A != h.on SAFE_PIN_STATUS.STO_B

/-- STO_DISCREPANCY: the pins have differed for more than DISC_MS (R441). -/
def Hw.stoDiscrepancy (h : Hw) : Hw :=
  if h.on SAFE_PIN_CFG.DISC_EN && h.rd SAFE_PIN_CFG.A_REGIONS == h.rd SAFE_PIN_CFG.B_REGIONS && h.pinsDiffer &&
      !h.on SAFE_PIN_STATUS.DISCREPANCY then
    (h.wrB SAFE_PIN_STATUS.DISCREPANCY true).record (faultCode 7 63 0x33)
  else h

/-- STO_DISCREPANCY (R441). -/
def execStoDiscrepancy (s : State) := s.onLive Hw.stoDiscrepancy

/-- DISCREPANCY_CLEARED: both pins have read the same level for DISC_MS (R441). -/
def execDiscrepancyCleared (s : State) :=
  s.onLive (fun h => if h.pinsDiffer then h else h.wrB SAFE_PIN_STATUS.DISCREPANCY false)

-- ## The torque monitor (R446 to R449)

/-- T_m of trio t from the sense-cell averages and the angle of the unit in TM_UNIT; none where R447 computes none. -/
def Hw.monitorTorque (h : Hw) (p t : Nat) : Option Int :=
  match h.rd (SAFE_CFG.TM_UNIT p) with
  | 0 => none
  | n + 1 =>
    let g := h.phases t
    let is := g.map (fun c => Q15.val (h.rd (LEG_SAMPLE_I.SENSE c)))
    match is with
    | [some a, some b, some c] =>
      if g.all (fun x => decide (4 ≤ Bits.get (h.reg (LEG_SAMPLE_STATUS x)) 6 3)) && (h.posUnit n).valid && h.on (POS_CFG.ENABLE n) then
        let th := (h.elecAngle n + h.rd (SAFE_TRIO_TM_CFG.ANGLE_OFS t)) % 65536
        let ia := alphaOf a b c
        let ib := betaOf b c
        let iq := Num.roundShift (ib * Num.cosRound 32767 th 65536 - ia * Num.sinRound 32767 th 65536) 15
        some (Q15.sat (Num.roundShift (h.rd (SAFE_TM_KT.KT p) * iq) (15 - h.rd (SAFE_TM_KT.KS p))))
      else none
    | _ => none

/-- A latch for the monitor of trio t: while the trio is in RUN with TM_EN, the step counts towards the window, and T_m with T*e where
it is computed; copies that differ leave the trio out for the step (R446, R447). Leaving RUN starts anew. -/
def Hw.monitorLatch (h : Hw) (t : Nat) (differ : Bool) : Hw :=
  let k := t / 2
  match h.owner k with
  | none => h
  | some p =>
    let x := h.trio t
    if h.partRuns p && h.mode k == 1 && h.motion t == 6 && h.on (SAFE_CFG.TM_EN p) && !h.halted k then
      if x.tmDue then h
      else
        let due := decide (h.rd (SAFE_CFG.WINDOW p) ≤ x.tmSteps + 1)
        match (if differ || !h.dieGood 6 then none else h.monitorTorque p t), Q15.val x.tref with
        | some tm, some te => h.setTrio t { x with tmSteps := x.tmSteps + 1, tmN := x.tmN + 1, tmT := x.tmT + tm, tmE := x.tmE + te,
                                                   tmDue := due }
        | _, _ => h.setTrio t { x with tmSteps := x.tmSteps + 1, tmDue := due }
    else h.setTrio t { x with tmSteps := 0, tmN := 0, tmT := 0, tmE := 0, tmDue := false, blind := 0, blindDone := false }

/-- A torque monitor's cause in partition p: R445 applies, and an SS1 ends in its terminal state (R448). -/
def Hw.monitorFails (h : Hw) (p : Nat) : Hw :=
  (h.blocksOf p).foldl (fun acc k => if (acc.block k).ss1On then acc.updBlock k (fun b => { b with stopEnd := true }) else acc)
    (h.safetyCause p 0x36)

/-- Whether a window fails (R448): |ΣT − ΣE| ÷ n > ABS + floor(REL × |ΣE| ÷ (256 × n)). -/
def windowFails (tm te : Int) (n absTol rel : Nat) : Bool :=
  decide (n * (absTol + rel * te.natAbs / (256 * n)) < (tm - te).natAbs)

/-- TORQUE_MONITOR_WINDOW: a complete window of trio t is evaluated, or counts as blind (R448, R449). -/
def Hw.monitorWindow (h : Hw) (t : Nat) : Hw :=
  match h.owner (t / 2) with
  | none => h
  | some p =>
    let x := h.trio t
    if !x.tmDue then h
    else
      let clear (y : Trio) : Trio := { y with tmSteps := 0, tmN := 0, tmT := 0, tmE := 0, tmDue := false }
      if h.rd (SAFE_CFG.WINDOW p) ≤ 2 * x.tmN && x.tmN != 0 then
        let fail := windowFails x.tmT x.tmE x.tmN (h.rd (SAFE_TM_TOL.ABS p)) (h.rd (SAFE_TM_TOL.REL p))
        let h := h.setTrio t { clear x with blind := 0, blindDone := false }
        let h := (h.wr (SAFE_TRIO_TM_STATUS.LAST_DIFF t) (min (Num.shown (x.tmT - x.tmE).natAbs x.tmN) 0xFFFF)).wrB
          (SAFE_TRIO_TM_STATUS.EVALUATED t) true
        if fail then
          let h := h.incTop (SAFE_TRIO_TM_STATUS.FAILS t)
          if h.rd (SAFE_CFG.COUNT p) ≤ h.rd (SAFE_TRIO_TM_STATUS.FAILS t) then h.monitorFails p else h
        else h.wr (SAFE_TRIO_TM_STATUS.FAILS t) 0
      else
        let h := (h.setTrio t { clear x with blind := x.blind + 1 }).wrB (SAFE_TRIO_TM_STATUS.EVALUATED t) false
        if h.rd (SAFE_CFG.BLIND p) ≤ x.blind + 1 && !x.blindDone then
          let h := h.updTrio t (fun y => { y with blindDone := true })
          if h.on (SAFE_CFG.BLIND_ACTION p) then h.safetyCause p 0x37 else h.record (faultCode 7 p 0x37)
        else h

/-- TORQUE_MONITOR_WINDOW (R445, R448, R449). -/
def execTorqueMonitorWindow (t : TrioId) (s : State) := s.onLive (fun h => h.monitorWindow t.val)

end Sys2Proof.Machine
end

