-- ==== Sys2Proof/Machine/Ring.lean ====
section
/-!
DEFINITION. The Ringmaster (chapter 5): threads and their states, event flags, the wakes of WAIT, COMMIT requests and deadlock.
-/
namespace Sys2Proof.Machine

-- ## Threads (R141, R142, R160, Table 5-3)

/-- General register g; G_0 reads 0 (R141). -/
def Hw.gen (h : Hw) (k t g : Nat) : Word := if g = 0 then 0 else h.reg (BLK_SEQ_DBG_G k t g)

/-- Set a general register; a write to G_0 is ignored (R141). -/
def Hw.setGen (h : Hw) (k t g : Nat) (w : Word) : Hw := if g = 0 then h else h.setReg (BLK_SEQ_DBG_G k t g) w

/-- A thread's registers and return stack are cleared, and it is IDLE (R142). -/
def Hw.clearThread (h : Hw) (k t : Nat) : Hw :=
  let h := Num.forEach 16 (fun g acc => acc.setReg (BLK_SEQ_DBG_G k t g) 0) h
  ((h.setThread k t {}).setReg (BLK_SEQ_PC k t) 0).wr (BLK_SEQ_STATE.THREAD k t) 0

/-- A thread starts at its THREAD_START word (R142, R160). -/
def Hw.startThread (h : Hw) (k t : Nat) : Hw :=
  let st := match (h.block k).seq with | some s => s.start.getD t 0 | none => 0
  let h := (h.clearThread k t).setReg (BLK_SEQ_PC k t) (BitVec.ofNat 32 (codeBase k + 4 * st))
  (h.wr (BLK_SEQ_STATE.THREAD k t) 1).breakBlocked k

/-- Activation and re-entry of block k: every thread and the event flags are cleared, and the enabled threads start (R142). -/
def Hw.threadsStart (h : Hw) (k : Nat) : Hw :=
  let h := (h.setReg (BLK_SEQ_FLAGS k) 0).updBlock k (fun b => { b with lastThread := 7 })
  let en := match (h.block k).seq with | some s => s.enable | none => 0
  Num.forEach 8 (fun t acc => if en.testBit t then acc.startThread k t else acc.clearThread k t) h

/-- STOP of one thread: at its next instruction boundary, after an access in flight (R160). -/
def Hw.stopThread (h : Hw) (k t : Nat) : Hw :=
  let st := h.threadState k t
  if st = 1 || st = 2 then h.wr (BLK_SEQ_STATE.THREAD k t) 4
  else if st = 3 then h.updThread k t (fun x => { x with stopReq := true })
  else h

/-- BLK_k_SEQ_CTRL (R160). -/
def Hw.seqCtrlWrite (h : Hw) (k : Nat) (v : Word) : Status × Hw :=
  let start := Bits.get v 7 0
  let stop := Bits.get v 15 8
  if start &&& stop ≠ 0 then (.range, h)
  else (.ok, Num.forEach 8 (fun t acc =>
    let st := acc.threadState k t
    if start.testBit t && (st == 0 || st == 4 || st == 5) then acc.startThread k t
    else if stop.testBit t then acc.stopThread k t
    else acc) h)

-- ## Flags and wakes (R151, R152, R473)

/-- A WAITING thread wakes with the sources that fired. -/
def Hw.wakeThread (h : Hw) (k t fired : Nat) : Hw :=
  let h := h.updThread k t (fun x => { x with mask := 0, sources := 0, fired := 0 })
  ((h.advance k t).setGen k t 15 (BitVec.ofNat 32 fired)).breakBlocked k

/-- Flags of block k are set by a thread of the partition (`src` 0) or by the host or a debug session (1). Each waiting thread that
declares the source and whose mask holds a flag wakes; in a halted block it wakes after the halt (R473). -/
def Hw.setFlags (h : Hw) (k : Nat) (flags : Word) (src : Nat) : Hw :=
  let v := h.reg (BLK_SEQ_FLAGS k) ||| flags
  let h := h.setReg (BLK_SEQ_FLAGS k) v
  Num.forEach 8 (fun t acc =>
    let x := acc.thread k t
    if acc.threadState k t = 2 && x.sources.testBit src && (x.mask &&& flags.toNat) != 0 then
      if acc.paused k then acc.updThread k t (fun y => { y with fired := y.fired ||| 2 ^ src })
      else acc.wakeThread k t (2 ^ src)
    else acc) h

/-- Flags of block k are cleared (R163). -/
def Hw.clearFlags (h : Hw) (k : Nat) (flags : Word) : Hw :=
  h.setReg (BLK_SEQ_FLAGS k) (h.reg (BLK_SEQ_FLAGS k) &&& ~~~flags)

/-- Whether the present step opens a frame (R58). -/
def Hw.frameDue (h : Hw) : Bool := h.stepCount % max (h.rd FRAME_CFG.FRAME_STEPS) 1 == 0

/-- The sources of a waiting thread that fire at the present boundary: flags set during a halt, STEP where the boundary is the thread's
next one, FRAME at a frame boundary, and a TIMEOUT that has come. -/
def Hw.dueSources (h : Hw) (k t : Nat) (step : Bool) : Nat :=
  let x := h.thread k t
  x.fired + (if step && x.sources.testBit 2 then 4 else 0) + (if h.frameDue && x.sources.testBit 3 then 8 else 0) +
    (if x.sources.testBit 4 && decide (x.timeout ≤ h.stepCount) then 16 else 0)

/-- The step boundary for block k's waiting threads: STEP wakes, and flags set during a halt that has ended. In a halted block no source
is evaluated and TIMEOUT does not count (R473). -/
def Hw.stepWakes (h : Hw) (k : Nat) : Hw :=
  Num.forEach 8 (fun t acc =>
    let x := acc.thread k t
    if acc.threadState k t ≠ 2 then acc
    else if acc.paused k then (if x.sources.testBit 4 then acc.setThread k t { x with timeout := x.timeout + 1 } else acc)
    else if x.fired != 0 || x.sources.testBit 2 then acc.wakeThread k t (acc.dueSources k t true)
    else acc) h

/-- Order 7 of a frame boundary: FRAME wakes. -/
def Hw.frameWakes (h : Hw) (k : Nat) : Hw :=
  Num.forEach 8 (fun t acc =>
    if acc.threadState k t = 2 && (acc.thread k t).sources.testBit 3 && !acc.paused k then
      acc.wakeThread k t (acc.dueSources k t false ||| 8)
    else acc) h

/-- WAIT_TIMEOUT: the TIMEOUT-th step boundary after the WAIT has been reached (R151). -/
def Hw.waitTimeout (h : Hw) (k t : Nat) : Hw :=
  let x := h.thread k t
  if h.threadState k t = 2 && x.sources.testBit 4 && decide (x.timeout ≤ h.stepCount) && !h.paused k then
    h.wakeThread k t (h.dueSources k t false)
  else h

/-- WAIT_TIMEOUT (R151). -/
def execWaitTimeout (k : BlockId) (t : ThreadId) (s : State) := s.onLive (fun h => h.waitTimeout k.val t.val)

-- ## COMMIT (R134, R161)

/-- A request for COMMIT of partition p; while p is not active it is discarded with NOT_READY. -/
def Hw.requestCommit (h : Hw) (p : Nat) : Status × Hw :=
  if h.active p then (.ok, h.setPart p { h.part p with commitReq := true }) else (.notReady, h)

/-- The sample of cycle 460: the requests of each partition form one COMMIT, which is counted and captured for its unfenced cells, its
laws and its torque-control registers (R134, R161, R209, R292, R330). -/
def Hw.commitParts (h : Hw) : Hw :=
  Num.forEach 16 (fun p acc =>
    if acc.active p && (acc.part p).commitReq then
      let acc := (acc.setPart p { acc.part p with commitReq := false }).inc (RM_COMMIT_COUNT.COUNT p)
      let acc := acc.captureSets p
      (acc.blocksOf p).foldl (fun a k => (a.captureLaws k).captureTorque k) acc
    else acc.setPart p { acc.part p with commitReq := false }) h

/-- COMMIT_SAMPLE: COMMITs are formed, and a block whose lanes have not completed is fenced with LANE_OVERRUN (R134, R139). -/
def Hw.commitSample (h : Hw) : Hw :=
  let late := (List.range 8).filter (fun k => (h.block k).laneRuns)
  late.foldl (fun acc k => acc.fenceBlock k 0x0C) h.commitParts

/-- COMMIT_SAMPLE (R134, R139, R161, R209, R292, R330). -/
def execCommitSample (s : State) := s.onLive Hw.commitSample

-- ## Deadlock (R153 to R155)

/-- Whether partition p is blocked. -/
def Hw.partBlocked (h : Hw) (p : Nat) : Bool :=
  let ks := (h.blocksOf p).filter (fun k => !h.blockFenced k && !h.regionHolds k)
  let ts := ks.flatMap (fun k => (List.range 8).map (fun t => (h.threadState k t, (h.thread k t).sources)))
  h.active p && (h.blocksOf p).all (fun k => !h.halted k) && ts.any (fun e => e.1 == 2) &&
    ts.all (fun e => e.1 == 0 || e.1 == 4 || e.1 == 5 || e.1 == 6 || (e.1 == 2 && e.2 == 1))

/-- Order 2 of a frame boundary: DEADLOCK of each partition that has been blocked since the previous one (R153, R154). -/
def Hw.deadlocks (h : Hw) : Hw :=
  Num.forEach 16 (fun p acc =>
    let b := acc.partBlocked p
    let before := acc.rmBlocked.testBit p
    let acc := ({ acc with rmBlocked := Num.setBit acc.rmBlocked p b }).wrBit RM_WAIT_ALL.PART p b
    if b && before then
      let acc := (acc.wrBit RM_DEADLOCK.PART p true).partCause p 0x22
      { acc.setPart p { acc.part p with deadlock := true } with rmBlocked := Num.setBit acc.rmBlocked p false }
    else acc) h

/-- DEADLOCK_FENCE: the reaction of a deadlocked partition has reached its terminal state, and its blocks are fenced without a block
cause (R154). -/
def Hw.deadlockFence (h : Hw) (p : Nat) : Hw :=
  if (h.part p).deadlock && h.terminalReached p then (h.blocksOf p).foldl (fun acc k => acc.fenceBlockOnly k) h else h

/-- DEADLOCK_FENCE (R154). -/
def execDeadlockFence (p : PartId) (s : State) := s.onLive (fun h => h.deadlockFence p.val)

end Sys2Proof.Machine
end

