-- ==== Sys2Proof/Machine/Can.lean ====
section
/-!
DEFINITION. The CAN FD interfaces (chapter 18) with the safe pairs of chapter 16: controllers and their states, message objects, the
schedule matrix, latch instants, and Roll call. Host transactions and bitstream pieces over CAN stand with their units.
-/
namespace Sys2Proof.Machine

-- ## Channels

/-- The PLATFORM record of channel n in force; until a PLATFORM is active, channel 0 runs at 500 kbit/s and 2 Mbit/s (R96). -/
def Hw.canCfg (h : Hw) (n : Nat) : CanChan :=
  match h.platform with
  | some p => p.chans.getD n {}
  | none => if n = 0 then { nom := 500, data := 2000, columnBits := 16384, flags := 1 } else {}

/-- Whether channel n is in restricted operation mode (R481). -/
def Hw.canRestricted (h : Hw) (n : Nat) : Bool := (h.canCfg n).flags.testBit 1

/-- The state of controller n (Table 18-7). -/
def Hw.canState (h : Hw) (n : Nat) : Nat := h.rd (CAN_STATUS.STATE n)

/-- Whether controller n stores frames, and whether it may send. -/
def Hw.canHears (h : Hw) (n : Nat) : Bool := let s := h.canState n; s == 2 || s == 3 || s == 4 || s == 6
def Hw.canSends (h : Hw) (n : Nat) : Bool := let s := h.canState n; s == 3 || s == 4

/-- Change a channel's hidden state. -/
def Hw.updChan (h : Hw) (n : Nat) (f : CanCh → CanCh) : Hw := h.setChan n (f (h.chan n))

/-- CLK_CAN cycles of a step, and of a column of channel n (R480, R486). -/
def canStepCycles : Nat := 100
def Hw.columnCycles (h : Hw) (n : Nat) : Nat := (h.canCfg n).columnBits * (80000 / max (h.canCfg n).nom 1)

/-- L of a frame on channel n (R487; the length is that of ISO 11898-1, log entry 2). -/
def Hw.frameBits (h : Hw) (n : Nat) (f : CanFrame) : Nat :=
  Config.frameLength f.extended f.fd f.brs (h.canCfg n).nom (h.canCfg n).data f.data.length

/-- Fault confinement after a change of an error counter (R479): error passive above 127, and active again when both are at most 127. -/
def Hw.canConfine (h : Hw) (n : Nat) : Hw :=
  let bad := decide (127 < h.rd (CAN_ERR.TEC n)) || decide (127 < h.rd (CAN_ERR.REC n))
  if h.canState n = 3 && bad then (h.wr (CAN_STATUS.STATE n) 4).record (faultCode 5 n 2)
  else if h.canState n = 4 && !bad then h.wr (CAN_STATUS.STATE n) 3
  else h

/-- A bus error while receiving: one error frame, and REC rises (R479). In restricted operation neither happens (R481). -/
def Hw.canBusError (h : Hw) (n : Nat) : Hw :=
  if h.canHears n && !h.canRestricted n then (h.incTop (CAN_ERR.REC n)).canConfine n else h

/-- BUS_ERROR (R479). -/
def execBusError (n : ChanId) (s : State) := s.onLive (fun h => h.canBusError n.val)

/-- A frame has been received without an error: REC falls (R479). -/
def Hw.canHeard (h : Hw) (n : Nat) : Hw :=
  if h.canRestricted n then h
  else
    let r := h.rd (CAN_ERR.REC n)
    (h.wr (CAN_ERR.REC n) (if 127 < r then 127 else r - 1)).canConfine n

-- ## Objects (R482 to R485)

/-- FLAGS of an object record (Table 3-14). -/
def ObjRec.transmits (r : ObjRec) : Bool := r.flags.testBit 0
def ObjRec.isFd (r : ObjRec) : Bool := r.flags.testBit 1
def ObjRec.rateSwitch (r : ObjRec) : Bool := r.flags.testBit 2
def ObjRec.isExtended (r : ObjRec) : Bool := r.flags.testBit 3
def ObjRec.paired (r : ObjRec) : Bool := r.flags.testBit 4

/-- The primary object of a pair lies on channel 0 or 2, its partner on channel 1 or 3. -/
def ObjRec.isPrimary (r : ObjRec) : Bool := r.chan % 2 == 0

/-- Change an object's hidden state. -/
def Hw.updObj (h : Hw) (o : Nat) (f : Obj → Obj) : Hw := h.setObj o (f (h.obj o))

/-- The configured objects that a condition selects, in order. -/
def Hw.objsWhere (h : Hw) (f : ObjRec → Bool) : List Nat :=
  h.objs.filterMap (fun e => match e.2.cfg with | some r => if f r then some e.1 else none | none => none)

/-- Whether partition p takes part in the message buses: active, or fenced, but not while it reloads (R117, R498). -/
def Hw.canPart (h : Hw) (p : Nat) : Bool := h.rd (PART_RUN.STATE p) == 1 || h.rd (PART_RUN.STATE p) == 2

/-- Whether object o's claimant takes part. -/
def Hw.objLive (h : Hw) (o : Nat) : Bool :=
  match h.objOwner o with
  | some p => h.canPart p
  | none => false

/-- The first n bytes of an object's buffer (R511). -/
def Hw.objBytes (h : Hw) (o n : Nat) : List Byte :=
  ((List.range 16).flatMap (fun w => Num.bytesLE 4 (h.reg (OBJ_DATA o w)).toNat)).take n

/-- Write an object's buffer. -/
def Hw.setObjBytes (h : Hw) (o : Nat) (d : List Byte) : Hw :=
  Num.forEach ((d.length + 3) / 4) (fun w acc =>
    acc.setReg (OBJ_DATA o w) (BitVec.ofNat 32 (Num.ofBytesLE ((d.drop (4 * w)).take 4)))) h

/-- An event of object o is stamped and counted (R483, Table 18-8). -/
def Hw.objStamp (h : Hw) (o : Nat) : Hw :=
  ((h.setReg (OBJ_STAMP o) (BitVec.ofNat 32 h.stepCount)).wr (OBJ_INFO.PHASE o) h.phase).inc (OBJ_FRAMES.COUNT o)

/-- A frame is stored in object o, and the NEW_DATA event reaches every block of the claimant (R483). -/
def Hw.objStore (h : Hw) (o : Nat) (d : List Byte) : Hw :=
  let h := h.setObjBytes o d
  let h := if h.on (OBJ_STATUS.NEW_DATA o) then (h.wrB (OBJ_STATUS.LOST o) true).incTop (OBJ_INFO.LOST_COUNT o) else h
  let h := ((h.wrB (OBJ_STATUS.NEW_DATA o) true).objStamp o).updObj o (fun x => { x with fresh := true })
  match h.objOwner o with
  | some p => (h.blocksOf p).foldl (fun acc k => acc.wakeEvent k 0x1000) h
  | none => h

/-- OBJ_o_CTRL (R485, R489): RANGE for a receive object or more than one request. -/
def Hw.objCtrlWrite (h : Hw) (o : Nat) (v : Word) : Status × Hw :=
  match (h.obj o).cfg with
  | none => (.range, h)
  | some r =>
    let n := Bits.get v 2 0
    if !r.transmits && n != 0 then (.range, h)
    else match n with
      | 0 => (.ok, h)
      | 1 => (.ok, h.wrB (OBJ_STATUS.OPEN o) true)
      | 2 => (.ok, h.wrB (OBJ_STATUS.OPEN o) false)
      | 4 => (.ok, (h.wrB (OBJ_STATUS.PENDING o) true).updObj o (fun x => { x with pend := false }))
      | _ => (.range, h)

/-- A data word of an object (R485): writable in an open transmit object; the words of a receive object are read-only. -/
def Hw.objDataWrite (h : Hw) (o w : Nat) (v : Word) : Status × Hw :=
  match (h.obj o).cfg with
  | none => (.notReady, h)
  | some r =>
    if !r.transmits then (.ok, h)
    else if h.on (OBJ_STATUS.OPEN o) then (.ok, h.setReg (OBJ_DATA o w) v)
    else (.notReady, h)

-- ## Safe pairs (R450 to R453)

/-- The primary of the pair that object o belongs to. -/
def Hw.pairPrimary (h : Hw) (o : Nat) : Nat :=
  match (h.obj o).cfg with
  | some r => if r.isPrimary then o else r.pair
  | none => o

/-- The CRC of a pair's data over the primary's identifier and bytes 0 to N − 5 (R450). -/
def pairCrc (ident : Nat) (d : List Byte) : List Byte :=
  Num.bytesLE 4 (crcPair (Num.bytesLE 4 ident ++ d.take (d.length - 4))).toNat

/-- Whether a copy passes its CRC. -/
def pairCrcOk (ident : Nat) (d : List Byte) : Bool :=
  decide (8 ≤ d.length) && d.drop (d.length - 4) == pairCrc ident d

/-- Copies with one sequence number but different bytes: both go, and the reaction follows (R452). -/
def Hw.pairMismatch (h : Hw) (p : Nat) : Hw := (h.incTop (SAFE_DATA_COUNT.MISMATCH p)).safetyCause p 0x38

/-- A pair is accepted: one reception of the primary, and the source takes the carried command (R452). -/
def Hw.pairAccept (h : Hw) (p o sq : Nat) (d : List Byte) : Hw :=
  let h := h.updObj o (fun x => { x with lastSeq := some sq, copies := x.copies.filter (fun c => c.seq != sq) })
  (h.objStore o d).deliver p (0x1000 + o) ((d.getD 2 0).toNat % 4)

/-- One copy of the pair with primary o arrives (R452): checked, matched with a waiting copy of the other channel, or kept. -/
def Hw.pairCopy (h : Hw) (o : Nat) (second : Bool) (d : List Byte) : Hw :=
  match h.objOwner o, (h.obj o).cfg with
  | some p, some r =>
    if !(r.paired && r.isPrimary && !r.transmits && h.canPart p) then h
    else if d.length != r.bytes || !pairCrcOk r.ident d then h.incTop (SAFE_DATA_COUNT.CRC p)
    else
      let sq := (d.getD 0 0).toNat + 256 * (d.getD 1 0).toNat
      let repeated := match (h.obj o).lastSeq with
        | some l => let n := (sq + 0x10000 - l) % 0x10000; n == 0 || decide (32767 < n)
        | none => false
      if repeated then h.incTop (SAFE_DATA_COUNT.REPEAT p)
      else match (h.obj o).copies.find? (fun c => c.second != second && c.seq == sq && decide (c.age ≤ r.window)) with
        | some c =>
          if c.data == d then h.pairAccept p o sq d
          else (h.updObj o (fun x => { x with copies := x.copies.filter (fun e => e.seq != sq) })).pairMismatch p
        | none => h.updObj o (fun x =>
            { x with copies := x.copies.filter (fun e => !(e.second == second && e.seq == sq)) ++ [⟨second, sq, 0, d⟩] })
  | _, _ => h

/-- A copy reaches the part: the partner object records its own for diagnosis (R495), and the pair handles it. -/
def Hw.pairArrives (h : Hw) (o : Nat) (second : Bool) (d : List Byte) : Hw :=
  let h := match second, (h.obj o).cfg with
    | true, some r => if r.paired && d.length == r.bytes && h.objLive o then h.objStore r.pair d else h
    | _, _ => h
  h.pairCopy o second d

/-- SAFE_PAIR_COPY (R450, R452, R453, R495). -/
def execSafePairCopy (o : ObjId) (second : Bool) (data : List Byte) (s : State) :=
  s.onLive (fun h => h.pairArrives o.val second data)

/-- SAFE_PAIR_SINGLE: copies whose partner has not come within the window are counted and deliver nothing (R452). -/
def Hw.pairSingle (h : Hw) (o : Nat) : Hw :=
  match h.objOwner o, (h.obj o).cfg with
  | some p, some r =>
    let old := (h.obj o).copies.filter (fun c => decide (r.window < c.age))
    let h := h.updObj o (fun x => { x with copies := x.copies.filter (fun c => decide (c.age ≤ r.window)) })
    old.foldl (fun acc _ => acc.incTop (SAFE_DATA_COUNT.SINGLE p)) h
  | _, _ => h

/-- SAFE_PAIR_SINGLE (R452). -/
def execSafePairSingle (o : ObjId) (s : State) := s.onLive (fun h => h.pairSingle o.val)

-- ## Reception (R482, R483, R498)

/-- The receive object that a frame on channel n matches. -/
def Hw.objMatching (h : Hw) (n : Nat) (f : CanFrame) : Option Nat :=
  (h.objsWhere (fun r => r.chan == n && !r.transmits && r.ident == f.ident && r.isExtended == f.extended && r.isFd == f.fd)).head?

/-- A data frame is received on channel n: stored in its object, discarded and counted, or dropped without a count. -/
def Hw.canReceive (h : Hw) (n : Nat) (f : CanFrame) : Hw :=
  if !h.canHears n then h
  else
    let h := h.canHeard n
    match h.objMatching n f with
    | none => h
    | some o =>
      match (h.obj o).cfg with
      | none => h
      | some r =>
        if f.data.length != r.bytes || !h.objLive o then h.incTop (CAN_COUNT_A.DISCARDED n)
        else if r.paired then h.pairArrives (h.pairPrimary o) (!r.isPrimary) f.data
        else h.objStore o f.data

/-- CAN_FRAME_RECEIVED (R479, R481 to R483, R498, R509). -/
def execCanFrameReceived (n : ChanId) (frame : CanFrame) (phase : Fin 500) (s : State) :=
  s.onLive (fun h => (h.atPhase phase.val).canReceive n.val frame)

-- ## The latch instant (R492 to R494)

/-- The inputs of block k that object o feeds, in order. -/
def Hw.fedInputs (h : Hw) (k o : Nat) : List Nat :=
  match (h.block k).sec with
  | some b =>
    let l := (b.writers.filter (fun w => w.kind == 3 && w.source == o)).map (·.input)
    (List.range 128).filter (fun n => l.contains n)
  | none => []

/-- Write every input that object o feeds, from its application data or with "no valid value" (R493, R494). -/
def Hw.feedInputs (h : Hw) (p o : Nat) (data : Option (List Byte)) : Hw :=
  (h.blocksOf p).foldl (fun acc k =>
    (List.zip (List.range 128) (h.fedInputs k o)).foldl (fun a e =>
      let v := match data with
        | some d => (d.getD (2 * e.1) 0).toNat + 256 * (d.getD (2 * e.1 + 1) 0).toNat
        | none => 0x8000
      a.wr (BLK_INPUT_VALUE.VALUE k e.2) v) acc) h

/-- The stale limit of a receive object: 0x8000 and RX_STALE for a plain object (R494), a stop and SAFE_DATA_STALE for a pair (R453). -/
def Hw.objStale (h : Hw) (p o : Nat) (pair : Bool) : Hw :=
  let h := h.wrB (OBJ_STATUS.EXPIRED o) true
  if pair then (h.deliver p (0x1000 + o) 0).safetyCause p 0x39
  else (h.feedInputs p o none).partCause p 0x28

/-- A receive object at the latch instant. -/
def Hw.latchReceive (h : Hw) (p o : Nat) (r : ObjRec) : Hw :=
  let fresh := (h.obj o).fresh
  let h := h.updObj o (fun x => { x with fresh := false })
  if fresh then
    let h := ((h.wr (OBJ_STATUS.AGE o) 0).wrB (OBJ_STATUS.STALE o) false).wrB (OBJ_STATUS.EXPIRED o) false
    if r.paired && !r.isPrimary then h
    else h.feedInputs p o (some (if r.paired then (h.objBytes o r.bytes).drop 2 else h.objBytes o r.bytes))
  else
    let h := (h.incTop (OBJ_STATUS.AGE o)).wrB (OBJ_STATUS.STALE o) true
    if r.stale ≤ h.rd (OBJ_STATUS.AGE o) && !h.on (OBJ_STATUS.EXPIRED o) && !(r.paired && !r.isPrimary) then h.objStale p o r.paired
    else h

/-- A transmit object at the latch instant: its snapshot, or SKIPPED while it is open. -/
def Hw.latchTransmit (h : Hw) (o : Nat) (r : ObjRec) : Hw :=
  let h := if h.on (OBJ_STATUS.OPEN o) then h.wrB (OBJ_STATUS.SKIPPED o) true
    else let d := h.objBytes o r.bytes; h.updObj o (fun x => { x with snap := some d })
  if h.on (OBJ_STATUS.PENDING o) then h.updObj o (fun x => { x with pend := true }) else h

/-- LATCH_INSTANT of channel n: receive objects first, then snapshots (R492); once in a basic cycle (R490). -/
def Hw.latchInstant (h : Hw) (n : Nat) : Hw :=
  if !(h.chan n).on || (h.chan n).latched then h
  else
    let h := (h.updChan n (fun x => { x with latched := true })).wr (CAN_STATUS.COLUMN n) (h.canCfg n).latchColumn
    let each (f : Hw → Nat → ObjRec → Hw) (want : ObjRec → Bool) (h : Hw) : Hw :=
      (h.objsWhere (fun r => r.chan == n && want r)).foldl (fun acc o =>
        match (acc.obj o).cfg with | some r => f acc o r | none => acc) h
    let h := each (fun acc o r => match acc.objOwner o with
      | some p => if acc.canPart p then acc.latchReceive p o r else acc
      | none => acc) (fun r => !r.transmits) h
    each (fun acc o r => if acc.objLive o then acc.latchTransmit o r else acc) (fun r => r.transmits) h

/-- LATCH_INSTANT (R453, R492 to R495, R509). -/
def execLatchInstant (n : ChanId) (s : State) := s.onLive (fun h => h.latchInstant n.val)

-- ## Sending (R451, R481, R488, R489, R501)

/-- The slot records of matrix cell (cycle, column) of channel n, over the partitions that take part. -/
def Hw.slotsAt (h : Hw) (n cycle column : Nat) : List SlotRec :=
  (List.range 16).flatMap (fun p =>
    if h.canPart p then
      match (h.part p).cfg with
      | some s => s.slots.filter (fun r => r.chan == n && r.cycle == cycle && r.column == column)
      | none => []
    else [])

/-- The bytes that both copies of a transmit pair carry in this basic cycle, formed from the primary's snapshot (R451, R495). -/
def Hw.pairBytes (h : Hw) (o : Nat) : Option (List Byte) :=
  match (h.obj o).sent, (h.obj o).snap, (h.obj o).cfg with
  | some e, _, _ => some e.2
  | none, some d, some r =>
    let body := Num.bytesLE 2 (h.obj o).seq ++ (d.take (r.bytes - 4)).drop 2
    some (body ++ pairCrc r.ident (body ++ [0, 0, 0, 0]))
  | _, _, _ => none

/-- The frame that object o sends now, if it has a snapshot. -/
def Hw.objFrame (h : Hw) (o : Nat) : Option CanFrame :=
  match (h.obj o).cfg with
  | none => none
  | some r =>
    let d := if r.paired then h.pairBytes (h.pairPrimary o) else (h.obj o).snap
    d.map (fun b => { ident := r.ident, extended := r.isExtended, fd := r.isFd, brs := r.rateSwitch, data := b })

/-- What a pair carries in this cycle is fixed once the first copy starts. -/
def Hw.fixPair (h : Hw) (o : Nat) : Hw :=
  match (h.obj o).cfg with
  | some r =>
    let q := h.pairPrimary o
    if r.paired then
      let d := h.pairBytes q
      h.updObj q (fun x => { x with sent := d.map (fun b => (x.seq, b)) })
    else h
  | none => h

/-- A transmission that restricted operation suppresses (R481). -/
def Hw.suppress (h : Hw) (n o : Nat) : Hw := (h.wrB (OBJ_STATUS.NOT_SENT o) true).incTop (CAN_COUNT_B.SUPPRESSED n)

/-- EXCLUSIVE_SLOT: the column's object is sent once, if `wait` bit times of a busy bus leave it room (R488). -/
def Hw.exclusiveSlot (h : Hw) (n column wait : Nat) : Hw :=
  if !(h.chan n).on then h
  else
    let h := h.wr (CAN_STATUS.COLUMN n) column
    match (h.slotsAt n (h.rd (CAN_STATUS.CYCLE n)) column).find? (fun r => r.kind == 1) with
    | none => h
    | some r =>
      let o := r.obj
      if h.canRestricted n then h.suppress n o
      else if !h.canSends n then h
      else match h.objFrame o with
        | none => h
        | some f =>
          if (h.chan n).onBus.isNone && decide (wait + h.frameBits n f ≤ (h.canCfg n).columnBits) then
            (h.fixPair o).updChan n (fun x => { x with onBus := some ⟨o, f, true⟩ })
          else (h.wrB (OBJ_STATUS.NOT_SENT o) true).incTop (CAN_COUNT_C.LATE n)

/-- EXCLUSIVE_SLOT (R117, R451, R481, R488, R495). -/
def execExclusiveSlot (n : ChanId) (column : Fin 64) (wait : Nat) (s : State) :=
  s.onLive (fun h => h.exclusiveSlot n.val column.val wait)

/-- The object of a list with the lowest identifier. -/
def Hw.lowestIdent (h : Hw) (os : List Nat) : Option Nat :=
  let id (o : Nat) : Nat := match (h.obj o).cfg with | some r => r.ident | none => 0
  match os with
  | [] => none
  | o :: r => some (r.foldl (fun m x => if id x < id m then x else m) o)

/-- ARBITRATING_WINDOW: the controller offers the pending object of lowest identifier that still fits, then a service frame. Free cells
carry service frames too, and before P0 activates channel 0 sends them at any time (R489, R501). -/
def Hw.arbitratingWindow (h : Hw) (n column wait : Nat) : Hw :=
  let slots := if (h.chan n).on then h.slotsAt n (h.rd (CAN_STATUS.CYCLE n)) column else []
  let h := if (h.chan n).on then h.wr (CAN_STATUS.COLUMN n) column else h
  if slots.any (fun r => r.kind == 1) || (!(h.chan n).on && n != 0) then h
  else
    let os := ((slots.filter (fun r => r.kind == 2)).map (·.obj)).filter (fun o =>
      h.on (OBJ_STATUS.PENDING o) && (h.obj o).pend && (h.objFrame o).isSome)
    if h.canRestricted n then
      os.foldl (fun acc o => ((acc.suppress n o).wrB (OBJ_STATUS.PENDING o) false).updObj o (fun x => { x with pend := false })) h
    else if !h.canSends n || (h.chan n).onBus.isSome then h
    else
      let fits (f : CanFrame) : Bool := !(h.chan n).on || decide (wait + h.frameBits n f ≤ (h.canCfg n).columnBits)
      match h.lowestIdent (os.filter (fun o => match h.objFrame o with | some f => fits f | none => false)) with
      | some o =>
        match h.objFrame o with
        | some f => (h.fixPair o).updChan n (fun x => { x with onBus := some ⟨o, f, false⟩ })
        | none => h
      | none =>
        match (h.chan n).service with
        | f :: r => if fits f then h.updChan n (fun x => { x with onBus := some ⟨65536, f, false⟩, service := r }) else h
        | [] => h

/-- ARBITRATING_WINDOW (R117, R481, R489, R501). -/
def execArbitratingWindow (n : ChanId) (column : Fin 64) (wait : Nat) (s : State) :=
  s.onLive (fun h => h.arbitratingWindow n.val column.val wait)

/-- The controller goes off after the frame in progress, where a STOP waits for it (R497); a reference frame that waited starts. -/
def Hw.busFree (h : Hw) (n : Nat) : Hw :=
  let x := h.chan n
  if x.wantStop then (h.setChan n { x with wantStop := false, refPend := false }).wr (CAN_STATUS.STATE n) 0
  else if x.refPend then
    let f : CanFrame := { ident := Bits.get x.time 10 0, extended := false, fd := false, brs := false,
                          data := [BitVec.ofNat 8 (h.rd (CAN_STATUS.CYCLE n) + 128)] }
    h.setChan n { x with refPend := false, onBus := some ⟨65537, f, false⟩ }
  else h

/-- CAN_TX_COMPLETE: how a transmission ends (R479, R488, R489). A frame of a window that was not sent stays pending, and a service
frame other than a BID waits again (R504). -/
def Hw.canTxComplete (h : Hw) (n : Nat) (how : TxEnd) : Hw :=
  match (h.chan n).onBus with
  | none => h
  | some tx =>
    let o := tx.what
    let obj := decide (o < 65536)
    let h := h.updChan n (fun x => { x with onBus := none })
    let tec := h.rd (CAN_ERR.TEC n)
    let h := match how with
      | .sent => (h.wr (CAN_ERR.TEC n) (tec - 1)).canConfine n
      | .lostArbitration => h
      | .unacked => (if h.canState n = 4 then h else h.wr (CAN_ERR.TEC n) (min (tec + 8) 511)).canConfine n
      | .busError => (h.wr (CAN_ERR.TEC n) (min (tec + 8) 511)).canConfine n
    let h := match obj, how with
      | true, .sent =>
        let h := h.objStamp o
        if tx.exclusive then h else (h.wrB (OBJ_STATUS.PENDING o) false).updObj o (fun x => { x with pend := false })
      | true, .unacked =>
        if tx.exclusive then (h.wrB (OBJ_STATUS.NOT_ACKED o) true).incTop (OBJ_INFO.LOST_COUNT o) else h
      | true, .lostArbitration =>
        if tx.exclusive then (h.wrB (OBJ_STATUS.NOT_SENT o) true).incTop (CAN_COUNT_C.ARB_LOST n) else h
      | true, .busError => if tx.exclusive then h.wrB (OBJ_STATUS.NOT_SENT o) true else h
      | false, .sent => h
      | false, _ =>
        let bid := tx.frame.extended && decide (0x1E200000 ≤ tx.frame.ident)
        if o = 65536 && !bid then h.updChan n (fun x => { x with service := tx.frame :: x.service }) else h
    h.busFree n

/-- CAN_TX_COMPLETE (R488, R489). -/
def execCanTxComplete (n : ChanId) (how : TxEnd) (phase : Fin 500) (s : State) :=
  s.onLive (fun h => (h.atPhase phase.val).canTxComplete n.val how)

/-- A service frame waits for the bus; a restricted channel sends none (R481, R501). -/
def Hw.sendService (h : Hw) (n : Nat) (f : CanFrame) : Hw :=
  if h.canRestricted n || h.canState n = 0 then h else h.updChan n (fun x => { x with service := x.service ++ [f] })

-- ## Basic cycles and reference frames (R486, R490, R491)

/-- A basic cycle with the given number begins on channel n: CAN_n_TIME as written is in force, the controller that waits for a cycle
sends from now on, waiting copies age, and each scheduled transmit pair takes its next sequence number (R451, R496, R510). -/
def Hw.cycleStart (h : Hw) (n cyc : Nat) : Hw :=
  let h := (h.wr (CAN_STATUS.CYCLE n) cyc).wr (CAN_STATUS.COLUMN n) 0
  let h := h.updChan n (fun x => { x with startStep := h.stepCount, latched := false, time := h.reg (CAN_TIME n), refMissed := x.refMissed + 1 })
  let h := if h.canState n = 2 then h.wr (CAN_STATUS.STATE n) (if h.canRestricted n then 6 else 3) else h
  let h := (h.objsWhere (fun r => r.chan == n && r.paired && !r.transmits && r.isPrimary)).foldl (fun acc o =>
    acc.updObj o (fun x => { x with copies := x.copies.map (fun c => { c with age := c.age + 1 }) })) h
  let used := (List.range 64).flatMap (fun col => (h.slotsAt n cyc col).map (·.obj))
  (h.objsWhere (fun r => r.chan == n && r.paired && r.transmits && r.isPrimary)).foldl (fun acc o =>
    if used.contains o then acc.updObj o (fun x => { x with seq := (x.seq + 1) % 0x10000, sent := none }) else acc) h

/-- The reference frame of a MASTER at the start of column 0 (R490): bit 7 shows that it could not start there. -/
def Hw.sendReference (h : Hw) (n : Nat) (busy : Bool) : Hw :=
  let x := h.chan n
  if Bits.get x.time 14 13 ≠ 1 then h
  else if h.canRestricted n then h.incTop (CAN_COUNT_B.SUPPRESSED n)
  else if !h.canSends n then h
  else if x.onBus.isSome then h.setChan n { x with refPend := true }
  else
    let f : CanFrame := { ident := Bits.get x.time 10 0, extended := false, fd := false, brs := false,
                          data := [BitVec.ofNat 8 (h.rd (CAN_STATUS.CYCLE n) + (if busy then 128 else 0))] }
    h.setChan n { x with onBus := some ⟨65537, f, false⟩ }

/-- BASIC_CYCLE_START: the columns of a basic cycle have passed on the device's clock. -/
def Hw.basicCycle (h : Hw) (n : Nat) (busy : Bool) : Hw :=
  if (h.chan n).on && decide ((h.canCfg n).columns * h.columnCycles n < (h.stepCount + 1 - (h.chan n).startStep) * canStepCycles) then
    (h.cycleStart n ((h.rd (CAN_STATUS.CYCLE n) + 1) % max (h.canCfg n).cycles 1)).sendReference n busy
  else h

/-- BASIC_CYCLE_START (R451, R486, R490, R496). -/
def execBasicCycleStart (n : ChanId) (busy : Bool) (s : State) := s.onLive (fun h => h.basicCycle n.val busy)

/-- The first frame boundary after P0 activates starts the matrix of every enabled channel (R486). -/
def Hw.canFrame (h : Hw) : Hw :=
  if !h.active 0 then h
  else Num.forEach 4 (fun n acc =>
    if (acc.canCfg n).flags.testBit 0 && !(acc.chan n).on then
      ((acc.updChan n (fun x => { x with on := true })).cycleStart n 0).sendReference n false
    else acc) h

/-- The column shown at a step boundary. -/
def Hw.canBoundary (h : Hw) : Hw :=
  Num.forEach 4 (fun n acc =>
    if (acc.chan n).on then
      acc.wr (CAN_STATUS.COLUMN n) (min (((acc.stepCount - (acc.chan n).startStep) * canStepCycles) / max (acc.columnCycles n) 1)
        ((acc.canCfg n).columns - 1))
    else acc) h

/-- Column 0 of channel n's matrix is placed `sof` steps ago. In the first half of a basic cycle that is the start of this very cycle, which
gets the number given; later it is the start of the next one, and a latch instant that has not come yet comes now. So no latch instant is
skipped or repeated (R490; DEDUCED, log entry 78). -/
def Hw.placeColumn (h : Hw) (n sof cyc : Nat) : Hw :=
  let x := h.chan n
  let near := decide (2 * ((h.stepCount - sof - x.startStep) * canStepCycles) < (h.canCfg n).columns * h.columnCycles n)
  let h := if near then h.wr (CAN_STATUS.CYCLE n) cyc else (h.latchInstant n).cycleStart n cyc
  h.updChan n (fun y => { y with startStep := h.stepCount - sof })

/-- The number that a realignment gives the cycle of channel n: the present one in the first half of a basic cycle, later the next one. -/
def Hw.cycleAfter (h : Hw) (n sof : Nat) : Nat :=
  let c := h.rd (CAN_STATUS.CYCLE n)
  if 2 * ((h.stepCount - sof - (h.chan n).startStep) * canStepCycles) < (h.canCfg n).columns * h.columnCycles n then c
  else (c + 1) % max (h.canCfg n).cycles 1

/-- REFERENCE_FRAME_RECEIVED on a follower: bit 7 equal to 0 places column 0 at the frame's SOF, `sof` steps ago, for the channel and for the
odd one aligned to it (R486); bit 7 equal to 1 sets only the cycle number (R490, R491). -/
def Hw.referenceFrame (h : Hw) (n : Nat) (f : CanFrame) (sof : Nat) : Hw :=
  let x := h.chan n
  if x.on && n % 2 = 0 && h.canHears n && Bits.get x.time 14 13 == 2 && !f.extended && !f.fd && f.ident == Bits.get x.time 10 0 &&
      f.data.length == 1 then
    let b := (f.data.getD 0 0).toNat
    let cyc := b % 64 % max (h.canCfg n).cycles 1
    let h := h.canHeard n
    if 128 ≤ b then h.wr (CAN_STATUS.CYCLE n) cyc
    else
      let h := (h.placeColumn n sof cyc).updChan n (fun y => { y with refMissed := 0, lostRec := false })
      let h := if (h.chan (n + 1)).on then h.placeColumn (n + 1) sof (h.cycleAfter (n + 1) sof) else h
      h.wrB (CAN_STATUS.SYNC_OK n) true
  else h

/-- REFERENCE_FRAME_RECEIVED (R490, R491). -/
def execReferenceFrameReceived (n : ChanId) (frame : CanFrame) (sof : Nat) (s : State) :=
  s.onLive (fun h => h.referenceFrame n.val frame sof)

/-- SYNC_LOST: two basic cycles without a usable reference frame (R491). -/
def Hw.syncLost (h : Hw) (n : Nat) : Hw :=
  let x := h.chan n
  if x.on && Bits.get x.time 14 13 == 2 && decide (2 ≤ x.refMissed) && !x.lostRec then
    ((h.setChan n { x with lostRec := true }).wrB (CAN_STATUS.SYNC_OK n) false).record (faultCode 5 n 3)
  else h

/-- SYNC_LOST (R491). -/
def execSyncLost (n : ChanId) (s : State) := s.onLive (fun h => h.syncLost n.val)

-- ## Leaving and rejoining the bus (R479, R496, R497)

/-- A frame of the device that is on the bus as its controller leaves: an object's sets NOT_SENT. -/
def Hw.dropFrame (h : Hw) (n : Nat) : Hw :=
  let h := match (h.chan n).onBus with
    | some tx => if tx.what < 65536 then h.wrB (OBJ_STATUS.NOT_SENT tx.what) true else h
    | none => h
  h.updChan n (fun x => { x with onBus := none, refPend := false })

/-- AUTO_RECOVER of channel n in force: as written, and once its matrix runs as it stood at the start of the basic cycle (R510). -/
def Hw.canAuto (h : Hw) (n : Nat) : Bool :=
  if (h.chan n).on then (h.chan n).time.getLsbD 15 else h.on (CAN_TIME.AUTO_RECOVER n)

/-- BUS_OFF: the transmit error counter has passed 255 (R479, R497). -/
def Hw.busOff (h : Hw) (n : Nat) : Hw :=
  if h.canHears n && h.canState n != 6 && decide (255 < h.rd (CAN_ERR.TEC n)) then
    let h := ((h.dropFrame n).wr (CAN_STATUS.STATE n) 5).incTop (CAN_COUNT_B.BUS_OFFS n)
    (h.updChan n (fun x => { x with recovering := h.canAuto n, wantStop := false })).record (faultCode 5 n 1)
  else h

/-- BUS_OFF (R479, R497, R512). -/
def execBusOff (n : ChanId) (s : State) := s.onLive (fun h => h.busOff n.val)

/-- BUS_OFF_RECOVERY: 128 occurrences of 11 recessive bits; the controller integrates (R479, R496). -/
def Hw.busOffRecovery (h : Hw) (n : Nat) : Hw :=
  if h.canState n = 5 && (h.chan n).recovering then
    ((h.updChan n (fun x => { x with recovering := false })).setReg (CAN_ERR n) 0).wr (CAN_STATUS.STATE n) 1
  else h

/-- BUS_OFF_RECOVERY (R479, R496). -/
def execBusOffRecovery (n : ChanId) (s : State) := s.onLive (fun h => h.busOffRecovery n.val)

/-- BUS_DOMINANT: the transmitter dominant time-out takes the controller off the bus (R496, Table 18-9). -/
def Hw.busDominant (h : Hw) (n : Nat) : Hw :=
  if h.canSends n then
    (((h.dropFrame n).wr (CAN_STATUS.STATE n) 0).updChan n (fun x => { x with dominant := true, wantStop := false })).record (faultCode 5 n 4)
  else h

/-- BUS_DOMINANT (R496, R512). -/
def execBusDominant (n : ChanId) (s : State) := s.onLive (fun h => h.busDominant n.val)

/-- REJOIN_COMPLETE: 11 recessive bits; the controller stores frames and waits for the next basic cycle. Where no matrix runs it is
active at once (R496). -/
def Hw.rejoinComplete (h : Hw) (n : Nat) : Hw :=
  if h.canState n = 1 || (h.chan n).dominant then
    let h := h.updChan n (fun x => { x with dominant := false })
    h.wr (CAN_STATUS.STATE n) (if (h.chan n).on then 2 else if h.canRestricted n then 6 else 3)
  else h

/-- REJOIN_COMPLETE (R496). -/
def execRejoinComplete (n : ChanId) (s : State) := s.onLive (fun h => h.rejoinComplete n.val)

/-- Controller n is put on the bus: it integrates. -/
def Hw.canOn (h : Hw) (n : Nat) : Hw :=
  if h.canState n = 0 && (h.canCfg n).flags.testBit 0 && !(h.chan n).dominant then h.wr (CAN_STATUS.STATE n) 1 else h

/-- CAN_n_CTRL: the KEY, then START, STOP and RECOVER (R496, R497, Table 18-7). -/
def Hw.canCtrlWrite (h : Hw) (n : Nat) (v : Word) : Status × Hw :=
  if Bits.get v 31 16 ≠ 0x4C2A then (.range, h)
  else
    let h := if v.getLsbD 0 then h.canOn n else h
    let h := if v.getLsbD 1 then
        if (h.chan n).onBus.isSome then h.updChan n (fun x => { x with wantStop := true })
        else (h.updChan n (fun x => { x with refPend := false, dominant := false, recovering := false })).wr (CAN_STATUS.STATE n) 0
      else h
    (.ok, if v.getLsbD 2 && h.canState n == 5 && !h.canAuto n then h.updChan n (fun x => { x with recovering := true }) else h)

/-- CAN_n_TIME: MODE 3, and on the odd channels any MODE but LOCAL, return RANGE (R490); `w` is the register's new value. -/
def Hw.canTimeWrite (h : Hw) (n : Nat) (w : Word) : Status × Hw :=
  if Bits.get w 14 13 = 3 || (n % 2 = 1 && Bits.get w 14 13 ≠ 0) then (.range, h) else (.ok, h.setReg (CAN_TIME n) w)

/-- PLATFORM is applied: enabled controllers go on the bus, the others off; a changed channel's matrix starts anew (R486). -/
def Hw.canPlatform (h : Hw) : Hw :=
  Num.forEach 4 (fun n acc =>
    if (acc.canCfg n).flags.testBit 0 then (acc.updChan n (fun x => { x with on := false })).canOn n
    else (acc.dropFrame n).wr (CAN_STATUS.STATE n) 0 |>.setChan n {}) h

-- ## Objects of a partition at reloads (R117, R498)

/-- Step 5 of a reload of partition p: what is queued or scheduled and not yet started is discarded. -/
def Hw.canRelease (h : Hw) (p : Nat) : Hw :=
  (h.objs.map (·.1)).foldl (fun acc o =>
    if acc.objOwner o = some p then (acc.wrB (OBJ_STATUS.PENDING o) false).updObj o (fun x => { x with pend := false, snap := none })
    else acc) h

/-- The registers of object o that its record gives (Table 18-8). -/
def Hw.objShow (h : Hw) (o : Nat) (r : ObjRec) : Hw :=
  let h := (((h.setReg (OBJ_CFG o) 0).wr (OBJ_CFG.DATA_BYTES o) r.bytes).wr (OBJ_CFG.STALE_LIMIT o) r.stale).wr (OBJ_CFG.CHANNEL o) r.chan
  (h.wr (OBJ_CFG.FLAGS o) r.flags).setReg (OBJ_ID o) (BitVec.ofNat 32 r.ident)

/-- Every status, count and buffer of object o is cleared and its record forgotten. -/
def Hw.objClear (h : Hw) (o : Nat) : Hw :=
  let h := Num.forEach 16 (fun w acc => acc.setReg (OBJ_DATA o w) 0) (h.setObj o {})
  [OBJ_CFG o, OBJ_ID o, OBJ_STATUS o, OBJ_STAMP o, OBJ_INFO o, OBJ_FRAMES o].foldl (fun acc r => acc.setReg r 0) h

/-- Activation and re-entry of partition p: its objects are configured, with every status flag, AGE, PENDING and buffer cleared. -/
def Hw.canStart (h : Hw) (p : Nat) : Hw :=
  let h := (h.objs.map (·.1)).foldl (fun acc o => if acc.objOwner o = some p then acc.objClear o else acc) h
  match (h.part p).cfg with
  | some s => s.objs.foldl (fun acc r => ((acc.objClear r.obj).setObj r.obj { cfg := some r }).objShow r.obj r) h
  | none => h

-- ## Roll call (R502 to R508)

/-- Whether channel n carries service frames. -/
def Hw.serves (h : Hw) (n : Nat) : Bool := h.bit CAN_SERVICE_CFG.SERVICE n

/-- Whether a frame has an extended identifier and a length, as Table 18-5 gives it. -/
def rollFrame (f : CanFrame) (fd : Bool) (bytes : Nat) : Bool := f.extended && f.fd == fd && f.data.length == bytes

/-- Two bytes of a frame, little-endian. -/
def frameHalf (f : CanFrame) (i : Nat) : Nat := (f.data.getD i 0).toNat + 256 * (f.data.getD (i + 1) 0).toNat

/-- CHIP_UID, and its chunk j: chunk 0 is bits 63 to 48. -/
def Hw.uid (h : Hw) : Nat := h.rd CHIP_UID_HI.UID * 2 ^ 32 + h.rd CHIP_UID_LO.UID
def Hw.uidChunk (h : Hw) (j : Nat) : Nat := h.uid / 2 ^ (16 * (3 - j)) % 0x10000

/-- A classical service frame. -/
def serviceFrame (ident : Nat) (d : List Byte) : CanFrame := { ident := ident, extended := true, fd := false, brs := false, data := d }

/-- Whether a Roll call frame on channel n reaches the device at all. -/
def Hw.rollHears (h : Hw) (n : Nat) : Bool := h.serves n && h.canHears n

/-- ROLL_CALL_START (R503, R506, R508). -/
def Hw.rollStart (h : Hw) (n : Nat) (f : CanFrame) : Hw :=
  let e := frameHalf f 0
  let mode := (f.data.getD 2 0).toNat
  let v := h.service
  if !(h.rollHears n && rollFrame f false 4 && f.ident == 0x1E100000 && decide (mode ≤ 1)) then h
  else
    let h := h.canHeard n
    if h.on CAN_SERVICE_CFG.RC_LOCK then h
    else if 0 < v.heardRounds && v.heardEpoch = e then h
    else if mode = 1 && h.rd CAN_NODE.NODE ≠ 0xFFFF then
      { h.wr CAN_NODE.SEARCH_EPOCH e with service := { v with epoch := e, participant := false, heardRounds := 0 } }
    else
      let h := if mode = 0 then h.wr CAN_NODE.NODE 0xFFFF else h
      { h with service := { v with epoch := e, participant := true, heardRounds := 0 } }

/-- ROLL_CALL_START (R503, R506, R508). -/
def execRollCallStart (n : ChanId) (frame : CanFrame) (s : State) := s.onLive (fun h => h.rollStart n.val frame)

/-- The chunk at place j of a ROUND's prefix, big-endian. -/
def frameChunk (f : CanFrame) (j : Nat) : Nat := 256 * (f.data.getD (2 + 2 * j) 0).toNat + (f.data.getD (3 + 2 * j) 0).toNat

/-- ROLL_CALL_ROUND: a participant whose chunks match bids; a device outside the search learns its epoch from two complete rounds (R504,
R506, R508). -/
def Hw.rollRound (h : Hw) (n : Nat) (f : CanFrame) : Hw :=
  let j := f.ident - 0x1E110000
  let e := frameHalf f 0
  let v := h.service
  if !(h.rollHears n && rollFrame f false 8 && decide (0x1E110000 ≤ f.ident) && decide (j ≤ 3)) then h
  else
    let h := h.canHeard n
    if v.participant && v.epoch = e then
      if !h.on CAN_SERVICE_CFG.RC_LOCK && (List.range j).all (fun i => h.uidChunk i == frameChunk f i) then
        h.sendService n (serviceFrame (0x1E200000 + h.uidChunk j) [])
      else h
    else if v.epoch = e && h.rd CAN_NODE.NODE ≠ 0xFFFF then h
    else
      let same := decide (0 < v.heardRounds) && v.heardEpoch == e
      { h with service := { v with heardEpoch := e, heardRounds := if same then v.heardRounds + Num.ofBool (j == 0) else 1 } }

/-- ROLL_CALL_ROUND (R504, R506, R508). -/
def execRollCallRound (n : ChanId) (frame : CanFrame) (s : State) := s.onLive (fun h => h.rollRound n.val frame)

/-- BID_RECEIVED: a BID with a lower identifier withdraws the device's own that has not started (R504). -/
def Hw.bidReceived (h : Hw) (n : Nat) (f : CanFrame) : Hw :=
  if h.rollHears n && rollFrame f false 0 && decide (0x1E200000 ≤ f.ident) && decide (f.ident ≤ 0x1E20FFFF) then
    (h.canHeard n).updChan n (fun x => { x with service := x.service.filter (fun g =>
      !(decide (0x1E200000 ≤ g.ident) && decide (f.ident < g.ident))) })
  else h

/-- BID_RECEIVED (R504). -/
def execBidReceived (n : ChanId) (frame : CanFrame) (s : State) := s.onLive (fun h => h.bidReceived n.val frame)

/-- ROLL_CALL_ASSIGN: the device takes its number, stores it and answers ENROLLED (R505, R508). -/
def Hw.rollAssign (h : Hw) (n : Nat) (f : CanFrame) : Hw :=
  let uid := Num.ofBytesBE (f.data.take 8)
  let node := frameHalf f 8
  let e := frameHalf f 10
  if !(h.rollHears n && rollFrame f true 12 && f.ident == 0x1E120000) then h
  else
    let h := h.canHeard n
    if h.on CAN_SERVICE_CFG.RC_LOCK || uid ≠ h.uid || e ≠ h.service.epoch ||
        (!h.service.participant && h.rd CAN_NODE.NODE = 0xFFFF) then h
    else
      let same := h.rd CAN_NODE.NODE == node && h.rd CAN_NODE.SEARCH_EPOCH == e && !h.service.participant
      let h := if same then h
        else
          let h := (h.wr CAN_NODE.NODE node).wr CAN_NODE.SEARCH_EPOCH e
          ({ h with service := { h.service with participant := false } }).keepStore 0xC0 (Num.bytesLE 2 node ++ Num.bytesLE 2 e ++ [1, 0, 0, 0])
      h.sendService n (serviceFrame (0x1E130000 + node) (Num.bytesBE 8 h.uid))

/-- ROLL_CALL_ASSIGN (R505, R508). -/
def execRollCallAssign (n : ChanId) (frame : CanFrame) (s : State) := s.onLive (fun h => h.rollAssign n.val frame)

/-- A frame goes out on every service channel. -/
def Hw.sendAll (h : Hw) (f : CanFrame) : Hw := Num.forEach 4 (fun n acc => if acc.serves n then acc.sendService n f else acc) h

/-- UNENROLLED_TIMER: a device without a number that is no participant sends one frame per second (R506). -/
def Hw.unenrolled (h : Hw) : Hw :=
  if h.rd CAN_NODE.NODE = 0xFFFF && !h.service.participant then h.sendAll (serviceFrame 0x1E140000 (Num.bytesBE 8 h.uid)) else h

/-- UNENROLLED_TIMER (R506). -/
def execUnenrolledTimer (s : State) := s.onLive Hw.unenrolled

/-- HEARTBEAT_TIMER: an enrolled device sends its heartbeat (R507). -/
def Hw.heartbeat (h : Hw) : Hw :=
  if h.rd CAN_NODE.NODE ≠ 0xFFFF && h.rd CAN_SERVICE_CFG.HB_PERIOD ≠ 0 then
    let st := if h.chipFault then 2 else if h.power == .starting then 0 else 1
    h.sendAll (serviceFrame (0x1E150000 + h.rd CAN_NODE.NODE) [BitVec.ofNat 8 st, 0])
  else h

/-- HEARTBEAT_TIMER (R507). -/
def execHeartbeatTimer (s : State) := s.onLive Hw.heartbeat

end Sys2Proof.Machine
end

