-- ==== Sys2Proof/Machine/LegLoss.lean ====
section
/-!
DEFINITION. The return of a fenced cell and the share ramp (R353 to R357).
-/
namespace Sys2Proof.Machine

/-- A write of REQUEST to LEG_c_REENTRY_CTRL (R353): on acceptance the checks start, with the pre-charge of the cell's
bootstrap supply where it is low and then its off-state diagnostics, its switches held off (R172, R180, R354). -/
def Hw.reentryRequest (h : Hw) (c : Nat) : Status × Hw :=
  let k := blockOf c
  if h.blockFenced k || h.regionHolds k then (.fenced, h)
  else if !h.cellFenced c then (.range, h)
  else if !h.vdrvOk (regionOf c) then (.notReady, h)
  else
    let st := h.rd (LEG_REENTRY_STATUS.STATE c)
    if st = 1 || st = 2 then (.ok, h)
    else
      let h := (h.setReg (LEG_REENTRY_STATUS c) 0).wr (LEG_REENTRY_STATUS.STATE c) 1
      (.ok, h.testStart c 2)

/-- REENTRY_CHECKS_DONE: the checks end with a cell cause, 0 where all passed. The cell waits for the frame boundary, or
stays fenced (R354). -/
def Hw.reentryChecksDone (h : Hw) (c cause : Nat) : Hw :=
  if h.rd (LEG_REENTRY_STATUS.STATE c) ≠ 1 then h
  else if cause ≠ 0 then
    let h := h.cellFault c cause
    let h := (h.wr (LEG_REENTRY_STATUS.STATE c) 5).wr (LEG_REENTRY_STATUS.CAUSE c) cause
    (h.setCell c { h.cell c with testing := false, diagStage := 0, preCharge := 0 }).applyHold c
  else if h.inTest c then h
  else (h.setCell c { h.cell c with retWait := true }).wr (LEG_REENTRY_STATUS.STATE c) 2

/-- REENTRY_CHECKS_DONE (R354). -/
def execReentryChecksDone (c : CellId) (cause : Fin 64) (s : State) := s.onLive (fun h => h.reentryChecksDone c.val cause.val)

/-- CELL_REENTRY of one cell at the frame boundary (R355): service, carrier and flux start anew. A cell outside TRIO mode is
DONE at once, with the event REENTRY (R356). -/
def Hw.reenterCell (h : Hw) (c : Nat) : Hw :=
  let k := blockOf c
  let h := (h.setCell c { h.cell c with fenced := false, retWait := false, testing := false, shortHold := false }).syncFences
  let h := (h.enterService c).psiInit c
  if h.mode k = 1 then
    (h.wr (LEG_REENTRY_STATUS.STATE c) 3).wr (LEG_REENTRY_STATUS.FRAMES_LEFT c) (h.rd (LEG_REENTRY_CFG.RAMP_FRAMES c))
  else (h.wr (LEG_REENTRY_STATUS.STATE c) 4).wakeEvent k 0x4000

/-- A cell's part in the ramp ends: it is DONE, with the event REENTRY (R356). -/
def Hw.rampDone (h : Hw) (c : Nat) : Hw :=
  if h.rd (LEG_REENTRY_STATUS.STATE c) = 3 then
    ((h.wr (LEG_REENTRY_STATUS.STATE c) 4).wr (LEG_REENTRY_STATUS.FRAMES_LEFT c) 0).wakeEvent (blockOf c) 0x4000
  else h

/-- The ramp of partition p ends: its cells are DONE, with the event REENTRY (R356). -/
def Hw.endShareRamp (h : Hw) (p : Nat) : Hw :=
  let cs := (h.part p).rampCells
  let h := h.setPart p { h.part p with ramp := false, rampCells := [], rampFrom := [], rampTo := [], rampF := 0, rampN := [] }
  cs.foldl (fun acc e => acc.rampDone e.1) h

/-- SHARE_RAMP: one frame of a running ramp (R356). A trio's share ends at its own number of frames, a cell is DONE at its own. -/
def Hw.advanceRamp (h : Hw) (p : Nat) : Hw :=
  let q := h.part p
  let f := q.rampF + 1
  let ts := h.torqueTrios p
  let h := (List.zip (List.zip ts q.rampN) (List.zip q.rampFrom q.rampTo)).foldl (fun (acc : Hw) (e : (Nat × Nat) × Nat × Nat) =>
    acc.wr (shareF e.1.1) (Num.code 16 ((e.2.1 : Int) +
      Num.roundDiv (((e.2.2 : Int) - e.2.1) * (min f e.1.2 : Nat)) (max e.1.2 1)))) h
  let h := h.setPart p { q with rampF := f }
  let h := q.rampCells.foldl (fun acc e =>
    if e.2 ≤ f then acc.rampDone e.1 else acc.wr (LEG_REENTRY_STATUS.FRAMES_LEFT e.1) (e.2 - f)) h
  if q.rampN.all (fun n => decide (n ≤ f)) && q.rampCells.all (fun e => decide (e.2 ≤ f)) then h.endShareRamp p else h

/-- A ramp begins with the cells `cs` that re-enter now: each has its RAMP_FRAMES. A trio takes the frames of its own cells, the slowest of
several; the other trios take the most frames of all, and so do the cells of a ramp that it replaces (R43, R356; DESIGN CHOICE, log entry 70). -/
def Hw.beginShareRamp (h : Hw) (p : Nat) (cs : List Nat) : Hw :=
  let new := cs.map (fun c => (c, max 1 (h.rd (LEG_REENTRY_CFG.RAMP_FRAMES c))))
  let top := new.foldl (fun (m : Nat) e => max m e.2) 0
  let all := (h.part p).rampCells.map (fun e => (e.1, top)) ++ new
  let ts := h.torqueTrios p
  let frames := fun (t : Nat) =>
    match all.filter (fun e => (h.trioCells t).contains e.1) with
    | [] => top
    | l => l.foldl (fun (m : Nat) e => max m e.2) 0
  let goal := ts.map (fun t => h.shareOf p t (h.fencedTrioCells p))
  h.setPart p { h.part p with ramp := true, rampFrom := ts.map (fun t => h.rd (shareF t)), rampTo := goal, rampF := 0,
                              rampN := ts.map frames, rampCells := all }

/-- Order 5 of Table 5-1 for an active partition: re-entries, the share ramp or redistribution, and the capability
(R350, R352, R355 to R358). -/
def Hw.frameLegs (h : Hw) (p : Nat) : Hw :=
  let cells := (h.blocksOf p).flatMap cellsOf
  let back := cells.filter (fun c => (h.cell c).retWait && !h.blockFenced (blockOf c) && !h.regionHolds (blockOf c))
  let was := (h.part p).lastFenced
  let fresh := cells.any (fun c => h.cellFenced c && !was.contains c)
  let h := back.foldl (fun acc c => acc.reenterCell c) h
  let ramping := back.filter (fun c => h.mode (blockOf c) == 1)
  let h :=
    if fresh then (h.endShareRamp p |>.redistribute p) |> fun x =>
      ramping.foldl (fun acc c => acc.rampDone c) x
    else if !ramping.isEmpty then h.beginShareRamp p ramping
    else if (h.part p).ramp then
      if (h.part p).rampCells.any (fun e => h.halted (blockOf e.1)) then h else h.advanceRamp p
    else h.redistribute p
  let h := h.setPart p { h.part p with lastFenced := cells.filter (fun c => h.cellFenced c) }
  h.capabilityUpdate p

end Sys2Proof.Machine
end

