-- ==== Sys2Proof/Machine/Debug.lean ====
section
/-!
DEFINITION. Lockstep execution and debug access (chapter 17): the compare-point groups, authentication and sessions, and the halts,
steps and freezes of blocks. A debugger's accesses stand in Writes.lean.
-/
namespace Sys2Proof.Machine

-- ## Lockstep (R459 to R462)

/-- The accesses of block k's threads that have not been released are withheld (R460). -/
def Hw.withholdAccess (h : Hw) (k : Nat) : Hw :=
  Num.forEach 8 (fun t acc => acc.updThread k t (fun x => { x with stall := .none })) h

/-- A failed comparison in a block's group fences the block; one of the ACCESS group withholds the access concerned (R460, R462). -/
def Hw.lockstepBlock (h : Hw) (k grp lane : Nat) : Hw :=
  let h := if grp = 1 then h.withholdAccess k else h
  let h := (h.wr (LS_BLOCK.GROUP k) (grp + 1)).wr (LS_BLOCK.LANE k) (if grp = 0 then min lane 0x3FF else 0x3FF)
  (h.setReg (LS_BLOCK_STEP k) (BitVec.ofNat 32 h.stepCount)).fenceBlock k 0x01

/-- A compare-point group compares; equal values have no effect (R459 to R461). -/
def Hw.lockstep (h : Hw) (g : Nat) (equal : Bool) (lane : Nat) : Hw :=
  if equal then h
  else if g < 24 then h.lockstepBlock (g / 3) (g % 3) lane
  else (h.wr LS_STATUS.CHIP_GROUP g).chipFaultSet 0x01

/-- LOCKSTEP_COMPARE (R19, R42, R189, R459 to R462, R476). -/
def execLockstepCompare (g : Fin 30) (equal : Bool) (lane : Nat) (s : State) := s.onLive (fun h => h.lockstep g.val equal lane)

-- ## Authentication (R466, R468)

/-- The state of the debug session (Table 17-5). -/
def Hw.dbgState (h : Hw) : Nat := h.rd DBG_SESSION.STATE

/-- The session's requester, while one is established. -/
def Hw.dbgScope (h : Hw) : Nat := h.rd DBG_SESSION.SCOPE

/-- One second, in steps. -/
def oneSecond : Nat := 800000

/-- DBG_CHALLENGE: the refusals of R466, and the start of a challenge. -/
def Hw.dbgChallenge (h : Hw) (scope : Nat) : Status × Hw :=
  let hold := match h.dbgSt.failedAt with
    | some s => decide (h.stepCount < s + oneSecond)
    | none => false
  if h.dbgState = 3 || hold then (.busy, h)
  else if 16 ≤ scope then (.range, h)
  else if h.on KS_STATE.SEALED then (.locked, h)
  else if !h.active scope then (.notReady, h)
  else
    let h := (h.wr DBG_SESSION.STATE 1).wr DBG_SESSION.SCOPE 0
    (.ok, { h with dbgSt := { h.dbgSt with scope := scope, nonce := [], sig := [], expired := false } })

/-- DBG_CHALLENGE (R465, R466). -/
def execDbgChallenge (scope : Byte) (s : State) :=
  s.onLive (fun h =>
    let r := h.dbgChallenge scope.toNat
    ({ r.2 with dbgSt := { r.2.dbgSt with chalStatus := r.1.code } }).answer r.1 0)

/-- CHALLENGE_NONCE_READY: 32 random bytes stand in the challenge register (R466). -/
def Hw.dbgNonce (h : Hw) : Hw :=
  if h.dbgState = 1 && h.dbgSt.nonce.isEmpty then
    { h with dbgSt := { h.dbgSt with nonce := (List.range 32).map (fun i => Config.freeByte h.fresh i) }
             fresh := h.fresh + 1 }
  else h

/-- CHALLENGE_NONCE_READY (R466). -/
def execChallengeNonceReady (s : State) := s.onLive Hw.dbgNonce

/-- A failed response: AUTH, counted (R466). -/
def Hw.dbgFail (h : Hw) : Hw :=
  let h := (h.incTop DBG_COUNT.AUTH_FAIL).inc (TS_AUTH_COUNT.COUNT h.dbgSt.scope)
  let h := (h.wr DBG_SESSION.STATE 0).wr DBG_SESSION.SCOPE 0
  ({ h with dbgSt := { h.dbgSt with respStatus := Status.auth.code, failedAt := some h.stepCount, expired := false } }).answer .auth 0

/-- DBG_RESPONSE: a signature goes to verification; one that comes after its challenge has run out fails, and one without a challenge
returns AUTH (R466). -/
def Hw.dbgResponse (h : Hw) (sig : List Byte) : Hw :=
  if h.dbgState = 1 then
    ({ h.wr DBG_SESSION.STATE 2 with dbgSt := { h.dbgSt with sig := sig, respStatus := Status.busy.code } }).answer .ok 0
  else if h.dbgSt.expired then h.dbgFail
  else ({ h with dbgSt := { h.dbgSt with respStatus := Status.auth.code } }).answer .auth 0

/-- DBG_RESPONSE (R465, R466). -/
def execDbgResponse (sig : List Byte) (s : State) := s.onLive (fun h => h.dbgResponse sig)

/-- CHIP_UID, 8 bytes big-endian. -/
def Hw.uidBytes (h : Hw) : List Byte :=
  Num.bytesBE 8 (h.rd CHIP_UID_HI.UID * 2 ^ 32 + h.rd CHIP_UID_LO.UID)

/-- The key that verifies for partition p: P0's platform key, or OWNER_KEY of entry p (R466, Table 4-4). -/
def Hw.ownerKey (h : Hw) (p : Nat) : List Byte := if p = 0 then h.p0Key else (h.part p).entry.key

/-- The bytes of an ASCII string. -/
def ascii (s : String) : List Byte := s.toList.map (fun c => BitVec.ofNat 8 c.toNat)

/-- What a debugger signs: "ZGD1" ‖ CHIP_UID ‖ p ‖ NONCE (R466). -/
def Hw.dbgMessage (h : Hw) : List Byte :=
  ascii "ZGD1" ++ h.uidBytes ++ [BitVec.ofNat 8 h.dbgSt.scope] ++ h.dbgSt.nonce

/-- DBG_VERIFY_DONE: a verified signature establishes the session (R466). -/
def Hw.dbgVerify (h : Hw) : Hw :=
  if h.dbgState = 2 then
    if Config.signatureOk (h.ownerKey h.dbgSt.scope) h.dbgMessage h.dbgSt.sig then
      let h := (h.wr DBG_SESSION.STATE 3).wr DBG_SESSION.SCOPE h.dbgSt.scope
      ({ h with dbgSt := { h.dbgSt with respStatus := 0, lastAt := h.stepCount, pending := false } }).answer .ok 0
    else h.dbgFail
  else h

/-- DBG_VERIFY_DONE (R466). -/
def execDbgVerifyDone (s : State) := s.onLive Hw.dbgVerify

/-- DBG_RESPONSE_TIMEOUT: no response within 1 s; a later one fails (R466). -/
def Hw.dbgTimeout (h : Hw) : Hw :=
  if h.dbgState = 1 && !h.dbgSt.nonce.isEmpty then
    { h.wr DBG_SESSION.STATE 0 with dbgSt := { h.dbgSt with expired := true } }
  else h

/-- DBG_RESPONSE_TIMEOUT (R466). -/
def execDbgResponseTimeout (s : State) := s.onLive Hw.dbgTimeout

/-- A session ends (R468): each halted block ends its halt and enters a safety stop at the next boundary, with CAUSE 0 (R475). -/
def Hw.dbgEnd (h : Hw) : Hw :=
  if h.dbgState = 3 then
    let h := (h.wr DBG_SESSION.STATE 0).wr DBG_SESSION.SCOPE 0
    let h := { h with dbgSt := { h.dbgSt with pending := false } }
    Num.forEach 8 (fun k acc =>
      let acc := acc.updBlock k (fun b => { b with haltReq := false, freezeReq := false })
      if acc.halted k then
        let acc := match acc.owner k with
          | some p => (acc.wr (SAFE_STATUS.CAUSE p) 0).askStop k 0 0
          | none => acc
        acc.updBlock k (fun b => { b with resumeReq := true, stepReq := false })
      else acc) h
  else h

/-- A challenge or a session ends where the unit is reset: at a start and when the key store is sealed (R468). -/
def Hw.dbgReset (h : Hw) : Hw :=
  let h := h.dbgEnd
  { (h.wr DBG_SESSION.STATE 0).wr DBG_SESSION.SCOPE 0 with dbgSt := {} }

/-- DBG_END_SESSION (R468, R475): without a session it returns AUTH. -/
def execDbgEndSession (s : State) :=
  s.onLive (fun h => if h.dbgState = 3 then h.dbgEnd.answer .ok 0 else h.answer .auth 0)

/-- TAP_RESET (R468, R475): TRST_N low or Test-Logic-Reset ends a session. -/
def execTapReset (s : State) := s.onLive Hw.dbgEnd

-- ## Accesses (R467, R469, R470)

/-- DBG_ACCESS: the unit takes one access at a time; an OP that is neither read nor write does nothing. -/
def Hw.dbgAccess (h : Hw) (op addr : Nat) (data : Word) : Hw :=
  let refuse (st : Status) : Hw := ({ h with dbgSt := { h.dbgSt with accStatus := st.code } }).answer st 0
  if op ≠ 1 && op ≠ 2 then h
  else if h.dbgState ≠ 3 then refuse .auth
  else if h.dbgSt.pending then h.answer .busy 0
  else { h with dbgSt := { h.dbgSt with pending := true, op := op, addr := addr, data := data, done := false } }

/-- DBG_ACCESS (R465, R467, R470). -/
def execDbgAccess (op : Fin 4) (addr data : Word) (s : State) := s.onLive (fun h => h.dbgAccess op.val addr.toNat data)

-- ## Halt, step, resume and freeze (R218, R219, R472 to R475)

/-- Whether partition p's set permits a freeze (Table 3-7). -/
def Hw.freezePermit (h : Hw) (k : Nat) : Bool :=
  match h.owner k with
  | some p => (h.claims p).flags.testBit 0
  | none => false

/-- The refusal of a DBG_CONTROL request, if any (R467, R470, R472). -/
def Hw.controlRefusal (h : Hw) (halt resume step : Nat) (freeze : Bool) : Option Status :=
  let all := halt ||| resume ||| step
  let named (k : Nat) : Bool := all.testBit k
  let mine (k : Nat) : Bool := h.dbgScope == 0 || h.ownsBlock h.dbgScope k
  let ks := (List.range 8).filter named
  if h.dbgState ≠ 3 then some .auth
  else if h.dbgSt.pending then some .busy
  else if ks.any (fun k => !mine k) then some .owner
  else if ks.any (fun k => h.blockFenced k || h.regionHolds k) then some .fenced
  else if (halt &&& resume) ||| (halt &&& step) ||| (resume &&& step) ≠ 0 then some .range
  else if freeze && ks.any (fun k => halt.testBit k && !h.freezePermit k) then some .locked
  else none

/-- A DBG_CONTROL request is executed; its effects begin at the next step boundary (R469, R472). -/
def Hw.dbgControl (h : Hw) (halt resume step : Nat) (freeze : Bool) : Hw :=
  match h.controlRefusal halt resume step freeze with
  | some st => h.answer st 0
  | none =>
    let h := { h.inc DBG_COUNT.ACCESSES with dbgSt := { h.dbgSt with lastAt := h.stepCount } }
    let h := Num.forEach 8 (fun k acc => acc.updBlock k (fun b =>
      { b with haltReq := b.haltReq || halt.testBit k, freezeReq := b.freezeReq || (freeze && halt.testBit k)
               resumeReq := b.resumeReq || resume.testBit k, stepReq := b.stepReq || step.testBit k })) h
    h.answer .ok 0

/-- DBG_HALT (R218, R219, R296, R467, R472, R473, R476): a request that halts blocks; it may name blocks to resume and to step. -/
def execDbgHalt (halt resume step : Byte) (freeze : Bool) (s : State) :=
  s.onLive (fun h => h.dbgControl halt.toNat resume.toNat step.toNat freeze)

/-- DBG_FREEZE (R219): a halt of block k that selects freeze. -/
def execDbgFreeze (k : BlockId) (s : State) := s.onLive (fun h => h.dbgControl (2 ^ k.val) 0 0 true)

/-- DBG_RESUME (R221, R472). -/
def execDbgResume (mask : Byte) (s : State) := s.onLive (fun h => h.dbgControl 0 mask.toNat 0 false)

/-- DBG_STEP (R472). -/
def execDbgStep (mask : Byte) (s : State) := s.onLive (fun h => h.dbgControl 0 0 mask.toNat false)

/-- The halts and steps of a step boundary: a debug step ends, requested halts begin for unfenced blocks, whose SS1s end (Table 16-7),
and a halted block asked to step runs for one step. -/
def Hw.debugHalts (h : Hw) : Hw :=
  Num.forEach 8 (fun k acc =>
    let b := acc.block k
    let acc := acc.setBlock k { b with stepping := b.stepReq && acc.halted k && !b.resumeReq, stepReq := false, haltReq := false, freezeReq := false }
    if b.haltReq && !acc.halted k && !acc.blockFenced k && !acc.regionHolds k then
      let acc := (acc.wrBit DBG_HALT.HALTED k true).wrBit DBG_HALT.FROZEN k b.freezeReq
      let acc := if b.ss1On then acc.endSs1 k else acc
      let acc := (acc.updBlock k (fun x => { x with laneRuns := false })).breakBlocked k
      (cellsOf k).foldl (fun a c =>
        (a.wrB (LEG_PWM_STATUS.HALTED c) true).wrB (LEG_PWM_STATUS.FROZEN c) (b.freezeReq && !a.cellFenced c)) acc
    else acc) h

/-- The end of the halt of block k (R221, R316, R358, R412, R473). -/
def Hw.endHalt (h : Hw) (k : Nat) : Hw :=
  let h := (cellsOf k).foldl (fun acc c => acc.haltEnds c) h
  let h := ((h.wrBit DBG_HALT.HALTED k false).wrBit DBG_HALT.FROZEN k false).updBlock k (fun b => { b with stepping := false })
  let h := (h.triosOf k).foldl (fun acc t => acc.motionAfterHalt t) h
  let h := (((h.chanAfterHalt k).fluxStart k).torqueHalt k).stepWakes k
  (cellsOf k).foldl (fun acc c => acc.applyHold c) h

/-- The resumes of a step boundary; a lane slice that came due during the halt starts (Table 21-4). -/
def Hw.debugResumes (h : Hw) : Hw :=
  Num.forEach 8 (fun k acc =>
    let go := (acc.block k).resumeReq
    let acc := acc.updBlock k (fun b => { b with resumeReq := false })
    if go && acc.halted k then
      (acc.endHalt k).updBlock k (fun b => { b with laneDue := none, underTest := if b.laneDue.isSome then b.laneDue else b.underTest })
    else acc) h

/-- FREEZE_TIMEOUT: no access or control has completed for 1 s; every frozen block takes the safe state of R218 and stays halted
(R474). -/
def Hw.freezeTimeout (h : Hw) : Hw :=
  if h.dbgSt.lastAt + oneSecond ≤ h.stepCount then
    Num.forEach 8 (fun k acc =>
      if acc.frozen k then
        let acc := acc.wrBit DBG_HALT.FROZEN k false
        let acc := (cellsOf k).foldl (fun a c => a.wrB (LEG_PWM_STATUS.FROZEN c) false) acc
        (cellsOf k).foldl (fun a c => a.applyHold c) acc
      else acc) h
  else h

/-- FREEZE_TIMEOUT (R474). -/
def execFreezeTimeout (s : State) := s.onLive Hw.freezeTimeout

end Sys2Proof.Machine
end

