-- ==== Sys2Proof/Machine/Identity.lean ====
section
/-!
DEFINITION. Identity and admission (chapter 4): the key store and the platform key, handshakes and sessions, the tags, epochs and credit
that admit a host request, and the record of refusals. The Turnstile's map of who may reach what stands in Access.lean.
-/
namespace Sys2Proof.Machine

-- ## Byte strings of the key store (R132)

/-- The word of the key store at an offset. -/
def ksWord (off : Nat) : RegId := ⟨0x40080000 + off, 0#32⟩

/-- `n` bytes of the key store from an offset. -/
def Hw.ksBytes (h : Hw) (off n : Nat) : List Byte :=
  (List.range (n / 4)).flatMap (fun i => Num.bytesLE 4 (h.reg (ksWord (off + 4 * i))).toNat)

/-- Place bytes in the key store. -/
def Hw.setKsBytes (h : Hw) (off : Nat) (bs : List Byte) : Hw :=
  Num.forEach (bs.length / 4) (fun i acc =>
    acc.setReg (ksWord (off + 4 * i)) (BitVec.ofNat 32 (Num.ofBytesLE ((bs.drop (4 * i)).take 4)))) h

/-- Offsets of handshake block p (Table 4-9). -/
def hsOff (p : Nat) : Nat := 0x1000 + p * 0x200

-- ## Refusals (R108, R131)

/-- The code of a requester in TS_LAST (Table 4-7). -/
def requesterCode : Requester → Nat
  | .host _ => 0
  | .thread _ _ => 1
  | .debugger _ => 2
  | .unauth _ => 3

/-- The partition in whose record a requester's refusals count. -/
def Hw.requesterPart (h : Hw) (q : Requester) : Option Nat :=
  match q with
  | .host p | .debugger p | .unauth p => some p.val
  | .thread k _ => h.owner k.val

/-- A refused access changes the counters and the last-refusal record of partition p (R108). -/
def Hw.refusedIn (h : Hw) (p who : Nat) (st : Status) (addr : Nat) : Hw :=
  let h := match st with
    | .owner => h.inc (TS_OWNER_COUNT.COUNT p)
    | .busy => h.inc (TS_BUSY_COUNT.COUNT p)
    | .auth => h.inc (TS_AUTH_COUNT.COUNT p)
    | _ => h
  ((h.wr (TS_LAST_ADDR.ADDRESS p) addr).wr (TS_LAST.STATUS p) st.code).wr (TS_LAST.REQUESTER p) who

/-- A refused access of a requester. -/
def Hw.refused (h : Hw) (q : Requester) (st : Status) (addr : Nat) : Hw :=
  match h.requesterPart q with
  | some p => h.refusedIn p (requesterCode q) st addr
  | none => h

-- ## Credit (R113)

/-- The bucket of a partition that has not yet activated since the start. -/
def Hw.creditInit (h : Hw) (p : Nat) : Hw :=
  (((h.wr (PART_CREDIT_CFG.DEPTH p) 1).wr (PART_CREDIT_CFG.REFILL p) 1).wr (PART_CREDIT.AVAILABLE p) 1).wr (PART_CREDIT.QUEUED p) 0

/-- Activation and re-entry: the bucket of the set in force, full. -/
def Hw.creditStart (h : Hw) (p : Nat) : Hw :=
  let c := h.claims p
  ((h.wr (PART_CREDIT_CFG.DEPTH p) c.depth).wr (PART_CREDIT_CFG.REFILL p) c.refill).wr (PART_CREDIT.AVAILABLE p) c.depth

/-- The refill of a frame boundary. -/
def Hw.creditRefill (h : Hw) (p : Nat) : Hw :=
  h.wr (PART_CREDIT.AVAILABLE p)
    (min (h.rd (PART_CREDIT_CFG.DEPTH p)) (h.rd (PART_CREDIT.AVAILABLE p) + h.rd (PART_CREDIT_CFG.REFILL p)))

/-- The cost of a transaction of `n` words: one credit for each started 64 bytes, at least one. -/
def creditCost (n : Nat) : Nat := max 1 ((4 * n + 63) / 64)

/-- Admission of a cost: it is taken and queued, or refused. -/
def Hw.takeCredit (h : Hw) (p cost : Nat) : Status × Hw :=
  let depth := h.rd (PART_CREDIT_CFG.DEPTH p)
  if depth < cost then (.range, h)
  else if cost ≤ h.rd (PART_CREDIT.AVAILABLE p) && h.rd (PART_CREDIT.QUEUED p) + cost ≤ depth then
    (.ok, (h.wr (PART_CREDIT.AVAILABLE p) (h.rd (PART_CREDIT.AVAILABLE p) - cost)).wr (PART_CREDIT.QUEUED p)
      (h.rd (PART_CREDIT.QUEUED p) + cost))
  else (.busy, h)

-- ## Sessions (R125 to R129)

/-- The counter register and the exhausted bit of a transport. -/
def counterOf (can : Bool) (p : Nat) : Fld := if can then PART_CAN_COUNTER.COUNTER p else PART_SER_COUNTER.COUNTER p
def exhaustedOf (can : Bool) (p : Nat) : Fld := if can then PART_SESSION.CAN_EXHAUSTED p else PART_SESSION.SER_EXHAUSTED p

/-- The counters of a new session start at 0 (R129). -/
def Hw.freshCounters (h : Hw) (p : Nat) : Hw :=
  (((h.wr (counterOf true p) 0).wr (counterOf false p) 0).wrB (exhaustedOf true p) false).wrB (exhaustedOf false p) false

/-- The session of partition p ends. -/
def Hw.endSession (h : Hw) (p : Nat) : Hw :=
  let h := h.setPart p { h.part p with key := none, newKey := none }
  (h.wrB (PART_SESSION.ESTABLISHED p) false).wrB (PART_SESSION.CHANGEOVER p) false

/-- The key of partition p changes or goes: its session ends, and a debug session that the key verified (R123, R124, R468). -/
def Hw.keyGone (h : Hw) (p : Nat) : Hw :=
  let h := h.endSession p
  if h.dbgState = 3 && h.dbgScope = p then h.dbgEnd else h

/-- A session key is established: it is the session's, or waits beside the old one (R127). -/
def Hw.establish (h : Hw) (p : Nat) (k : List Byte) : Hw :=
  let x := h.part p
  if x.key.isSome then (h.setPart p { x with newKey := some k }).wrB (PART_SESSION.CHANGEOVER p) true
  else ((h.setPart p { x with key := some k }).freshCounters p).wrB (PART_SESSION.ESTABLISHED p) true

/-- The new session replaces the old one (R127). -/
def Hw.changeover (h : Hw) (p : Nat) : Hw :=
  let x := h.part p
  match x.newKey with
  | some k => ((h.setPart p { x with key := some k, newKey := none }).freshCounters p).wrB (PART_SESSION.CHANGEOVER p) false
  | none => h

/-- SESSION_CHANGEOVER (R127). -/
def execSessionChangeover (p : PartId) (s : State) := s.onLive (fun h => h.changeover p.val)

/-- The prefix that a tag covers (Table 4-5). -/
def authPrefix (dir : Nat) (can : Bool) (part epoch counter len : Nat) : List Byte :=
  [BitVec.ofNat 8 dir, BitVec.ofNat 8 (Num.ofBool can), BitVec.ofNat 8 part, 0] ++ Num.bytesLE 2 epoch ++ [0, 0] ++
    Num.bytesLE 4 counter ++ Num.bytesLE 4 len

/-- The tag of a message, by its length in bytes (R128). -/
def tagOf (key pre body : List Byte) (n : Nat) : List Byte := (Config.cmac key (pre ++ body)).take n

/-- What a tagged request passes before it is executed: session, tag and counter, epoch, credit (R105, R116, R125, R129). The result holds
the first refusal, the credit taken and the key of the response's tag. -/
def Hw.admitTagged (h : Hw) (r : HostReq) (body tag : List Byte) : HostReq × Hw :=
  let p := r.part
  let can := decide (r.via < 4)
  let fits : Option (List Byte) → Bool := fun k => match k with
    | some k => tagOf k (authPrefix 1 can p r.epoch r.counter body.length) body tag.length == tag
    | none => false
  let x := h.part p
  let new := fits x.newKey
  let r := { r with key := if new then x.newKey else if can || fits x.key then x.key else none }
  let fail := fun (st : Status) (h : Hw) => ({ r with status := st.code }, h.refusedIn p 0 st r.addr)
  if 16 ≤ p then ({ r with status := Status.auth.code, key := none }, h)
  else if h.on KS_STATE.SEALED then fail .locked h
  else if !(new && r.counter != 0) && !(fits x.key && decide (h.rd (counterOf can p) < r.counter)) then fail .auth h
  else
    let h := if new then h.changeover p else h
    let h := (h.wr (counterOf can p) r.counter).wrB (exhaustedOf can p) (r.counter == 0xFFFFFFFF)
    let epoch := h.rd (PART_RUN.EPOCH p)
    if r.epoch ≠ epoch && (r.write || r.epoch != 0) then fail .staleEpoch h
    else
      let cost := creditCost r.count
      let c := h.takeCredit p cost
      if c.1 = .ok then ({ r with cost := cost }, c.2) else fail c.1 c.2

/-- The answer to a request: its body's first 12 bytes, address and data, without tag (Table 19-5). -/
def Hw.replyEpoch (h : Hw) (r : HostReq) : Nat := if r.part < 16 then h.rd (PART_RUN.EPOCH r.part) else 0

-- ## The handshake (Table 4-4, R126, R614)

/-- A handshake for p is pending. -/
def Hw.hsPending (h : Hw) (p : Nat) : Bool := let s := h.rd (HS_STATUS.STATE p); s == 1 || s == 2 || s == 3

/-- A write to HS_CTRL of block p by a host, its refusals in the order of R13. -/
def Hw.hsCtrlWrite (h : Hw) (q : Requester) (p : Nat) (v : Word) : Status × Hw :=
  let start := v.getLsbD 0
  let submit := v.getLsbD 1
  let own := match q with | .host i => i.val == p | _ => false
  let recent := ((h.part p).hsStarts).filter (fun s => decide (h.stepCount < s + oneSecond))
  if start && ((h.hsPending p && !own) || decide (4 ≤ recent.length)) then (.busy, h)
  else if start && submit then (.range, h)
  else if h.on KS_STATE.SEALED && (start || submit) then (.locked, h)
  else if start then
    (.ok, ((h.setPart p { h.part p with hsStarts := recent ++ [h.stepCount] }).wr (HS_STATUS.STATE p) 1).wr (HS_STATUS.CODE p) 0)
  else if submit then
    if h.rd (HS_STATUS.STATE p) = 2 then (.ok, h.wr (HS_STATUS.STATE p) 3) else (.notReady, h)
  else (.ok, h)

/-- What the device signs in handshake p; the host signs it with its own key after it. -/
def Hw.hsMessage (h : Hw) (p : Nat) : List Byte :=
  ascii "ZGS1" ++ h.uidBytes ++ [BitVec.ofNat 8 p] ++ h.ksBytes (hsOff p + 0x20) 32 ++ h.ksBytes (hsOff p + 0x40) 64

/-- A handshake that the seal finds pending is refused with LOCKED at its next step (R125; DESIGN CHOICE, log entry 67). -/
def Hw.hsLocked (h : Hw) (p : Nat) : Hw := (h.wr (HS_STATUS.STATE p) 5).wr (HS_STATUS.CODE p) Status.locked.code

/-- The device has filled HS_NONCE, HS_DEV_EPH and HS_DEV_SIG. -/
def Hw.hsPrepared (h : Hw) (p : Nat) : Hw :=
  if h.rd (HS_STATUS.STATE p) = 1 && h.on KS_STATE.SEALED then h.hsLocked p
  else if h.rd (HS_STATUS.STATE p) = 1 then
    let h := h.setKsBytes (hsOff p + 0x20) ((List.range 32).map (fun i => Config.freeByte h.fresh i))
    let h := h.setKsBytes (hsOff p + 0x40) (Config.ephemeralPublic h.fresh)
    let h := h.setKsBytes (hsOff p + 0x80) (Config.identitySign (h.hsMessage p))
    { (h.setPart p { h.part p with hsSecret := h.fresh }).wr (HS_STATUS.STATE p) 2 with fresh := h.fresh + 1 }
  else h

/-- HANDSHAKE_PREPARED (R126). -/
def execHandshakePrepared (p : PartId) (s : State) := s.onLive (fun h => h.hsPrepared p.val)

/-- Verification ends (R126). -/
def Hw.hsVerified (h : Hw) (p : Nat) : Hw :=
  if h.rd (HS_STATUS.STATE p) = 3 && h.on KS_STATE.SEALED then h.hsLocked p
  else if h.rd (HS_STATUS.STATE p) = 3 then
    let qh := h.ksBytes (hsOff p + 0xC0) 64
    if Config.signatureOk (h.ownerKey p) (h.hsMessage p ++ qh) (h.ksBytes (hsOff p + 0x100) 64) then
      ((h.establish p ((Config.sessionKey (h.part p).hsSecret qh (h.ksBytes (hsOff p + 0x20) 32)
        (ascii "ZGS1" ++ [BitVec.ofNat 8 p])).take 16)).wr (HS_STATUS.STATE p) 4).wr (HS_STATUS.CODE p) 0
    else (h.wr (HS_STATUS.STATE p) 5).wr (HS_STATUS.CODE p) Status.auth.code
  else h

/-- HANDSHAKE_VERIFIED (R126, R127). -/
def execHandshakeVerified (p : PartId) (s : State) := s.onLive (fun h => h.hsVerified p.val)

/-- No SUBMIT within 1 s (Table 4-4, step 3). -/
def Hw.hsTimeout (h : Hw) (p : Nat) : Hw := if h.rd (HS_STATUS.STATE p) = 2 then h.wr (HS_STATUS.STATE p) 0 else h

/-- HANDSHAKE_TIMEOUT (R126). -/
def execHandshakeTimeout (p : PartId) (s : State) := s.onLive (fun h => h.hsTimeout p.val)

-- ## The platform key (R121 to R123)

/-- The platform key is stored in a slot, which becomes the active one. -/
def Hw.storeKey (h : Hw) (slot : Nat) (k : List Byte) : Hw :=
  ({ h with slotKeys := h.slotKeys.set slot k, p0Key := k }.wr KS_STATE.P0_SLOT slot).setKsBytes 0x180 k

/-- ENROL, when the key store is not provisioned. -/
def Hw.enrol (h : Hw) : Status × Hw :=
  let k := h.ksBytes 0x100 64
  if Config.pointOk k then
    let h := (h.storeKey (h.rd KS_STATE.P0_SLOT) k).wr KS_STATE.ROTATIONS 0
    (.ok, ((h.wrB KS_STATE.PROVISIONED true).wr KS_KEY_STATUS.STATE 2).wr KS_KEY_STATUS.CODE 0)
  else (.range, (h.wr KS_KEY_STATUS.STATE 3).wr KS_KEY_STATUS.CODE Status.range.code)

/-- ROTATE: the signature and the new key are checked, and the rotation starts; one that comes while a rotation runs leaves its status
registers alone. -/
def Hw.rotate (h : Hw) : Status × Hw :=
  let k := h.ksBytes 0x100 64
  let msg := ascii "ZGK1" ++ h.uidBytes ++ Num.bytesBE 4 (h.rd KS_STATE.ROTATIONS + 1) ++ k
  let refuse := fun (st : Status) =>
    (st, if h.keyBusy ≠ 0 then h else (h.wr KS_KEY_STATUS.STATE 3).wr KS_KEY_STATUS.CODE st.code)
  if !Config.signatureOk h.p0Key msg (h.ksBytes 0x140 64) then refuse .auth
  else if !Config.pointOk k || k == h.p0Key || h.rd KS_STATE.ROTATIONS == 0xFFFF then refuse .range
  else if h.keyBusy ≠ 0 then (.notReady, h)
  else (.ok, { (h.wr KS_KEY_STATUS.STATE 1).wr KS_KEY_STATUS.CODE 0 with keyBusy := 1, rotKey := k })

/-- A write to KS_KEY_CTRL that the Turnstile has passed. -/
def Hw.keyCtrlWrite (h : Hw) (v : Word) : Status × Hw :=
  let op := Bits.get v 1 0
  if Bits.get v 31 16 ≠ 0x6B3D || (op != 1 && op != 2) then (.range, h)
  else if h.on KS_STATE.SEALED then (.locked, h)
  else if op = 1 then (if h.on KS_STATE.PROVISIONED then (.locked, h) else h.enrol)
  else h.rotate

/-- The new key is in the inactive slot and becomes the active one; P0's session ends (R122, R123). -/
def Hw.rotationDone (h : Hw) : Hw :=
  if h.keyBusy = 0 then h
  else
    let h := (h.storeKey (1 - h.rd KS_STATE.P0_SLOT) h.rotKey).inc KS_STATE.ROTATIONS
    let h := { (h.wr KS_KEY_STATUS.STATE 2).wr KS_KEY_STATUS.CODE 0 with keyBusy := 0, rotKey := [] }
    h.keyGone 0

/-- ROTATION_DONE (R122, R123). -/
def execRotationDone (s : State) := s.onLive Hw.rotationDone

-- ## The dies' own exchange (R119)

/-- The public key of die d in the die roster. -/
def Hw.dieKey (h : Hw) (d : Nat) : List Byte := h.ksBytes (0x200 + 64 * d) 64

/-- The nonce that a die sends another in the exchange with number n. -/
def dieNonce (n asker d : Nat) : List Byte := (List.range 32).map (fun i => Config.freeByte n (256 * asker + 32 * d + i))

/-- What die d signs for the asking die: the nonce, its die number and CHIP_UID. -/
def Hw.dieMessage (h : Hw) (asker d : Nat) : List Byte := dieNonce h.fresh asker d ++ [BitVec.ofNat 8 d] ++ h.uidBytes

/-- Whether the asking die accepts an answer: it checks the signature against the roster. -/
def Hw.answerOk (h : Hw) (a : DieAnswer) : Bool :=
  a.sig.length == 64 && Config.signatureOk (h.dieKey a.die.val) (h.dieMessage a.asker.val a.die.val) a.sig

/-- Whether die d authenticates itself to every other die, with `as` the answers that are not the dies' own. -/
def Hw.dieAuthentic (h : Hw) (d : Nat) (as : List DieAnswer) : Bool :=
  as.all (fun a => a.die.val != d || a.asker.val == d || h.answerOk a)

/-- The dies that fail, as a mask. -/
def Hw.authFails (h : Hw) (as : List DieAnswer) : Nat :=
  (List.range 8).foldl (fun v d => v + (if h.dieAuthentic d as then 0 else 2 ^ d)) 0

/-- The key store is sealed for scan: every session and the debug session end (R125, R127). A pending handshake stands until its next
step, which refuses it (DESIGN CHOICE, log entry 67). -/
def Hw.sealStore (h : Hw) : Hw :=
  (Num.forEach 16 (fun p acc => acc.endSession p) (h.wrB KS_STATE.SEALED true)).dbgReset

end Sys2Proof.Machine
end

