-- ==== Sys2Proof/Machine/Serial.lean ====
section
/-!
DEFINITION. The clocked serial port (chapter 19): its role, the master's frames and who waits for them, the direct-execution window with
its prefetch lines, and the frames of a host in slave role. A request's words are executed in Writes.lean.
-/
namespace Sys2Proof.Machine

/-- The lanes that a lane code names. -/
def laneCount (code : Nat) : Nat := 2 ^ code

-- ## The window (R524 to R527)

/-- The access of `who` to offset `a` that waits, if there is one. -/
def Hw.xipWait (h : Hw) (who a : Nat) : Option XipWait := h.serial.waits.find? (fun w => w.who == who && w.off == a)

/-- A read of the window by `who`: refused, delivered, or still waiting for its word (R515, R524, R525). -/
def Hw.xipRead (h : Hw) (who a : Nat) : Option (Status × Word) × Hw :=
  if !h.xipReaches a then (some (.range, 0), h)
  else if h.spiSlave then (some (.notReady, 0), h.xipClose who)
  else
    let h := if (h.xipWait who a).isSome then h else (h.xipClose who).xipOpen who a
    match h.xipWait who a with
    | some { word := some w, .. } => (some (.ok, w), h.xipClose who)
    | _ => (none, h)

/-- Who waits: the LOAD of a thread, the request that heads a queue of the host engine, the debugger's access, a thread's fetch, and the requester of a read that
stands alone. -/
def whoLoad (k t : Nat) : Nat := 8 * k + t
def whoCan (p : Nat) : Nat := 96 + p
def whoDebug : Nat := 113
def whoRead (q : Requester) : Nat :=
  256 + match q with
  | .thread k t => 8 * k.val + t.val
  | .host p => 64 + p.val
  | .debugger p => 80 + p.val
  | .unauth p => 96 + p.val

/-- Every line is invalidated; one being read is discarded once it has served those that wait for it (R527). -/
def Hw.invalidateLines (h : Hw) : Hw :=
  h.updSerial (fun s => { s with
    lines := []
    running := s.running.map (fun j => if j.cls = 3 || j.cls = 5 then { j with void := true } else j) })

/-- A read in the window that stands alone: its word is answered at once or when its line has been read (R525). -/
def Hw.xipWindowRead (h : Hw) (q : Requester) (addr : Nat) : Hw :=
  match q with
  | .unauth _ => (h.refused q .auth addr).answer .auth 0
  | _ =>
    if addr % 4 ≠ 0 || addr < 0x60000000 || 0x64000000 ≤ addr then (h.refused q .range addr).answer .range 0
    else
      match h.xipRead (whoRead q) (addr - 0x60000000) with
      | (some (st, w), h) => (if st = .ok then h else h.refused q st addr).answer st w
      | (none, h) => h

/-- XIP_WINDOW_READ (R524, R525, R527). -/
def execXipWindowRead (q : Requester) (addr : Word) (s : State) := s.onLive (fun h => h.xipWindowRead q addr.toNat)

/-- A fetched word arrives: the thread goes on with it (R157). The word is the one that the line holds. -/
def Hw.windowFetchDone (h : Hw) (k t : Nat) (word : Word) : Hw :=
  match (h.thread k t).stall with
  | .fetch a =>
    let fits := match h.xipWait (whoFetch k t) (a - 0x60000000) with
      | some { word := some w, .. } => w == word
      | some _ => true
      | none => false
    if h.threadState k t = 3 && fits then
      let x := h.thread k t
      let h := (h.xipClose (whoFetch k t)).setThread k t { x with stall := .none, fetched := some word, stopReq := false }
      h.wr (BLK_SEQ_STATE.THREAD k t) (if x.stopReq then 4 else 1)
    else h
  | _ => h

/-- WINDOW_FETCH_DONE (R157, R160). -/
def execWindowFetchDone (k : BlockId) (t : ThreadId) (word : Word) (s : State) :=
  s.onLive (fun h => h.windowFetchDone k.val t.val word)

/-- A fetch that has not been delivered within 20 µs faults the thread (R157). -/
def Hw.fetchTimeout (h : Hw) (k t : Nat) : Hw :=
  match (h.thread k t).stall with
  | .fetch a =>
    if h.threadState k t = 3 then (h.xipClose (whoFetch k t)).threadFault k t 0x0B (BitVec.ofNat 32 a) else h
  | _ => h

/-- FETCH_TIMEOUT (R157, R159). -/
def execFetchTimeout (k : BlockId) (t : ThreadId) (s : State) := s.onLive (fun h => h.fetchTimeout k.val t.val)

-- ## The master's frames (R516 to R523)

/-- Whether a waiting frame belongs to the window. -/
def SpiJob.isLine (j : SpiJob) : Bool := j.cls == 3 || j.cls == 5

/-- The select code of a frame, if it drives one (R519, R520, R522, R524). -/
def Hw.jobSel (h : Hw) (j : SpiJob) : Option Nat :=
  match j.cls with
  | 2 => some (h.rd (POS_GEOM.SER_SEL j.unit))
  | 4 => if h.on SPI_FRAME_SEL.NOSEL then none else some (h.rd SPI_FRAME_SEL.SEL)
  | 7 => some h.serial.contSel
  | _ => some (h.rd SPI_XIP_CFG.SEL)

/-- The waiting frame of the highest class, the oldest within it (R521). -/
def Serial.nextJob (s : Serial) : Option SpiJob :=
  ([2, 3, 4, 5].filterMap (fun c => s.queue.find? (fun j => j.cls == c))).head?

/-- SPI_STATUS.SOURCE of a frame. -/
def jobSource (j : SpiJob) : Nat :=
  match j.cls with
  | 5 => 4
  | 4 => 5
  | c => c

/-- A frame begins to run: SEL shows its code and SSTB falls; a frame without a select leaves SEL as it was and SSTB high (R519, R520). -/
def Hw.runJob (h : Hw) (j : SpiJob) : Hw :=
  let c := h.jobSel j
  ((h.updSerial (fun s => { s with running := some j, sel := c.getD s.sel, strobe := c.isNone })).wrB SPI_STATUS.BUSY true).wr SPI_STATUS.SOURCE (jobSource j)

/-- MASTER_FRAME_START: on an idle port in master role the next frame starts, after the exit sequence where the flash of its select code
is held in continuous mode (R521, R526). -/
def Hw.masterStart (h : Hw) : Hw :=
  let s := h.serial
  if h.spiSlave || s.running.isSome || h.on SPI_STATUS.PENDING_ROLE then h
  else match s.nextJob with
    | none => h
    | some j =>
      if h.on SPI_STATUS.CONTINUOUS && h.jobSel j == some s.contSel && !(j.isLine && h.on SPI_XIP_CFG.OMIT) then
        (h.wrB SPI_STATUS.CONTINUOUS false).runJob { cls := 7 }
      else
        let h := h.updSerial (fun s => { s with queue := s.queue.erase j })
        let h := if j.cls = 4 then
            let h := h.wr SPI_FRAME_STATUS.STATE 2
            if h.jobSel j = some (h.rd SPI_XIP_CFG.SEL) then h.invalidateLines else h
          else h
        h.runJob j

/-- MASTER_FRAME_START (R516 to R522, R526, R527, R534). -/
def execMasterFrameStart (s : State) := s.onLive Hw.masterStart

/-- The words of a line reach those that wait for them: standing reads are answered (R525). -/
def Hw.serveLine (h : Hw) (l : Nat) (d : List Byte) : Hw :=
  let h := h.updSerial (fun s => { s with waits := s.waits.map (fun w =>
    if w.off / 64 = l && w.word.isNone then (if w.late then { w with late := false } else { w with word := some (lineWord d w.off) })
    else w) })
  h.serial.waits.foldl (fun acc w => match w.word with
    | some x => if 256 ≤ w.who then (acc.xipClose w.who).answer .ok x else acc
    | none => acc) h

/-- A prefetch of the line after `l` is queued (R525). -/
def Hw.prefetchNext (h : Hw) (l : Nat) : Hw :=
  let n := l + 1
  if !h.xipReaches (64 * n) || (h.xipLine n).isSome || h.serial.queue.any (fun j => j.isLine && j.line == n) then h
  else h.updSerial (fun s => { s with queue := s.queue ++ [{ cls := 5, line := n }] })

/-- A window frame ends: its line takes the least recently used entry, unless it was invalidated, and the next one is asked for. -/
def Hw.lineDone (h : Hw) (j : SpiJob) (d : List Byte) : Hw :=
  let h := if h.on SPI_XIP_CFG.OMIT then
      (h.wrB SPI_STATUS.CONTINUOUS true).updSerial (fun s => { s with contSel := h.rd SPI_XIP_CFG.SEL })
    else h
  let h := h.serveLine j.line d
  if j.void then h
  else
    let h := h.updSerial (fun s =>
      let ls := s.lines.filter (fun e => e.1 != j.line) ++ [(j.line, d)]
      { s with lines := ls.drop (ls.length - 4) })
    h.prefetchNext j.line

/-- The port is idle again, with SSTB high. -/
def Hw.spiIdle (h : Hw) : Hw :=
  ((h.updSerial (fun s => { s with running := none, strobe := true })).wrB SPI_STATUS.BUSY false).wr SPI_STATUS.SOURCE 0

/-- MASTER_FRAME_DONE: SSTB rises and the frame's data are delivered. -/
def Mach.masterDone (m : Mach) (data : List Byte) : Mach :=
  match m.hw.serial.running with
  | none => m
  | some j =>
    let read := m.hw.on SPI_FRAME_CFG.DIR
    let due := if j.isLine then 64 else if j.cls = 4 && read then m.hw.rd SPI_FRAME_CFG.DATA_BYTES else data.length
    if data.length ≠ due then m
    else
      let h := m.hw.spiIdle
      match j.cls with
      | 2 => { m with hw := h.updSerial (fun s => if j.void then s else { s with polled := s.polled ++ [j.unit] }) }
      | 4 => { mem := if read then m.mem.setBytes 0x40061000 data else m.mem, hw := h.wr SPI_FRAME_STATUS.STATE 3 }
      | 7 => { m with hw := h }
      | _ => { m with hw := h.lineDone j data }

/-- MASTER_FRAME_DONE (R516, R521, R523, R525 to R527). -/
def execMasterFrameDone (data : List Byte) (s : State) := s.onMach (fun m => m.masterDone data)

/-- The widths of the composed frame are whole multiples of their lanes (R516, R523). -/
def Hw.frameFits (h : Hw) : Bool :=
  h.rd SPI_FRAME_CMDCFG.CMD_BITS % laneCount (h.rd SPI_FRAME_CMDCFG.CMD_LANES) == 0 &&
  h.rd SPI_FRAME_CFG.ADDR_BITS % laneCount (h.rd SPI_FRAME_CFG.ADDR_LANES) == 0 &&
  decide (h.rd SPI_FRAME_CFG.DATA_BYTES ≤ 4096)

/-- A software frame waits or runs. -/
def Hw.frameBusy (h : Hw) : Bool := h.rd SPI_FRAME_STATUS.STATE == 1 || h.rd SPI_FRAME_STATUS.STATE == 2

/-- A write to SPI_FRAME_CTRL (R523). -/
def Hw.frameCtrlWrite (h : Hw) (v : Word) : Status × Hw :=
  if !v.getLsbD 0 then (.ok, h)
  else if !h.frameFits then (.range, h)
  else if h.spiSlave || h.frameBusy then (.notReady, h)
  else (.ok, (h.wr SPI_FRAME_STATUS.STATE 1).updSerial (fun s => { s with queue := s.queue ++ [{ cls := 4 }] }))

/-- SPI_GPIO: a driven pin shows its output level, any other is high (R520). -/
def Hw.gpioWrite (h : Hw) (w : Word) : Hw :=
  let h := h.setReg SPI_GPIO w
  h.wr SPI_GPIO.IN ((h.rd SPI_GPIO.OUT &&& h.rd SPI_GPIO.OE) ||| (3 - h.rd SPI_GPIO.OE))

/-- A write to SPI_XIP_CFG (`mode` false) or SPI_XIP_MODE: DUMMY must hold the mode byte with OMIT 1, and the lines are invalidated
(R526, R527). -/
def Hw.xipCfgWrite (h : Hw) (mode : Bool) (w : Word) : Status × Hw :=
  if mode then (.ok, h.setReg SPI_XIP_MODE w)
  else
    let n := h.setReg SPI_XIP_CFG w
    if n.on SPI_XIP_CFG.OMIT && decide (n.rd SPI_XIP_CFG.DUMMY < 8 / laneCount (n.rd SPI_XIP_CFG.LANES)) then (.range, h)
    else (.ok, n.invalidateLines)

-- ## Polls of serial sensors (R380, R381)

/-- The poll of unit u that has not completed is no longer wanted. -/
def Hw.dropPoll (h : Hw) (u : Nat) : Hw :=
  h.updSerial (fun s => { s with
    queue := s.queue.filter (fun j => !(j.cls == 2 && j.unit == u))
    running := s.running.map (fun j => if j.cls = 2 && j.unit = u then { j with void := true } else j)
    polled := s.polled.filter (fun v => v != u) })

/-- POSITION_POLL: the next poll is due. One that has not completed, and one that finds the port in slave role, fails (R380, R381). -/
def Hw.positionPoll (h : Hw) (u : Nat) : Hw :=
  let x := h.posUnit u
  if posKind u ≠ 3 || !h.on (POS_CFG.ENABLE u) || decide (h.stepCount < x.pollAt) then h
  else
    let h := if x.polling then (h.dropPoll u).pollFailed u else h
    let h := h.setPosUnit u { h.posUnit u with pollAt := h.stepCount + h.rd (POS_GEOM2.SER_POLL u) }
    if h.spiSlave then h.pollFailed u
    else (h.setPosUnit u { h.posUnit u with polling := true }).updSerial (fun s => { s with queue := s.queue ++ [{ cls := 2, unit := u }] })

/-- POSITION_POLL (R380, R381, R522). -/
def execPositionPoll (u : UnitId) (s : State) := s.onLive (fun h => h.positionPoll u.val)

/-- SERIAL_POSITION_FRAME: the poll frame of unit u has been read, and its data are applied (R380 to R382). -/
def Hw.serialPosition (h : Hw) (u : Nat) (data : List Byte) : Hw :=
  let runs := match h.serial.running with
    | some j => j.cls == 2 && j.unit == u && !j.void
    | none => false
  if !(h.posUnit u).polling || !(runs || h.serial.polled.contains u) then h
  else
    let h := if runs then h.spiIdle else h
    (h.updSerial (fun s => { s with polled := s.polled.filter (fun v => v != u) })).pollFrame u data

/-- SERIAL_POSITION_FRAME (R380 to R382, R386). -/
def execSerialPositionFrame (u : UnitId) (data : List Byte) (phase : Fin 500) (s : State) :=
  s.onLive (fun h => (h.atPhase phase.val).serialPosition u.val data)

-- ## Roles (R513 to R515)

/-- A new value of SPI_CFG: the role waits until the port is idle (R515). -/
def Hw.spiCfgWrite (h : Hw) (w : Word) : Hw :=
  let h := h.setReg SPI_CFG w
  h.wrB SPI_STATUS.PENDING_ROLE (h.rd SPI_CFG.ROLE != h.rd SPI_STATUS.ROLE)

/-- Every master request that waits fails, and a slave request or response is discarded (R515). -/
def Hw.failMaster (h : Hw) : Hw :=
  let q := h.serial.queue
  let w := h.serial.waits
  let h := h.updSerial (fun s => { s with queue := [], waits := [], req := none, resp := [] })
  let h := (q.filter (fun j => j.cls == 2)).foldl (fun acc j => acc.pollFailed j.unit) h
  let h := if h.rd SPI_FRAME_STATUS.STATE = 1 then h.wr SPI_FRAME_STATUS.STATE 0 else h
  let h := w.foldl (fun acc x =>
    if 256 ≤ x.who then acc.answer .notReady 0
    else if 128 ≤ x.who && x.word.isNone then
      acc.threadFault ((x.who - 128) / 8) ((x.who - 128) % 8) 0x0B (BitVec.ofNat 32 (0x60000000 + x.off))
    else acc) h
  h.wr SPI_SLAVE_STATUS.STATE 0

/-- The role in force becomes that of SPI_CFG: the flash leaves continuous mode and the lines are invalidated (R515, R526, R527). -/
def Hw.takeRole (h : Hw) : Hw :=
  let h := ((h.failMaster).invalidateLines).wrB SPI_STATUS.CONTINUOUS false
  (h.wr SPI_STATUS.ROLE (h.rd SPI_CFG.ROLE)).wrB SPI_STATUS.PENDING_ROLE false

/-- ROLE_APPLY: on an idle port (R515). -/
def Hw.roleApply (h : Hw) : Hw := if h.on SPI_STATUS.PENDING_ROLE && h.serial.running.isNone then h.takeRole else h

/-- ROLE_APPLY (R381, R513, R515, R526, R527). -/
def execRoleApply (s : State) := s.onLive Hw.roleApply

/-- The probe of stage 7 found no valid header: the role becomes slave as the device enters WAITING (R514). -/
def Hw.spiToSlave (h : Hw) : Hw := (h.wr SPI_CFG.ROLE 1).takeRole

-- ## The host in slave role (R528 to R533)

/-- The state of the slave port. -/
def Hw.slaveState (h : Hw) : Nat := h.rd SPI_SLAVE_STATUS.STATE

/-- A request's body (Table 19-5), from the bytes after the command byte. -/
def serialRequest (d : List Byte) : HostReq :=
  let op := (d.getD 1 0).toNat
  let n := frameNum d 2 2
  { via := 4, part := (d.getD 0 0).toNat, tagged := op < 0x80, write := op.testBit 1, fixed := op.testBit 4, count := n,
    epoch := frameNum d 4 2, counter := frameNum d 8 4, addr := frameNum d 12 4,
    data := if op.testBit 1 then (List.range n).map (fun i => BitVec.ofNat 32 (frameNum d (16 + 4 * i) 4)) else [] }
where
  /-- `n` little-endian bytes of a list from an offset. -/
  frameNum (d : List Byte) (off n : Nat) : Nat := Num.ofBytesLE ((d.drop off).take n)

/-- The length of a request's body. -/
def HostReq.bodyLen (r : HostReq) : Nat := 16 + (if r.write then 4 * r.count else 0)

/-- Whether a REQUEST frame is well formed (R531). -/
def requestFormed (d : List Byte) : Bool :=
  let op := (d.getD 1 0).toNat
  let r := serialRequest d
  decide (16 ≤ d.length) && (op % 4 == 1 || op % 4 == 2) && (op / 4 % 4 == 0) && (op / 32 % 4 == 0) &&
    decide (1 ≤ r.count ∧ r.count ≤ 1024) && d.length == r.bodyLen + (if r.tagged then 8 else 0)

/-- A malformed or unknown slave frame (R528, R531, R537). -/
def Hw.slaveFrameError (h : Hw) : Hw := (h.incTop SPI_SLAVE_COUNT.FRAME_ERRORS).record (faultCode 5 4 0x05)

/-- SLAVE_REQUEST_FRAME: accepted, rejected or malformed; an accepted request passes admission (R113, R128, R529, R531). -/
def Hw.slaveRequest (h : Hw) (d : List Byte) : Hw :=
  if !h.spiSlave then h
  else if h.slaveState ≠ 0 then (h.wr SPI_SLAVE_STATUS.LAST_REQ 1).incTop SPI_SLAVE_COUNT.REJECTED
  else if !requestFormed d then (h.wr SPI_SLAVE_STATUS.LAST_REQ 2).slaveFrameError
  else
    let r := { serialRequest d with ord := h.admitted }
    let h := { h with admitted := h.admitted + 1 }
    let a := if r.tagged then h.admitTagged r (d.take r.bodyLen) (d.drop r.bodyLen) else (r, h)
    ((a.2.updSerial (fun s => { s with req := some a.1, resp := [] })).wr SPI_SLAVE_STATUS.LAST_REQ 0).wr SPI_SLAVE_STATUS.STATE 1

/-- SLAVE_REQUEST_FRAME (R113, R116, R125, R128, R129, R528, R529, R531, R534). -/
def execSlaveRequestFrame (data : List Byte) (s : State) := s.onLive (fun h => h.slaveRequest data)

/-- SLAVE_RESPONSE_FRAME: with no response ready every word underruns; one clocked with its trailer is consumed (R532, R534). -/
def Hw.slaveResponse (h : Hw) (clocked : Nat) : Hw :=
  if !h.spiSlave then h
  else if h.slaveState ≠ 2 then (if clocked = 0 then h else h.wrB SPI_SLAVE_STATUS.UNDERRUN true)
  else if clocked < h.rd SPI_SLAVE_STATUS.RESP_LEN + 4 then h
  else ((h.wrB SPI_SLAVE_STATUS.UNDERRUN false).wr SPI_SLAVE_STATUS.STATE 0).updSerial (fun s => { s with resp := [] })

/-- SLAVE_RESPONSE_FRAME (R528, R532, R534). -/
def execSlaveResponseFrame (clocked : Nat) (s : State) := s.onLive (fun h => h.slaveResponse clocked)

/-- SLAVE_PORT_STATUS_FRAME: the status word is sent, which never underruns (R528, R532). -/
def Hw.slavePortStatus (h : Hw) : Hw :=
  if h.spiSlave then (h.answer .ok (h.reg SPI_SLAVE_STATUS)).wrB SPI_SLAVE_STATUS.UNDERRUN false else h

/-- SLAVE_PORT_STATUS_FRAME (R528, R532). -/
def execSlavePortStatusFrame (s : State) := s.onLive Hw.slavePortStatus

/-- SLAVE_UNKNOWN_FRAME (R528, R537). -/
def execSlaveUnknownFrame (s : State) := s.onLive (fun h => if h.spiSlave then h.slaveFrameError else h)

/-- RESPONSE_EXPIRED: a response that has waited 1 s is discarded (R533). -/
def Hw.responseExpired (h : Hw) : Hw :=
  if h.slaveState = 2 then
    (((h.incTop SPI_SLAVE_COUNT.EXPIRED).record (faultCode 5 4 0x06)).wr SPI_SLAVE_STATUS.STATE 0).updSerial (fun s => { s with resp := [] })
  else h

/-- RESPONSE_EXPIRED (R533, R537). -/
def execResponseExpired (s : State) := s.onLive Hw.responseExpired

end Sys2Proof.Machine
end

