-- ==== Sys2Proof/Machine/SelfTest.lean ====
section
/-!
DEFINITION. Built-in self-test (chapter 21): the slices of the Carousel and their ends. The deep tests stand with the power states.
-/
namespace Sys2Proof.Machine

-- ## Lanes (R569, R570)

/-- Lane L of block k fails its test: it is retired on both dies, and with the last spare the block is no longer tested (R570). A failure
that would need a seventeenth spare fences the block. -/
def Hw.retireLane (h : Hw) (k l : Nat) : Hw :=
  let n := h.rd (ST_LANE.RETIRED k)
  if 16 ≤ n then h.fenceBlock k 0x18
  else
    let h := ((h.blockFault k 0x17).wr (ST_LANE.RETIRED k) (n + 1)).wr (ST_LANE.LAST_RETIRED k) l
    let h := h.updBlock k (fun b => { b with retired := l :: b.retired })
    if n = 15 then h.wrB (ST_LANE.UNTESTED k) true else h

/-- A slice of lane L starts in every block that can lend it: a halted block's waits for the end of the halt (Table 21-4), and a lane that
is retired has no slice. -/
def Hw.laneSlices (h : Hw) (l : Nat) : Hw :=
  Num.forEach 8 (fun k acc =>
    let b := acc.block k
    if acc.blockFenced k || acc.regionHolds k || acc.on (ST_LANE.UNTESTED k) || b.retired.contains l || b.underTest.isSome then acc
    else if acc.halted k then acc.setBlock k { b with laneDue := some l }
    else acc.setBlock k { b with underTest := some l }) h

/-- The lane slice of an interval: lanes in ascending order, and a pass that ends is counted (R568, Table 21-2). -/
def Hw.laneSlice (h : Hw) : Hw :=
  let l := h.carouselNext
  let h := h.laneSlices l
  if l = 511 then { h.inc ST_CAROUSEL.ROTATIONS with carouselNext := 0 } else { h with carouselNext := l + 1 }

/-- LANE_SLICE_CHECK: the signature is checked and the lane handed back or retired (R569, R570). -/
def Hw.laneCheck (h : Hw) (k : Nat) (passed : Bool) : Hw :=
  match (h.block k).underTest with
  | none => h
  | some l =>
    let h := h.updBlock k (fun b => { b with underTest := none })
    if passed then h else h.retireLane k l

/-- LANE_SLICE_CHECK (R275, R569, R570, R576). -/
def execLaneSliceCheck (k : BlockId) (passed : Bool) (s : State) := s.onLive (fun h => h.laneCheck k.val passed)

-- ## Memory (R571)

/-- The unit of Table 0-6 of a word that the read slices of die d reach. -/
def scrubUnit (d addr : Nat) : Nat :=
  if d ≤ 1 then (if 0x22000000 ≤ addr then 7 else 1) else if d ≤ 5 then d else if d = 6 then 6 else 0

/-- An error that a read slice of die d finds (R571). -/
def Hw.scrubFound (h : Hw) (d : Nat) (e : ScrubFind) : Hw :=
  if e.correctable then h.incTop ST_SCRUB_COUNT.CORRECTED
  else
    let h := h.incTop ST_SCRUB_COUNT.UNCORRECTABLE
    if 2 ≤ d && d ≤ 5 then h.fenceRegion (d - 2) 0x06
    else match e.block with
      | some k => h.fenceBlock k.val 0x19
      | none => { h.record (faultCode 6 (scrubUnit d e.addr.toNat) 0x04) with ramBad := e.addr.toNat / 4 * 4 :: h.ramBad }

-- ## Comparators and SAR converters (R572, R573)

/-- The cell of comparator `i` of region r, A then B in ascending cell order. -/
def compSliceCell (r i : Nat) : Nat := 12 * r + i / 2

/-- The slices of leg die r + 2: a comparator goes to a spare once the one before is handed back, and SAR_1's secondary positions of one cell
convert the DAC (R568, R572, R573). -/
def Hw.legSlices (h : Hw) (r : Nat) (sarOk : Bool) : Hw :=
  let x := h.region r
  let c := 12 * r + x.sarSlice
  let h := h.setRegion r { x with compBusy := true, sarSlice := (x.sarSlice + 1) % 12 }
  let h := h.setCell c { h.cell c with auxAt := some h.stepCount }
  if sarOk then h else h.fenceCell c 0x19

/-- COMPARATOR_SLICE_END: the comparator is handed back, or its cell is fenced (R572). -/
def Hw.compSliceEnd (h : Hw) (r : Nat) (passed : Bool) : Hw :=
  let x := h.region r
  if x.compBusy then
    let h := h.setRegion r { x with compBusy := false, compSlice := (x.compSlice + 1) % 24 }
    if passed then h else h.fenceCell (compSliceCell r x.compSlice) 0x18
  else h

/-- COMPARATOR_SLICE_END (R572). -/
def execComparatorSliceEnd (r : RegionId) (passed : Bool) (s : State) := s.onLive (fun h => h.compSliceEnd r.val passed)

-- ## Precision converters (R574)

/-- Whether converter n (64 the spare) can be tested now: not in calibration, not replaced already, the spare only while it is free. -/
def Hw.convTestable (h : Hw) (n : Nat) : Bool :=
  let spare := h.rd ST_MEAS_STATUS.SPARE_FOR
  if n = 64 then spare == 0xFF && !(h.conv 64).failed
  else spare != n && h.rd (measState n) != 4 && !(h.conv 64).failed

/-- The converter test of an interval: the next converter that can be tested goes under test, and the spare takes its place at its window
boundary (R574, R576). -/
def Hw.convSlice (h : Hw) : Hw :=
  if h.convTest ≠ 0xFF then h
  else match ((List.range 65).map (fun i => (h.convNext + i) % 65)).find? (fun n => h.convTestable n) with
    | none => h
    | some n =>
      let h := { h.wr ST_MEAS_STATUS.UNDER_TEST n with convTest := n, convNext := (n + 1) % 65 }
      if n = 64 then h
      else if (h.conv n).isOpen then h.updConv n (fun x => { x with spareNext := true })
      else h.updConv n (fun x => { x with bySpare := true })

/-- A failed converter: the spare stands for it from now on, or where it already stands for another its results are invalid (R574). -/
def Hw.convFails (h : Hw) (n : Nat) : Hw :=
  let h := match h.measOwner n with
    | some p => h.record (faultCode 4 p 0x29)
    | none => h
  if n = 64 then h.updConv 64 (fun x => { x with failed := true })
  else if h.rd ST_MEAS_STATUS.SPARE_FOR = 0xFF then
    (h.wr ST_MEAS_STATUS.SPARE_FOR n).updConv n (fun x => { x with bySpare := true, spareNext := false })
  else h.updConv n (fun x => { x with failed := true })

/-- The reference cross-check fails: D6's results are invalid until the next start (R574, Table 21-1). -/
def Hw.referenceFails (h : Hw) : Hw := (((h.setDie 6 { h.die 6 with clockBad := true }).wrB MEAS_REF_STATUS.INT_REF_OK false).measInvalid).d6Invalid 0x2A true

/-- CONVERTER_TEST_END: the converter is handed back at its next window boundary, at once where none of its windows is open, or replaced
(R574). -/
def Hw.convTestEnd (h : Hw) (ok : Bool) (dev : Int) : Hw :=
  let n := h.convTest
  if n = 0xFF || (h.conv n).backNext then h
  else
    let h := h.wrI ST_MEAS_STATUS.REF_DEV (Num.clamp (-32768) 32767 dev)
    let h := if !ok then (h.convBack n).convFails n
      else if n < 64 && (h.conv n).isOpen then h.updConv n (fun x => { x with backNext := true })
      else h.convBack n
    if 500 < dev.natAbs then h.referenceFails else h

/-- CONVERTER_TEST_END (R269, R574, R576). -/
def execConverterTestEnd (windowsOk : Bool) (refDev : Int) (s : State) := s.onLive (fun h => h.convTestEnd windowsOk refDev)

-- ## The Carousel (R564, R568)

/-- CAROUSEL_SLICE_START: the slices of die d that are due at an interval (R568, Table 21-2). D6 and D7 defer theirs while their zone is at
throttle. `found` are the errors of the read slice, `sarOk` the outcome of the SAR slice. -/
def Hw.carouselSlice (h : Hw) (d : Nat) (found : List ScrubFind) (sarOk : Bool) : Hw :=
  let due := h.stepCount % max (h.rd ST_CFG.INTERVAL) 1 == 0
  if h.power ≠ .running || h.chipFault || !h.on ST_CFG.CAROUSEL_EN || !due then h
  else if 6 ≤ d && decide (2 ≤ h.rd (THERM_STATUS.LEVEL (dieZone d))) then h.wrBit ST_CAROUSEL.DEFERRED d true
  else
    let h := h.wrBit ST_CAROUSEL.DEFERRED d false
    let h := found.foldl (fun acc e => acc.scrubFound d e) h
    if d = 0 then h.laneSlice
    else if 2 ≤ d && d ≤ 5 then h.legSlices (d - 2) sarOk
    else if d = 6 then h.convSlice
    else h

/-- CAROUSEL_SLICE_START (R275, R568, R569, R571 to R574, R576). -/
def execCarouselSliceStart (d : DieId) (found : List ScrubFind) (sarOk : Bool) (s : State) :=
  s.onLive (fun h => h.carouselSlice d.val found sarOk)

/-- A chip fault or a warm restart ends every slice, and the rotation restarts at its first unit (Table 21-4). -/
def Hw.carouselReset (h : Hw) : Hw :=
  let h := Num.forEach 8 (fun k acc => acc.updBlock k (fun b => { b with underTest := none, laneDue := none })) h
  let h := Num.forEach 4 (fun r acc => acc.setRegion r { acc.region r with compBusy := false, compSlice := 0, sarSlice := 0 }) h
  let h := if h.convTest = 0xFF then h else h.convBack h.convTest
  { h with carouselNext := 0, convNext := 0 }

/-- Step 5 of a reload of partition p hands its units back without a result (Table 21-4). -/
def Hw.carouselRelease (h : Hw) (p : Nat) : Hw :=
  let ks := h.blocksOf p
  let h := ks.foldl (fun acc k => acc.updBlock k (fun b => { b with underTest := none, laneDue := none })) h
  Num.forEach 4 (fun r acc =>
    if (acc.region r).compBusy && ks.contains (blockOf (compSliceCell r (acc.region r).compSlice)) then
      acc.setRegion r { acc.region r with compBusy := false }
    else acc) h

end Sys2Proof.Machine
end

