-- ==== Sys2Proof/Machine/RegTable.lean ====
section
/-!
DEFINITION. The register map as a table: for every register of the spec its address pattern, its fields with their access
codes (Table 0-4) and their stated ranges, and which effect a write of it has beyond its fields.
-/
namespace Sys2Proof.Machine

def regRowsChip0 : List RegRow :=
  [ -- CHIP_ID
    ⟨0x0, [], .plain, 0x48804D01#32,
      [⟨31, 16, .ro, .any⟩, ⟨15, 8, .ro, .any⟩, ⟨7, 0, .ro, .any⟩]⟩
  , -- DIE_STATE
    ⟨0x4, [], .plain, 0x0#32,
      [⟨31, 0, .ro, .any⟩]⟩
  , -- FENCE_CELL_0
    ⟨0x10, [], .plain, 0x0#32,
      [⟨31, 0, .ro, .any⟩]⟩
  , -- FENCE_CELL_1
    ⟨0x14, [], .plain, 0x0#32,
      [⟨15, 0, .ro, .any⟩]⟩
  , -- FENCE_UNIT
    ⟨0x18, [], .plain, 0x0#32,
      [⟨11, 8, .ro, .any⟩, ⟨7, 0, .ro, .any⟩]⟩
  , -- CHIP_FAULT
    ⟨0x20, [], .plain, 0x0#32,
      [⟨15, 0, .ro, .any⟩]⟩
  , -- LINK_d_ERR
    ⟨0x40, [(0x4, 6)], .plain, 0x0#32,
      [⟨31, 16, .ro, .any⟩, ⟨15, 0, .ro, .any⟩]⟩
  , -- REGION_r_RETURN
    ⟨0x10000104, [(0x1000000, 4)], .regionReturn, 0x0#32,
      [⟨31, 16, .ro, .any⟩, ⟨11, 9, .ro, .any⟩, ⟨8, 6, .ro, .any⟩, ⟨2, 2, .ro, .any⟩, ⟨1, 1, .w1s, .any⟩, ⟨0, 0, .w1s, .any⟩]⟩
  , -- CLK_STATUS
    ⟨0x1000, [], .plain, 0x0#32,
      [⟨15, 8, .ro, .any⟩, ⟨1, 1, .ro, .any⟩, ⟨0, 0, .ro, .any⟩]⟩
  , -- SUPPLY_STATUS
    ⟨0x1004, [], .plain, 0x0#32,
      [⟨11, 8, .ro, .any⟩, ⟨4, 4, .ro, .any⟩, ⟨3, 3, .ro, .any⟩, ⟨2, 2, .ro, .any⟩, ⟨1, 1, .ro, .any⟩, ⟨0, 0, .ro, .any⟩]⟩
  , -- TB_STEP_LO
    ⟨0x1010, [], .plain, 0x0#32,
      [⟨31, 0, .ro, .any⟩]⟩
  , -- TB_STEP_HI
    ⟨0x1014, [], .plain, 0x0#32,
      [⟨31, 0, .rs, .any⟩]⟩ ]

def regRowsChip1 : List RegRow :=
  [ -- TB_PHASE
    ⟨0x1018, [], .plain, 0x0#32,
      [⟨8, 0, .rs, .any⟩]⟩
  , -- FRAME_CFG
    ⟨0x1020, [], .plain, 0x10#32,
      [⟨12, 0, .rwl, .within 1 4096⟩]⟩
  , -- OP_SECONDS
    ⟨0x1030, [], .plain, 0x0#32,
      [⟨31, 0, .ro, .any⟩]⟩
  , -- POWER_CYCLES
    ⟨0x1034, [], .plain, 0x0#32,
      [⟨31, 0, .ro, .any⟩]⟩
  , -- WARM_RESTARTS
    ⟨0x1038, [], .plain, 0x0#32,
      [⟨15, 0, .ro, .any⟩]⟩
  , -- START_STATUS
    ⟨0x1040, [], .plain, 0x0#32,
      [⟨31, 16, .ro, .any⟩, ⟨11, 8, .ro, .any⟩, ⟨7, 7, .ro, .any⟩, ⟨6, 6, .ro, .any⟩, ⟨5, 5, .ro, .any⟩, ⟨4, 4, .ro, .any⟩, ⟨3, 2, .ro, .any⟩, ⟨1, 0, .ro, .any⟩]⟩
  , -- WAKE_CFG
    ⟨0x1044, [], .plain, 0x640000#32,
      [⟨31, 16, .rw, .any⟩, ⟨8, 8, .rw, .any⟩, ⟨7, 4, .rw, .any⟩, ⟨0, 0, .rw, .any⟩]⟩
  , -- SHUTDOWN_CFG
    ⟨0x1048, [], .plain, 0x1F40000#32,
      [⟨31, 16, .rw, .within 10 6000⟩, ⟨0, 0, .rw, .any⟩]⟩
  , -- POWER_CMD
    ⟨0x104C, [], .powerCmd, 0x0#32,
      [⟨31, 16, .wo, .any⟩, ⟨1, 1, .wo, .any⟩, ⟨0, 0, .wo, .any⟩]⟩
  , -- BS_CTRL
    ⟨0x100, [], .bsCtrl, 0x0#32,
      [⟨31, 16, .wo, .any⟩, ⟨15, 12, .wo, .any⟩, ⟨11, 10, .wo, .any⟩, ⟨3, 3, .wo, .any⟩, ⟨2, 2, .wo, .any⟩, ⟨1, 1, .wo, .any⟩, ⟨0, 0, .wo, .any⟩]⟩
  , -- BS_STATUS
    ⟨0x104, [], .plain, 0x0#32,
      [⟨31, 16, .ro, .any⟩, ⟨7, 6, .ro, .any⟩, ⟨3, 0, .ro, .any⟩]⟩
  , -- BS_BYTES
    ⟨0x108, [], .plain, 0x0#32,
      [⟨31, 0, .ro, .any⟩]⟩ ]

def regRowsChip2 : List RegRow :=
  [ -- BS_CAN_COUNT
    ⟨0x10C, [], .plain, 0x0#32,
      [⟨31, 16, .ro, .any⟩, ⟨15, 0, .ro, .any⟩]⟩
  , -- BS_PORT
    ⟨0x800, [], .bsPort, 0x0#32,
      [⟨31, 0, .wo, .any⟩]⟩
  , -- PART_BS_VERSION
    ⟨0x10100, [(0x1000, 16)], .plain, 0x0#32,
      [⟨31, 0, .ro, .any⟩]⟩
  , -- PART_BS_SET
    ⟨0x10104, [(0x1000, 16)], .plain, 0x0#32,
      [⟨31, 0, .ro, .any⟩]⟩
  , -- PART_BS_FLOOR
    ⟨0x10108, [(0x1000, 16)], .plain, 0x0#32,
      [⟨31, 0, .ro, .any⟩]⟩
  , -- PART_BS_STATE
    ⟨0x1010C, [(0x1000, 16)], .plain, 0x0#32,
      [⟨31, 16, .ro, .any⟩, ⟨3, 0, .ro, .any⟩]⟩
  , -- PART_RUN
    ⟨0x10000, [(0x1000, 16)], .plain, 0x0#32,
      [⟨31, 16, .ro, .any⟩, ⟨15, 8, .ro, .any⟩, ⟨5, 4, .ro, .any⟩, ⟨3, 0, .ro, .any⟩]⟩
  , -- PART_FAULT
    ⟨0x10004, [(0x1000, 16)], .plain, 0x0#32,
      [⟨15, 0, .ro, .any⟩]⟩
  , -- PART_SAFE
    ⟨0x10008, [(0x1000, 16)], .plain, 0x0#32,
      [⟨1, 0, .ro, .any⟩]⟩
  , -- PART_CREDIT
    ⟨0x10010, [(0x1000, 16)], .plain, 0x0#32,
      [⟨26, 16, .ro, .any⟩, ⟨10, 0, .ro, .any⟩]⟩
  , -- PART_CREDIT_CFG
    ⟨0x10014, [(0x1000, 16)], .plain, 0x0#32,
      [⟨26, 16, .ro, .any⟩, ⟨10, 0, .ro, .any⟩]⟩
  , -- PART_SESSION
    ⟨0x10020, [(0x1000, 16)], .plain, 0x0#32,
      [⟨3, 3, .ro, .any⟩, ⟨2, 2, .ro, .any⟩, ⟨1, 1, .ro, .any⟩, ⟨0, 0, .ro, .any⟩]⟩ ]

def regRowsChip3 : List RegRow :=
  [ -- PART_SER_COUNTER
    ⟨0x10024, [(0x1000, 16)], .plain, 0x0#32,
      [⟨31, 0, .ro, .any⟩]⟩
  , -- PART_CAN_COUNTER
    ⟨0x10028, [(0x1000, 16)], .plain, 0x0#32,
      [⟨31, 0, .ro, .any⟩]⟩
  , -- TS_OWNER_COUNT
    ⟨0x20000, [(0x20, 16)], .plain, 0x0#32,
      [⟨31, 0, .ro, .any⟩]⟩
  , -- TS_BUSY_COUNT
    ⟨0x20004, [(0x20, 16)], .plain, 0x0#32,
      [⟨31, 0, .ro, .any⟩]⟩
  , -- TS_AUTH_COUNT
    ⟨0x20008, [(0x20, 16)], .plain, 0x0#32,
      [⟨31, 0, .ro, .any⟩]⟩
  , -- TS_LAST_ADDR
    ⟨0x2000C, [(0x20, 16)], .plain, 0x0#32,
      [⟨31, 0, .ro, .any⟩]⟩
  , -- TS_LAST
    ⟨0x20010, [(0x20, 16)], .plain, 0x0#32,
      [⟨15, 8, .ro, .any⟩, ⟨1, 0, .ro, .any⟩]⟩
  , -- TS_MAP_DIGEST
    ⟨0x20400, [], .plain, 0x0#32,
      [⟨31, 0, .ro, .any⟩]⟩
  , -- TS_MAP_STATUS
    ⟨0x20404, [], .plain, 0x0#32,
      [⟨31, 16, .ro, .any⟩, ⟨15, 0, .ro, .any⟩]⟩
  , -- KS_STATE
    ⟨0x40080000, [], .plain, 0x0#32,
      [⟨31, 16, .ro, .any⟩, ⟨2, 2, .ro, .any⟩, ⟨1, 1, .ro, .any⟩, ⟨0, 0, .ro, .any⟩]⟩
  , -- CHIP_UID_LO
    ⟨0x40080008, [], .plain, 0x0#32,
      [⟨31, 0, .ro, .any⟩]⟩
  , -- CHIP_UID_HI
    ⟨0x4008000C, [], .plain, 0x0#32,
      [⟨31, 0, .ro, .any⟩]⟩ ]

def regRowsChip4 : List RegRow :=
  [ -- CERT_LEN
    ⟨0x40080010, [], .plain, 0x0#32,
      [⟨31, 16, .ro, .any⟩, ⟨15, 0, .ro, .any⟩]⟩
  , -- KS_KEY_CTRL
    ⟨0x40080020, [], .ksKeyCtrl, 0x0#32,
      [⟨31, 16, .wo, .any⟩, ⟨1, 0, .wo, .any⟩]⟩
  , -- KS_KEY_STATUS
    ⟨0x40080024, [], .plain, 0x0#32,
      [⟨15, 8, .ro, .any⟩, ⟨1, 0, .ro, .any⟩]⟩
  , -- HS_CTRL
    ⟨0x40081000, [(0x200, 16)], .hsCtrl, 0x0#32,
      [⟨1, 1, .wo, .any⟩, ⟨0, 0, .wo, .any⟩]⟩
  , -- HS_STATUS
    ⟨0x40081004, [(0x200, 16)], .plain, 0x0#32,
      [⟨15, 8, .ro, .any⟩, ⟨2, 0, .ro, .any⟩]⟩ ]

def regRowsSeq0 : List RegRow :=
  [ -- RM_STATUS
    ⟨0x20000000, [], .plain, 0x0#32,
      [⟨12, 0, .ro, .any⟩]⟩
  , -- RM_DEADLOCK
    ⟨0x20000010, [], .plain, 0x0#32,
      [⟨15, 0, .ro, .any⟩]⟩
  , -- RM_WAIT_ALL
    ⟨0x20000014, [], .plain, 0x0#32,
      [⟨15, 0, .ro, .any⟩]⟩
  , -- RM_COMMIT_COUNT_p
    ⟨0x20000020, [(0x4, 16)], .plain, 0x0#32,
      [⟨31, 0, .ro, .any⟩]⟩
  , -- RM_LANE_FINISH_k
    ⟨0x20000080, [(0x4, 8)], .plain, 0x0#32,
      [⟨25, 16, .ro, .any⟩, ⟨9, 0, .ro, .any⟩]⟩
  , -- BLK_k_SEQ_CTRL
    ⟨0x20010000, [(0x1000, 8)], .seqCtrl, 0x0#32,
      [⟨15, 8, .wo, .any⟩, ⟨7, 0, .wo, .any⟩]⟩
  , -- BLK_k_SEQ_STATE
    ⟨0x20010004, [(0x1000, 8)], .plain, 0x0#32,
      [⟨31, 0, .ro, .any⟩]⟩
  , -- BLK_k_SEQ_FLAGS
    ⟨0x20010008, [(0x1000, 8)], .seqFlags, 0x0#32,
      [⟨31, 0, .w1s, .any⟩]⟩
  , -- BLK_k_SEQ_FLAGS_CLR
    ⟨0x2001000C, [(0x1000, 8)], .seqFlagsClr, 0x0#32,
      [⟨31, 0, .w1c, .any⟩]⟩
  , -- BLK_k_SEQ_COMMIT
    ⟨0x20010010, [(0x1000, 8)], .seqCommit, 0x0#32,
      [⟨0, 0, .wo, .any⟩]⟩
  , -- BLK_k_SEQ_FAULT
    ⟨0x20010014, [(0x1000, 8)], .plain, 0x0#32,
      [⟨31, 16, .ro, .any⟩, ⟨2, 0, .ro, .any⟩]⟩
  , -- BLK_k_SEQ_FAULT_PC
    ⟨0x20010018, [(0x1000, 8)], .plain, 0x0#32,
      [⟨31, 0, .ro, .any⟩]⟩ ]

def regRowsSeq1 : List RegRow :=
  [ -- BLK_k_SEQ_PC_t
    ⟨0x20010020, [(0x1000, 8), (0x4, 8)], .plain, 0x0#32,
      [⟨31, 0, .ro, .any⟩]⟩
  , -- BLK_k_SEQ_EVENT_SEL_t
    ⟨0x20010040, [(0x1000, 8), (0x4, 8)], .plain, 0x0#32,
      [⟨14, 14, .rw, .any⟩, ⟨13, 13, .rw, .any⟩, ⟨12, 12, .rw, .any⟩, ⟨11, 6, .rw, .any⟩, ⟨5, 0, .rw, .any⟩]⟩
  , -- LS_STATUS
    ⟨0x20020000, [], .plain, 0x3F3F00#32,
      [⟨21, 16, .ro, .any⟩, ⟨13, 8, .ro, .any⟩, ⟨1, 0, .ro, .any⟩]⟩
  , -- LS_BLOCK_k
    ⟨0x20020100, [(0x8, 8)], .plain, 0x3FF#32,
      [⟨25, 24, .ro, .any⟩, ⟨9, 0, .ro, .any⟩]⟩
  , -- LS_BLOCK_k_STEP
    ⟨0x20020104, [(0x8, 8)], .plain, 0x0#32,
      [⟨31, 0, .ro, .any⟩]⟩
  , -- DBG_SESSION
    ⟨0x20020200, [], .plain, 0x0#32,
      [⟨7, 4, .ro, .any⟩, ⟨2, 0, .ro, .any⟩]⟩
  , -- DBG_HALT
    ⟨0x20020204, [], .plain, 0x0#32,
      [⟨15, 8, .ro, .any⟩, ⟨7, 0, .ro, .any⟩]⟩
  , -- DBG_COUNT
    ⟨0x20020208, [], .plain, 0x0#32,
      [⟨31, 16, .ro, .any⟩, ⟨15, 0, .ro, .any⟩]⟩
  , -- BLK_k_SEQ_DBG_t_G_g
    ⟨0x20010800, [(0x1000, 8), (0x40, 8), (0x4, 16)], .threadReg, 0x0#32,
      [⟨31, 0, .rw, .any⟩]⟩ ]

def regRowsLeg0 : List RegRow :=
  [ -- LEG_c_GD_ON_HS
    ⟨0x10500000, [(0x1000000, 4), (0x200000, 2), (0x10000, 6)], .plain, 0x49C88#32,
      [⟨19, 15, .rw, .any⟩, ⟨14, 10, .rw, .any⟩, ⟨9, 5, .rw, .any⟩, ⟨4, 0, .rw, .within 0 20⟩]⟩
  , -- LEG_c_GD_OFF_HS
    ⟨0x10500004, [(0x1000000, 4), (0x200000, 2), (0x10000, 6)], .plain, 0x49C88#32,
      [⟨19, 15, .rw, .any⟩, ⟨14, 10, .rw, .any⟩, ⟨9, 5, .rw, .any⟩, ⟨4, 0, .rw, .within 0 20⟩]⟩
  , -- LEG_c_GD_ON_LS
    ⟨0x10500008, [(0x1000000, 4), (0x200000, 2), (0x10000, 6)], .plain, 0x49C88#32,
      [⟨19, 15, .rw, .any⟩, ⟨14, 10, .rw, .any⟩, ⟨9, 5, .rw, .any⟩, ⟨4, 0, .rw, .within 0 20⟩]⟩
  , -- LEG_c_GD_OFF_LS
    ⟨0x1050000C, [(0x1000000, 4), (0x200000, 2), (0x10000, 6)], .plain, 0x49C88#32,
      [⟨19, 15, .rw, .any⟩, ⟨14, 10, .rw, .any⟩, ⟨9, 5, .rw, .any⟩, ⟨4, 0, .rw, .within 0 20⟩]⟩
  , -- LEG_c_GD_DVDT
    ⟨0x10500010, [(0x1000000, 4), (0x200000, 2), (0x10000, 6)], .plain, 0x1#32,
      [⟨4, 0, .rw, .any⟩]⟩
  , -- LEG_c_SC_HS
    ⟨0x10500014, [(0x1000000, 4), (0x200000, 2), (0x10000, 6)], .plain, 0x1232#32,
      [⟨12, 8, .rwl, .within 0 28⟩, ⟨5, 0, .rwl, .within 1 50⟩]⟩
  , -- LEG_c_SC_LS
    ⟨0x10500018, [(0x1000000, 4), (0x200000, 2), (0x10000, 6)], .plain, 0x1232#32,
      [⟨12, 8, .rwl, .within 0 28⟩, ⟨5, 0, .rwl, .within 1 50⟩]⟩
  , -- LEG_c_RATIO_HS
    ⟨0x1050001C, [(0x1000000, 4), (0x200000, 2), (0x10000, 6)], .plain, 0x186A0#32,
      [⟨19, 0, .rwl, .within 1000 1000000⟩]⟩
  , -- LEG_c_RATIO_LS
    ⟨0x10500020, [(0x1000000, 4), (0x200000, 2), (0x10000, 6)], .plain, 0x186A0#32,
      [⟨19, 0, .rwl, .within 1000 1000000⟩]⟩
  , -- LEG_c_BST_CFG
    ⟨0x10500024, [(0x1000000, 4), (0x200000, 2), (0x10000, 6)], .plain, 0x1#32,
      [⟨1, 0, .rwl, .any⟩]⟩
  , -- LEG_c_GD_STATUS
    ⟨0x10500028, [(0x1000000, 4), (0x200000, 2), (0x10000, 6)], .plain, 0x0#32,
      [⟨7, 7, .ro, .any⟩, ⟨6, 6, .ro, .any⟩, ⟨5, 3, .ro, .any⟩, ⟨2, 0, .ro, .any⟩]⟩
  , -- LEG_c_GD_COUNT
    ⟨0x1050002C, [(0x1000000, 4), (0x200000, 2), (0x10000, 6)], .plain, 0x0#32,
      [⟨31, 16, .ro, .any⟩, ⟨15, 0, .ro, .any⟩]⟩ ]

def regRowsLeg1 : List RegRow :=
  [ -- LEG_c_SC_CAPTURE
    ⟨0x10500030, [(0x1000000, 4), (0x200000, 2), (0x10000, 6)], .plain, 0x0#32,
      [⟨16, 16, .ro, .any⟩, ⟨15, 0, .ro, .any⟩]⟩
  , -- LEG_c_DIAG_CFG
    ⟨0x10500040, [(0x1000000, 4), (0x200000, 2), (0x10000, 6)], .plain, 0x314#32,
      [⟨9, 9, .rw, .any⟩, ⟨8, 8, .rw, .any⟩, ⟨7, 0, .rw, .within 1 200⟩]⟩
  , -- LEG_c_DIAG_CTRL
    ⟨0x10500044, [(0x1000000, 4), (0x200000, 2), (0x10000, 6)], .diagCtrl, 0x0#32,
      [⟨0, 0, .wo, .any⟩]⟩
  , -- LEG_c_DIAG_RESULT
    ⟨0x10500048, [(0x1000000, 4), (0x200000, 2), (0x10000, 6)], .plain, 0x0#32,
      [⟨13, 8, .ro, .any⟩, ⟨6, 6, .ro, .any⟩, ⟨5, 5, .ro, .any⟩, ⟨4, 4, .ro, .any⟩, ⟨3, 3, .ro, .any⟩, ⟨2, 0, .ro, .any⟩]⟩
  , -- LEG_c_DIAG_VOLTS
    ⟨0x1050004C, [(0x1000000, 4), (0x200000, 2), (0x10000, 6)], .plain, 0x0#32,
      [⟨31, 16, .ro, .any⟩, ⟨15, 0, .ro, .any⟩]⟩
  , -- REGION_r_VDRV_STATUS
    ⟨0x10000100, [(0x1000000, 4)], .plain, 0x0#32,
      [⟨31, 16, .ro, .any⟩, ⟨2, 1, .ro, .any⟩, ⟨0, 0, .ro, .any⟩]⟩
  , -- DSCH_CFG
    ⟨0x1100, [], .plain, 0x1141E#32,
      [⟨19, 19, .rw, .any⟩, ⟨18, 18, .rw, .any⟩, ⟨17, 17, .rw, .any⟩, ⟨16, 16, .rw, .any⟩, ⟨15, 8, .rw, .within 1 100⟩, ⟨7, 0, .rw, .within 10 60⟩]⟩
  , -- DSCH_FALLBACK
    ⟨0x1104, [], .plain, 0x320000#32,
      [⟨24, 16, .rw, .within 1 400⟩, ⟨15, 0, .rw, .any⟩]⟩
  , -- DSCH_CTRL
    ⟨0x1108, [], .dschCtrl, 0x0#32,
      [⟨31, 16, .wo, .any⟩, ⟨1, 1, .wo, .any⟩, ⟨0, 0, .wo, .any⟩]⟩
  , -- DSCH_STATUS
    ⟨0x110C, [], .plain, 0x0#32,
      [⟨31, 16, .ro, .any⟩, ⟨2, 0, .ro, .any⟩]⟩
  , -- LEG_c_PWM_CFG
    ⟨0x10500100, [(0x1000000, 4), (0x200000, 2), (0x10000, 6)], .pwmShadow, 0x2820#32,
      [⟨26, 17, .rw, .any⟩, ⟨16, 7, .rw, .within 4 800⟩, ⟨6, 6, .rw, .any⟩, ⟨5, 5, .rw, .any⟩, ⟨4, 4, .rw, .any⟩, ⟨3, 2, .rw, .within 0 2⟩, ⟨1, 0, .rw, .within 0 2⟩]⟩
  , -- LEG_c_PWM_HS_ON
    ⟨0x10500104, [(0x1000000, 4), (0x200000, 2), (0x10000, 6)], .pwmShadow, 0x0#32,
      [⟨21, 0, .rw, .any⟩]⟩ ]

def regRowsLeg2 : List RegRow :=
  [ -- LEG_c_PWM_HS_OFF
    ⟨0x10500108, [(0x1000000, 4), (0x200000, 2), (0x10000, 6)], .pwmShadow, 0x0#32,
      [⟨21, 0, .rw, .any⟩]⟩
  , -- LEG_c_PWM_LS_ON
    ⟨0x1050010C, [(0x1000000, 4), (0x200000, 2), (0x10000, 6)], .pwmShadow, 0x0#32,
      [⟨21, 0, .rw, .any⟩]⟩
  , -- LEG_c_PWM_LS_OFF
    ⟨0x10500110, [(0x1000000, 4), (0x200000, 2), (0x10000, 6)], .pwmShadow, 0x0#32,
      [⟨21, 0, .rw, .any⟩]⟩
  , -- LEG_c_PWM_DEAD
    ⟨0x10500114, [(0x1000000, 4), (0x200000, 2), (0x10000, 6)], .pwmShadow, 0x2000200#32,
      [⟨27, 16, .rw, .any⟩, ⟨11, 0, .rw, .any⟩]⟩
  , -- LEG_c_PWM_MIN_PULSE
    ⟨0x10500118, [(0x1000000, 4), (0x200000, 2), (0x10000, 6)], .pwmShadow, 0xA0#32,
      [⟨11, 0, .rw, .any⟩]⟩
  , -- LEG_c_PWM_STATUS
    ⟨0x1050011C, [(0x1000000, 4), (0x200000, 2), (0x10000, 6)], .plain, 0x0#32,
      [⟨7, 7, .ro, .any⟩, ⟨6, 6, .ro, .any⟩, ⟨5, 5, .ro, .any⟩, ⟨4, 4, .ro, .any⟩, ⟨3, 2, .ro, .any⟩, ⟨1, 1, .ro, .any⟩, ⟨0, 0, .ro, .any⟩]⟩
  , -- LEG_c_PWM_COUNT
    ⟨0x10500120, [(0x1000000, 4), (0x200000, 2), (0x10000, 6)], .plain, 0x0#32,
      [⟨31, 16, .ro, .any⟩, ⟨15, 0, .ro, .any⟩]⟩
  , -- LEG_c_PWM_COUNTER
    ⟨0x10500124, [(0x1000000, 4), (0x200000, 2), (0x10000, 6)], .plain, 0x0#32,
      [⟨21, 0, .ro, .any⟩]⟩
  , -- LEG_c_TRIP_STATUS
    ⟨0x10500128, [(0x1000000, 4), (0x200000, 2), (0x10000, 6)], .tripStatus, 0x0#32,
      [⟨11, 8, .ro, .any⟩, ⟨7, 4, .ro, .any⟩, ⟨3, 0, .w1c, .any⟩]⟩
  , -- BLK_k_CELL_i_TRIP_n
    ⟨0x10401000, [(0x1000000, 4), (0x200000, 2), (0x10, 6), (0x4, 4)], .tripCfg, 0x0#32,
      [⟨12, 9, .rwl, .within 0 12⟩, ⟨8, 8, .rwl, .any⟩, ⟨7, 6, .rwl, .within 0 2⟩, ⟨5, 4, .rwl, .any⟩, ⟨3, 0, .rwl, .within 0 12⟩]⟩
  , -- BLK_k_HURDLE_h_CFG
    ⟨0x10402000, [(0x1000000, 4), (0x200000, 2), (0x10, 12)], .plain, 0x0#32,
      [⟨27, 16, .rwl, .any⟩, ⟨7, 4, .rwl, .any⟩, ⟨1, 0, .rwl, .within 0 2⟩]⟩
  , -- BLK_k_HURDLE_h_START
    ⟨0x10402004, [(0x1000000, 4), (0x200000, 2), (0x10, 12)], .plain, 0x0#32,
      [⟨21, 0, .rwl, .any⟩]⟩ ]

def regRowsLeg3 : List RegRow :=
  [ -- BLK_k_HURDLE_h_END
    ⟨0x10402008, [(0x1000000, 4), (0x200000, 2), (0x10, 12)], .plain, 0x0#32,
      [⟨21, 0, .rwl, .any⟩]⟩
  , -- LEG_c_SENSE_CFG
    ⟨0x10500200, [(0x1000000, 4), (0x200000, 2), (0x10000, 6)], .senseScale, 0x2801#32,
      [⟨15, 8, .rwl, .any⟩, ⟨1, 0, .rwl, .any⟩]⟩
  , -- LEG_c_SHUNT
    ⟨0x10500204, [(0x1000000, 4), (0x200000, 2), (0x10000, 6)], .senseScale, 0x3E8#32,
      [⟨15, 0, .rwl, .within 10 65535⟩]⟩
  , -- LEG_c_SAR_MASK
    ⟨0x10500208, [(0x1000000, 4), (0x200000, 2), (0x10000, 6)], .sarMask, 0x55555555#32,
      [⟨31, 16, .rw, .any⟩, ⟨15, 0, .rw, .any⟩]⟩
  , -- LEG_c_XCHK_CFG
    ⟨0x1050020C, [(0x1000000, 4), (0x200000, 2), (0x10000, 6)], .plain, 0x101A0444#32,
      [⟨31, 24, .rwl, .within 1 255⟩, ⟨23, 16, .rwl, .any⟩, ⟨11, 0, .rwl, .any⟩]⟩
  , -- LEG_c_XCHK_STATUS
    ⟨0x10500210, [(0x1000000, 4), (0x200000, 2), (0x10000, 6)], .plain, 0x0#32,
      [⟨31, 24, .ro, .any⟩, ⟨23, 16, .ro, .any⟩, ⟨15, 0, .ro, .any⟩]⟩
  , -- LEG_c_IFS
    ⟨0x10500214, [(0x1000000, 4), (0x200000, 2), (0x10000, 6)], .plain, 0x1D4C#32,
      [⟨15, 0, .ro, .any⟩]⟩
  , -- LEG_c_SAMPLE_I
    ⟨0x10500220, [(0x1000000, 4), (0x200000, 2), (0x10000, 6)], .plain, 0x80008000#32,
      [⟨31, 16, .ro, .any⟩, ⟨15, 0, .ro, .any⟩]⟩
  , -- LEG_c_SAMPLE_V
    ⟨0x10500224, [(0x1000000, 4), (0x200000, 2), (0x10000, 6)], .plain, 0x80008000#32,
      [⟨31, 16, .rs, .any⟩, ⟨15, 0, .rs, .any⟩]⟩
  , -- LEG_c_SAMPLE_STATUS
    ⟨0x10500228, [(0x1000000, 4), (0x200000, 2), (0x10000, 6)], .plain, 0x0#32,
      [⟨31, 16, .rs, .any⟩, ⟨15, 0, .rs, .any⟩]⟩
  , -- LEG_c_COMP_A_CFG
    ⟨0x10500230, [(0x1000000, 4), (0x200000, 2), (0x10000, 6)], .compCfg, 0x3FF#32,
      [⟨31, 21, .rw, .any⟩, ⟨20, 20, .rwl, .any⟩, ⟨19, 16, .rwl, .within 0 12⟩, ⟨15, 14, .rwl, .any⟩, ⟨13, 12, .rwl, .within 0 2⟩, ⟨11, 11, .rwl, .any⟩, ⟨10, 10, .rwl, .any⟩, ⟨9, 0, .rw, .any⟩]⟩
  , -- LEG_c_COMP_B_CFG
    ⟨0x10500234, [(0x1000000, 4), (0x200000, 2), (0x10000, 6)], .compCfg, 0x3FF#32,
      [⟨31, 21, .rw, .any⟩, ⟨20, 20, .rwl, .any⟩, ⟨19, 16, .rwl, .within 0 12⟩, ⟨15, 14, .rwl, .any⟩, ⟨13, 12, .rwl, .within 0 2⟩, ⟨11, 11, .rwl, .any⟩, ⟨10, 10, .rwl, .any⟩, ⟨9, 0, .rw, .any⟩]⟩ ]

def regRowsLeg4 : List RegRow :=
  [ -- LEG_c_COMP_STATUS
    ⟨0x10500238, [(0x1000000, 4), (0x200000, 2), (0x10000, 6)], .plain, 0x3FFFFC0#32,
      [⟨25, 16, .ro, .any⟩, ⟨15, 6, .ro, .any⟩, ⟨1, 1, .ro, .any⟩, ⟨0, 0, .ro, .any⟩]⟩
  , -- VDC_XCHK_CFG
    ⟨0x30800, [], .plain, 0xFFFF5000#32,
      [⟨31, 16, .rwl, .any⟩, ⟨15, 8, .rwl, .within 1 255⟩, ⟨7, 7, .rwl, .any⟩]⟩
  , -- VDC_XCHK_TOL
    ⟨0x30804, [], .plain, 0x300#32,
      [⟨11, 0, .rwl, .any⟩]⟩
  , -- VDC_STATUS
    ⟨0x30808, [], .plain, 0x80000000#32,
      [⟨31, 16, .ro, .any⟩, ⟨15, 8, .ro, .any⟩, ⟨2, 2, .ro, .any⟩, ⟨1, 1, .ro, .any⟩, ⟨0, 0, .ro, .any⟩]⟩
  , -- VDC_READINGS
    ⟨0x3080C, [], .plain, 0x80008000#32,
      [⟨31, 16, .ro, .any⟩, ⟨15, 0, .ro, .any⟩]⟩
  , -- SCMP_m_CFG
    ⟨0x30008000, [(0x10, 16)], .scmpCfg, 0x1900000#32,
      [⟨28, 25, .rw, .any⟩, ⟨24, 18, .rw, .within 1 100⟩, ⟨17, 8, .rw, .any⟩, ⟨7, 7, .rw, .any⟩, ⟨6, 0, .rw, .within 0 84⟩]⟩
  , -- SCMP_STATUS
    ⟨0x30008100, [], .plain, 0x0#32,
      [⟨31, 16, .ro, .any⟩, ⟨15, 0, .ro, .any⟩]⟩
  , -- LEG_c_CHAN_CFG
    ⟨0x10500400, [(0x1000000, 4), (0x200000, 2), (0x10000, 6)], .chanCfg, 0x80#32,
      [⟨31, 24, .rwl, .any⟩, ⟨23, 16, .rwl, .any⟩, ⟨14, 14, .rwl, .any⟩, ⟨13, 8, .rwl, .any⟩, ⟨7, 7, .rw, .any⟩, ⟨6, 6, .rw, .any⟩, ⟨4, 0, .rw, .any⟩]⟩
  , -- LEG_c_CHAN_DUTY
    ⟨0x10500404, [(0x1000000, 4), (0x200000, 2), (0x10000, 6)], .plain, 0xCCD7333#32,
      [⟨31, 16, .rw, .within 0 32767⟩, ⟨15, 0, .rw, .within 0 32767⟩]⟩
  , -- LEG_c_CHAN_PEAK
    ⟨0x10500408, [(0x1000000, 4), (0x200000, 2), (0x10000, 6)], .plain, 0x7FFF#32,
      [⟨15, 0, .rw, .within 0 32767⟩]⟩
  , -- LEG_c_CHAN_VLIM
    ⟨0x1050040C, [(0x1000000, 4), (0x200000, 2), (0x10000, 6)], .plain, 0x6B85FAE1#32,
      [⟨31, 16, .rw, .any⟩, ⟨15, 0, .rw, .any⟩]⟩
  , -- LEG_c_CHAN_END
    ⟨0x10500410, [(0x1000000, 4), (0x200000, 2), (0x10000, 6)], .plain, 0x80000#32,
      [⟨23, 16, .rw, .within 1 255⟩, ⟨15, 0, .rw, .within 0 32767⟩]⟩ ]

def regRowsLeg5 : List RegRow :=
  [ -- LEG_c_CHAN_TLIM
    ⟨0x10500414, [(0x1000000, 4), (0x200000, 2), (0x10000, 6)], .plain, 0x0#32,
      [⟨31, 0, .rw, .any⟩]⟩
  , -- LEG_c_CHAN_QLIM
    ⟨0x10500418, [(0x1000000, 4), (0x200000, 2), (0x10000, 6)], .plain, 0x0#32,
      [⟨31, 0, .rw, .any⟩]⟩
  , -- LEG_c_CHAN_CTRL
    ⟨0x1050041C, [(0x1000000, 4), (0x200000, 2), (0x10000, 6)], .chanCtrl, 0x0#32,
      [⟨3, 3, .wo, .any⟩, ⟨2, 2, .wo, .any⟩, ⟨1, 1, .wo, .any⟩, ⟨0, 0, .wo, .any⟩]⟩
  , -- LEG_c_CHAN_STATUS
    ⟨0x10500420, [(0x1000000, 4), (0x200000, 2), (0x10000, 6)], .plain, 0x80000000#32,
      [⟨31, 16, .ro, .any⟩, ⟨15, 15, .ro, .any⟩, ⟨14, 14, .ro, .any⟩, ⟨13, 13, .ro, .any⟩, ⟨12, 12, .ro, .any⟩, ⟨11, 8, .ro, .any⟩, ⟨5, 4, .ro, .any⟩, ⟨2, 0, .ro, .any⟩]⟩
  , -- LEG_c_CHAN_PHASE_TIME
    ⟨0x10500424, [(0x1000000, 4), (0x200000, 2), (0x10000, 6)], .plain, 0x0#32,
      [⟨31, 0, .ro, .any⟩]⟩
  , -- LEG_c_ACC_CHARGE_LO
    ⟨0x10500430, [(0x1000000, 4), (0x200000, 2), (0x10000, 6)], .plain, 0x0#32,
      [⟨31, 0, .ro, .any⟩]⟩
  , -- LEG_c_ACC_CHARGE_HI
    ⟨0x10500434, [(0x1000000, 4), (0x200000, 2), (0x10000, 6)], .plain, 0x0#32,
      [⟨31, 0, .rs, .any⟩]⟩
  , -- LEG_c_ACC_ENERGY_LO
    ⟨0x10500438, [(0x1000000, 4), (0x200000, 2), (0x10000, 6)], .plain, 0x0#32,
      [⟨31, 0, .rs, .any⟩]⟩
  , -- LEG_c_ACC_ENERGY_HI
    ⟨0x1050043C, [(0x1000000, 4), (0x200000, 2), (0x10000, 6)], .plain, 0x0#32,
      [⟨31, 0, .rs, .any⟩]⟩
  , -- LEG_c_ACC_PHASE_LO
    ⟨0x10500440, [(0x1000000, 4), (0x200000, 2), (0x10000, 6)], .plain, 0x0#32,
      [⟨31, 0, .rs, .any⟩]⟩
  , -- LEG_c_ACC_PHASE_HI
    ⟨0x10500444, [(0x1000000, 4), (0x200000, 2), (0x10000, 6)], .plain, 0x0#32,
      [⟨31, 0, .rs, .any⟩]⟩
  , -- LEG_c_ACC_EST_CYCLES
    ⟨0x10500448, [(0x1000000, 4), (0x200000, 2), (0x10000, 6)], .plain, 0x0#32,
      [⟨31, 0, .rs, .any⟩]⟩ ]

def regRowsLeg6 : List RegRow :=
  [ -- LEG_c_ACC_LAST
    ⟨0x1050044C, [(0x1000000, 4), (0x200000, 2), (0x10000, 6)], .plain, 0x0#32,
      [⟨31, 16, .rs, .any⟩]⟩
  , -- PART_CHG_WIN
    ⟨0x10210, [(0x1000, 16)], .plain, 0x1C20064#32,
      [⟨31, 16, .rw, .any⟩, ⟨15, 0, .rw, .any⟩]⟩
  , -- PART_DIS_WIN
    ⟨0x10214, [(0x1000, 16)], .plain, 0x140258#32,
      [⟨23, 16, .rw, .any⟩, ⟨15, 0, .rw, .any⟩]⟩ ]

def regRowsMeas0 : List RegRow :=
  [ -- MEAS_REF_STATUS
    ⟨0x30000000, [], .plain, 0x0#32,
      [⟨31, 16, .ro, .any⟩, ⟨1, 1, .ro, .any⟩, ⟨0, 0, .ro, .any⟩]⟩
  , -- MEAS_CH_n_CFG
    ⟨0x30001000, [(0x40, 48)], .measCfg, 0x5000#32,
      [⟨19, 10, .rw, .within 1 1000⟩, ⟨9, 8, .rw, .within 0 2⟩, ⟨7, 6, .rw, .within 0 2⟩, ⟨5, 5, .rw, .any⟩, ⟨4, 4, .rw, .any⟩, ⟨3, 3, .rw, .any⟩, ⟨2, 2, .rwl, .any⟩, ⟨1, 0, .rw, .within 0 2⟩]⟩
  , -- MEAS_CH_n_CTRL
    ⟨0x30001004, [(0x40, 48)], .measCtrl, 0x0#32,
      [⟨2, 2, .wo, .any⟩, ⟨1, 1, .wo, .any⟩, ⟨0, 0, .wo, .any⟩]⟩
  , -- MEAS_CH_n_STATUS
    ⟨0x30001008, [(0x40, 48)], .plain, 0x0#32,
      [⟨11, 10, .ro, .any⟩, ⟨9, 9, .ro, .any⟩, ⟨2, 0, .ro, .any⟩]⟩
  , -- MEAS_CH_n_CAL_ZERO
    ⟨0x3000100C, [(0x40, 48)], .plain, 0x0#32,
      [⟨23, 0, .ro, .any⟩]⟩
  , -- MEAS_CH_n_V
    ⟨0x30001010, [(0x40, 48)], .plain, 0x80000000#32,
      [⟨31, 8, .ro, .any⟩]⟩
  , -- MEAS_CH_n_I
    ⟨0x30001014, [(0x40, 48)], .plain, 0x80000000#32,
      [⟨31, 8, .rs, .any⟩]⟩
  , -- MEAS_CH_n_STAMP
    ⟨0x30001018, [(0x40, 48)], .plain, 0x0#32,
      [⟨31, 0, .rs, .any⟩]⟩
  , -- MEAS_CH_n_FLAGS
    ⟨0x3000101C, [(0x40, 48)], .plain, 0x0#32,
      [⟨31, 16, .rs, .any⟩, ⟨15, 7, .rs, .any⟩, ⟨6, 6, .rs, .any⟩, ⟨5, 5, .rs, .any⟩, ⟨4, 4, .rs, .any⟩, ⟨3, 3, .rs, .any⟩, ⟨2, 2, .rs, .any⟩, ⟨1, 1, .rs, .any⟩, ⟨0, 0, .rs, .any⟩]⟩
  , -- MEAS_CH_n_CAL_V_GAIN
    ⟨0x30001020, [(0x40, 48)], .plain, 0x40000000#32,
      [⟨31, 0, .rw, .any⟩]⟩
  , -- MEAS_CH_n_CAL_V_OFFSET
    ⟨0x30001024, [(0x40, 48)], .plain, 0x0#32,
      [⟨23, 0, .rw, .any⟩]⟩
  , -- MEAS_CH_n_CAL_I_GAIN
    ⟨0x30001028, [(0x40, 48)], .plain, 0x40000000#32,
      [⟨31, 0, .rw, .any⟩]⟩ ]

def regRowsMeas1 : List RegRow :=
  [ -- MEAS_CH_n_CAL_I_OFFSET
    ⟨0x3000102C, [(0x40, 48)], .plain, 0x0#32,
      [⟨23, 0, .rw, .any⟩]⟩
  , -- MEAS_AUX_j_CFG
    ⟨0x30002000, [(0x100, 16)], .measAuxCfg, 0x0#32,
      [⟨11, 8, .rw, .any⟩, ⟨4, 3, .rw, .within 0 2⟩, ⟨2, 2, .rwl, .any⟩, ⟨1, 0, .rw, .within 0 2⟩]⟩
  , -- MEAS_AUX_j_CTRL
    ⟨0x30002004, [(0x100, 16)], .measAuxCtrl, 0x0#32,
      [⟨3, 3, .wo, .any⟩, ⟨2, 2, .wo, .any⟩, ⟨1, 1, .wo, .any⟩, ⟨0, 0, .wo, .any⟩]⟩
  , -- MEAS_AUX_j_STATUS
    ⟨0x30002008, [(0x100, 16)], .plain, 0x0#32,
      [⟨31, 16, .ro, .any⟩, ⟨15, 12, .ro, .any⟩, ⟨11, 10, .ro, .any⟩, ⟨9, 9, .ro, .any⟩, ⟨2, 0, .ro, .any⟩]⟩
  , -- MEAS_AUX_j_STAMP
    ⟨0x3000200C, [(0x100, 16)], .plain, 0x0#32,
      [⟨31, 0, .ro, .any⟩]⟩
  , -- MEAS_AUX_j_CAL_GAIN_g
    ⟨0x30002020, [(0x100, 16), (0x8, 2)], .plain, 0x40000000#32,
      [⟨31, 0, .rw, .any⟩]⟩
  , -- MEAS_AUX_j_CAL_OFFSET_g
    ⟨0x30002024, [(0x100, 16), (0x8, 2)], .plain, 0x0#32,
      [⟨23, 0, .rw, .any⟩]⟩
  , -- MEAS_AUX_j_SEQ_e
    ⟨0x30002040, [(0x100, 16), (0x4, 16)], .measAuxSeq, 0xA05001#32,
      [⟨27, 20, .rw, .any⟩, ⟨19, 10, .rw, .within 1 1000⟩, ⟨9, 8, .rw, .within 0 2⟩, ⟨7, 7, .rw, .any⟩, ⟨6, 0, .rw, .any⟩]⟩
  , -- MEAS_AUX_j_RES_e
    ⟨0x30002080, [(0x100, 16), (0x4, 16)], .plain, 0x80000000#32,
      [⟨31, 8, .ro, .any⟩, ⟨7, 4, .ro, .any⟩, ⟨3, 3, .ro, .any⟩, ⟨2, 2, .ro, .any⟩, ⟨1, 1, .ro, .any⟩, ⟨0, 0, .ro, .any⟩]⟩
  , -- MEAS_CAP_a_CFG
    ⟨0x30005000, [(0x20, 32)], .capAreaCfg, 0x0#32,
      [⟨2, 2, .rwl, .any⟩, ⟨1, 0, .rw, .within 0 2⟩]⟩
  , -- MEAS_CAP_a_MASK_LO
    ⟨0x30005004, [(0x20, 32)], .capAreaMask, 0x0#32,
      [⟨31, 0, .rw, .any⟩]⟩
  , -- MEAS_CAP_a_MASK_HI
    ⟨0x30005008, [(0x20, 32)], .capAreaMask, 0x0#32,
      [⟨31, 0, .rw, .any⟩]⟩ ]

def regRowsMeas2 : List RegRow :=
  [ -- MEAS_CAP_a_CTRL
    ⟨0x3000500C, [(0x20, 32)], .capAreaCtrl, 0x0#32,
      [⟨1, 1, .wo, .any⟩, ⟨0, 0, .wo, .any⟩]⟩
  , -- MEAS_CAP_a_STATUS
    ⟨0x30005010, [(0x20, 32)], .plain, 0x0#32,
      [⟨31, 16, .ro, .any⟩, ⟨15, 4, .ro, .any⟩, ⟨1, 0, .ro, .any⟩]⟩ ]

def regRowsBlock0 : List RegRow :=
  [ -- BLK_k_INPUT_n_VALUE
    ⟨0x10404000, [(0x1000000, 4), (0x200000, 2), (0x4, 128)], .inputValue, 0x0#32,
      [⟨15, 0, .rw, .any⟩]⟩
  , -- BLK_k_INPUT_n_CFG
    ⟨0x10404400, [(0x1000000, 4), (0x200000, 2), (0x4, 128)], .plain, 0x0#32,
      [⟨31, 31, .ro, .any⟩, ⟨16, 16, .rwl, .any⟩, ⟨8, 0, .rwl, .any⟩]⟩
  , -- BLK_k_LAW_l_B01
    ⟨0x10405000, [(0x1000000, 4), (0x200000, 2), (0x20, 256)], .lawParam, 0x0#32,
      [⟨31, 16, .rw, .any⟩, ⟨15, 0, .rw, .any⟩]⟩
  , -- BLK_k_LAW_l_B23
    ⟨0x10405004, [(0x1000000, 4), (0x200000, 2), (0x20, 256)], .lawParam, 0x0#32,
      [⟨31, 16, .rw, .any⟩, ⟨15, 0, .rw, .any⟩]⟩
  , -- BLK_k_LAW_l_A12
    ⟨0x10405008, [(0x1000000, 4), (0x200000, 2), (0x20, 256)], .lawParam, 0x0#32,
      [⟨31, 16, .rw, .any⟩, ⟨15, 0, .rw, .any⟩]⟩
  , -- BLK_k_LAW_l_A3
    ⟨0x1040500C, [(0x1000000, 4), (0x200000, 2), (0x20, 256)], .lawParam, 0x0#32,
      [⟨15, 0, .rw, .any⟩]⟩
  , -- BLK_k_LAW_l_LIMITS
    ⟨0x10405010, [(0x1000000, 4), (0x200000, 2), (0x20, 256)], .lawParam, 0x0#32,
      [⟨31, 16, .rw, .any⟩, ⟨15, 0, .rw, .any⟩]⟩
  , -- BLK_k_LAW_l_STATUS
    ⟨0x10405014, [(0x1000000, 4), (0x200000, 2), (0x20, 256)], .lawParam, 0x0#32,
      [⟨31, 16, .ro, .any⟩, ⟨15, 0, .ro, .any⟩]⟩
  , -- BLK_k_LAW_l_OUT
    ⟨0x10405018, [(0x1000000, 4), (0x200000, 2), (0x20, 256)], .lawParam, 0x0#32,
      [⟨17, 17, .ro, .any⟩, ⟨16, 16, .ro, .any⟩, ⟨15, 0, .ro, .any⟩]⟩
  , -- BLK_k_LAW_l_CTRL
    ⟨0x1040501C, [(0x1000000, 4), (0x200000, 2), (0x20, 256)], .lawCtrl, 0x0#32,
      [⟨0, 0, .wo, .any⟩]⟩
  , -- BLK_k_INJ_CFG
    ⟨0x10407000, [(0x1000000, 4), (0x200000, 2)], .injCfg, 0x10000#32,
      [⟨31, 16, .rw, .within 1 65535⟩, ⟨15, 12, .rw, .any⟩, ⟨11, 10, .rw, .any⟩, ⟨8, 0, .rw, .any⟩]⟩
  , -- BLK_k_INJ_AMPL
    ⟨0x10407004, [(0x1000000, 4), (0x200000, 2)], .injCfg, 0x10000#32,
      [⟨31, 16, .rw, .within 1 65535⟩, ⟨15, 0, .rw, .within 0 32767⟩]⟩ ]

def regRowsBlock1 : List RegRow :=
  [ -- BLK_k_INJ_SWEEP
    ⟨0x10407008, [(0x1000000, 4), (0x200000, 2)], .injCfg, 0x0#32,
      [⟨31, 0, .rw, .any⟩]⟩
  , -- BLK_k_INJ_CTRL
    ⟨0x1040700C, [(0x1000000, 4), (0x200000, 2)], .injCtrl, 0x0#32,
      [⟨1, 1, .wo, .any⟩, ⟨0, 0, .wo, .any⟩]⟩
  , -- BLK_k_INJ_STATUS
    ⟨0x10407010, [(0x1000000, 4), (0x200000, 2)], .plain, 0x0#32,
      [⟨31, 16, .ro, .any⟩, ⟨7, 4, .ro, .any⟩, ⟨1, 0, .ro, .any⟩]⟩
  , -- BLK_k_INJ_FREQ_e
    ⟨0x10407040, [(0x1000000, 4), (0x200000, 2), (0x4, 16)], .injCfg, 0x0#32,
      [⟨31, 0, .rw, .within 0 536870912⟩]⟩
  , -- BLK_k_CAP_CFG
    ⟨0x10407100, [(0x1000000, 4), (0x200000, 2)], .capCfg, 0x0#32,
      [⟨31, 16, .rw, .any⟩, ⟨8, 8, .rwl, .any⟩, ⟨7, 0, .rw, .any⟩]⟩
  , -- BLK_k_CAP_CH_c
    ⟨0x10407104, [(0x1000000, 4), (0x200000, 2), (0x4, 8)], .capCfg, 0x0#32,
      [⟨10, 9, .rw, .within 0 2⟩, ⟨8, 0, .rw, .any⟩]⟩
  , -- BLK_k_CAP_LEN
    ⟨0x10407124, [(0x1000000, 4), (0x200000, 2)], .capCfg, 0x0#32,
      [⟨18, 0, .rw, .within 1 262144⟩]⟩
  , -- BLK_k_CAP_PRE
    ⟨0x10407128, [(0x1000000, 4), (0x200000, 2)], .capCfg, 0x0#32,
      [⟨18, 0, .rw, .any⟩]⟩
  , -- BLK_k_CAP_TRIG
    ⟨0x1040712C, [(0x1000000, 4), (0x200000, 2)], .capCfg, 0x0#32,
      [⟨31, 16, .rw, .any⟩, ⟨13, 12, .rw, .within 0 2⟩, ⟨11, 9, .rw, .within 0 4⟩, ⟨8, 0, .rw, .any⟩]⟩
  , -- BLK_k_CAP_TRIG_STEP
    ⟨0x10407130, [(0x1000000, 4), (0x200000, 2)], .capCfg, 0x0#32,
      [⟨31, 0, .rw, .any⟩]⟩
  , -- BLK_k_CAP_CTRL
    ⟨0x10407134, [(0x1000000, 4), (0x200000, 2)], .capCtrl, 0x0#32,
      [⟨1, 1, .wo, .any⟩, ⟨0, 0, .wo, .any⟩]⟩
  , -- BLK_k_CAP_STATUS
    ⟨0x10407138, [(0x1000000, 4), (0x200000, 2)], .plain, 0x0#32,
      [⟨2, 0, .ro, .any⟩]⟩ ]

def regRowsBlock2 : List RegRow :=
  [ -- BLK_k_CAP_FIRST
    ⟨0x1040713C, [(0x1000000, 4), (0x200000, 2)], .plain, 0x0#32,
      [⟨18, 0, .ro, .any⟩]⟩
  , -- BLK_k_CAP_PRE_HELD
    ⟨0x10407140, [(0x1000000, 4), (0x200000, 2)], .plain, 0x0#32,
      [⟨18, 0, .ro, .any⟩]⟩
  , -- BLK_k_CAP_TRIG_SEEN
    ⟨0x10407144, [(0x1000000, 4), (0x200000, 2)], .plain, 0x0#32,
      [⟨31, 0, .ro, .any⟩]⟩
  , -- BLK_k_SIG_s
    ⟨0x10408000, [(0x1000000, 4), (0x200000, 2), (0x4, 512)], .plain, 0x8000#32,
      [⟨15, 0, .ro, .any⟩]⟩
  , -- BLK_k_DTC_CFG
    ⟨0x10409000, [(0x1000000, 4), (0x200000, 2)], .dtcCfg, 0x0#32,
      [⟨11, 9, .rwl, .any⟩, ⟨8, 0, .rwl, .any⟩]⟩
  , -- BLK_k_DTC_CORR
    ⟨0x10409004, [(0x1000000, 4), (0x200000, 2)], .plain, 0x0#32,
      [⟨31, 16, .rw, .any⟩, ⟨15, 0, .rw, .within 0 32767⟩]⟩
  , -- BLK_k_DTC_STATUS
    ⟨0x10409008, [(0x1000000, 4), (0x200000, 2)], .plain, 0x0#32,
      [⟨31, 16, .ro, .any⟩, ⟨11, 8, .ro, .any⟩, ⟨7, 4, .ro, .any⟩, ⟨0, 0, .ro, .any⟩]⟩
  , -- BLK_k_TRIO_t_CFG
    ⟨0x10409040, [(0x1000000, 4), (0x200000, 2), (0x20, 2)], .trioCfg, 0x0#32,
      [⟨31, 16, .rwl, .any⟩, ⟨0, 0, .rwl, .any⟩]⟩
  , -- BLK_k_TRIO_t_BAND
    ⟨0x10409044, [(0x1000000, 4), (0x200000, 2), (0x20, 2)], .plain, 0x0#32,
      [⟨31, 16, .rw, .within 0 32767⟩, ⟨15, 0, .rw, .within 0 32767⟩]⟩
  , -- BLK_k_TRIO_t_VETO
    ⟨0x10409048, [(0x1000000, 4), (0x200000, 2), (0x20, 2)], .trioVeto, 0x7FFF0000#32,
      [⟨31, 16, .rw, .within 0 32767⟩, ⟨15, 0, .rw, .within 0 32767⟩]⟩
  , -- BLK_k_TRIO_t_KT
    ⟨0x1040904C, [(0x1000000, 4), (0x200000, 2), (0x20, 2)], .plain, 0x0#32,
      [⟨19, 16, .rw, .within 0 7⟩, ⟨15, 0, .rw, .within 0 32767⟩]⟩
  , -- BLK_k_TRIO_t_SHARE
    ⟨0x10409050, [(0x1000000, 4), (0x200000, 2), (0x20, 2)], .plain, 0x4000#32,
      [⟨15, 0, .ro, .any⟩]⟩ ]

def regRowsBlock3 : List RegRow :=
  [ -- BLK_k_TRIO_t_STATE
    ⟨0x10409054, [(0x1000000, 4), (0x200000, 2), (0x20, 2)], .plain, 0x140#32,
      [⟨14, 12, .ro, .any⟩, ⟨11, 11, .ro, .any⟩, ⟨10, 10, .ro, .any⟩, ⟨9, 9, .ro, .any⟩, ⟨8, 8, .ro, .any⟩, ⟨7, 6, .ro, .any⟩, ⟨5, 3, .ro, .any⟩, ⟨2, 0, .ro, .any⟩]⟩
  , -- BLK_k_TRIO_t_COUNT
    ⟨0x10409058, [(0x1000000, 4), (0x200000, 2), (0x20, 2)], .plain, 0x0#32,
      [⟨31, 16, .ro, .any⟩, ⟨15, 0, .ro, .any⟩]⟩
  , -- BLK_k_TRIO_t_HELD
    ⟨0x1040905C, [(0x1000000, 4), (0x200000, 2), (0x20, 2)], .plain, 0x0#32,
      [⟨15, 0, .ro, .any⟩]⟩
  , -- BLK_k_CELL_i_EST_GV
    ⟨0x10409100, [(0x1000000, 4), (0x200000, 2), (0x8, 6)], .plain, 0x0#32,
      [⟨19, 0, .rw, .any⟩]⟩
  , -- BLK_k_CELL_i_EST_GR
    ⟨0x10409104, [(0x1000000, 4), (0x200000, 2), (0x8, 6)], .plain, 0x0#32,
      [⟨19, 0, .rw, .any⟩]⟩
  , -- BLK_k_TRIO_t_MOTION_CFG
    ⟨0x1040A000, [(0x1000000, 4), (0x200000, 2), (0x40, 2)], .motionCfg, 0x141000#32,
      [⟨24, 16, .rwl, .within 2 500⟩, ⟨15, 14, .rwl, .within 0 2⟩, ⟨13, 12, .rwl, .within 0 2⟩, ⟨8, 0, .rwl, .any⟩]⟩
  , -- BLK_k_TRIO_t_SPEED_CFG
    ⟨0x1040A004, [(0x1000000, 4), (0x200000, 2), (0x40, 2)], .plain, 0x320100#32,
      [⟨31, 16, .rw, .within 1 32767⟩, ⟨15, 0, .rw, .within 1 32767⟩]⟩
  , -- BLK_k_TRIO_t_COMM_CFG
    ⟨0x1040A008, [(0x1000000, 4), (0x200000, 2), (0x40, 2)], .plain, 0x80100020#32,
      [⟨31, 24, .rw, .any⟩, ⟨23, 16, .rw, .any⟩, ⟨15, 0, .rw, .within 1 32767⟩]⟩
  , -- BLK_k_TRIO_t_START_CFG
    ⟨0x1040A00C, [(0x1000000, 4), (0x200000, 2), (0x40, 2)], .startCfg, 0xFA02032#32,
      [⟨31, 16, .rw, .within 16 65535⟩, ⟨15, 8, .rw, .within 1 255⟩, ⟨7, 0, .rw, .within 1 255⟩]⟩
  , -- BLK_k_TRIO_t_START_DUTY
    ⟨0x1040A010, [(0x1000000, 4), (0x200000, 2), (0x40, 2)], .plain, 0xCCD0666#32,
      [⟨31, 16, .rw, .within 0 32767⟩, ⟨15, 0, .rw, .within 0 32767⟩]⟩
  , -- BLK_k_TRIO_t_OL_END
    ⟨0x1040A014, [(0x1000000, 4), (0x200000, 2), (0x40, 2)], .olEnd, 0xC8#32,
      [⟨15, 0, .rw, .within 16 65535⟩]⟩
  , -- BLK_k_TRIO_t_MOTION_STATUS
    ⟨0x1040A020, [(0x1000000, 4), (0x200000, 2), (0x40, 2)], .plain, 0x0#32,
      [⟨31, 16, .ro, .any⟩, ⟨12, 12, .ro, .any⟩, ⟨11, 11, .ro, .any⟩, ⟨10, 10, .ro, .any⟩, ⟨6, 4, .ro, .any⟩, ⟨3, 0, .ro, .any⟩]⟩ ]

def regRowsBlock4 : List RegRow :=
  [ -- BLK_k_TRIO_t_COMM_STATUS
    ⟨0x1040A024, [(0x1000000, 4), (0x200000, 2), (0x40, 2)], .plain, 0x0#32,
      [⟨31, 16, .ro, .any⟩, ⟨15, 8, .ro, .any⟩, ⟨7, 0, .ro, .any⟩]⟩
  , -- LEG_c_REENTRY_CFG
    ⟨0x10500300, [(0x1000000, 4), (0x200000, 2), (0x10000, 6)], .plain, 0xA#32,
      [⟨7, 0, .rw, .within 1 255⟩]⟩
  , -- LEG_c_REENTRY_CTRL
    ⟨0x10500304, [(0x1000000, 4), (0x200000, 2), (0x10000, 6)], .reentryCtrl, 0x0#32,
      [⟨0, 0, .wo, .any⟩]⟩
  , -- LEG_c_REENTRY_STATUS
    ⟨0x10500308, [(0x1000000, 4), (0x200000, 2), (0x10000, 6)], .plain, 0x0#32,
      [⟨21, 16, .ro, .any⟩, ⟨15, 8, .ro, .any⟩, ⟨2, 0, .ro, .any⟩]⟩
  , -- PART_CAPABILITY
    ⟨0x10200, [(0x1000, 16)], .plain, 0x0#32,
      [⟨31, 31, .ro, .any⟩, ⟨25, 21, .ro, .any⟩, ⟨20, 16, .ro, .any⟩, ⟨15, 0, .ro, .any⟩]⟩ ]

def regRowsPos0 : List RegRow :=
  [ -- POS_u_CFG
    ⟨0x30004000, [(0x40, 11)], .posCfg, 0x40400#32,
      [⟨23, 16, .rw, .any⟩, ⟨15, 10, .rw, .within 1 63⟩, ⟨9, 9, .rw, .any⟩, ⟨0, 0, .rw, .any⟩]⟩
  , -- POS_u_GEOM
    ⟨0x30004004, [(0x40, 11)], .posGeom, 0x0#32,
      [⟨31, 0, .rw, .any⟩]⟩
  , -- POS_u_GEOM2
    ⟨0x30004008, [(0x40, 11)], .posGeom, 0x0#32,
      [⟨31, 0, .rw, .any⟩]⟩
  , -- POS_u_OFFSET
    ⟨0x3000400C, [(0x40, 11)], .posOffset, 0x0#32,
      [⟨31, 16, .rw, .any⟩, ⟨15, 0, .rw, .any⟩]⟩
  , -- POS_u_SPEED_FS
    ⟨0x30004010, [(0x40, 11)], .plain, 0x2710#32,
      [⟨15, 0, .rw, .within 1 65535⟩]⟩
  , -- POS_u_POSITION
    ⟨0x30004020, [(0x40, 11)], .plain, 0x0#32,
      [⟨31, 16, .ro, .any⟩, ⟨15, 0, .ro, .any⟩]⟩
  , -- POS_u_SPEED
    ⟨0x30004024, [(0x40, 11)], .plain, 0x0#32,
      [⟨31, 0, .rs, .any⟩]⟩
  , -- POS_u_STATUS
    ⟨0x30004028, [(0x40, 11)], .plain, 0x0#32,
      [⟨7, 6, .rs, .any⟩, ⟨5, 0, .rs, .any⟩]⟩
  , -- POS_u_EDGE_STEP
    ⟨0x3000402C, [(0x40, 11)], .plain, 0x0#32,
      [⟨31, 0, .rs, .any⟩]⟩
  , -- POS_u_COUNT
    ⟨0x30004030, [(0x40, 11)], .plain, 0x0#32,
      [⟨31, 16, .ro, .any⟩, ⟨15, 0, .ro, .any⟩]⟩
  , -- POS_u_SYNC_COUNT
    ⟨0x30004034, [(0x40, 11)], .plain, 0x0#32,
      [⟨15, 0, .ro, .any⟩]⟩
  , -- BLK_k_POS_SLOT_p
    ⟨0x1040B200, [(0x1000000, 4), (0x200000, 2), (0x4, 4)], .plain, 0x0#32,
      [⟨3, 0, .rwl, .within 0 11⟩]⟩ ]

def regRowsPos1 : List RegRow :=
  [ -- BLK_k_CMP_m_CFG
    ⟨0x1040B000, [(0x1000000, 4), (0x200000, 2), (0x80, 2)], .cmpCfg, 0x0#32,
      [⟨14, 14, .rw, .any⟩, ⟨13, 9, .rw, .any⟩, ⟨8, 8, .rw, .any⟩, ⟨7, 4, .rw, .any⟩, ⟨3, 2, .rw, .any⟩, ⟨1, 0, .rw, .within 0 2⟩]⟩
  , -- BLK_k_CMP_m_GRID
    ⟨0x1040B004, [(0x1000000, 4), (0x200000, 2), (0x80, 2)], .cmpCfg, 0x4000000#32,
      [⟨31, 16, .rw, .within 1 65535⟩, ⟨15, 0, .rw, .any⟩]⟩
  , -- BLK_k_CMP_m_CTRL
    ⟨0x1040B008, [(0x1000000, 4), (0x200000, 2), (0x80, 2)], .cmpCtrl, 0x0#32,
      [⟨1, 1, .wo, .any⟩, ⟨0, 0, .wo, .any⟩]⟩
  , -- BLK_k_CMP_m_STATUS
    ⟨0x1040B00C, [(0x1000000, 4), (0x200000, 2), (0x80, 2)], .plain, 0x0#32,
      [⟨31, 16, .ro, .any⟩, ⟨7, 4, .ro, .any⟩, ⟨2, 0, .ro, .any⟩]⟩
  , -- BLK_k_CMP_m_NEXT
    ⟨0x1040B010, [(0x1000000, 4), (0x200000, 2), (0x80, 2)], .plain, 0x0#32,
      [⟨15, 0, .ro, .any⟩]⟩
  , -- BLK_k_CMP_m_HITS
    ⟨0x1040B014, [(0x1000000, 4), (0x200000, 2), (0x80, 2)], .plain, 0x0#32,
      [⟨31, 0, .ro, .any⟩]⟩
  , -- BLK_k_CMP_m_LAST
    ⟨0x1040B018, [(0x1000000, 4), (0x200000, 2), (0x80, 2)], .plain, 0x0#32,
      [⟨31, 0, .ro, .any⟩]⟩
  , -- BLK_k_CMP_m_LAST_PHASE
    ⟨0x1040B01C, [(0x1000000, 4), (0x200000, 2), (0x80, 2)], .plain, 0x0#32,
      [⟨9, 9, .ro, .any⟩, ⟨8, 0, .ro, .any⟩]⟩
  , -- BLK_k_CMP_m_LIST_e
    ⟨0x1040B040, [(0x1000000, 4), (0x200000, 2), (0x80, 2), (0x4, 16)], .cmpCfg, 0x0#32,
      [⟨15, 0, .rw, .any⟩]⟩ ]

def regRowsSafe0 : List RegRow :=
  [ -- THERM_z_LEVELS
    ⟨0x40000, [(0x20, 7)], .plain, 0x57804E2#32,
      [⟨31, 16, .rwl, .any⟩, ⟨15, 0, .rwl, .any⟩]⟩
  , -- THERM_z_SHUT
    ⟨0x40004, [(0x20, 7)], .plain, 0x640#32,
      [⟨15, 0, .rwl, .any⟩]⟩
  , -- THERM_z_HYST
    ⟨0x40008, [(0x20, 7)], .plain, 0x643232#32,
      [⟨23, 16, .rwl, .any⟩, ⟨15, 8, .rwl, .any⟩, ⟨7, 0, .rwl, .any⟩]⟩
  , -- THERM_z_DERATE
    ⟨0x4000C, [(0x20, 7)], .plain, 0x7FFF4000#32,
      [⟨31, 16, .ro, .any⟩, ⟨15, 0, .rwl, .within 0 32767⟩]⟩
  , -- THERM_z_STATUS
    ⟨0x40010, [(0x20, 7)], .plain, 0x80000000#32,
      [⟨31, 16, .ro, .any⟩, ⟨2, 2, .ro, .any⟩, ⟨1, 0, .ro, .any⟩]⟩
  , -- THERM_z_COUNT
    ⟨0x40014, [(0x20, 7)], .plain, 0x0#32,
      [⟨31, 16, .ro, .any⟩, ⟨15, 0, .ro, .any⟩]⟩
  , -- THERM_SENSOR_s
    ⟨0x41000, [(0x4, 78)], .plain, 0x8000#32,
      [⟨16, 16, .ro, .any⟩, ⟨15, 0, .ro, .any⟩]⟩
  , -- TEMP_n_CFG
    ⟨0x30003000, [(0x20, 64)], .tempCfg, 0x3E8#32,
      [⟨31, 30, .rw, .within 0 2⟩, ⟨29, 29, .rw, .any⟩, ⟨28, 28, .rw, .any⟩, ⟨15, 0, .rw, .within 1 65535⟩]⟩
  , -- TEMP_n_COEF
    ⟨0x30003004, [(0x20, 64)], .plain, 0xF82#32,
      [⟨15, 0, .rw, .within 1000 10000⟩]⟩
  , -- TEMP_n_LEVELS
    ⟨0x30003008, [(0x20, 64)], .plain, 0x2BC0258#32,
      [⟨31, 16, .rw, .any⟩, ⟨15, 0, .rw, .any⟩]⟩
  , -- TEMP_n_SHUT
    ⟨0x3000300C, [(0x20, 64)], .plain, 0x14000320#32,
      [⟨31, 24, .rw, .any⟩, ⟨15, 0, .rw, .any⟩]⟩
  , -- TEMP_n_STATUS
    ⟨0x30003010, [(0x20, 64)], .plain, 0x80000000#32,
      [⟨31, 16, .ro, .any⟩, ⟨2, 2, .ro, .any⟩, ⟨1, 0, .ro, .any⟩]⟩ ]

def regRowsSafe1 : List RegRow :=
  [ -- TEMP_n_RAW
    ⟨0x30003014, [(0x20, 64)], .plain, 0x0#32,
      [⟨15, 0, .ro, .any⟩]⟩
  , -- SAFE_PIN_CFG
    ⟨0x30000, [], .safePinCfg, 0x1401FF#32,
      [⟨23, 16, .rwl, .within 1 255⟩, ⟨8, 8, .rwl, .any⟩, ⟨7, 4, .rwl, .any⟩, ⟨3, 0, .rwl, .any⟩]⟩
  , -- SAFE_PIN_STATUS
    ⟨0x30004, [], .plain, 0x0#32,
      [⟨15, 12, .ro, .any⟩, ⟨3, 3, .ro, .any⟩, ⟨2, 2, .ro, .any⟩, ⟨1, 1, .ro, .any⟩, ⟨0, 0, .ro, .any⟩]⟩
  , -- SAFE_RESET_CFG
    ⟨0x30008, [], .plain, 0xFFFF#32,
      [⟨15, 0, .rwl, .any⟩]⟩
  , -- SAFE_RESET_COUNT
    ⟨0x3000C, [], .plain, 0x0#32,
      [⟨31, 16, .ro, .any⟩, ⟨15, 0, .ro, .any⟩]⟩
  , -- SAFE_SCMP_CMD
    ⟨0x30010, [], .plain, 0xFFFFFFFF#32,
      [⟨31, 0, .rwl, .any⟩]⟩
  , -- SAFE_p_CFG
    ⟨0x30100, [(0x40, 16)], .plain, 0x40041004#32,
      [⟨31, 24, .rwl, .within 1 255⟩, ⟨23, 16, .rwl, .within 1 255⟩, ⟨15, 8, .rwl, .within 2 255⟩, ⟨7, 4, .rwl, .within 0 11⟩, ⟨2, 2, .rwl, .any⟩, ⟨1, 1, .rwl, .any⟩, ⟨0, 0, .rwl, .any⟩]⟩
  , -- SAFE_p_TM_TOL
    ⟨0x30104, [(0x40, 16)], .plain, 0x1A0666#32,
      [⟨23, 16, .rwl, .any⟩, ⟨15, 0, .rwl, .within 0 32767⟩]⟩
  , -- SAFE_p_TM_KT
    ⟨0x30108, [(0x40, 16)], .plain, 0x0#32,
      [⟨19, 16, .rwl, .within 0 7⟩, ⟨15, 0, .rwl, .within 0 32767⟩]⟩
  , -- SAFE_p_SS1
    ⟨0x3010C, [(0x40, 16)], .plain, 0xC800C8#32,
      [⟨31, 16, .rwl, .within 1 65535⟩, ⟨15, 0, .rwl, .any⟩]⟩
  , -- SAFE_p_SS1_LIM
    ⟨0x30110, [(0x40, 16)], .plain, 0x200003E8#32,
      [⟨31, 16, .rwl, .within 0 32767⟩, ⟨15, 0, .rwl, .within 1 65535⟩]⟩
  , -- SAFE_p_CMD
    ⟨0x30114, [(0x40, 16)], .safeCmd, 0x0#32,
      [⟨1, 0, .wo, .any⟩]⟩ ]

def regRowsSafe2 : List RegRow :=
  [ -- SAFE_p_STATUS
    ⟨0x30118, [(0x40, 16)], .plain, 0x0#32,
      [⟨31, 16, .ro, .any⟩, ⟨15, 8, .ro, .any⟩, ⟨7, 0, .ro, .any⟩]⟩
  , -- SAFE_p_DATA_COUNT
    ⟨0x3011C, [(0x40, 16)], .plain, 0x0#32,
      [⟨31, 24, .ro, .any⟩, ⟨23, 16, .ro, .any⟩, ⟨15, 8, .ro, .any⟩, ⟨7, 0, .ro, .any⟩]⟩
  , -- SAFE_p_SS1_STATUS
    ⟨0x30120, [(0x40, 16)], .plain, 0x0#32,
      [⟨31, 16, .ro, .any⟩, ⟨15, 0, .ro, .any⟩]⟩
  , -- SAFE_TRIO_t_TM_CFG
    ⟨0x30600, [(0x8, 16)], .plain, 0x0#32,
      [⟨15, 0, .rwl, .any⟩]⟩
  , -- SAFE_TRIO_t_TM_STATUS
    ⟨0x30604, [(0x8, 16)], .plain, 0x0#32,
      [⟨31, 16, .ro, .any⟩, ⟨15, 8, .ro, .any⟩, ⟨0, 0, .ro, .any⟩]⟩
  , -- ST_CFG
    ⟨0x1200, [], .plain, 0x3200003#32,
      [⟨31, 16, .rw, .within 80 65535⟩, ⟨1, 1, .rw, .any⟩, ⟨0, 0, .rw, .any⟩]⟩
  , -- ST_RESULT
    ⟨0x1204, [], .plain, 0x0#32,
      [⟨23, 16, .ro, .any⟩, ⟨7, 4, .ro, .any⟩, ⟨3, 0, .ro, .any⟩]⟩
  , -- ST_CAROUSEL
    ⟨0x1208, [], .plain, 0x0#32,
      [⟨31, 16, .ro, .any⟩, ⟨15, 8, .ro, .any⟩]⟩
  , -- ST_MEAS_STATUS
    ⟨0x120C, [], .plain, 0xFFFF0000#32,
      [⟨31, 24, .ro, .any⟩, ⟨23, 16, .ro, .any⟩, ⟨15, 0, .ro, .any⟩]⟩
  , -- ST_LANE_k
    ⟨0x1220, [(0x4, 8)], .plain, 0x3FF0000#32,
      [⟨25, 16, .ro, .any⟩, ⟨8, 8, .ro, .any⟩, ⟨4, 0, .ro, .any⟩]⟩
  , -- ST_SCRUB_COUNT
    ⟨0x1240, [], .plain, 0x0#32,
      [⟨31, 16, .ro, .any⟩, ⟨15, 0, .ro, .any⟩]⟩ ]

def regRowsIface0 : List RegRow :=
  [ -- CAN_n_STATUS
    ⟨0x40000000, [(0x100, 4)], .plain, 0x0#32,
      [⟨23, 18, .ro, .any⟩, ⟨17, 12, .ro, .any⟩, ⟨3, 3, .ro, .any⟩, ⟨2, 0, .ro, .any⟩]⟩
  , -- CAN_n_ERR
    ⟨0x40000004, [(0x100, 4)], .plain, 0x0#32,
      [⟨23, 16, .ro, .any⟩, ⟨8, 0, .ro, .any⟩]⟩
  , -- CAN_n_COUNT_A
    ⟨0x40000008, [(0x100, 4)], .plain, 0x0#32,
      [⟨31, 16, .ro, .any⟩, ⟨15, 0, .ro, .any⟩]⟩
  , -- CAN_n_COUNT_B
    ⟨0x4000000C, [(0x100, 4)], .plain, 0x0#32,
      [⟨31, 16, .ro, .any⟩, ⟨15, 0, .ro, .any⟩]⟩
  , -- CAN_n_COUNT_C
    ⟨0x40000010, [(0x100, 4)], .plain, 0x0#32,
      [⟨31, 16, .ro, .any⟩, ⟨15, 0, .ro, .any⟩]⟩
  , -- CAN_n_TIME
    ⟨0x40000014, [(0x100, 4)], .canTime, 0x8001#32,
      [⟨15, 15, .rw, .any⟩, ⟨14, 13, .rw, .within 0 2⟩, ⟨10, 0, .rw, .any⟩]⟩
  , -- CAN_n_CTRL
    ⟨0x40000018, [(0x100, 4)], .canCtrl, 0x0#32,
      [⟨31, 16, .wo, .any⟩, ⟨2, 2, .wo, .any⟩, ⟨1, 1, .wo, .any⟩, ⟨0, 0, .wo, .any⟩]⟩
  , -- CAN_SERVICE_CFG
    ⟨0x40000400, [], .plain, 0xA0001#32,
      [⟨23, 16, .rw, .any⟩, ⟨8, 8, .rw, .any⟩, ⟨3, 0, .rw, .any⟩]⟩
  , -- CAN_NODE
    ⟨0x40000404, [], .plain, 0xFFFF#32,
      [⟨31, 16, .ro, .any⟩, ⟨15, 0, .ro, .any⟩]⟩
  , -- OBJ_o_CFG
    ⟨0x40010000, [(0x80, 2048)], .plain, 0x0#32,
      [⟨31, 24, .ro, .any⟩, ⟨23, 16, .ro, .any⟩, ⟨9, 8, .ro, .any⟩, ⟨4, 0, .ro, .any⟩]⟩
  , -- OBJ_o_ID
    ⟨0x40010004, [(0x80, 2048)], .plain, 0x0#32,
      [⟨28, 0, .ro, .any⟩]⟩
  , -- OBJ_o_STATUS
    ⟨0x40010008, [(0x80, 2048)], .plain, 0x0#32,
      [⟨31, 24, .ro, .any⟩, ⟨8, 8, .ro, .any⟩, ⟨7, 7, .ro, .any⟩, ⟨6, 6, .w1c, .any⟩, ⟨5, 5, .w1c, .any⟩, ⟨4, 4, .w1c, .any⟩, ⟨3, 3, .ro, .any⟩, ⟨2, 2, .ro, .any⟩, ⟨1, 1, .w1c, .any⟩, ⟨0, 0, .w1c, .any⟩]⟩ ]

def regRowsIface1 : List RegRow :=
  [ -- OBJ_o_CTRL
    ⟨0x4001000C, [(0x80, 2048)], .objCtrl, 0x0#32,
      [⟨2, 2, .wo, .any⟩, ⟨1, 1, .wo, .any⟩, ⟨0, 0, .wo, .any⟩]⟩
  , -- OBJ_o_STAMP
    ⟨0x40010010, [(0x80, 2048)], .plain, 0x0#32,
      [⟨31, 0, .ro, .any⟩]⟩
  , -- OBJ_o_INFO
    ⟨0x40010014, [(0x80, 2048)], .plain, 0x0#32,
      [⟨31, 16, .ro, .any⟩, ⟨8, 0, .ro, .any⟩]⟩
  , -- OBJ_o_FRAMES
    ⟨0x40010018, [(0x80, 2048)], .plain, 0x0#32,
      [⟨31, 0, .ro, .any⟩]⟩
  , -- OBJ_o_DATA_w
    ⟨0x40010040, [(0x80, 2048), (0x4, 16)], .objData, 0x0#32,
      [⟨31, 0, .rw, .any⟩]⟩
  , -- SPI_CFG
    ⟨0x40060000, [], .spiCfg, 0x2229000#32,
      [⟨27, 24, .rw, .within 1 15⟩, ⟨23, 20, .rw, .within 1 15⟩, ⟨19, 16, .rw, .within 1 15⟩, ⟨15, 12, .rw, .any⟩, ⟨11, 9, .rw, .any⟩, ⟨8, 8, .rw, .any⟩, ⟨0, 0, .rw, .any⟩]⟩
  , -- SPI_STATUS
    ⟨0x40060004, [], .plain, 0x0#32,
      [⟨6, 4, .ro, .any⟩, ⟨3, 3, .ro, .any⟩, ⟨2, 2, .ro, .any⟩, ⟨1, 1, .ro, .any⟩, ⟨0, 0, .ro, .any⟩]⟩
  , -- SPI_GPIO
    ⟨0x40060008, [], .spiGpio, 0x33#32,
      [⟨5, 4, .ro, .any⟩, ⟨3, 2, .rw, .any⟩, ⟨1, 0, .rw, .any⟩]⟩
  , -- SPI_XIP_CFG
    ⟨0x40060010, [], .spiXipCfg, 0x3700000#32,
      [⟨31, 24, .rw, .any⟩, ⟨23, 20, .rw, .any⟩, ⟨19, 15, .rw, .any⟩, ⟨14, 14, .rw, .any⟩, ⟨13, 12, .rw, .any⟩, ⟨11, 10, .rw, .any⟩, ⟨9, 9, .rw, .any⟩, ⟨3, 0, .rw, .any⟩]⟩
  , -- SPI_XIP_MODE
    ⟨0x40060014, [], .spiXipCfg, 0x10A0#32,
      [⟨15, 8, .rw, .within 8 255⟩, ⟨7, 0, .rw, .any⟩]⟩
  , -- SPI_XIP_STATUS
    ⟨0x40060018, [], .plain, 0x0#32,
      [⟨31, 16, .ro, .any⟩, ⟨15, 0, .ro, .any⟩]⟩
  , -- SPI_XIP_CTRL
    ⟨0x4006001C, [], .spiXipCtrl, 0x0#32,
      [⟨0, 0, .wo, .any⟩]⟩ ]

def regRowsIface2 : List RegRow :=
  [ -- SPI_FRAME_CFG
    ⟨0x40060020, [], .spiFrameCfg, 0x0#32,
      [⟨31, 19, .rw, .within 0 4096⟩, ⟨18, 18, .rw, .any⟩, ⟨17, 16, .rw, .any⟩, ⟨15, 11, .rw, .any⟩, ⟨10, 9, .rw, .any⟩, ⟨8, 3, .rw, .within 0 32⟩]⟩
  , -- SPI_FRAME_CMDCFG
    ⟨0x40060024, [], .spiFrameCfg, 0x0#32,
      [⟨31, 16, .rw, .any⟩, ⟨10, 9, .rw, .any⟩, ⟨8, 4, .rw, .within 0 16⟩]⟩
  , -- SPI_FRAME_SEL
    ⟨0x40060028, [], .spiFrameCfg, 0x0#32,
      [⟨8, 8, .rw, .any⟩, ⟨7, 4, .rw, .any⟩, ⟨3, 0, .rw, .any⟩]⟩
  , -- SPI_FRAME_ADDR
    ⟨0x4006002C, [], .spiFrameCfg, 0x0#32,
      [⟨31, 0, .rw, .any⟩]⟩
  , -- SPI_FRAME_CTRL
    ⟨0x40060030, [], .spiFrameCtrl, 0x0#32,
      [⟨0, 0, .wo, .any⟩]⟩
  , -- SPI_FRAME_STATUS
    ⟨0x40060034, [], .plain, 0x0#32,
      [⟨1, 0, .ro, .any⟩]⟩
  , -- SPI_SLAVE_STATUS
    ⟨0x40060040, [], .plain, 0x0#32,
      [⟨31, 16, .ro, .any⟩, ⟨4, 4, .ro, .any⟩, ⟨3, 2, .ro, .any⟩, ⟨1, 0, .ro, .any⟩]⟩
  , -- SPI_SLAVE_COUNT
    ⟨0x40060044, [], .plain, 0x0#32,
      [⟨31, 16, .ro, .any⟩, ⟨15, 8, .ro, .any⟩, ⟨7, 0, .ro, .any⟩]⟩
  , -- PART_KEEP_CTRL
    ⟨0x10300, [(0x1000, 16)], .keepCtrl, 0x0#32,
      [⟨31, 16, .wo, .any⟩, ⟨2, 2, .wo, .any⟩, ⟨1, 1, .wo, .any⟩, ⟨0, 0, .wo, .any⟩]⟩
  , -- PART_KEEP_ADDR
    ⟨0x10304, [(0x1000, 16)], .keepBuf, 0x0#32,
      [⟨31, 0, .rw, .any⟩]⟩
  , -- PART_KEEP_STATUS
    ⟨0x10308, [(0x1000, 16)], .plain, 0x0#32,
      [⟨15, 8, .ro, .any⟩, ⟨5, 4, .ro, .any⟩, ⟨2, 0, .ro, .any⟩]⟩
  , -- PART_KEEP_JOURNAL
    ⟨0x1030C, [(0x1000, 16)], .plain, 0x0#32,
      [⟨31, 16, .ro, .any⟩, ⟨15, 8, .ro, .any⟩, ⟨1, 0, .ro, .any⟩]⟩ ]

def regRowsIface3 : List RegRow :=
  [ -- PART_REC_CFG
    ⟨0x10310, [(0x1000, 16)], .plain, 0xA#32,
      [⟨7, 0, .rw, .within 1 255⟩]⟩
  , -- PART_REC_STATUS
    ⟨0x10314, [(0x1000, 16)], .plain, 0x0#32,
      [⟨31, 16, .ro, .any⟩, ⟨1, 1, .ro, .any⟩, ⟨0, 0, .ro, .any⟩]⟩
  , -- PART_HIST_h_CFG
    ⟨0x10320, [(0x1000, 16), (0x8, 4)], .histCfg, 0x0#32,
      [⟨15, 0, .rw, .any⟩]⟩
  , -- PART_HIST_h_RANGE
    ⟨0x10324, [(0x1000, 16), (0x8, 4)], .histCfg, 0x0#32,
      [⟨31, 16, .rw, .within 1 32767⟩, ⟨15, 0, .rw, .any⟩]⟩
  , -- PART_KEEP_PAGE_w
    ⟨0x10400, [(0x1000, 16), (0x4, 64)], .keepBuf, 0x0#32,
      [⟨31, 0, .rw, .any⟩]⟩
  , -- KEEP_STATE
    ⟨0x40070000, [], .plain, 0x80000000#32,
      [⟨31, 16, .ro, .any⟩, ⟨1, 1, .ro, .any⟩, ⟨0, 0, .ro, .any⟩]⟩
  , -- KEEP_ECC
    ⟨0x40070004, [], .plain, 0x0#32,
      [⟨31, 16, .ro, .any⟩, ⟨15, 0, .ro, .any⟩]⟩
  , -- KEEP_ECC_ADDR
    ⟨0x40070008, [], .plain, 0x0#32,
      [⟨31, 0, .ro, .any⟩]⟩
  , -- KEEP_HALF_n
    ⟨0x40070010, [(0x4, 8)], .plain, 0x0#32,
      [⟨31, 0, .ro, .any⟩]⟩ ]

/-- Every register of the spec. -/
def regRows : List RegRow :=
  regRowsChip0 ++ regRowsChip1 ++ regRowsChip2 ++ regRowsChip3 ++ regRowsChip4 ++ regRowsSeq0 ++ regRowsSeq1 ++ regRowsLeg0 ++ regRowsLeg1 ++ regRowsLeg2 ++ regRowsLeg3 ++ regRowsLeg4 ++ regRowsLeg5 ++ regRowsLeg6 ++ regRowsMeas0 ++ regRowsMeas1 ++ regRowsMeas2 ++ regRowsBlock0 ++ regRowsBlock1 ++ regRowsBlock2 ++ regRowsBlock3 ++ regRowsBlock4 ++ regRowsPos0 ++ regRowsPos1 ++ regRowsSafe0 ++ regRowsSafe1 ++ regRowsSafe2 ++ regRowsIface0 ++ regRowsIface1 ++ regRowsIface2 ++ regRowsIface3

end Sys2Proof.Machine
end

