-- ==== Sys2Proof/Machine/Turnstile.lean ====
section
/-!
DEFINITION. The Turnstile (chapter 4): which register or memory an address names (Tables 1-6 to 1-8), which class of Table 4-2 it belongs
to, and the checks of R104 to R107 that every access passes in the order of R105.
-/
namespace Sys2Proof.Machine

-- ## The register map

/-- A register that an address names: its row and its indices, outermost first. -/
structure RegHit where
  row : RegRow
  idx : List Nat
  deriving DecidableEq, Repr

/-- The indices at which an offset lies in the strides of a row. -/
def strideIdx (dims : List (Nat × Nat)) (off : Nat) : Option (List Nat) :=
  match dims with
  | [] => if off = 0 then some [] else none
  | (s, n) :: r =>
    let i := min (off / max s 1) (n - 1)
    (strideIdx r (off - i * s)).map (fun l => i :: l)

/-- The row of the register map that an aligned address names. -/
def hitIn (rows : List RegRow) (a : Nat) : Option RegHit :=
  match rows with
  | [] => none
  | row :: r =>
    if a < row.base then hitIn r a
    else match strideIdx row.dims (a - row.base) with
      | some idx => some ⟨row, idx⟩
      | none => hitIn r a

/-- The register at an aligned address; BS_PORT is one register over its window (Table 3-19). -/
def regHit (a : Nat) : Option RegHit :=
  hitIn regRows (if 0x800 ≤ a ∧ a < 0x1000 then 0x800 else a)

/-- Index i of a hit. -/
def RegHit.ix (x : RegHit) (i : Nat) : Nat := x.idx.getD i 0

/-- The global block of a block-window hit, and the global cell of a cell-window hit. -/
def RegHit.blk (x : RegHit) : Nat := 2 * x.ix 0 + x.ix 1
def RegHit.leg (x : RegHit) : Nat := 12 * x.ix 0 + 6 * x.ix 1 + x.ix 2

/-- The reset value of a register: that of its row, but for the registers whose reset depends on their index (Tables 13-6, 20-6). -/
def RegHit.resetOf (x : RegHit) (a : Nat) : Word :=
  match x.row.hook with
  | .posGeom => if a % 0x40 = 4 then posGeomReset (x.ix 0) else posGeom2Reset (x.ix 0)
  | .histCfg => if a % 8 = 0 then histCfgReset (x.ix 1) else histRangeReset (x.ix 1)
  | _ => x.row.reset

/-- The register of a hit. -/
def RegHit.id (x : RegHit) (a : Nat) : RegId := ⟨a, x.resetOf a⟩

-- ## Targets (Table 4-2)

/-- The classes of Table 4-2, with the unit that an address belongs to. -/
inductive Target where
  | unmapped
  | identity
  | load
  | common
  | tsMap
  | window (p : Nat)
  | tsRecord (p : Nat)
  | safePart (p : Nat)
  | safeTrio (t : Nat)
  | region (r : Nat)
  | legSram
  | block (k : Nat)
  | threadRegs (k : Nat)
  | code (k : Nat)
  | capture (k : Nat)
  | lanes (k : Nat)
  | staging
  | conv (n : Nat)
  | temp (n : Nat)
  | area (a : Nat)
  | areaSram (a : Nat)
  | obj (o : Nat)
  | keyStore (off : Nat)
  | sectorZero
  | keep (s : Nat)
  | frameBuf
  | xip
  deriving DecidableEq, Repr

/-- The class of a register in the chip-control window. -/
def chipTarget (a : Nat) : Target :=
  if a < 0x100 then .identity
  else if a < 0x1000 then .load
  else if a < 0x10000 then .common
  else if a < 0x20000 then .window ((a - 0x10000) / 0x1000)
  else if a < 0x20400 then .tsRecord ((a - 0x20000) / 0x20)
  else if a < 0x30000 then .tsMap
  else if 0x30100 ≤ a ∧ a < 0x30500 then .safePart ((a - 0x30100) / 0x40)
  else if 0x30600 ≤ a ∧ a < 0x30680 then .safeTrio ((a - 0x30600) / 8)
  else .common

/-- The class of a register of D6. -/
def measTarget (a : Nat) : Target :=
  if 0x30001000 ≤ a ∧ a < 0x30001C00 then .conv ((a - 0x30001000) / 0x40)
  else if 0x30002000 ≤ a ∧ a < 0x30003000 then .conv (48 + (a - 0x30002000) / 0x100)
  else if 0x30003000 ≤ a ∧ a < 0x30003800 then .temp ((a - 0x30003000) / 0x20)
  else if 0x30005000 ≤ a ∧ a < 0x30005400 then .area ((a - 0x30005000) / 0x20)
  else .common

/-- The byte strings of the key store (Table 4-9). -/
def ksString (off : Nat) : Bool :=
  (decide (0x100 ≤ off) && decide (off < 0x1C0)) || (decide (0x200 ≤ off) && decide (off < 0xC00)) ||
    (decide (0x1000 ≤ off) && decide (off < 0x3000) && decide (0x20 ≤ off % 0x200) && decide (off % 0x200 < 0x140))

/-- The class of the unit that an aligned address belongs to (Tables 1-6 to 1-8); an address that names nothing is unmapped. -/
def targetOf (a : Nat) : Target :=
  if 0x21000000 ≤ a ∧ a < 0x21008000 then .code ((a - 0x21000000) / 0x1000)
  else if 0x21008000 ≤ a ∧ a < 0x21A00000 then (match Config.laneBlock a with | some k => .lanes (k % 8) | none => .unmapped)
  else if 0x21A00000 ≤ a ∧ a < 0x21C00000 then .staging
  else if 0x22000000 ≤ a ∧ a < 0x22400000 then .capture ((a - 0x22000000) / 0x80000)
  else if 0x31000000 ≤ a ∧ a < 0x31200000 then .areaSram ((a - 0x31000000) / 0x10000)
  else if 0x40061000 ≤ a ∧ a < 0x40062000 then .frameBuf
  else if 0x50000000 ≤ a ∧ a < 0x50010000 then .sectorZero
  else if 0x50010000 ≤ a ∧ a < 0x51000000 then .keep ((a - 0x50000000) / 0x10000)
  else if 0x60000000 ≤ a ∧ a < 0x64000000 then .xip
  else if 0x10000000 ≤ a ∧ a < 0x14000000 ∧ 0x800000 ≤ a % 0x1000000 ∧ a % 0x1000000 < 0x900000 then .legSram
  else if 0x40080000 ≤ a ∧ a < 0x40083000 ∧ ksString (a - 0x40080000) then .keyStore (a - 0x40080000)
  else match regHit a with
    | none => .unmapped
    | some x =>
      if a < 0x10000000 then chipTarget a
      else if a < 0x20000000 then
        (if a % 0x1000000 < 0x400000 then .region ((a - 0x10000000) / 0x1000000) else .block x.blk)
      else if a < 0x20010000 then .common
      else if a < 0x20018000 then
        (if 0x800 ≤ a % 0x1000 then .threadRegs ((a - 0x20010000) / 0x1000) else .block ((a - 0x20010000) / 0x1000))
      else if a < 0x30000000 then .common
      else if a < 0x40000000 then measTarget a
      else if 0x40010000 ≤ a ∧ a < 0x40050000 then .obj ((a - 0x40010000) / 0x80)
      else if 0x40080000 ≤ a then .keyStore (a - 0x40080000)
      else .common

-- ## The checks (R104 to R107)

/-- Whether the key-store registers that R104 lets any requester read include the one at an offset. -/
def ksOpenRead (off : Nat) : Bool :=
  [0x000, 0x008, 0x00C, 0x010].contains off || (decide (0x180 ≤ off) && decide (off < 0xC00)) || decide (0x1000 ≤ off)

/-- The accesses that R104 allows an unauthenticated host; the value written decides for KS_KEY_CTRL. -/
def Hw.unauthOk (h : Hw) (t : Target) (a : Nat) (write : Bool) (v : Word) : Bool :=
  match t with
  | .identity => !write && (a == 0 || a == 4)
  | .load => write && (a == 0x100 || decide (0x800 ≤ a))
  | .keyStore off =>
    if !write then ksOpenRead off
    else if 0x1000 ≤ off then off % 0x200 == 0 || decide (0xC0 ≤ off % 0x200)
    else !h.on KS_STATE.PROVISIONED &&
      ((decide (0x100 ≤ off) && decide (off < 0x140)) || (off == 0x20 && Bits.get v 1 0 == 1))
  | _ => false

/-- The partition whose rights a requester has (R106, R467). -/
def Hw.rightsOf (h : Hw) (q : Requester) : Option Nat := h.requesterPart q

/-- Whether Table 4-2 lets partition p read a target. -/
def Hw.mayRead (h : Hw) (p : Nat) (q : Requester) (t : Target) : Bool :=
  match t with
  | .unmapped | .identity | .load | .common | .tsMap | .safePart _ | .safeTrio _ | .frameBuf | .xip => true
  | .window i | .tsRecord i => p == i || p == 0
  | .region r => p == 0 || h.owner (2 * r) == some p || h.owner (2 * r + 1) == some p
  | .legSram | .sectorZero => p == 0
  | .block k | .code k | .capture k | .lanes k => h.owner k == some p
  | .threadRegs k => (match q with | .debugger _ => true | _ => false) && h.owner k == some p
  | .staging => false
  | .conv n => h.measOwner n == some p
  | .temp n => h.tempOwner n == some p
  | .area a | .areaSram a => h.areaOwner a == some p
  | .obj o => h.objOwner o == some p
  | .keyStore off => match q with | .host _ => true | .unauth _ => true | _ => ksOpenRead off
  | .keep s => h.keepOwner s == some p

/-- Whether Table 4-2 lets partition p write a target; for the load registers R99 decides. -/
def Hw.mayWrite (h : Hw) (p : Nat) (q : Requester) (t : Target) (a : Nat) (v : Word) : Bool :=
  match t with
  | .unmapped | .identity | .load | .xip => true
  | .common | .frameBuf => p == 0
  | .tsMap | .tsRecord _ | .legSram | .staging | .sectorZero => false
  | .window i | .safePart i => p == i
  | .safeTrio i => h.owner (i / 2) == some p
  | .region r => p == 0 || (a % 0x1000000 == 0x104 &&
      (h.owner (2 * r) == some p || h.owner (2 * r + 1) == some p) &&
      (!v.getLsbD 0 || h.owner (2 * r) == some p) && (!v.getLsbD 1 || h.owner (2 * r + 1) == some p))
  | .keyStore off => match q with
    | .unauth _ => true
    | .host i => if off < 0x180 && !(decide (0x100 ≤ off) && decide (off < 0x140)) && off != 0x20 then
        (if 0x140 ≤ off then i.val == 0 else true)
      else if off < 0x180 then i.val == 0 || !h.on KS_STATE.PROVISIONED || (off == 0x20 && Bits.get v 1 0 == 1)
      else true
    | _ => false
  | _ => h.mayRead p q t

/-- Whether only P0 may make a write of the key store (Table 4-9, R121, R122): a rotation, its signature, and once the store is provisioned
its new key. -/
def Hw.p0Only (h : Hw) (off : Nat) (v : Word) : Bool :=
  (decide (0x140 ≤ off) && decide (off < 0x180)) ||
    (h.on KS_STATE.PROVISIONED && ((decide (0x100 ≤ off) && decide (off < 0x140)) || (off == 0x20 && Bits.get v 1 0 != 1)))

/-- The partition whose state governs an access (R103, R107), none where no partition's state does. -/
def Hw.governs (h : Hw) (p : Nat) (t : Target) (write : Bool) (v : Word) : Option Nat :=
  match t with
  | .unmapped | .identity | .load | .tsMap | .tsRecord _ | .legSram | .sectorZero | .xip | .staging => none
  | .keyStore off => if write && h.p0Only off v then some 0 else none
  | .common | .frameBuf => if write then some 0 else none
  | .region _ => if write && p == 0 then some 0 else none
  | .window i | .safePart i => if write then some i else none
  | .safeTrio _ => if write then some p else none
  | _ => some p

/-- Whether a target lies in the part of a keep window that only the recorder writes (R539), or in the SRAM of a claimed area. -/
def Hw.lockedTarget (h : Hw) (p : Nat) (t : Target) (a : Nat) : Bool :=
  match t with
  | .code k => h.blockActive k
  | .keep _ => h.inRecorder p a
  | _ => false

/-- The part as the map will stand once partition p, whose set is being armed, is active: what p then owns answers NOT_READY to p until it
is (R47, R107). -/
def Hw.whenActive (h : Hw) (p : Nat) : Hw :=
  if (h.part p).arming then
    match (h.part p).cfg with
    | some st => st.areasOf.foldl (fun (acc : Hw) a => acc.setArea a { acc.area a with owner := p })
        (h.setPart p { h.part p with map := some st.part })
    | none => h
  else h

/-- The record of a refused access, and the refusal. -/
def Hw.refuse (h : Hw) (q : Requester) (st : Status) (addr : Nat) : Status × Hw := (st, h.refused q st addr)

/-- Checks 1 (of an untagged request) and 4 to 7 of R105 that stand in the access itself, with the unit's own conditions left to the
unit: none where they pass. `late` holds the conditions of check 7 that R105 puts after the fields' ranges. -/
def Hw.turnstile (h : Hw) (q : Requester) (addr : Nat) (write : Bool) (v : Word) : Option Status × Option Status :=
  let a := addr / 4 * 4
  let t := targetOf a
  let un := match q with | .unauth _ => true | _ => false
  match h.rightsOf q with
  | none => (some .owner, none)
  | some p =>
    if un && !h.unauthOk t a write v then (some .auth, none)
    else if t = .unmapped then (some .range, none)
    else if !(if write then h.mayWrite p q t a v || (h.whenActive p).mayWrite p q t a v else h.mayRead p q t || (h.whenActive p).mayRead p q t)
        then (some .owner, none)
    else
      let st := match h.governs p t write v with
        | some g => h.rd (PART_RUN.STATE g)
        | none => 1
      if write && st == 2 then (some .fenced, none)
      else if addr % 4 ≠ 0 then (some .range, none)
      else if write && (match t with | .areaSram _ | .xip => true | _ => false) then (some .range, none)
      else if write && h.lockedTarget p t a then (none, some .locked)
      else if st != 1 && st != 2 then (none, some .notReady)
      else (none, none)

end Sys2Proof.Machine
end

