-- ==== Sys2Proof/Machine/Hooks.lean ====
section
/-!
DEFINITION. The effect of a register write inside its unit: the fields that change by their access codes (R8, R9), the ranges that judge
them (R613), and for the registers that do more than hold a value, what the write does. Bus writes and register images share it.
-/
namespace Sys2Proof.Machine

-- ## Fields (R8 to R10, R613)

/-- What a write of a field leaves stored: a write-only field stores nothing. -/
def FieldRow.next (f : FieldRow) (old v : Nat) : Nat :=
  match f.acc with
  | .rw | .rwl => v
  | .ro | .rs | .wo => old
  | .w1c => old - (old &&& v)
  | .w1s => old ||| v

/-- Whether a value lies in a field's stated range. -/
def Lim.holds (l : Lim) (v : Nat) : Bool :=
  match l with
  | .any => true
  | .within lo hi => decide (lo ≤ v) && decide (v ≤ hi)

/-- The word a write leaves in a register. -/
def RegRow.next (r : RegRow) (old v : Word) : Word :=
  r.fields.foldl (fun w f => Bits.set w f.hi f.lo (f.next (Bits.get old f.hi f.lo) (Bits.get v f.hi f.lo))) old

/-- Whether a field's value changes under a write. -/
def FieldRow.changes (f : FieldRow) (old v : Word) : Bool := Bits.get old f.hi f.lo != Bits.get v f.hi f.lo

/-- Whether a write puts a field it changes outside its range (R613). -/
def RegRow.outOfRange (r : RegRow) (old v : Word) : Bool :=
  r.fields.any (fun f =>
    (f.acc == .rw || f.acc == .rwl || f.acc == .wo) && f.changes old v && !f.lim.holds (Bits.get v f.hi f.lo))

/-- Whether a write would change an RWL field (R9). -/
def RegRow.changesLocked (r : RegRow) (old v : Word) : Bool := r.fields.any (fun f => f.acc == .rwl && f.changes old v)

/-- Whether a write changes an RW or RWL field. -/
def RegRow.changesSetting (r : RegRow) (old v : Word) : Bool :=
  r.fields.any (fun f => (f.acc == .rw || f.acc == .rwl) && f.changes old v)

/-- Whether a register has a field that an image may set (R89). -/
def RegRow.writable (r : RegRow) : Bool := r.fields.any (fun f => f.acc == .rw || f.acc == .rwl)

/-- Whether an image's value has a bit outside the RW and RWL fields (R89). -/
def RegRow.strayBits (r : RegRow) (v : Word) : Bool :=
  (r.fields.foldl (fun m f => if f.acc == .rw || f.acc == .rwl then m &&& ~~~ Bits.mask f.hi f.lo else m) v) != 0

/-- Whether an image's value puts any field outside its range (R89, which judges it whole). -/
def RegRow.imageBad (r : RegRow) (v : Word) : Bool :=
  r.fields.any (fun f => (f.acc == .rw || f.acc == .rwl) && !f.lim.holds (Bits.get v f.hi f.lo))

-- ## Conditions across fields

/-- Which fields a write is judged by: those whose value it changes (R613). -/
def judgedBy (old v : Word) (hi lo : Nat) : Bool := Bits.get old hi lo != Bits.get v hi lo

/-- An image is judged whole (R89). -/
def judgedWhole (_ _ : Nat) : Bool := true

/-- The conditions of a register that names a signal, an input or several fields at once, judged on the part after the write (R225, R267,
R278, R297, R300, R305, R393, R413, R414, R424). A condition counts where the write changes one of its fields, as `judged` says (R613). -/
def Hw.fieldsFit (h : Hw) (p : Nat) (x : RegHit) (a : Nat) (judged : Nat → Nat → Bool) : Bool :=
  let w := h.reg (x.id a)
  let o := a % 0x10000
  match x.row.hook with
  | .tripCfg => !(judged 3 0 || judged 5 4) || !(Bits.get w 3 0 != 0 && Bits.get w 5 4 == 0)
  | .sarMask => (!judged 31 16 || Num.ones 16 (Bits.get w 31 16) == 8) && (!judged 15 0 || Num.ones 16 (Bits.get w 15 0) == 8)
  | .pwmShadow => !(h.mode x.blk == 4 && o % 0x1000 == 0x100 && Bits.get w 1 0 == 2 && judged 1 0)
  | .measAuxSeq => !judged 6 0 || (Bits.get w 6 0 != 0 && decide (Bits.get w 6 0 ≤ 84))
  | .capAreaMask => (List.range 32).all (fun i => !w.getLsbD i ||
      (h.claims p).measClaim.testBit (if a % 0x20 = 4 then i else 32 + i))
  | .injCfg => !(a % 0x1000 == 0 && judged 8 0 && !sigNode (Bits.get w 8 0))
  | .capCfg =>
    if 0x104 ≤ a % 0x1000 ∧ a % 0x1000 < 0x124 then !judged 8 0 || capSignalOk w
    else if a % 0x1000 = 0x12C then !judged 8 0 || capTrigOk w
    else true
  | .dtcCfg => !judged 8 0 || Bits.get w 8 0 == 0 || decide (0x1E0 ≤ Bits.get w 8 0)
  | .motionCfg => !judged 8 0 || (!sigReserved (Bits.get w 8 0) && (Bits.get w 13 12 != 2 || decide (0x1E0 ≤ Bits.get w 8 0)))
  | .trioCfg =>
    let t := 2 * x.blk + x.ix 2
    !judged 31 16 || (List.range 16).all (fun u => !(Bits.get w 31 16).testBit u || (u != t && (h.claims p).blocks.testBit (u / 2) &&
      h.mode (u / 2) == 1 && !(h.trioCells u).isEmpty))
  | .trioVeto => !(judged 15 0 || judged 31 16) || decide (Bits.get w 15 0 ≤ Bits.get w 31 16)
  | .olEnd => !judged 15 0 || decide (Bits.get w 15 0 ≤ h.rd (BLK_TRIO_START_CFG.OL_START x.blk (x.ix 2)))
  | .chanCfg => !judged 13 8 || !w.getLsbD 14 || (h.claims p).tempClaim.testBit (Bits.get w 13 8)
  | .histCfg => a % 8 != 0 || !judged 15 0 || h.histSourceOk p (Bits.get w 15 0)
  | .tempCfg => true
  | _ =>
    if a / 0x1000 = 0x40 then (if a % 0x20 < 0x0C then h.zoneOk ((a - 0x40000) / 0x20) else true)
    else if 0x30003000 ≤ a ∧ a < 0x30003800 then (if a % 0x20 = 8 ∨ a % 0x20 = 12 then h.extOk ((a - 0x30003000) / 0x20) else true)
    else if 0x10000 ≤ a ∧ a < 0x20000 ∧ a % 0x1000 = 0x210 then h.chargeWindowOk ((a - 0x10000) / 0x1000)
    else if 0x10000000 ≤ a ∧ a < 0x20000000 then
      (if a % 0x100000 / 0x10000 < 6 ∧ a % 0x200000 ≥ 0x100000 ∧ o = 0x40C then h.chanLimitsOk x.leg
       else if a % 0x100000 / 0x400 = 0x11 then !judged 8 0 || !sigReserved (Bits.get w 8 0)
       else true)
    else true

/-- Whether the requester's partition may name the input of an auxiliary sequence entry (R267). -/
def Hw.auxInputOwned (h : Hw) (p i : Nat) : Bool :=
  if 1 ≤ i ∧ i ≤ 16 then (h.claims p).measClaim.testBit (47 + i)
  else if 17 ≤ i ∧ i ≤ 80 then (h.claims p).tempClaim.testBit (i - 17)
  else true

-- ## The return of a fenced region's blocks (R43)

/-- STATE_j and REQUEST_j of a block (Table 1-11). -/
def returnState (k : Nat) : Fld := if k % 2 = 0 then REGION_RETURN.STATE_0 (k / 2) else REGION_RETURN.STATE_1 (k / 2)
def returnRequest (k : Nat) : Fld := if k % 2 = 0 then REGION_RETURN.REQUEST_0 (k / 2) else REGION_RETURN.REQUEST_1 (k / 2)

/-- The checks of a block's return start: on every cell of it the pre-charge of its bootstrap supply where it is low, then the off-state
diagnostics (R43, R172). -/
def Hw.startReturn (h : Hw) (k : Nat) : Hw :=
  let h := (h.wr (returnState k) 2).wrB (returnRequest k) true
  (cellsOf k).foldl (fun acc c => if acc.inTest c then acc else acc.testStart c 3) h

/-- A request for the return of block k (R43). -/
def Hw.requestReturn (h : Hw) (k : Nat) : Status × Hw :=
  if !h.bit FENCE_UNIT.REGION (k / 2) || !h.regionHolds k then (.range, h)
  else if !h.blockActive k || !h.on (REGION_RETURN.CLEARED (k / 2)) then (.notReady, h)
  else if h.rd (returnState k) ≠ 1 then (.ok, h)
  else (.ok, h.startReturn k)

/-- A write of REGION_r_RETURN: each request that is set is handled, and the first refusal answers (R43). -/
def Hw.regionReturnWrite (h : Hw) (r : Nat) (v : Word) : Status × Hw :=
  let one := fun (k : Nat) (set : Bool) (s : Status × Hw) =>
    if set then (let y := s.2.requestReturn k; ((if s.1 = .ok then y.1 else s.1), y.2)) else s
  one (2 * r + 1) (v.getLsbD 1) (one (2 * r) (v.getLsbD 0) (.ok, h))

/-- The return checks of a block end: a failed cell stays fenced with its cause, and the block waits for a frame boundary (R43). -/
def Hw.returnChecked (h : Hw) (k : Nat) (causes : List Nat) : Hw :=
  if h.rd (returnState k) ≠ 2 || (cellsOf k).any (fun c => h.inTest c) then h
  else
    let h := (List.range 6).foldl (fun (acc : Hw) i =>
      let c := 6 * k + i
      let cause := if acc.rd (LEG_DIAG_RESULT.STATE c) = 3 then acc.rd (LEG_DIAG_RESULT.CAUSE c) else causes.getD i 0 % 64
      if cause = 0 then acc.setCell c { acc.cell c with retWait := true }
      else
        let acc := if acc.rd (LEG_DIAG_RESULT.STATE c) = 3 then acc else acc.cellFault c cause
        (acc.setCell c { acc.cell c with fenced := true, testing := false }).applyHold c) h
    (h.wr (returnState k) 3).syncFences

def execRegionReturnChecksDone (r : RegionId) (j : Fin 2) (causes : List Nat) (s : State) :=
  s.onLive (fun h => h.returnChecked (2 * r.val + j.val) causes)

/-- A block that waits re-enters at its owner's frame boundary with the cells that passed; its threads start as at activation. -/
def Hw.returnBlock (h : Hw) (k : Nat) : Hw :=
  if h.rd (returnState k) = 3 && h.blockActive k then
    let bad := (cellsOf k).any (fun c => !(h.cell c).retWait)
    let h := (h.wr (returnState k) (if bad then 4 else 0)).wrB (returnRequest k) false
    ((h.threadsStart k).regionSettle (k / 2))
  else h

-- ## The units' effects

/-- The partition named by a requester's rights, or 16. -/
def Hw.partOf (h : Hw) (q : Requester) : Nat := (h.requesterPart q).getD 16

/-- A write to the control register of a converter: its range conditions, a CAL or STOP of a converter whose channel runs (R410), and one to
a converter under test, which waits until it is handed back (R576). -/
def Hw.converterWrite (h : Hw) (n : Nat) (v : Word) : Status × Hw :=
  if !h.measFits n v then (.range, h)
  else if h.measHeld n v then (.notReady, h)
  else if h.convTest = n && (v.getLsbD 1 || v.getLsbD 2) then (.ok, h.updConv n (fun x => { x with held := x.held ||| (v.toNat % 16) }))
  else h.measCtrlWrite n v

/-- A new reference of a converter (R256, R258), or another configuration. -/
def Hw.converterCfg (h : Hw) (n : Nat) (r : RegId) (w : Word) : Status × Hw :=
  let old := h.rd (measRefSel n)
  let h := h.setReg r w
  (.ok, if h.rd (measRefSel n) = old then h else h.refChanged n)

/-- A write of a comparator's configuration: without a ramp a register threshold acts at once (R239). -/
def Hw.comparatorCfg (h : Hw) (c : Nat) (b : Bool) (r : RegId) (w : Word) : Hw :=
  let h := h.setReg r w
  if Bits.get w 31 21 = 0 && !w.getLsbD 10 then h.loadThreshold c b h.now else h

/-- The effect of a write inside the unit, with the word that the fields' access codes leave (`w`) and the value written (`v`). The
registers of the load machine and of power commands, and the keep engine's, act on more than this and stand in Access.lean. -/
def Hw.unitWrite (h : Hw) (q : Requester) (x : RegHit) (a : Nat) (w v : Word) : Status × Hw :=
  let r := x.id a
  match x.row.hook with
  | .ksKeyCtrl => h.keyCtrlWrite v
  | .hsCtrl => h.hsCtrlWrite q (x.ix 0) v
  | .seqCtrl => h.seqCtrlWrite (x.ix 0) v
  | .seqFlags => (.ok, h.setFlags (x.ix 0) v (match q with | .thread _ _ => 0 | _ => 1))
  | .seqFlagsClr => (.ok, h.clearFlags (x.ix 0) v)
  | .seqCommit => if v.getLsbD 0 then h.requestCommit (h.partOf q) else (.ok, h)
  | .regionReturn => h.regionReturnWrite (x.ix 0) v
  | .diagCtrl => if v.getLsbD 0 then h.diagRun x.leg else (.ok, h)
  | .dschCtrl => h.dschWrite v
  | .pwmShadow => (.ok, (h.setReg r w).wrB (LEG_PWM_STATUS.SHADOW_PENDING x.leg) true)
  | .tripStatus => (.ok, h.clearLatches x.leg (Bits.get v 3 0))
  | .tripCfg => (.ok, (h.setReg r w).refreshTrips x.blk)
  | .senseScale => (.ok, (h.setReg r w).showIfs x.leg)
  | .compCfg => (.ok, h.comparatorCfg x.leg (a % 0x10 == 4) r w)
  | .measCtrl => h.converterWrite (x.ix 0) v
  | .measAuxCtrl => h.converterWrite (48 + x.ix 0) v
  | .measCfg => h.converterCfg (x.ix 0) r w
  | .measAuxCfg => h.converterCfg (48 + x.ix 0) r w
  | .measAuxSeq => if h.auxInputOwned (h.partOf q) (Bits.get w 6 0) then (.ok, h.setReg r w) else (.owner, h)
  | .capAreaCtrl => h.areaCtrlWrite (x.ix 0) v
  | .capAreaMask | .capAreaCfg =>
    if h.rd (MEAS_CAP_STATUS.STATE (x.ix 0)) = 1 then (.notReady, h) else (.ok, h.setReg r w)
  | .inputValue => h.inputWrite x.blk (x.ix 2) q (Bits.get v 15 0)
  | .lawParam =>
    let h' := h.setReg r w
    if h'.lawWriteOk x.blk (x.ix 2) then (.ok, h') else (.range, h)
  | .lawCtrl =>
    if !(h.law x.blk (x.ix 2)).present then (.range, h)
    else (.ok, if v.getLsbD 0 then h.setLaw x.blk (x.ix 2) { h.law x.blk (x.ix 2) with clear := true } else h)
  | .injCtrl => h.injCtrlWrite x.blk v
  | .injCfg =>
    if a % 0x1000 ≠ 4 && h.rd (BLK_INJ_STATUS.STATE x.blk) = 1 then (.notReady, h)
    else (.ok, h.setReg r w)
  | .capCtrl => h.capCtrlWrite x.blk v
  | .capCfg =>
    let st := h.rd (BLK_CAP_STATUS.STATE x.blk)
    if st = 1 || st = 2 then (.notReady, h) else (.ok, h.setReg r w)
  | .reentryCtrl => if v.getLsbD 0 then h.reentryRequest x.leg else (.ok, h)
  | .posCfg => h.posCfgWrite (x.ix 0) w
  | .posGeom | .posOffset => h.posGeomWrite (x.ix 0) r v
  | .cmpCtrl => h.cmpCtrlWrite x.blk (x.ix 2) v
  | .cmpCfg => h.cmpCfgWrite x.blk (x.ix 2) r w
  | .chanCtrl => h.chanCtrlWrite x.leg v
  | .safePinCfg => (.ok, (h.setReg r w).syncSto)
  | .safeCmd => h.safeCmdWrite q (x.ix 0) (Bits.get v 1 0)
  | .threadReg =>
    if !h.halted (x.ix 0) then (.notReady, h) else (.ok, h.setGen (x.ix 0) (x.ix 1) (x.ix 2) v)
  | .canTime => h.canTimeWrite (x.ix 0) w
  | .canCtrl => h.canCtrlWrite (x.ix 0) v
  | .objCtrl => h.objCtrlWrite (x.ix 0) v
  | .objData => h.objDataWrite (x.ix 0) (x.ix 1) v
  | .spiCfg => (.ok, h.spiCfgWrite w)
  | .spiGpio => (.ok, h.gpioWrite w)
  | .spiXipCfg => h.xipCfgWrite (a % 8 == 4) w
  | .spiXipCtrl => (.ok, if v.getLsbD 0 then h.invalidateLines else h)
  | .spiFrameCtrl => h.frameCtrlWrite v
  | .spiFrameCfg => if h.frameBusy then (.notReady, h) else (.ok, h.setReg r w)
  | .keepBuf => h.keepBufWrite (x.ix 0) r w
  | .scmpCfg => (.ok, if Bits.get w 6 0 = 0 then (h.setReg r w).scmpOff (x.ix 0) else h.setReg r w)
  | .tempCfg => (.ok, if Bits.get w 31 30 = 0 then (h.setReg r w).extOff (x.ix 0) else h.setReg r w)
  | .plain | .trioVeto | .dtcCfg | .trioCfg | .motionCfg | .startCfg | .olEnd | .chanCfg | .histCfg | .sarMask
  | .powerCmd | .bsCtrl | .bsPort | .keepCtrl => (.ok, h.setReg r w)

/-- A register write within its unit: its range conditions, then its effect. A write that would break a row of Table 14-1 returns RANGE
(R393). -/
def Hw.registerWrite (h : Hw) (q : Requester) (x : RegHit) (a : Nat) (v : Word) : Status × Hw :=
  let old := h.reg (x.id a)
  let w := x.row.next old v
  let p := h.partOf q
  if x.row.changesSetting old v && !(h.setReg (x.id a) w).fieldsFit p x a (judgedBy old v) then (.range, h)
  else if x.row.changesSetting old v && h.chanTablesOk && !(h.setReg (x.id a) w).chanTablesOk then (.range, h)
  else h.unitWrite q x a w v

end Sys2Proof.Machine
end

