-- ==== Sys2Proof/Machine/BitFile.lean ====
section
/-!
DEFINITION. The bitstream file (chapter 3): its header, the frame of its sections, their order and occurrence, and the content each type
of section carries.
-/
namespace Sys2Proof.Machine

-- ## Fields of a byte string (R77)

/-- Little-endian fields at an offset. -/
def bsU8 (b : List Byte) (o : Nat) : Nat := (b.getD o 0).toNat
def bsU16 (b : List Byte) (o : Nat) : Nat := Num.ofBytesLE ((b.drop o).take 2)
def bsU32 (b : List Byte) (o : Nat) : Nat := Num.ofBytesLE ((b.drop o).take 4)
def bsU64 (b : List Byte) (o : Nat) : Nat := Num.ofBytesLE ((b.drop o).take 8)

/-- A byte string cut into records of `n` bytes. -/
def bsRecords (n fuel : Nat) (b : List Byte) : List (List Byte) :=
  match fuel with
  | 0 => []
  | f + 1 => if b.isEmpty then [] else b.take n :: bsRecords n f (b.drop n)

/-- The first `count` records of `n` bytes. -/
def bsTable (n count : Nat) (b : List Byte) : List (List Byte) := bsRecords n count b

/-- The 16-bit codes of a byte string. -/
def bsHalves (b : List Byte) : List Nat :=
  match b with
  | x :: y :: r => (x.toNat + 256 * y.toNat) :: bsHalves r
  | _ => []

/-- The 32-bit words of a byte string. -/
def bsWords (b : List Byte) : List Word :=
  match b with
  | x :: y :: z :: w :: r => BitVec.ofNat 32 (Num.ofBytesLE [x, y, z, w]) :: bsWords r
  | _ => []

/-- Whether bytes are all 0. -/
def bsZero (b : List Byte) : Bool := b.all (· == 0)

-- ## The header (R81, Table 3-1)

/-- TOTAL_LEN, SECTION_COUNT and the PARTIAL flag. -/
def bsTotal (b : List Byte) : Nat := bsU32 b 0x0C
def bsCount (b : List Byte) : Nat := bsU16 b 0x10
def bsPartial (b : List Byte) : Bool := (bsU16 b 0x12).testBit 0

/-- The greatest length of a file (R80). -/
def bsLimit (full : Bool) : Nat := if full then 8388608 else 2097152

/-- What the probe of R93 asks of a header: MAGIC, FORMAT, HEADER_LEN, PART and FAMILY. -/
def bsProbe (b : List Byte) : Bool :=
  b.take 4 == [0x5A, 0x47, 0x42, 0x53] && bsU16 b 4 == 0x0100 && bsU16 b 6 == 32 && bsU16 b 8 == 0x4880 && bsU8 b 0x0A == 0x4D

/-- The header's own conditions (Table 3-16): the stepping of the part is given. -/
def bsHeaderOk (full : Bool) (stepping : Nat) (b : List Byte) : Bool :=
  bsProbe b && decide (bsU8 b 0x0B ≤ stepping) && decide (bsTotal b ≤ bsLimit full) && bsPartial b == !full &&
    bsU16 b 0x12 / 2 == 0 && decide (bsU8 b 0x19 < 0x20) && decide (bsU8 b 0x1A ≤ 31) && decide (bsU8 b 0x1B ≤ 15) &&
    decide (bsCount b ≤ (if full then 256 else 128)) && b.length == bsTotal b &&
    bsU32 b 0x1C == (crc32 (b.take 0x1C ++ b.drop 0x20)).toNat

-- ## Sections (R82, Table 3-2)

/-- A section: its frame's fields, its 16-byte header, its content, whether its CRC is right, the bytes it signs and the signature. -/
structure Section where
  typ : Nat
  owner : Nat
  index : Nat
  version : Nat
  setId : Nat
  head : List Byte
  content : List Byte
  crcOk : Bool
  signed : List Byte
  sig : List Byte
  deriving DecidableEq, Repr

/-- The first section of a byte string, and what follows it. -/
def parseSection (b : List Byte) : Option (Section × List Byte) :=
  let n := bsU32 b 4
  if b.length < 84 ∨ b.length < n + 84 then none
  else
    let head := b.take 16
    let body := b.drop 16
    let content := body.take n
    let rest := body.drop n
    some ({ typ := bsU8 b 0, owner := bsU8 b 1, index := bsU16 b 2, version := bsU32 b 8, setId := bsU32 b 12, head := head,
            content := content, crcOk := bsU32 rest 0 == (crc32 (head ++ content)).toNat, signed := head ++ content ++ rest.take 4,
            sig := (rest.drop 4).take 64 }, rest.drop 68)

/-- The sections of a file after its header; none where they do not fill it exactly. -/
def parseSections (fuel : Nat) (b : List Byte) : Option (List Section) :=
  if b.isEmpty then some []
  else match fuel with
    | 0 => none
    | f + 1 => match parseSection b with
      | none => none
      | some (s, r) => (parseSections f r).map (fun l => s :: l)

/-- Section types (Table 3-3). -/
def isBlockIndexed (t : Nat) : Bool := t == 3 || t == 5 || t == 6 || t == 8
def isImage (t : Nat) : Bool := t == 4 || t == 5 || t == 0x0A || t == 0x0B

/-- What may occur once per owner: a type, and for an indexed type its index, for a TABLE its SUBTYPE and ITEM (Table 3-3). -/
def Section.key (s : Section) : Nat × Nat × Nat :=
  (s.owner, s.typ, if s.typ = 7 then bsU8 s.content 0 + 256 * bsU16 s.content 2 else if isBlockIndexed s.typ || s.typ == 4 then s.index else 0)

/-- Whether a section follows the one before it in the order of R84: the owners rise, and an owner's group begins with its PARTITION. -/
def groupsOk (prev : Option Nat) (ss : List Section) : Bool :=
  match ss with
  | [] => true
  | s :: r =>
    (match prev with
      | none => s.typ == 2
      | some p => if s.owner = p then s.typ != 2 else decide (p < s.owner) && s.typ == 2) && s.typ != 1 && groupsOk (some s.owner) r

/-- Order, owners and occurrence (R84, R100, Table 3-3), but for what depends on a PARTITION section's claims. -/
def orderOk (full : Bool) (part : Nat) (ss : List Section) : Bool :=
  let body := (match ss with
    | s :: r => if s.typ = 1 then r else ss
    | [] => []).dropLast
  let plat := ss.head?.any (fun s => s.typ == 1)
  ss.all (fun s => decide (s.owner ≤ 15)) && body.all (fun s => s.typ != 0xFF) &&
    ss.getLast?.any (fun s => s.typ == 0xFF && s.owner == (if full then 0 else part)) &&
    (if full then plat else ss.all (fun s => s.owner == part)) && ss.head?.all (fun s => s.typ != 1 || s.owner == 0) &&
    groupsOk none body && (body.head?.any (fun s => s.owner == (if full then 0 else part))) &&
    decide ((body.filter (fun s => decide (1 ≤ s.typ) && decide (s.typ ≤ 0x0B))).map Section.key).Nodup

-- ## Content (Tables 3-4 to 3-15)

/-- A CAN_CHANNEL record. -/
def decChan (b : List Byte) : CanChan :=
  { nom := bsU16 b 0, data := bsU16 b 2, cycles := bsU8 b 4, columns := bsU8 b 5, columnBits := bsU16 b 6, latchColumn := bsU8 b 8,
    flags := bsU8 b 9 }

/-- A PART_ENTRY. -/
def decEntry (b : List Byte) : PartEntry :=
  { kind := bsU8 b 0, blocks := bsU8 b 1, keepBase := bsU16 b 2, keepSectors := bsU16 b 4, msgFirst := bsU16 b 6, msgCount := bsU16 b 8,
    measGrant := bsU64 b 0x0C, tempGrant := bsU64 b 0x14, key := (b.drop 0x20).take 64 }

/-- PLATFORM content. -/
def decPlatform (b : List Byte) : Platform :=
  { frameSteps := bsU16 b 0, wakeCfg := BitVec.ofNat 32 (bsU32 b 4), shutdownCfg := BitVec.ofNat 32 (bsU32 b 8),
    chans := (bsTable 12 4 (b.drop 0x0C)).map decChan, entries := (bsTable 96 16 (b.drop 0x3C)).map decEntry }

/-- PARTITION content. -/
def decPart (b : List Byte) : PartSec :=
  { part := bsU8 b 0, reaction := bsU8 b 1, blocks := bsU8 b 2, flags := bsU8 b 3, depth := bsU16 b 4, refill := bsU16 b 6,
    epochPolicy := bsU8 b 8, recKib := bsU16 b 0x0A, measClaim := bsU64 b 0x0C, tempClaim := bsU64 b 0x14, msgFirst := bsU16 b 0x1C,
    msgCount := bsU16 b 0x1E, keepBase := bsU16 b 0x20, keepSectors := bsU16 b 0x22, floor := bsU32 b 0x24 }

/-- A WRITER record. -/
def decWriter (b : List Byte) : Writer := { input := bsU16 b 0, kind := bsU8 b 2, source := bsU32 b 4 }

/-- BLOCK content of block k. -/
def decBlock (k : Nat) (b : List Byte) : BlockSec :=
  let n := bsU16 b 0x0C
  { block := k, mode := bsU8 b 0, horizon := bsU8 b 1, trioCount := bsU8 b 2,
    trios := [4, 8].map (fun o => (List.range 4).map (fun i => bsU8 b (o + i))),
    writers := (bsTable 8 n (b.drop 0x10)).map decWriter, lanes := bsWords (b.drop (0x10 + 8 * n)) }

/-- A LAW record. -/
def decLaw (b : List Byte) : LawRec :=
  { id := bsU8 b 0, kind := bsU8 b 1, lane := bsU16 b 2, b := bsHalves ((b.drop 4).take 8), a := bsHalves ((b.drop 12).take 6),
    outMax := bsU16 b 0x12, outMin := bsU16 b 0x14 }

/-- The records of LAW content. -/
def decLaws (b : List Byte) : List LawRec := (bsTable 24 (bsU16 b 0) (b.drop 4)).map decLaw

/-- TABLE content. -/
def decTable (b : List Byte) : TableSec :=
  { subtype := bsU8 b 0, item := bsU16 b 2, data := if bsU8 b 0 = 1 then (b.drop 4).map (·.toNat) else bsHalves (b.drop 4) }

/-- SEQ content of block k. -/
def decSeq (k : Nat) (b : List Byte) : SeqSec :=
  { block := k, start := bsHalves (b.take 16), enable := bsU8 b 0x10, code := bsWords (b.drop 0x14) }

/-- The entries of a register image: address and value. -/
def decImages (b : List Byte) : List (Nat × Word) :=
  (bsTable 8 (bsU32 b 0) (b.drop 4)).map (fun r => (bsU32 r 0, BitVec.ofNat 32 (bsU32 r 4)))

/-- An object record. -/
def decObj (b : List Byte) : ObjRec :=
  { obj := bsU16 b 0, chan := bsU8 b 2, flags := bsU8 b 3, ident := bsU32 b 4, bytes := bsU8 b 8, stale := bsU8 b 9, pair := bsU16 b 0x0A,
    window := bsU8 b 0x0C }

/-- A slot record. -/
def decSlot (b : List Byte) : SlotRec :=
  { chan := bsU8 b 0, cycle := bsU8 b 1, column := bsU8 b 2, kind := bsU8 b 3, obj := bsU16 b 4 }

/-- Object and slot records of MSG content. -/
def msgObjBytes (b : List Byte) : List (List Byte) := bsTable 16 (bsU16 b 0) (b.drop 4)
def msgSlotBytes (b : List Byte) : List (List Byte) := bsTable 8 (bsU16 b 2) (b.drop (4 + 16 * bsU16 b 0))

/-- Whether LENGTH is a multiple of 4 and agrees with the content (R80, Table 3-16); an unknown SUBTYPE gives a TABLE no length. -/
def Section.lengthOk (s : Section) : Bool :=
  let n := s.content.length
  n % 4 == 0 && match s.typ with
    | 1 => n == 1596
    | 2 => n == 64
    | 3 => decide (16 ≤ n) && n == 16 + 8 * bsU16 s.content 0x0C + 4 * bsU16 s.content 0x0E
    | 4 | 5 | 0x0A | 0x0B => decide (4 ≤ n) && n == 4 + 8 * bsU32 s.content 0
    | 6 => decide (4 ≤ n) && n == 4 + 24 * bsU16 s.content 0
    | 7 => decide (4 ≤ n) && (match bsU8 s.content 0 with
      | 1 => n == 40
      | 2 => n == 8196
      | 3 => n == 4612
      | 4 => n == 1540
      | _ => true)
    | 8 => decide (20 ≤ n) && n == 20 + 4 * bsU16 s.content 0x12
    | 9 => decide (4 ≤ n) && n == 4 + 16 * bsU16 s.content 0 + 8 * bsU16 s.content 2
    | _ => true

/-- Whether INDEX is one that Table 3-3 allows. -/
def Section.indexOk (s : Section) : Bool :=
  if isBlockIndexed s.typ then decide (s.index < 8) else if s.typ = 4 then decide (s.index < 48) else s.index == 0xFFFF

/-- Whether TYPE is one of Table 3-3. -/
def Section.known (s : Section) : Bool := (decide (1 ≤ s.typ) && decide (s.typ ≤ 0x0B)) || s.typ == 0xFF

/-- Whether a reserved bit of the content is not 0 (R78). Bits 7 to 1 of a trio's flag byte, which Table 3-8 does not name, count as reserved,
also in a trio that TRIO_COUNT does not use (DESIGN CHOICE, log entry 68). -/
def Section.reservedBad (s : Section) : Bool :=
  let b := s.content
  let any := fun (o n : Nat) => !bsZero ((b.drop o).take n)
  match s.typ with
  | 1 => any 2 2 || (bsU32 b 4 &&& 0xFE0E) != 0 || (bsU32 b 8 &&& 0xFFFE) != 0 ||
      (bsTable 12 4 (b.drop 0x0C)).any (fun r => decide (4 ≤ bsU8 r 9) || bsU16 r 10 != 0) ||
      (bsTable 96 16 (b.drop 0x3C)).any (fun r => bsU16 r 0x0A != 0 || bsU32 r 0x1C != 0)
  | 2 => decide (4 ≤ bsU8 b 3) || bsU8 b 9 != 0 || any 0x28 24
  | 3 => bsU8 b 3 != 0 || decide (2 ≤ bsU8 b 7) || decide (2 ≤ bsU8 b 11) ||
      (bsTable 8 (bsU16 b 0x0C) (b.drop 0x10)).any (fun r => bsU8 r 3 != 0)
  | 6 => bsU16 b 2 != 0 || (bsTable 24 (bsU16 b 0) (b.drop 4)).any (fun r => bsU16 r 0x16 != 0)
  | 7 => bsU8 b 1 != 0
  | 8 => bsU8 b 0x11 != 0
  | 9 => (msgObjBytes b).any (fun r => decide (0x20 ≤ bsU8 r 3) || !bsZero ((r.drop 0x0D).take 3)) ||
      (msgSlotBytes b).any (fun r => bsU16 r 6 != 0)
  | _ => false

/-- One owner's set: the content of its sections (R92). -/
def setOf (ss : List Section) (p : Nat) : PSet :=
  let mine := ss.filter (fun s => s.owner == p)
  let of := fun (t : Nat) => mine.filter (fun s => s.typ == t)
  { version := (mine.head?.map (·.version)).getD 0
    setId := (mine.head?.map (·.setId)).getD 0
    part := ((of 2).head?.map (fun s => decPart s.content)).getD {}
    blocks := (of 3).map (fun s => decBlock s.index s.content)
    images := ((mine.filter (fun s => isImage s.typ)).map (fun s => decImages s.content)).flatten
    laws := (of 6).map (fun s => (s.index, decLaws s.content))
    tables := (of 7).map (fun s => decTable s.content)
    seqs := (of 8).map (fun s => decSeq s.index s.content)
    objs := ((of 9).map (fun s => (msgObjBytes s.content).map decObj)).flatten
    slots := ((of 9).map (fun s => (msgSlotBytes s.content).map decSlot)).flatten }

end Sys2Proof.Machine
end

