-- ==== Sys2Proof/Machine/SeqWord.lean ====
section
/-!
DEFINITION. The instruction words of the block sequencers (R144, R145, Tables 5-4 and 5-5): their fields and which words are valid.
-/
namespace Sys2Proof.Machine

/-- The fields of an instruction word (Table 5-4); SOURCES overlaps A and the zero field. -/
def seqOp (w : Word) : Nat := Bits.get w 31 26
def seqD (w : Word) : Nat := Bits.get w 25 22
def seqA (w : Word) : Nat := Bits.get w 21 18
def seqB (w : Word) : Nat := Bits.get w 17 14
def seqImm (w : Word) : Nat := Bits.get w 15 0
def seqSources (w : Word) : Nat := Bits.get w 21 16

/-- sext(IMM) of R145 as a 32-bit word. -/
def seqSext (w : Word) : Word := (BitVec.ofNat 16 (seqImm w)).signExtend 32

/-- A word of format I whose zero field is 0. -/
def seqFormI (w : Word) : Bool := Bits.get w 17 16 == 0

/-- SET and CLR: a flag of the own block. -/
def seqFlagWord (w : Word) : Bool := seqFormI w && seqD w == 0 && seqA w == 0 && Bits.get w 15 5 == 0

/-- Whether a word is a valid instruction (R145). -/
def seqValid (w : Word) : Bool :=
  match seqOp w with
  | 0x01 => seqFormI w && seqA w == 0
  | 0x02 | 0x03 | 0x12 => seqFormI w
  | 0x04 | 0x05 | 0x06 | 0x07 | 0x08 | 0x18 => Bits.get w 13 0 == 0
  | 0x09 => seqFormI w && Bits.get w 6 5 != 3 && Bits.get w 15 7 == 0
  | 0x0A | 0x0B | 0x0C | 0x0D => seqFormI w
  | 0x0E | 0x0F => seqFormI w && seqD w == 0
  | 0x10 | 0x17 | 0x19 => Bits.get w 25 0 == 0
  | 0x11 => seqFormI w && seqD w != 15
  | 0x13 | 0x14 => seqFlagWord w
  | 0x15 => seqFormI w && seqD w == 0 && seqA w == 0 && Bits.get w 7 5 == 0 && Bits.get w 15 11 == 0
  | 0x16 => seqSources w != 0 && (seqImm w != 0) == (seqSources w).testBit 4
  | _ => false

end Sys2Proof.Machine
end

