-- ==== Sys2Proof/Machine/Check.lean ====
section
/-!
DEFINITION. The checker (R83 to R91): which sections, sets and files it refuses, with which cause, and what a set puts into the part when it
is applied.
-/
namespace Sys2Proof.Machine

/-- The first cause of a list of conditions in the order of Table 3-16. -/
def firstCause (cs : List (Nat × Bool)) : Option Nat := (cs.find? (fun c => c.2)).map (·.1)

-- ## Grants and claims

/-- Whether two ranges share a number. -/
def rangesMeet (a n b m : Nat) : Bool := n != 0 && m != 0 && decide (a < b + m) && decide (b < a + n)

/-- Whether a range lies in another; an empty one claims nothing. -/
def rangeIn (a n b m : Nat) : Bool := n == 0 || (decide (b ≤ a) && decide (a + n ≤ b + m))

/-- Whether two entries share a resource (R86). -/
def PartEntry.meets (a b : PartEntry) : Bool :=
  a.blocks &&& b.blocks != 0 || rangesMeet a.keepBase a.keepSectors b.keepBase b.keepSectors ||
    rangesMeet a.msgFirst a.msgCount b.msgFirst b.msgCount || a.measGrant &&& b.measGrant != 0 || a.tempGrant &&& b.tempGrant != 0

/-- Whether every claim of a PARTITION section lies in a grant (Table 3-7). -/
def PartSec.inside (c : PartSec) (g : PartEntry) : Bool :=
  c.blocks &&& g.blocks == c.blocks && c.measClaim &&& g.measGrant == c.measClaim && c.tempClaim &&& g.tempGrant == c.tempClaim &&
    rangeIn c.msgFirst c.msgCount g.msgFirst g.msgCount && rangeIn c.keepBase c.keepSectors g.keepBase g.keepSectors

-- ## PLATFORM (R86)

/-- The ranges of a CAN_CHANNEL record (Table 3-5). -/
def CanChan.inRange (c : CanChan) : Bool :=
  [125, 250, 500, 1000].contains c.nom && [0, 1000, 2000, 4000, 5000, 8000].contains c.data && decide (1 ≤ c.cycles) &&
    decide (c.cycles ≤ 64) && decide (1 ≤ c.columns) && decide (c.columns ≤ 64) && decide (160 ≤ c.columnBits) &&
    decide (c.columnBits ≤ 16384) && decide (c.latchColumn < c.columns)

/-- The ranges and conditions of entry p. -/
def PartEntry.inRange (e : PartEntry) (p : Nat) : Bool :=
  decide (e.kind ≤ 2) && (e.kind == 2) == (e.blocks != 0) && decide (e.keepSectors ≤ 255) &&
    decide (e.keepBase + e.keepSectors ≤ 256) && (e.kind == 0 || (decide (1 ≤ e.keepBase) && decide (e.keepBase ≤ 255))) &&
    (e.keepSectors == 0 || decide (1 ≤ e.keepBase)) && decide (e.msgFirst ≤ 2047) &&
    decide (e.msgCount ≤ 2048) && decide (e.msgFirst + e.msgCount ≤ 2048) &&
    (if p = 0 then bsZero e.key else e.kind == 0 || Config.pointOk e.key)

/-- Entry p of a PLATFORM. -/
def Platform.entry (f : Platform) (p : Nat) : PartEntry := f.entries.getD p {}

/-- Whether PLATFORM meets the first list of R86 but for sharing. -/
def Platform.inRange (f : Platform) : Bool :=
  decide (1 ≤ f.frameSteps) && decide (f.frameSteps ≤ 4096) && decide (10 ≤ Bits.get f.shutdownCfg 31 16) &&
    decide (Bits.get f.shutdownCfg 31 16 ≤ 6000) && f.chans.all CanChan.inRange && (f.entry 0).kind != 0 &&
    (List.range 16).all (fun p => (f.entry p).inRange p)

/-- Whether two entries share a resource, or more than eight grant blocks. -/
def Platform.shares (f : Platform) : Bool :=
  (List.range 16).any (fun p => (List.range p).any (fun q => (f.entry p).meets (f.entry q))) ||
    decide (8 < (f.entries.filter (fun e => e.blocks != 0)).length)

/-- The conditions of a partial PLATFORM: the frame and the channels stay, and every active partition keeps its claims inside its grant; as
in R100, one whose PART_RUN.STATE is not 0 counts, fenced and reloading partitions included (DESIGN CHOICE, log entry 66). -/
def Hw.platformChanges (h : Hw) (f : Platform) : Bool :=
  (match h.platform with
    | some g => f.frameSteps != g.frameSteps || f.chans != g.chans
    | none => false) ||
    (List.range 16).any (fun p => p != 0 && h.rd (PART_RUN.STATE p) != 0 && !((f.entry p).kind != 0 && (h.mapOf p).inside (f.entry p)))

-- ## The load that is being checked

/-- What the checks of one file share: the kind of the load and its partition, the governing PLATFORM (R83) and the sections. -/
structure CheckCtx where
  full : Bool
  part : Nat
  gov : Platform
  secs : List Section
  deriving DecidableEq, Repr

/-- The set of owner p in the file. -/
def CheckCtx.set (x : CheckCtx) (p : Nat) : PSet := setOf x.secs p

/-- The key an owner's sections are signed with, none where there is none (R83). -/
def CheckCtx.keyOf (x : CheckCtx) (h : Hw) (p : Nat) : Option (List Byte) :=
  if p = 0 then (if h.on KS_STATE.PROVISIONED then some h.p0Key else none)
  else if (x.gov.entry p).kind = 0 then none else some (x.gov.entry p).key

/-- Whether a section's signature verifies. -/
def CheckCtx.signedOk (x : CheckCtx) (h : Hw) (s : Section) : Bool :=
  match x.keyOf h s.owner with
  | some k => Config.signatureOk k s.signed s.sig
  | none => false

/-- The partition's stored rollback floor, 0 where the file's PLATFORM replaces its key (R86, R87). -/
def CheckCtx.floorOf (x : CheckCtx) (h : Hw) (p : Nat) : Nat :=
  match h.platform with
  | some f => if p != 0 && (f.entry p).key != (x.gov.entry p).key then 0 else h.rd (PART_BS_FLOOR.FLOOR p)
  | none => h.rd (PART_BS_FLOOR.FLOOR p)

-- ## PARTITION (Table 3-7)

/-- The ranges of PARTITION content. -/
def PSet.partInRange (st : PSet) (p : Nat) : Bool :=
  let c := st.part
  c.part == p && decide (c.reaction ≤ 3) && (c.blocks != 0 || c.reaction == 0) && decide (1 ≤ c.depth) && decide (c.depth ≤ 1024) &&
    decide (1 ≤ c.refill) && decide (c.refill ≤ c.depth) && decide (c.epochPolicy ≤ 1) && decide (c.recKib ≤ c.keepSectors * 64) &&
    decide (c.floor ≤ st.version)

/-- Whether a section that the claims ask for is missing. -/
def CheckCtx.missing (x : CheckCtx) (p : Nat) : Bool :=
  let c := (x.set p).part
  let mine := x.secs.filter (fun s => s.owner == p)
  (List.range 8).any (fun k => c.blocks.testBit k && !mine.any (fun s => s.typ == 3 && s.index == k)) ||
    (c.blocks != 0 && !mine.any (fun s => s.typ == 0x0A))

-- ## BLOCK (Tables 3-8 and 3-9)

/-- The trios of a BLOCK section: the cells of those it uses. -/
def BlockSec.cells (b : BlockSec) : List Nat := ((b.trios.take b.trioCount).map (fun t => t.take 3)).flatten

/-- The ranges of MODE, HORIZON, TRIO_COUNT and the trios. -/
def BlockSec.shapeOk (b : BlockSec) : Bool :=
  decide (1 ≤ b.mode) && decide (b.mode ≤ 4) &&
    (if b.mode = 1 then decide (1 ≤ b.horizon) && decide (b.horizon ≤ 8) else b.horizon == 0) &&
    (if b.mode ≤ 2 then b.trioCount == 1 || b.trioCount == 2 else b.trioCount == 0) &&
    b.cells.all (fun i => decide (i < 6)) && decide b.cells.Nodup && (b.trios.drop b.trioCount).all (fun t => t.all (· == 0))

/-- The ranges of a WRITER record. -/
def Writer.inRange (w : Writer) : Bool :=
  decide (w.input ≤ 127) && match w.kind with
    | 1 => w.source == 0
    | 2 => decide (w.source ≤ 7)
    | 3 => decide (w.source ≤ 2047)
    | 4 => sigDest w.source
    | 5 => true
    | _ => false

/-- The object record of object o in a set. -/
def PSet.obj (st : PSet) (o : Nat) : Option ObjRec := st.objs.find? (fun r => r.obj == o)

/-- Whether a set claims object o. -/
def PSet.hasObj (st : PSet) (o : Nat) : Bool := decide (st.part.msgFirst ≤ o) && decide (o < st.part.msgFirst + st.part.msgCount)

/-- Whether a safety source is one that a record of kind 5 may name (Table 16-1, R431). -/
def PSet.safetySourceOk (st : PSet) (n : Nat) : Bool :=
  decide (n ≤ 0x0F) || n == 0x40 || n == 0x41 || n == 0x80 ||
    (decide (0x100 ≤ n) && decide (n < 0x140) && st.part.blocks.testBit ((n - 0x100) / 8)) ||
    (decide (0x1000 ≤ n) && decide (n < 0x1800) && st.hasObj (n - 0x1000) &&
      (match st.obj (n - 0x1000) with
        | some r => !r.flags.testBit 0 && r.flags.testBit 4 && r.chan % 2 == 0
        | none => false))

/-- The lane operations of a program that name two operands, one operand, or none (Table 10-3). -/
def laneOperands (w : Word) : List Nat :=
  match laneOp w with
  | 1 | 6 => [laneA w]
  | 2 | 3 | 4 | 5 => [laneA w, laneB w]
  | _ => []

/-- The control inputs that a block's program and its wide operations read (R88; Tables 11-2, 12-3 and 14-2). -/
def BlockSec.readInputs (b : BlockSec) : List Nat :=
  ((b.lanes.map laneOperands).flatten).filter (fun i => decide (i < 128)) ++
    (match b.mode with
      | 1 => ((List.range b.trioCount).map (fun t => [2 * t, 2 * t + 1, 4 + t])).flatten
      | 2 => ((List.range b.trioCount).map (fun t => [2 * t, 4 + t])).flatten
      | 3 => List.range 24
      | _ => [])

/-- The WRITER records of an input. -/
def BlockSec.writersOf (b : BlockSec) (n : Nat) : List Writer := b.writers.filter (fun w => w.input == n)

/-- Whether the writer records meet R88: one of kind 1 to 4 for each input read, none with two, and safety inputs with kind 5 alone. -/
def BlockSec.writersOk (b : BlockSec) : Bool :=
  b.writers.all (fun w => (w.kind == 5) == decide (120 ≤ w.input) && (w.kind == 5 || (b.writersOf w.input).length == 1)) &&
    b.readInputs.all (fun n => !(b.writersOf n).isEmpty)

/-- Whether every source belongs to the owner (R88, R431). -/
def PSet.sourcesOk (st : PSet) (b : BlockSec) : Bool :=
  b.writers.all (fun w => (w.kind != 3 || st.hasObj w.source) && (w.kind != 5 || st.safetySourceOk w.source))

/-- The pin sources that A_REGIONS and B_REGIONS ask of the block's input 120 (R431). -/
def BlockSec.pinsOk (b : BlockSec) (pinCfg : Word) : Bool :=
  let has := fun (n : Nat) => b.writers.any (fun w => w.input == 120 && w.kind == 5 && w.source == n)
  (!pinCfg.getLsbD (b.block / 2) || has 0x40) && (!pinCfg.getLsbD (4 + b.block / 2) || has 0x41)

/-- The bytes of application data of an object, and where they begin (R450, R493). -/
def ObjRec.application (r : ObjRec) : Nat := if r.flags.testBit 4 then r.bytes - 6 else r.bytes

/-- Whether every record of kind 3 takes a word of its object's data (R493). -/
def PSet.wordsOk (st : PSet) (b : BlockSec) : Bool :=
  b.writers.all (fun w => w.kind != 3 ||
    (match st.obj w.source with
      | some r => decide (2 * ((b.writers.filter (fun v => v.kind == 3 && v.source == w.source && decide (v.input < w.input))).length + 1) ≤
          r.application)
      | none => false))

/-- Whether a lane word is one that R285 and R286 allow in a block of this mode, horizon and trios with these laws. -/
def BlockSec.wordOk (b : BlockSec) (ids : List Nat) (w : Word) : Bool :=
  let d := laneD w
  let dOk := sigDest d && !(b.mode == 1 && decide (0x0F0 ≤ d) && decide (d ≤ 0x0FF)) &&
    !(b.mode == 3 && decide (0x0E0 ≤ d) && decide (d ≤ 0x0F7))
  let wide := Bits.get w 27 2 == 0 && (laneTrios w).all (fun t => decide (t < b.trioCount))
  (laneOperands w).all (fun s => !sigReserved s) && match laneOp w with
    | 1 => dOk && Bits.get w 9 0 == 0
    | 2 | 3 | 4 | 5 => dOk && !w.getLsbD 0
    | 6 => dOk && ids.contains (Bits.get w 9 2)
    | 8 => Bits.get w 27 0 == 0
    | 9 | 0xA | 0xB => wide
    | 0xF => Bits.get w 27 0 == 0
    | _ => false

/-- How often an operation stands in a program, and where it stands first. -/
def BlockSec.opCount (b : BlockSec) (op : Nat) : Nat := (b.lanes.filter (fun w => laneOp w == op)).length
def BlockSec.opAt (b : BlockSec) (op : Nat) : Nat := b.lanes.findIdx (fun w => laneOp w == op)

/-- Whether an operation of the program selects every trio of the block. -/
def BlockSec.selectsAll (b : BlockSec) (op : Nat) : Bool :=
  b.lanes.all (fun w => laneOp w != op || laneTrios w == List.range b.trioCount)

/-- The program rules of a block's MODE (R305, R310, R341). -/
def PSet.modeOk (st : PSet) (b : BlockSec) : Bool :=
  (if b.mode = 1 then
    b.opCount 8 == 1 && decide (b.opCount 9 ≤ 1) && b.opCount 0xA == 1 && decide (b.opAt 8 < b.opAt 0xA) &&
      (b.opCount 9 == 0 || (decide (b.opAt 8 < b.opAt 9) && decide (b.opAt 9 < b.opAt 0xA) && st.tables.any (fun t => t.subtype == 3))) &&
      b.selectsAll 0xA &&
      (List.range b.trioCount).all (fun t => st.tables.any (fun x => x.subtype == 1 && x.item == 2 * b.block + t))
   else b.opCount 8 == 0 && b.opCount 9 == 0 && b.opCount 0xA == 0) &&
    (if b.mode = 2 then b.opCount 0xB == 1 && b.selectsAll 0xB else b.opCount 0xB == 0)

/-- The laws of a block's LAW section. -/
def PSet.lawsFor (st : PSet) (k : Nat) : List LawRec := ((st.laws.filter (fun l => l.1 == k)).map (·.2)).flatten

/-- Whether a block's lanes hold at most four laws each (R276). -/
def PSet.lanesOk (st : PSet) (k : Nat) : Bool :=
  let ls := (st.lawsFor k).map (·.lane)
  ls.all (fun l => decide ((ls.filter (· == l)).length ≤ 4))

/-- The registers that a block's MODE asks for, judged on the part with the set applied (R305, R324, R341, R393). -/
def Hw.modeRegsOk (h : Hw) (st : PSet) (b : BlockSec) : Bool :=
  let k := b.block
  match b.mode with
  | 1 => b.opCount 9 == 0 || st.blocks.all (fun y => y.opCount 9 == 0 || h.rd (BLK_DTC_CFG.GSHIFT y.block) == h.rd (BLK_DTC_CFG.GSHIFT k))
  | 2 => b.cells.all (fun i =>
      let c := 6 * k + i
      h.rd (LEG_PWM_CFG.MODE c) == 1 && h.on (LEG_PWM_CFG.DUTY_SRC c) && h.rd (LEG_COMP_A_CFG.INPUT c) == 1 &&
        h.on (LEG_COMP_A_CFG.THR_SRC c) && !h.on (LEG_COMP_A_CFG.POLARITY c))
  | 3 => (cellsOf k).all (fun c => h.chanTable c)
  | 4 => (cellsOf k).all (fun c => h.rd (LEG_PWM_CFG.MODE c) != 2)
  | _ => true

-- ## LAW, TABLE and SEQ

/-- The ranges of a block's LAW records (Table 3-11, R291). -/
def lawsInRange (ls : List LawRec) : Bool :=
  decide (ls.map (·.id)).Nodup && ls.all (fun r =>
    decide (r.kind ≤ 1) && decide (r.lane ≤ 511) && (r.kind == 1 || (r.b.getD 3 0 == 0 && r.a.getD 2 0 == 0)) && r.outMin != 0x8000 &&
      decide (Num.signed 16 r.outMin ≤ Num.signed 16 r.outMax))

/-- Whether a TABLE's item and every entry that is not 0 belong to the claimed blocks (Table 3-12). -/
def TableSec.owned (t : TableSec) (blocks : Nat) : Bool :=
  let rows := fun (n per : Nat) => (List.range 48).all (fun i => (List.range n).all (fun j =>
    t.data.getD (n * i + j) 0 == 0 || (blocks.testBit (i / 6) && blocks.testBit (j / per))))
  match t.subtype with
  | 1 => decide (16 ≤ t.item) || blocks.testBit (t.item / 2)
  | 2 => decide (48 ≤ t.item) || blocks.testBit (t.item / 6)
  | 3 => rows 48 6
  | 4 => rows 16 2
  | _ => true

/-- The ranges of a TABLE (Table 3-12, R320, R351). -/
def TableSec.inRange (t : TableSec) : Bool :=
  match t.subtype with
  | 1 => decide (t.item < 16) && t.data.all (fun v => decide (v ≤ 7))
  | 2 => decide (t.item < 48)
  | 3 => t.item == 0
  | 4 => t.item == 0 && t.data.all (fun v => decide (v < 0x8000))
  | _ => false

/-- The ranges of SEQ content (Table 3-13, R145). -/
def SeqSec.inRange (q : SeqSec) : Bool :=
  decide (1 ≤ q.code.length) && decide (q.code.length ≤ 1024) && q.start.all (fun v => decide (v < q.code.length)) && q.code.all seqValid

-- ## MSG (Tables 3-14 and 3-15)

/-- CAN channel n of a PLATFORM. -/
def Platform.chan (f : Platform) (n : Nat) : CanChan := f.chans.getD n {}

/-- The length of an object's frame in nominal bit times (R487). -/
def Platform.objBits (f : Platform) (r : ObjRec) : Nat :=
  Config.frameLength (r.flags.testBit 3) (r.flags.testBit 1) (r.flags.testBit 2) (f.chan r.chan).nom (f.chan r.chan).data r.bytes

/-- Whether two channels have basic cycles of one length and number (R487). -/
def Platform.sameCycle (f : Platform) (a b : Nat) : Bool :=
  let x := f.chan a
  let y := f.chan b
  x.cycles == y.cycles && x.columns * x.columnBits * y.nom == y.columns * y.columnBits * x.nom

/-- The ranges of an object record (Table 3-14, R450, R487, R502). -/
def Platform.objOk (f : Platform) (os : List ObjRec) (r : ObjRec) : Bool :=
  let tx := r.flags.testBit 0
  let fd := r.flags.testBit 1
  let ext := r.flags.testBit 3
  let pair := r.flags.testBit 4
  decide (r.chan ≤ 3) && (f.chan r.chan).flags.testBit 0 && decide (r.ident < (if ext then 0x20000000 else 0x800)) &&
    !(ext && decide (0x1E000000 ≤ r.ident) && decide (r.ident ≤ 0x1E2FFFFF)) &&
    (decide (r.bytes ≤ 8) || (fd && [12, 16, 20, 24, 32, 48, 64].contains r.bytes)) && (if tx then r.stale == 0 else r.stale != 0) &&
    (if pair then decide (8 ≤ r.bytes) && decide (1 ≤ r.window) && decide (r.window ≤ 16) &&
        os.any (fun y => y.obj == r.pair && y.flags.testBit 4 && y.pair == r.obj && y.flags.testBit 0 == tx &&
          y.chan == (if r.chan % 2 = 0 then r.chan + 1 else r.chan - 1)) &&
        f.sameCycle r.chan (if r.chan % 2 = 0 then r.chan + 1 else r.chan - 1)
     else r.pair == 0 && r.window == 0)

/-- The ranges of a slot record (Table 3-15, R487). -/
def Platform.slotOk (f : Platform) (os : List ObjRec) (s : SlotRec) : Bool :=
  decide (s.chan ≤ 3) && decide (s.cycle < (f.chan s.chan).cycles) && decide (s.column < (f.chan s.chan).columns) &&
    (s.kind == 1 || s.kind == 2) &&
    os.any (fun r => r.obj == s.obj && r.flags.testBit 0 && r.chan == s.chan && (s.kind != 1 || decide (f.objBits r ≤ (f.chan s.chan).columnBits)))

/-- Whether two receive objects take the same identifier of a channel (R90). -/
def ObjRec.clashes (a b : ObjRec) : Bool :=
  !a.flags.testBit 0 && !b.flags.testBit 0 && a.chan == b.chan && a.flags.testBit 3 == b.flags.testBit 3 && a.ident == b.ident

/-- Whether two slots dispute a matrix cell (R90). -/
def SlotRec.clashes (a b : SlotRec) : Bool :=
  a.chan == b.chan && a.cycle == b.cycle && a.column == b.column && (a.kind == 1 || b.kind == 1) && (a.kind != b.kind || a.obj != b.obj)

/-- Whether two sets conflict under R90. -/
def PSet.clashes (a b : PSet) : Bool :=
  a.objs.any (fun x => b.objs.any (fun y => x.obj != y.obj && x.clashes y)) || a.slots.any (fun x => b.slots.any (fun y => x.clashes y))

-- ## Applying a set

/-- What a set puts in place before its register images: the blocks' sections, sequencer code and laws. The blocks that the partition held
before lose theirs (R292); its claims enter the ownership map as it activates (R102). -/
def Hw.placeSet (h : Hw) (p : Nat) (st : PSet) : Hw :=
  let old := (List.range 8).filter (fun k => h.ownsBlock p k || (h.claims p).blocks.testBit k || st.part.blocks.testBit k)
  let h := old.foldl (fun (acc : Hw) k =>
    { acc.setBlock k { acc.block k with sec := none, seq := none } with laws := acc.laws.filter (fun (e : Nat × Law) => e.1 / 256 != k) }) h
  let h := h.setPart p { h.part p with cfg := some st }
  let h := st.blocks.foldl (fun (acc : Hw) b => acc.setBlock b.block { acc.block b.block with sec := some b }) h
  let h := st.seqs.foldl (fun (acc : Hw) q => acc.setBlock q.block { acc.block q.block with seq := some q }) h
  st.laws.foldl (fun (acc : Hw) l => l.2.foldl (fun (acc : Hw) r => acc.loadLaw l.1 r) acc) h

/-- One image entry is written (R89); a unit that would hold the write off takes it all the same, since nothing of the partition runs. -/
def Hw.imageWrite (h : Hw) (p : PartId) (a : Nat) (v : Word) : Status × Hw :=
  match regHit a with
  | none => (.range, h)
  | some x =>
    let w := x.row.next (h.reg (x.id a)) v
    match h.unitWrite (.host p) x a w v with
    | (.notReady, _) => (.ok, h.setReg (x.id a) w)
    | y => y

/-- A set's images are written in file order. -/
def Hw.writeImages (h : Hw) (p : PartId) (es : List (Nat × Word)) : Hw := es.foldl (fun (acc : Hw) e => (acc.imageWrite p e.1 e.2).2) h

/-- The part with a set placed, its claims in the ownership map and its images written, on which the checker judges registers. -/
def Hw.trial (h : Hw) (p : PartId) (st : PSet) : Hw :=
  let h := h.placeSet p.val st
  let h := h.setPart p.val { h.part p.val with map := some st.part }
  let h := st.areasOf.foldl (fun (acc : Hw) a => acc.setArea a { acc.area a with owner := p.val }) h
  h.writeImages p st.images

-- ## Register images (R89)

/-- Whether an address lies in the window of an image section (Table 3-10). -/
def Section.window (s : Section) (a : Nat) : Bool :=
  match s.typ with
  | 4 => decide (cellBase s.index ≤ a) && decide (a < cellBase s.index + 0x10000)
  | 5 => decide (blockBase s.index ≤ a) && decide (a < blockBase s.index + 0x100000)
  | 0x0A => decide (0x30000 ≤ a) && decide (a < 0x40000)
  | _ => decide (0x30000000 ≤ a) && decide (a < 0x31000000)

/-- Whether an entry's address is refused: `t` is the part with the set's image on trial. -/
def Hw.imageAddressBad (t : Hw) (p : PartId) (s : Section) (a : Nat) (v : Word) : Bool :=
  a % 4 != 0 || !s.window a || match regHit a with
    | none => true
    | some x => !x.row.writable || !t.mayWrite p.val (.host p) (targetOf a) a v || (t.imageWrite p a v).1 == .owner

/-- Whether an entry's value is refused. -/
def Hw.imageValueBad (t : Hw) (p : PartId) (a : Nat) (v : Word) : Bool :=
  match regHit a with
  | none => false
  | some x => x.row.strayBits v || x.row.imageBad v || !t.fieldsFit p.val x a judgedWhole || (t.imageWrite p a v).1 == .range

-- ## The checks of one section (R91)

/-- Step 1 to 3: CRC, header and signature. -/
def CheckCtx.frameCause (x : CheckCtx) (h : Hw) (s : Section) : Option Nat :=
  firstCause [(0x11, !s.crcOk),
    (0x13, !s.known || (s.owner != 0 && (x.gov.entry s.owner).kind == 0) || !s.indexOk || !s.lengthOk),
    (0x12, s.typ != 0xFF && !x.signedOk h s)]

/-- The rows that hold for a section of any type: reserved bits, the set's identity and its rollback floor. -/
def CheckCtx.commonRows (x : CheckCtx) (h : Hw) (s : Section) : List (Nat × Bool) :=
  let st := x.set s.owner
  [(0x13, s.reservedBad), (0x14, s.version != st.version || s.setId != st.setId), (0x15, decide (s.version < x.floorOf h s.owner))]

/-- PLATFORM's rows. -/
def CheckCtx.platformRows (x : CheckCtx) (h : Hw) : List (Nat × Bool) :=
  [(0x16, x.gov.shares), (0x18, !x.gov.inRange), (0x1C, !x.full && h.platformChanges x.gov)]

/-- A BLOCK section's rows. -/
def CheckCtx.blockRows (x : CheckCtx) (h : Hw) (p : PartId) (k : Nat) : List (Nat × Bool) :=
  let st := x.set p.val
  let b := (st.blocks.find? (fun y => y.block == k)).getD {}
  let t := h.trial p st
  let ids := (st.lawsFor k).map (·.id)
  let pin := match (x.set 0).images.find? (fun e => e.1 == 0x30000) with
    | some e => e.2
    | none => h.reg SAFE_PIN_CFG
  [(0x16, !st.part.blocks.testBit k || (b.mode == 3 && (cellsOf k).any (fun c => !st.part.measClaim.testBit c))),
   (0x18, !b.shapeOk || !b.writers.all Writer.inRange || !b.lanes.all (b.wordOk ids) || b.lanes.findIdx (fun w => laneOp w == 0xF) + 1 != b.lanes.length ||
      !st.modeOk b || !t.modeRegsOk st b || !st.wordsOk b),
   (0x19, !b.writersOk || !st.sourcesOk b || !b.pinsOk pin),
   (0x1A, decide (808 < b.cycles b.horizon) || !st.lanesOk k)]

/-- An image section's rows. -/
def CheckCtx.imageRows (x : CheckCtx) (h : Hw) (p : PartId) (s : Section) : List (Nat × Bool) :=
  let st := x.set p.val
  let t := h.trial p st
  let es := decImages s.content
  let k := if s.typ = 4 then s.index / 6 else s.index
  let others := (List.range 16).filter (fun q => q != p.val)
  [(0x16, (s.typ == 4 || s.typ == 5) && !st.part.blocks.testBit k ||
      (s.typ == 0x0B && st.areasOf.any (fun a => others.any (fun q => (x.set q).areasOf.contains a) ||
        others.any (fun q => h.areaOwner a == some q && h.rd (PART_RUN.STATE q) != 0)))),
   (0x17, !decide (es.map (·.1)).Nodup || es.any (fun e => t.imageAddressBad p s e.1 e.2)),
   (0x18, es.any (fun e => t.imageValueBad p e.1 e.2))]

/-- MSG's rows; `accepted` are the owners of the file accepted before it. -/
def CheckCtx.msgRows (x : CheckCtx) (h : Hw) (p : Nat) (accepted : List Nat) : List (Nat × Bool) :=
  let st := x.set p
  let others := if x.full then accepted.map x.set
    else ((List.range 16).filter (fun q => q != p)).filterMap (fun q => if h.rd (PART_RUN.STATE q) = 0 then none else (h.part q).cfg)
  [(0x16, st.clashes st || others.any (fun o => st.clashes o)),
   (0x18, st.objs.any (fun r => !st.hasObj r.obj || !x.gov.objOk st.objs r) || st.slots.any (fun s => !x.gov.slotOk st.objs s))]

/-- The rows of a section's own type. -/
def CheckCtx.typeRows (x : CheckCtx) (h : Hw) (s : Section) (accepted : List Nat) : List (Nat × Bool) :=
  let p : PartId := Fin.ofNat 16 s.owner
  let st := x.set s.owner
  let unclaimed := !st.part.blocks.testBit s.index
  match s.typ with
  | 1 => x.platformRows h
  | 2 => [(0x13, x.missing s.owner), (0x16, !st.part.inside (x.gov.entry s.owner)), (0x18, !st.partInRange s.owner)]
  | 3 => x.blockRows h p s.index
  | 4 | 5 | 0x0A | 0x0B => x.imageRows h p s
  | 6 => [(0x16, unclaimed), (0x18, !lawsInRange (decLaws s.content))]
  | 7 => let t := decTable s.content; [(0x16, !t.owned st.part.blocks), (0x18, !t.inRange)]
  | 8 => [(0x16, unclaimed), (0x18, !(decSeq s.index s.content).inRange)]
  | 9 => x.msgRows h s.owner accepted
  | _ => []

/-- The rows of FORMAT on, in the order of Table 3-16: the common ones and those of the type merge by cause. -/
def contentCause (rows : List (Nat × Bool)) : Option Nat :=
  [0x13, 0x14, 0x15, 0x16, 0x17, 0x18, 0x19, 0x1A, 0x1C].find? (fun c => rows.any (fun r => r.1 == c && r.2))

/-- The cause on which the checker refuses a section, if any. -/
def CheckCtx.sectionCause (x : CheckCtx) (h : Hw) (s : Section) (accepted : List Nat) : Option Nat :=
  match x.frameCause h s with
  | some c => some c
  | none => contentCause (x.commonRows h s ++ x.typeRows h s accepted)

-- ## The verdict on a file

/-- What the checker finds: a cause that refuses the whole file, the PLATFORM it accepts, the accepted sets, and each refused owner with
its first refusal, in file order. -/
structure Verdict where
  fatal : Option Nat := none
  plat : Option Platform := none
  platBad : Bool := false
  sets : List (Nat × PSet) := []
  refs : List (Nat × Nat) := []
  deriving DecidableEq, Repr

/-- END's own conditions (Table 3-16). -/
def CheckCtx.endOk (x : CheckCtx) (h : Hw) : Bool :=
  match x.secs.getLast? with
  | none => false
  | some s =>
    s.crcOk && x.signedOk h s && s.content.length == 36 && bsU32 s.content 0 == x.secs.length - 1 &&
      s.content.drop 4 == Config.sha256 ((x.secs.dropLast.map (·.head)).flatten)

/-- The refusals of the sections in file order; after a PLATFORM's refusal nothing else is checked. -/
def CheckCtx.walk (x : CheckCtx) (h : Hw) (ss : List Section) (refs : List (Nat × Nat)) (seen : List Nat) : List (Nat × Nat) × Bool :=
  match ss with
  | [] => (refs, false)
  | s :: r =>
    if refs.any (fun e => e.1 == s.owner) then x.walk h r refs seen
    else match x.sectionCause h s ((seen.filter (fun q => q != s.owner && !refs.any (fun e => e.1 == q)))) with
      | some c => if s.typ = 1 then (refs ++ [(s.owner, c)], true) else x.walk h r (refs ++ [(s.owner, c)]) seen
      | none => x.walk h r refs (if seen.contains s.owner then seen else seen ++ [s.owner])

/-- The checker's verdict on a file of a full load, or of a partial load of a partition (R91, R92, R100). A bad END refuses the whole file,
after whatever its sections are refused for. -/
def Hw.verdict (h : Hw) (full : Bool) (part : Nat) (file : List Byte) : Verdict :=
  if !bsHeaderOk full (h.rd CHIP_ID.STEPPING) file then { fatal := some 0x10 }
  else match parseSections 257 (file.drop 32) with
    | none => { fatal := some 0x10 }
    | some ss =>
      if ss.length != bsCount file || !orderOk full part ss then { fatal := some 0x10 }
      else
        let plat := (ss.head?.filter (fun s => s.typ == 1)).map (fun s => decPlatform s.content)
        let x : CheckCtx := { full := full, part := part, gov := plat.getD (h.platform.getD {}), secs := ss }
        let y := x.walk h ss [] []
        if !x.endOk h then { fatal := some 0x1D, refs := y.1 }
        else
          let owners := ((ss.map (·.owner)).dedup).filter (fun p => !y.1.any (fun e => e.1 == p))
          { plat := if y.2 then none else plat, platBad := y.2, refs := y.1,
            sets := if y.2 then [] else owners.map (fun p => (p, x.set p)) }

end Sys2Proof.Machine
end

