-- ==== Sys2Proof/Machine/Load.lean ====
section
/-!
DEFINITION. Loading a bitstream (R92 to R101): who may start, abandon and release a load, how its bytes arrive, what applying an accepted
PLATFORM or set does, how a partition activates and re-enters, and the steps of a reload.
-/
namespace Sys2Proof.Machine

-- ## The ownership map (R102, R109)

/-- What the ownership map holds, as a list of numbers. -/
def Hw.ownershipMap (h : Hw) : List Nat :=
  ((List.range 16).map (fun p => match (h.part p).map with
    | some c => [1, c.blocks, c.measClaim, c.tempClaim, c.msgFirst, c.msgCount, c.keepBase, c.keepSectors]
    | none => [0])).flatten ++ (List.range 32).map (fun a => (h.area a).owner)

/-- The map is written to its three copies: the digest changes with it, and the frames since then count from 0. -/
def Hw.mapChanged (h : Hw) : Hw := (h.setReg TS_MAP_DIGEST (Config.mapDigest h.ownershipMap)).wr TS_MAP_STATUS.FRAMES 0

/-- The map is written where it differs from what it held before (R131). -/
def Hw.mapSync (h : Hw) (before : List Nat) : Hw := if h.ownershipMap = before then h else h.mapChanged

-- ## Who may load (R98 to R100)

/-- A requester as the starter of a load: its partition's session, a thread, or a host without a session. A debugger of scope p counts as
host session p (DESIGN CHOICE, log entry 68). -/
def bsKey (q : Requester) : Nat :=
  match q with
  | .host p | .debugger p => p.val
  | .thread _ _ => 16
  | .unauth _ => 17

/-- The state of the load machine. -/
def Hw.bsState (h : Hw) : Nat := h.rd BS_STATUS.STATE

/-- A load is in progress (R98). -/
def Hw.loadBusy (h : Hw) : Bool := decide (2 ≤ h.bsState) && decide (h.bsState ≤ 5)

/-- Once a partition is active, RELOAD belongs to its partition and P0, and the rest to whoever started the load (R99). -/
def Hw.bsForeign (h : Hw) (q : Requester) (v : Word) : Bool :=
  h.anyActive && (if v.getLsbD 0 then bsKey q != Bits.get v 15 12 && bsKey q != 0
    else (v.getLsbD 1 || v.getLsbD 2) && h.loadBusy && bsKey q != h.load.reqKey)

/-- The values of BS_CTRL that return RANGE (R96, R99). -/
def Hw.bsOutOfRange (h : Hw) (v : Word) : Bool :=
  Bits.get v 31 16 != 0x3C96 || decide (1 < Num.ones 3 (Bits.get v 2 0)) || decide (2 ≤ Bits.get v 11 10) ||
    (Bits.get v 15 12 != 0 && !h.anyActive) ||
    (v.getLsbD 0 && Bits.get v 11 10 == 1 && h.platform.isSome && !(h.canCfg 0).flags.testBit 0)

/-- Why a BS_CTRL write is refused, in the order of R105. -/
def Hw.bsRefusal (h : Hw) (q : Requester) (v : Word) : Status :=
  if h.bsForeign q v then .owner
  else if h.bsOutOfRange v then .range
  else if v.getLsbD 1 && h.bsState = 5 then .locked
  else if v.getLsbD 0 && h.loadBusy then .notReady
  else if v.getLsbD 1 && !h.loadBusy then .notReady
  else if v.getLsbD 2 && !(h.bsState == 4 && h.load.hold && !h.load.switch) then .notReady
  else .ok

/-- A load starts: of the whole part while no partition is active, else of one partition (R100). -/
def Hw.loadStart (h : Hw) (key part src : Nat) (hold : Bool) : Hw :=
  let h := { h with load := { isPart := h.anyActive, part := part, hold := hold, reqKey := key } }
  let h := ((h.setReg BS_STATUS 0).wr BS_STATUS.SOURCE src).wr BS_STATUS.STATE 2
  (h.setReg BS_BYTES 0).setReg BS_CAN_COUNT 0

-- ## The bytes of a load (R95 to R97)

/-- The node number that the device answers with, 0xFFFF before enrolment (R505, Table 3-17). -/
def Hw.ownNode (h : Hw) : Nat := h.rd CAN_NODE.NODE

/-- A status frame of the load (Table 3-17). -/
def Hw.loadStatusFrame (h : Hw) : Hw :=
  h.sendService 0 (serviceFrame (0x1E010000 + h.ownNode)
    ([BitVec.ofNat 8 h.bsState, 0] ++ Num.bytesLE 2 (h.rd BS_STATUS.CAUSE) ++ Num.bytesLE 4 (h.rd BS_BYTES.COUNT)))

/-- BS_STATUS.STATE moves on. A load over CAN sends a status frame as its bytes end, and as the load itself ends, with DONE, REFUSED or
ABORT (R97, R98; DEDUCED, log entry 69). -/
def Hw.loadEnds (h : Hw) (st : Nat) : Hw :=
  let h := h.wr BS_STATUS.STATE st
  if h.rd BS_STATUS.SOURCE = 2 then h.loadStatusFrame else h

/-- ABORT discards the load before step 5 (R98). -/
def Hw.loadAbort (h : Hw) : Hw := { h.loadEnds 0 with load := {} }

/-- Bytes of the file arrive; with TOTAL_LEN of them, or with a TOTAL_LEN that no file may have, the load ends and is checked. Bytes
beyond TOTAL_LEN are ignored. -/
def Hw.loadBytes (h : Hw) (new : List Byte) : Hw :=
  let b := h.load.bytes ++ new
  let n := bsTotal b
  let whole := decide (16 ≤ b.length) && decide (n ≤ b.length)
  let tooLong := decide (16 ≤ b.length) && decide (bsLimit (!h.load.isPart) < n)
  let b := if whole then b.take n else b
  let h := { h.wr BS_BYTES.COUNT b.length with load := { h.load with bytes := b } }
  if whole || tooLong then h.loadEnds 3 else h

/-- A BS_PORT write (R95, R99). -/
def Hw.bsPortWrite (h : Hw) (q : Requester) (v : Word) : Status × Hw :=
  if h.anyActive && h.loadBusy && bsKey q != h.load.reqKey then (.owner, h)
  else if h.bsState ≠ 2 || h.rd BS_STATUS.SOURCE ≠ 1 then (.notReady, h)
  else (.ok, h.loadBytes (Num.bytesLE 4 v.toNat))

/-- Whether a load frame of channel 0 that addresses a node reaches the device (R96). -/
def Hw.loadHears (h : Hw) (node : Nat) : Bool := (node == h.ownNode || node == 0xFFFF) && h.canHears 0

/-- CAN_LOAD_PIECE: the pieces of a load over CAN (R97). -/
def Hw.loadPiece (h : Hw) (node off : Nat) (d : List Byte) : Hw :=
  if !h.loadHears node || d.length ≠ 60 then h
  else if h.bsState = 1 then (if off = 0 then (h.loadStart 17 0 2 false).loadBytes d else h)
  else if h.bsState = 2 && h.rd BS_STATUS.SOURCE = 2 then
    let next := h.rd BS_BYTES.COUNT
    if off = next then h.loadBytes d
    else if off < next then h.incTop BS_CAN_COUNT.BEHIND
    else h.incTop BS_CAN_COUNT.AHEAD
  else h

/-- CAN_LOAD_PIECE (R97). -/
def execCanLoadPiece (node : Nat) (offset : Nat) (data : List Byte) (s : State) := s.onLive (fun h => h.loadPiece node offset data)

/-- CAN_LOAD_STATUS_REQUEST (R97). -/
def execCanLoadStatusRequest (node : Nat) (s : State) := s.onLive (fun h => if h.loadHears node then h.loadStatusFrame else h)

/-- The owner of the load, for the causes that belong to no section (R101). -/
def Load.owner (l : Load) : Nat := if l.isPart then l.part else 0

/-- LOAD_TIMEOUT: a second without a word or piece abandons the load (R95). Its cause belongs to the owner of the load (R101); that of a
full load is not shown in P0's PART_BS_STATE.CAUSE (DESIGN CHOICE, log entry 68). -/
def Hw.loadTimeout (h : Hw) : Hw :=
  if h.bsState ≠ 2 || h.rd BS_STATUS.SOURCE = 0 then h
  else
    let code := faultCode 4 h.load.owner 0x1B
    let h := (h.record code).wr BS_STATUS.CAUSE code
    let h := if h.load.isPart then h.wr (PART_BS_STATE.CAUSE h.load.part) code else h
    { h.loadEnds 7 with load := {} }

/-- LOAD_TIMEOUT (R95). -/
def execLoadTimeout (s : State) := s.onLive Hw.loadTimeout

-- ## Applying PLATFORM (R74, R86, R124, R540)

/-- The entry of a list of grants whose keep range holds a sector. -/
def grantee (gs : List (Nat × Nat)) (s : Nat) : Option Nat :=
  (List.range gs.length).find? (fun p =>
    let g := gs.getD p (0, 0)
    decide (g.1 ≤ s) && decide (s < g.1 + g.2))

/-- Every sector whose grant differs from that of the last PLATFORM applied is cleared (R540). -/
def Mach.clearGrants (m : Mach) (gs : List (Nat × Nat)) : Mach :=
  let m := (List.range 256).foldl (fun (acc : Mach) s =>
    if s != 0 && grantee acc.hw.lastGrants s != grantee gs s then acc.clearSector s else acc) m
  m.onHw (fun h => { h with lastGrants := gs })

/-- Entry p of a PLATFORM is declared. -/
def Hw.declare (h : Hw) (p : Nat) (e : PartEntry) : Hw :=
  let h := (h.setPart p { h.part p with entry := e }).wr (PART_RUN.KIND p) e.kind
  if h.rd (PART_RUN.STATE p) ≠ 0 then h
  else if e.kind = 0 then h.wr (PART_BS_STATE.STATE p) 0
  else if h.rd (PART_BS_STATE.STATE p) = 0 then h.wr (PART_BS_STATE.STATE p) 1 else h

/-- The stored epoch of partition p in sector 0, or what is still to be written there. -/
def Mach.storedEpoch (m : Mach) (p : Nat) : Nat :=
  match (m.hw.keepBlocked ++ m.hw.keepPend).reverse.find? (fun e => e.1 == 0x40 + 8 * p) with
  | some e => bsU16 e.2 4
  | none => (m.mem.word (keepBase + 0x44 + 8 * p)).toNat % 65536

/-- Entry p replaces the one in force: another owner key resets the rollback floor and ends the session (R86, R124), and so does an entry
that is gone. -/
def Hw.replaceEntry (h : Hw) (p stored : Nat) (old new : PartEntry) : Hw :=
  let h := if p != 0 && old.kind != 0 && (new.kind == 0 || old.key != new.key) then h.keyGone p else h
  let h := if p != 0 && old.kind != 0 && old.key != new.key then
      (h.wr (PART_BS_FLOOR.FLOOR p) 0).keepStore (0x40 + 8 * p)
        (Num.bytesLE 4 0 ++ Num.bytesLE 2 stored ++ [0, 0])
    else h
  h.declare p new

/-- A PLATFORM is applied. The CAN controllers start with the first one, and with one that changes their channels. Its frame, wake and
shutdown fields reach their registers as P0 activates (R74). -/
def Mach.applyPlatform (m : Mach) (f : Platform) : Mach :=
  let old := m.hw.platform
  let m := m.onHw (fun h =>
    let h := { h with platform := some f }
    let h := (List.range 16).foldl (fun (acc : Hw) p =>
      acc.replaceEntry p (m.storedEpoch p) (match old with | some g => g.entry p | none => {}) (f.entry p)) h
    if old.all (fun g => g.chans != f.chans) then h.canPlatform else h)
  m.clearGrants ((List.range 16).map (fun p => ((f.entry p).keepBase, (f.entry p).keepSectors)))

-- ## Applying a set (R87, R89, R102, R115, Table 3-18 step 6)

/-- The next epoch after `e`: after 0xFFFF comes 1 (R115). -/
def epochAfter (e : Nat) : Nat := e % 65535 + 1

/-- The epoch of partition p's next activation (R115): it counts on from the present one, and at the first activation after a cold start
from the stored one or, with policy 1, from 0. -/
def Mach.epochFor (m : Mach) (p policy : Nat) : Nat :=
  let now := m.hw.rd (PART_RUN.EPOCH p)
  if now ≠ 0 then epochAfter now else if policy = 0 then epochAfter (m.storedEpoch p) else 1

/-- A block that its partition no longer claims: its cells have no command and no safe-state setting. -/
def Hw.releaseCells (h : Hw) (k : Nat) : Hw :=
  (cellsOf k).foldl (fun (acc : Hw) c =>
    (acc.setCell c { acc.cell c with running := false, wantStart := false, hold := .none, restSafe := false, safeLow := false, preCharge := 0,
                                     diagStage := 0, testing := false }).setCmds c false false) h

/-- The leg dies take the safe-state setting of a partition's cells from its declared reaction (R20, R23). -/
def Hw.safeSettings (h : Hw) (st : PSet) : Hw :=
  ((List.range 8).filter (fun k => st.part.blocks.testBit k)).foldl (fun (acc : Hw) k =>
    (cellsOf k).foldl (fun (a : Hw) c => a.setCell c { a.cell c with safeLow := st.part.reaction == 1 || st.part.reaction == 3 }) acc) h

/-- A capture area that a set will claim records nothing that a former holder selected (R272, R273). -/
def Hw.freshArea (h : Hw) (p a : Nat) : Hw :=
  if (h.area a).owner = p then h
  else ((h.setReg (MEAS_CAP_MASK_LO a) 0).setReg (MEAS_CAP_MASK_HI a) 0).setReg (MEAS_CAP_STATUS a) 0

/-- Set st of partition p is applied: its blocks, code and laws are placed and its images written, with the UVLO thresholds they raise; its
floor and its persistent epoch go to sector 0, and the diagnostics of its cells start. -/
def Mach.applySet (m : Mach) (p : PartId) (st : PSet) : Mach :=
  let n := p.val
  let e := if (m.hw.part n).nextEpoch = 0 then m.epochFor n st.part.epochPolicy else (m.hw.part n).nextEpoch
  let stored := if st.part.epochPolicy = 0 then e else m.storedEpoch n
  let was := fun (c : Nat) => m.hw.rd (LEG_BST_CFG.UVLO_SEL c)
  m.onHw (fun h =>
    let h := st.areasOf.foldl (fun (acc : Hw) a => acc.freshArea n a) ((h.placeSet n st).safeSettings st)
    let h := h.writeImages p st.images
    let up := decide (h.rd (PART_BS_FLOOR.FLOOR n) < st.part.floor)
    let h := if up then h.wr (PART_BS_FLOOR.FLOOR n) st.part.floor else h
    let h := if up || st.part.epochPolicy = 0 then
        h.keepStore (0x40 + 8 * n) (Num.bytesLE 4 (h.rd (PART_BS_FLOOR.FLOOR n)) ++ Num.bytesLE 2 stored ++ [0, 0])
      else h
    let h := h.setPart n { h.part n with arming := true, nextEpoch := e }
    let cells := (h.setBlocks n).flatMap cellsOf
    let h := h.raiseUvlo cells was
    let h := cells.foldl (fun (acc : Hw) c => if (acc.cell c).diagStage = 0 then acc.startDiag c 1 else acc) h
    Num.forEach 4 (fun r acc => acc.armRegion r) h)

-- ## Activation and re-entry

/-- Whether a device write to a word of sector 0 is still to be made. -/
def Hw.storeWaits (h : Hw) (off : Nat) : Bool := (h.keepPend ++ h.keepBlocked).any (fun e => e.1 == off)

/-- The regions of the blocks that a partition's set claims. -/
def Hw.regionsOf (h : Hw) (p : Nat) : List Nat := ((h.setBlocks p).map (fun k => k / 2)).dedup

/-- Whether partition p, whose set has been applied, may activate or re-enter: P0 first (R103), its words stored (R87, R115), its regions'
supplies good unless it is fenced (R47), its cells' diagnostics ended, and for a partition with blocks no start failure or chip fault,
which keep every cell unarmed (R16, R64). -/
def Hw.canActivate (h : Hw) (p : Nat) : Bool :=
  (h.part p).arming && (p == 0 || h.active 0) && !h.storeWaits (0x40 + 8 * p) && h.power == .running &&
    ((h.setBlocks p).isEmpty || (!h.chipFault && [0, 1, 6, 7].all (fun d => h.rd (DIE_STATE.DIE d) != 3))) &&
    (h.regionsOf p).all (fun r => h.bit FENCE_UNIT.REGION r || h.regionReady r) &&
    ((h.setBlocks p).flatMap cellsOf).all (fun c => (h.cell c).diagStage == 0)

/-- Whether a fence holds block k, so that its threads and cells do not start. -/
def Hw.blockHeld (h : Hw) (k : Nat) : Bool := h.blockFenced k || h.regionHolds k

/-- The cells of block k enter service, but for those that stay fenced (R25). -/
def Hw.cellsStart (h : Hw) (k : Nat) : Hw :=
  if h.blockHeld k then h
  else (cellsOf k).foldl (fun (acc : Hw) c => if acc.cellFenced c then acc.applyHold c else (acc.enterService c).applyHold c) h

/-- A block's threads are cleared with its event flags, and wait for order 4 of the next frame boundary (R142). The round robin then begins
with thread 0 (DESIGN CHOICE, log entry 68). -/
def Hw.threadsClear (h : Hw) (k : Nat) : Hw :=
  let h := (h.setReg (BLK_SEQ_FLAGS k) 0).updBlock k (fun b => { b with lastThread := 7 })
  let h := Num.forEach 8 (fun t acc => acc.clearThread k t) h
  if h.blockHeld k then h.fenceThreads k else h

/-- The units of block k take their first values. -/
def Hw.blockStart (h : Hw) (k : Nat) : Hw :=
  let h := ((((h.engineStart k).torqueActivate k).fluxStart k).chanStart k).cmpIdle k
  [2 * k, 2 * k + 1].foldl (fun (acc : Hw) t => acc.motionStart t) h

/-- The control inputs that an image sets are written anew once the engine has cleared them. -/
def Hw.inputImages (h : Hw) (p : PartId) (es : List (Nat × Word)) : Hw :=
  h.writeImages p (es.filter (fun e => match regHit e.1 with | some x => x.row.hook == .inputValue | none => false))

/-- The block fences of a partition's blocks end with a reload, but for a block that has run out of spare lanes (R25, R570, R575). -/
def Hw.unfenceBlocks (h : Hw) (p : Nat) : Hw :=
  ((h.blocksOf p).foldl (fun (acc : Hw) k =>
    if (acc.block k).retired.length ≤ 16 then
      acc.wrBit FENCE_UNIT.BLOCK k false
    else acc) h).syncFences

/-- Half-cleared sectors of the window are cleared before activation where AUTO_RESUME asks for it (R549). -/
def Mach.autoResume (m : Mach) (p : Nat) : Mach :=
  let c := m.hw.claims p
  if !c.flags.testBit 1 then m
  else (List.range c.keepSectors).foldl (fun (acc : Mach) i =>
    if acc.hw.keepHalf (c.keepBase + i) then acc.clearSector (c.keepBase + i) else acc) m

/-- The claims of partition p's set enter the ownership map (R102): the blocks it gives up are released, its own leave the safe state of a
warm restart, and P0's PLATFORM reaches the frame, wake and shutdown registers (R74). -/
def Hw.enterMap (h : Hw) (p : Nat) (st : PSet) : Hw :=
  let gone := (h.blocksOf p).filter (fun k => !st.part.blocks.testBit k)
  let h := gone.foldl (fun (acc : Hw) k => acc.releaseCells k) h
  let h := gone.foldl (fun (acc : Hw) k => acc.returnUnclaimed (k / 2)) (h.setPart p { h.part p with map := some st.part })
  let h := ((h.blocksOf p).flatMap cellsOf).foldl (fun (acc : Hw) c => acc.setCell c { acc.cell c with restSafe := false }) h
  let h := (h.wr (PART_RUN.BLOCKS p) st.part.blocks).wr (PART_SAFE.SAFE_REACTION p) st.part.reaction
  match p, h.platform with
  | 0, some f => ((h.wr FRAME_CFG.FRAME_STEPS f.frameSteps).setReg WAKE_CFG f.wakeCfg).setReg SHUTDOWN_CFG f.shutdownCfg
  | _, _ => h

/-- Partition p becomes active with a new epoch; `back` where it re-enters after a reload. `before` is the ownership map as it was. -/
def Hw.activatePart (h : Hw) (p : PartId) (back : Bool) (before : List Nat) : Hw :=
  let n := p.val
  let st := ((h.part n).cfg).getD {}
  let h := (h.enterMap n st).mapSync before
  let ks := h.blocksOf n
  let h := if back then h.unfenceBlocks n else h
  let h := h.wr (PART_RUN.EPOCH n) (h.part n).nextEpoch
  let h := h.setPart n { h.part n with arming := false, nextEpoch := 0, deadlock := false, commitReq := false,
                                       lastFenced := [], ramp := false, rampCells := [], starting := !back }
  let h := (((h.wr (PART_RUN.STATE n) 1).setReg (PART_FAULT n) 0).wr (PART_BS_STATE.STATE n) 3)
  let h := (h.wr (PART_BS_VERSION.VERSION n) st.version).wr (PART_BS_SET.SET_ID n) st.setId
  let h := ks.foldl (fun (acc : Hw) k => acc.setReg (RM_LANE_FINISH k) 0) (h.wrBit RM_DEADLOCK.PART n false)
  let h := (h.canStart n).creditStart n
  let h := ks.foldl (fun (acc : Hw) k => (acc.blockStart k).threadsClear k) h
  let h := h.inputImages p st.images
  let edge := h.edgeRelease
  let h := { ({ h with edgeRelease := if back then 0 else edge }).safeStart n with edgeRelease := edge }
  let h := h.measActivate n
  if back then ks.foldl (fun (acc : Hw) k => (if acc.blockHeld k then acc else acc.threadsStart k).cellsStart k) h
  else h.wr START_STATUS.START_TIME (min h.startMs 0xFFFF)

/-- A partition that depends on D6 while D6's results are invalid takes its reaction at once (Tables 2-3 and 21-1). -/
def Hw.d6Depends (h : Hw) (p : Nat) : Hw := if h.d6Cause != 0 && h.dependsOnD6 p then h.partCause p h.d6Cause else h

/-- Activation or re-entry of partition p, its keep memory first (R549, R552). -/
def Mach.activate (m : Mach) (p : PartId) (back : Bool) : Mach :=
  let before := m.hw.ownershipMap
  let areas := (((m.hw.part p.val).cfg).getD {}).areasOf
  let m := areas.foldl (fun (acc : Mach) a => acc.claimArea p.val a) (m.autoResume p.val)
  ((m.onHw (fun h => h.activatePart p back before)).recActivate p.val).onHw (fun h => h.d6Depends p.val)

/-- PARTITION_ACTIVATE: a partition whose conditions hold activates (R47). -/
def Mach.partitionActivate (m : Mach) (p : PartId) : Mach :=
  if m.hw.rd (PART_RUN.STATE p.val) = 0 && m.hw.canActivate p.val then m.activate p false else m

/-- PARTITION_ACTIVATE (R47, R102, R103, R113, R115). -/
def execPartitionActivate (p : PartId) (s : State) := s.onMach (fun m => m.partitionActivate p)

/-- Order 4 of a frame boundary after an activation: enabled threads start and the cells enter service (R142, Table 2-4 step 10). -/
def Hw.startPartition (h : Hw) (p : Nat) : Hw :=
  if (h.part p).starting then
    let h := h.setPart p { h.part p with starting := false }
    if h.active p then
      (h.blocksOf p).foldl (fun (acc : Hw) k =>
        if acc.blockHeld k then acc
        else
          let en := match (acc.block k).seq with | some s => s.enable | none => 0
          (Num.forEach 8 (fun t a => if en.testBit t && a.rd (BLK_SEQ_STATE.THREAD k t) = 0 then a.startThread k t else a) acc).cellsStart k) h
    else h
  else h

-- ## The end of the checks (R91, R92)

/-- The sets that wait for activation are forgotten before a full load's are applied. -/
def Hw.forgetSets (h : Hw) : Hw :=
  let h := Num.forEach 8 (fun k acc =>
    (acc.setBlock k { acc.block k with sec := none, seq := none }).releaseCells k) { h with laws := [] }
  let h := Num.forEach 32 (fun a acc => acc.setArea a { acc.area a with owner := 16 }) h
  Num.forEach 16 (fun p acc =>
    ((acc.setPart p { acc.part p with cfg := none, map := none, arming := false, entry := {} }).setReg (PART_BS_STATE p) 0).setReg (PART_RUN p)
      (Bits.set 0 31 16 (acc.rd (PART_RUN.EPOCH p)))) h

/-- The refusals of a file are recorded, the first of each partition in its PART_BS_STATE.CAUSE; a partition that does not run shows its set
as refused (R91, R101). -/
def Hw.recordRefusals (h : Hw) (refs : List (Nat × Nat)) : Hw :=
  let h := h.wr BS_STATUS.CAUSE (match refs with | e :: _ => faultCode 4 e.1 e.2 | [] => 0)
  refs.foldl (fun (acc : Hw) e =>
    let code := faultCode 4 e.1 e.2
    let acc := acc.record code
    let acc := if refs.find? (fun d => d.1 == e.1) = some e then acc.wr (PART_BS_STATE.CAUSE e.1) code else acc
    if acc.rd (PART_RUN.STATE e.1) = 0 then acc.wr (PART_BS_STATE.STATE e.1) 2 else acc) h

/-- The refusals of a verdict in file order, the owner of the load standing for a fatal one: that of END comes last. -/
def Verdict.refusals (v : Verdict) (owner : Nat) : List (Nat × Nat) :=
  match v.fatal with
  | some c => v.refs ++ [(owner, c)]
  | none => v.refs

/-- What a full load's file means for a part in which nothing runs. -/
def Hw.fullVerdict (h : Hw) : Verdict := h.forgetSets.verdict true 0 h.load.bytes

/-- A full load is applied: PLATFORM, then every accepted set (R92). -/
def Mach.applyFull (m : Mach) (v : Verdict) : Mach :=
  let m := m.onHw (fun h =>
    let h := h.forgetSets.recordRefusals v.refs
    match v.plat with
    | some f => (List.range 16).foldl (fun (acc : Hw) p => acc.declare p (f.entry p)) h
    | none => h)
  let m := if v.sets.any (fun e => e.1 == 0) then (match v.plat with | some f => m.applyPlatform f | none => m) else m
  let m := v.sets.foldl (fun (acc : Mach) e => acc.applySet (Fin.ofNat 16 e.1) e.2) m
  m.onHw (fun h => { h.loadEnds (if v.sets.isEmpty then 7 else 6) with load := {} })

/-- The checker finishes with a full load's file. -/
def Mach.checkedFull (m : Mach) : Mach :=
  let v := m.hw.fullVerdict
  if v.fatal.isSome then
    m.onHw (fun h => { (h.recordRefusals (v.refusals 0)).loadEnds 7 with load := {} })
  else if m.hw.load.hold && !v.sets.isEmpty then
    m.onHw (fun h => (h.wr BS_STATUS.CAUSE (match v.refs with | e :: _ => faultCode 4 e.1 e.2 | [] => 0)).wr BS_STATUS.STATE 4)
  else m.applyFull v

/-- The checker finishes with a partial load's file: its set is staged, or refused with the old configuration untouched. -/
def Hw.checkedPart (h : Hw) : Hw :=
  let v := h.verdict false h.load.part h.load.bytes
  let h := h.recordRefusals (v.refusals h.load.part)
  match v.sets.find? (fun e => e.1 == h.load.part) with
  | some e => { h.wr BS_STATUS.STATE 4 with load := { h.load with staged := some e.2, stagedPlat := v.plat } }
  | none => { h.loadEnds 7 with load := {} }

/-- CHECKS_DONE: the checks end (R92, Table 3-18 step 4). -/
def Mach.checksDone (m : Mach) : Mach :=
  if m.hw.bsState ≠ 3 then m
  else if m.hw.load.isPart then m.onHw Hw.checkedPart
  else m.checkedFull

/-- CHECKS_DONE (R91, R92). -/
def execChecksDone (s : State) := s.onMach Mach.checksDone

-- ## BS_CTRL

/-- SWITCH releases a load held in STAGED (R98): a partial one at the next frame boundary, a full one at once. -/
def Mach.loadSwitch (m : Mach) : Mach :=
  if m.hw.load.isPart then m.onHw (fun h => { h with load := { h.load with switch := true } })
  else m.applyFull m.hw.fullVerdict

/-- A BS_CTRL write (R98 to R100). -/
def Mach.bsCtrlWrite (m : Mach) (q : Requester) (v : Word) : Status × Mach :=
  match m.hw.bsRefusal q v with
  | .ok =>
    (.ok, if v.getLsbD 0 then m.onHw (fun h => h.loadStart (bsKey q) (Bits.get v 15 12) (Bits.get v 11 10 + 1) (v.getLsbD 3))
      else if v.getLsbD 1 then m.onHw Hw.loadAbort
      else if v.getLsbD 2 then m.loadSwitch
      else m)
  | st => (st, m)

-- ## The steps of a reload (Table 3-18)

/-- A return of block k whose checks run or have passed is abandoned: the region fence holds it as before. -/
def Hw.dropReturn (h : Hw) (k : Nat) : Hw :=
  if 2 ≤ h.rd (returnState k) && h.rd (returnState k) ≤ 3 then (h.wr (returnState k) 1).wrB (returnRequest k) false else h

/-- Partition p stops for its reload: its reaction begins, and what it has queued, armed or scheduled is discarded (R98, R117, R269, R296,
R387, R560). -/
def Hw.stopForReload (h : Hw) (p : Nat) : Hw :=
  let ks := h.blocksOf p
  let h := ((h.wr (PART_RUN.STATE p) 3).setReg (PART_FAULT p) 0).wr (PART_BS_STATE.STATE p) 4
  let was := (h.part p).reaction
  let h := (h.part p).rampCells.foldl (fun (acc : Hw) e => acc.setReg (LEG_REENTRY_STATUS e.1) 0) h
  let h := h.setPart p { h.part p with commitReq := false, deadlock := false, starting := false, ramp := false,
                                       rampCells := [], reacting := (h.part p).reacting || (!was && !ks.isEmpty) }
  let re := (h.claims p).reaction
  let h := if was then h else ks.foldl (fun (acc : Hw) k => acc.updBlock k (fun b =>
    { b with acting := if 2 ≤ re then min b.acting 1 else 0, stopCause := 0x10000 })) h
  let h := (ks.flatMap cellsOf).foldl (fun (acc : Hw) c =>
    let acc := (acc.dropSet c).dropReentry c
    (acc.wrB (LEG_PWM_STATUS.HALTED c) false).wrB (LEG_PWM_STATUS.FROZEN c) false) h
  let h := ks.foldl (fun (acc : Hw) k => (acc.dropReturn k).refreshTrips k) h.syncUvlo
  let h := ks.foldl (fun (acc : Hw) k =>
    let acc := (((acc.fenceThreads k).wrBit DBG_HALT.HALTED k false).wrBit DBG_HALT.FROZEN k false).stopEngine k
    (acc.updBlock k (fun b => { b with stepping := false, haltReq := false, freezeReq := false, resumeReq := false, stepReq := false })).cmpIdle k) h
  (((h.canRelease p).keepRelease p).carouselRelease p).measRelease p

/-- Step 5, order 3 of a frame boundary: a staged load switches (Table 3-18). -/
def Hw.switchStart (h : Hw) : Hw :=
  if h.bsState = 4 && h.load.isPart && (!h.load.hold || h.load.switch) then
    ((h.wr BS_STATUS.STATE 5).stopForReload h.load.part).mapSync h.ownershipMap
  else h

/-- The lanes that the return test of fenced blocks finds failing (R575): each is retired; with no spare left the block stays fenced. -/
def Hw.returnTest (h : Hw) (ks : List Nat) (fails : List (Nat × Nat)) : Hw :=
  fails.foldl (fun (acc : Hw) e =>
    if ks.contains e.1 && acc.blockFenced e.1 && !(acc.block e.1).retired.contains e.2 then
      let full := decide (16 ≤ acc.rd (ST_LANE.RETIRED e.1))
      let acc := acc.retireLane e.1 e.2
      if full then acc.updBlock e.1 (fun b => { b with retired := e.2 :: b.retired }) else acc
    else acc) h

/-- Step 6: the reaction has reached its terminal state, and the staged set is applied (Table 3-18). -/
def Mach.reloadApply (m : Mach) (fails : List (Nat × Nat)) : Mach :=
  let l := m.hw.load
  let p := l.part
  if m.hw.bsState ≠ 5 || (m.hw.part p).arming || !((m.hw.blocksOf p).isEmpty || m.hw.terminalReached p) then m
  else match l.staged with
    | none => m
    | some st =>
      let ks := (List.range 8).filter (fun k => m.hw.ownsBlock p k || st.part.blocks.testBit k)
      let m := m.onHw (fun h => h.returnTest ks fails)
      let m := match l.stagedPlat with | some f => m.applyPlatform f | none => m
      m.applySet (Fin.ofNat 16 p) st

/-- RELOAD_APPLY_SET (R98, R575). -/
def execReloadApplySet (laneFails : List (BlockId × Fin 528)) (s : State) :=
  s.onMach (fun m => m.reloadApply (laneFails.map (fun e => (e.1.val, e.2.val))))

/-- Step 8, order 4 of a frame boundary: the partition re-enters once its conditions hold (Table 3-18, R103). -/
def Mach.reloadBack (m : Mach) : Mach :=
  let p := m.hw.load.part
  if m.hw.bsState = 5 && (m.hw.part p).arming && m.hw.canActivate p then
    (m.activate (Fin.ofNat 16 p) true).onHw (fun h => { h.loadEnds 6 with load := {} })
  else m

end Sys2Proof.Machine
end

