-- ==== Sys2Proof/Machine/Power.lean ====
section
/-!
DEFINITION. Supplies, clocks, start-up, standby and shutdown (chapter 2): chip reset, the stages of a cold start and of a warm restart, the
long start test, clock monitors, power failure, and the stages of an orderly shutdown.
-/
namespace Sys2Proof.Machine

-- ## Chip reset

/-- The registers that a warm restart leaves as they are: what stage 3 of a cold start has read, the supplies, and the counts of this
session (DEDUCED, log entry 30). -/
def warmRegs : List RegId :=
  [SUPPLY_STATUS, OP_SECONDS, POWER_CYCLES, WARM_RESTARTS, SAFE_RESET_COUNT, ST_RESULT, CAN_NODE, KEEP_STATE, START_STATUS] ++
    (List.range 8).map KEEP_HALF ++ (List.range 4).map REGION_VDRV_STATUS ++
    (List.range 16).map PART_KEEP_JOURNAL ++ (List.range 16).map PART_BS_FLOOR

/-- Whether a register keeps its value through a reset of the dies: the always-on domain (R51), a held chip fault (Table 1-3), and the key
store (R118, R121). -/
def keptAddr (a : Nat) : Bool :=
  a == WAKE_CFG.addr || a == SHUTDOWN_CFG.addr || a == OP_SECONDS.addr || a == POWER_CYCLES.addr || a == CHIP_FAULT.addr ||
    (decide (0x40080000 ≤ a) && decide (a < 0x40081000) && a != KS_KEY_STATUS.addr && (decide (a < 0x40080100) || decide (0x40080180 ≤ a)))

/-- What the leg dies keep of a cell over a warm restart: the safe-state setting, the hold in its terminal state until its partition
activates, and gate edges that are still in progress (R20, R23, R65, R179). -/
def Cell.kept (x : Cell) : Cell :=
  { safeLow := x.safeLow, shortHold := x.shortHold, hold := .terminal, restSafe := true, hs := x.hs, ls := x.ls }

/-- The leg dies' part of a warm restart: every cell takes its safe state first, and its gate driver stays as it is. -/
def Hw.legsKept (n h : Hw) : Hw :=
  Num.forEach 48 (fun c acc =>
    let y := (h.setCell c { h.cell c with testing := false, preCharge := 0 }).holdTerminal c
    ((acc.setCell c (y.cell c).kept).setReg (LEG_GD_STATUS c) (y.reg (LEG_GD_STATUS c))).wrB (LEG_PWM_STATUS.LS_CMD c)
      (y.on (LEG_PWM_STATUS.LS_CMD c))) n

/-- The dies are reset. What stays: the always-on domain with a held chip fault, the key store and the fuses (lane maps), and D7's notes of
what keep memory holds; in a warm restart also the supplies, the leg dies' safe states, and the session's counts, epochs and recorders. -/
def Hw.chipReset (h : Hw) (warm : Bool) : Hw :=
  let n : Hw := { regs := h.regs.filter (fun (e : Nat × Word) => keptAddr e.1), fresh := h.fresh, power := h.power, inh := h.inh, wakePin := h.wakePin,
                  lastStatus := h.lastStatus, lastData := h.lastData, p0Key := h.p0Key, slotKeys := h.slotKeys, headers := h.headers,
                  lastGrants := h.lastGrants }
  let n : Hw := if warm then { n with keepPend := h.keepPend, keepBlocked := h.keepBlocked, faultLog := h.faultLog, recs := h.recs,
                                      opRun := h.opRun, faultStored := h.faultStored, supplyBack := h.supplyBack,
                                      service := { epoch := h.rd CAN_NODE.SEARCH_EPOCH } }
    else n
  let n := n.wrB KS_STATE.SEALED false
  let n := Num.forEach 8 (fun k acc =>
    ((acc.setBlock k { retired := (h.block k).retired }).wr (ST_LANE.RETIRED k) (h.rd (ST_LANE.RETIRED k))).wrB (ST_LANE.UNTESTED k)
      (h.on (ST_LANE.UNTESTED k))) n
  if warm then
    let n := (warmRegs.foldl (fun (acc : Hw) r => acc.setReg r (h.reg r)) n).setReg CHIP_FAULT 0
    let n := Num.forEach 16 (fun p acc => acc.wr (PART_RUN.EPOCH p) (h.rd (PART_RUN.EPOCH p))) n
    let n := (n.legsKept h).syncUvlo
    Num.forEach 4 (fun r acc =>
      if (h.region r).causes.contains 6 then { acc.fenceRegion r 6 with faultLog := acc.faultLog } else acc) n
  else
    let n := (n.wr START_STATUS.WAKE_SRC (h.rd START_STATUS.WAKE_SRC)).wr START_STATUS.WAKE_CAN (h.rd START_STATUS.WAKE_CAN)
    if n.chipFault then n.syncFences else n

/-- What a reset without supplies leaves of memory: keep memory alone. -/
def Memory.keepOnly (m : Memory) : Memory := m.filter (fun e => decide (0x50000000 ≤ e.1) && decide (e.1 < 0x51000000))

/-- The dies lose their supplies or are held in reset. -/
def Mach.coldReset (m : Mach) (ph : PowerPhase) : Mach :=
  ⟨m.mem.keepOnly, { m.hw.chipReset false with power := ph }⟩

-- ## The stages of a start (Table 2-4)

/-- Whether a word of sector 0 and its upper half. -/
def Mach.sectorWord (m : Mach) (off : Nat) : Nat := (m.mem.word (keepBase + off)).toNat

/-- Stage 3: the counters, the last shutdown record, floors, enrolment and headers are read from keep memory (R63, R70, R73, R505, R549). -/
def Mach.stage3 (m : Mach) : Mach :=
  let old := m.sectorWord 4
  let present := m.sectorWord 0x10 == old
  let res := m.sectorWord 0x20 % 256
  let res := if present && 1 ≤ res && res ≤ 4 then res else 0
  let credit := res == 1 && m.sectorWord 0x18 == old && decide (m.sectorWord 0 ≤ m.sectorWord 0x1C + 2592000)
  let m2 := m.onHw (fun h =>
    let h := (h.wr OP_SECONDS.SECONDS (m.sectorWord 0)).wr POWER_CYCLES.COUNT (Num.incTo 0xFFFFFFFF old)
    let h := (h.wrB START_STATUS.RECORD_MISSING (!present)).wrB START_STATUS.LAST_POWER_FAIL (m.sectorWord 0x28 == old)
    let h := h.wrB START_STATUS.CREDIT_USED credit
    let h := (h.wr ST_RESULT.LAST_KIND (if res = 0 then 0 else 1)).wr ST_RESULT.LAST_RESULT res
    let h := Num.forEach 16 (fun p acc => acc.wr (PART_BS_FLOOR.FLOOR p) (m.sectorWord (0x40 + 8 * p))) h
    let h := if m.sectorWord 0xC4 % 256 = 0 then (h.wr CAN_NODE.NODE 0xFFFF).wr CAN_NODE.SEARCH_EPOCH 0
      else (h.wr CAN_NODE.NODE (m.sectorWord 0xC0 % 65536)).wr CAN_NODE.SEARCH_EPOCH (m.sectorWord 0xC0 / 65536)
    ({ h with service := { h.service with epoch := h.rd CAN_NODE.SEARCH_EPOCH } }).keepStore 0 h.secondsWord)
  m2.keepFlush.keepStart

/-- A die that fails a mutual authentication at start (R16). -/
def Hw.startRefused (h : Hw) (d : Nat) : Hw :=
  let h := if 2 ≤ d ∧ d ≤ 5 then h.fenceRegion (d - 2) 1 else h
  h.wr (DIE_STATE.DIE d) 3

/-- Stage 4: the dies authenticate one another (R16, R119). -/
def Hw.stage4 (h : Hw) (fails : Nat) : Hw :=
  let h := Num.forEach 8 (fun d acc => acc.wr (DIE_STATE.DIE d) 1) h
  Num.forEach 8 (fun d acc => if fails.testBit d then acc.startRefused d
    else if 2 ≤ d && d ≤ 5 && acc.bit FENCE_UNIT.REGION (d - 2) then acc.wr (DIE_STATE.DIE d) 2 else acc) h

/-- Stage 5: the lockstep comparators are tested (R464). -/
def Hw.stage5 (h : Hw) (group : Option Nat) : Hw :=
  match group with
  | none => h.wr LS_STATUS.SELFTEST 1
  | some g => ((h.wr LS_STATUS.SELFTEST 2).wr LS_STATUS.FAILED_GROUP g).chipFaultSet 0x06

/-- The long start test (R63, R565, R567, Table 21-1): volatile keys are cleared under seal, then every failing unit takes its consequence. -/
def Hw.longTest (h : Hw) (env : StartEnv) : Hw :=
  let h := (h.wrB START_STATUS.LONG_TEST_RAN true).sealStore.wrB KS_STATE.SEALED false
  let bad := (List.range 8).filter (fun d => env.longLogic.testBit d || (2 ≤ d && d ≤ 6 && env.longAnalog.testBit d))
  let fails := bad.foldl (fun v d => v + 2 ^ d) 0
  let h := (h.wr ST_RESULT.FAILED_DIES fails).wr ST_RESULT.LAST_KIND 2
  let h := h.wr ST_RESULT.LAST_RESULT (if fails = 0 && env.longConv.isEmpty && !env.longRef then 1 else 2)
  let h := if [0, 1, 7].any (fun d => env.longLogic.testBit d) then h.chipFaultSet 0x06 else h
  let h := Num.forEach 4 (fun r acc => if bad.contains (r + 2) then acc.fenceRegion r 6 else acc) h
  let h := if env.longLogic.testBit 6 || env.longRef then h.referenceFails else h
  env.longConv.foldl (fun (acc : Hw) n => acc.convFails n.val) h

/-- Whether zone 0 or zone 6 is at shutdown, so that a start waits before stage 7 (R423). -/
def Hw.startHot (h : Hw) : Bool := h.rd (THERM_STATUS.LEVEL 0) == 3 || h.rd (THERM_STATUS.LEVEL 6) == 3

/-- The window's read frame takes the header's flash fields (R526). -/
def Hw.xipFromHeader (h : Hw) (b : List Byte) : Hw :=
  let mode := bsU8 b 0x19
  let h := ((h.wr SPI_XIP_CFG.CMD (bsU8 b 0x18)).wr SPI_XIP_CFG.DIV (bsU8 b 0x1B)).wr SPI_XIP_CFG.DUMMY (bsU8 b 0x1A)
  let h := ((h.wr SPI_XIP_CFG.ADDR4 (mode / 16 % 2)).wr SPI_XIP_CFG.CMD_LANES (mode / 4 % 4)).wr SPI_XIP_CFG.LANES (mode % 4)
  (h.wrB SPI_XIP_CFG.OMIT false).wr SPI_XIP_CFG.SEL 0

/-- The probe of external flash: the 32 header bytes, one lane at 12.5 MHz (R93). -/
def flashProbe : FlashRead := { sel := 0, cmd := 0x03, addr := 0, mode := 0, dummy := 0, div := 7, count := 32 }

/-- The read of the rest of the file, by the flash fields of its header (R93, Table 3-1). -/
def flashBody (b : List Byte) : FlashRead :=
  { sel := 0, cmd := bsU8 b 0x18, addr := 32, mode := bsU8 b 0x19, dummy := bsU8 b 0x1A, div := bsU8 b 0x1B,
    count := bsTotal b - 32 }

/-- A read of flash is made. -/
def Hw.flashRead (h : Hw) (r : FlashRead) : Hw := h.updSerial (fun s => { s with flashReads := s.flashReads ++ [r] })

/-- The part waits for a host: the serial port becomes a slave (R93, R514). -/
def Hw.waitsForHost (h : Hw) : Hw := ((h.setReg BS_STATUS 0).wr BS_STATUS.STATE 1).spiToSlave

/-- Stage 7: external flash is probed and read, or the part waits for a host; CAN channel 0 runs at its default bit rates until a PLATFORM
starts the controllers (R93, R96, R514). -/
def Hw.stage7 (h : Hw) (env : StartEnv) : Hw :=
  let h := { h with power := .running, env := none, startMs := env.millis }
  let h := (h.flashRead flashProbe).wr (CAN_STATUS.STATE 0) 3
  match env.flash with
  | some b =>
    if bsProbe b then
      let f := b.take (bsTotal b)
      let h := { (h.flashRead (flashBody b)).xipFromHeader b with load := { bytes := f, reqKey := 18 } }
      ((h.setReg BS_STATUS 0).wr BS_STATUS.STATE 3).wr BS_BYTES.COUNT f.length
    else h.waitsForHost
  | none => h.waitsForHost

/-- A start goes on with stage 7 once zones 0 and 6 are below shutdown (R422, R423). -/
def Hw.startGoesOn (h : Hw) : Hw :=
  match h.power, h.env with
  | .starting, some e => if h.startHot then h else h.stage7 e
  | _, _ => h

/-- Stages 3 to 7 with the clocks running (Table 2-4); a warm restart leaves out stages 3 and 6 (R65). -/
def Mach.startStages (m : Mach) (env : StartEnv) : Mach :=
  let warm := m.hw.rd START_STATUS.START_KIND == 1
  let m := m.onHw (fun h =>
    let h := { h with power := .starting, env := some env, stepCount := 0, phase := 0, opRun := h.opRun || !warm }
    let h := ((h.wrB CLK_STATUS.XTAL_OK true).wrB CLK_STATUS.PLL_LOCK true).wrB MEAS_REF_STATUS.INT_REF_OK true
    let h := ((h.wrB SAFE_PIN_STATUS.STO_A env.stoA).wrB SAFE_PIN_STATUS.STO_B env.stoB).syncSto
    h.thermStart env.temps)
  let m := if warm then m else m.stage3
  m.onHw (fun h =>
    let h := Num.forEach 16 (fun p acc => acc.creditInit p) h
    let h := { (h.stage4 (h.authFails env.auth)).stage5 env.groupFail with fresh := h.fresh + 1 }
    let h := if warm || h.on START_STATUS.CREDIT_USED then h else h.longTest env
    h.startGoesOn)

/-- PLL_LOCK: the root reference has become valid and the start continues (R56, R61). -/
def Mach.pllLock (m : Mach) : Mach :=
  match m.hw.power, m.hw.env with
  | .waitPll, some e => m.startStages e
  | _, _ => m

/-- An event of supplies and wake that acts in every phase. -/
def State.onAny (s : State) (f : Mach → Mach) : Host.Outcome State Fault Refusal :=
  .next { s with mem := (f ⟨s.mem, s.hw⟩).mem, hw := (f ⟨s.mem, s.hw⟩).hw }

/-- PLL_LOCK (R56, R61). -/
def execPllLock (s : State) := s.onAny Mach.pllLock

/-- Supply-good, or a restart that waits for what the dies show it: the start runs if the root reference is valid, else it waits (R61). -/
def Mach.startWith (m : Mach) (env : StartEnv) : Mach :=
  if env.rootValid then m.startStages env else m.onHw (fun h => { h with power := .waitPll, env := some env })

/-- COLD_START: at supply-good after a wake the dies leave reset (R45, R53, R62). A warm restart that a register write has begun goes on
here with what the dies and the outside show it. -/
def Mach.coldStart (m : Mach) (env : StartEnv) : Mach :=
  match m.hw.power, m.hw.env with
  | .waitSupply, _ =>
    (m.coldReset .waitPll).onHw (fun h => h.setReg SUPPLY_STATUS 31) |>.startWith env
  | .waitPll, none => m.startWith env
  | .starting, none => m.startStages env
  | _, _ => m

/-- COLD_START (R16, R45 to R47, R53, R59, R61 to R64, R70, R73, R93, R423, R464). -/
def execColdStart (env : StartEnv) (s : State) := s.onAny (fun m => m.coldStart env)

-- ## Wake, and the always-on domain (R49 to R53)

/-- A wake event with its source: the part leaves standby; during a shutdown it is remembered, and it ends a shutdown test (R53, R68). -/
def Hw.wakeFrom (h : Hw) (src can : Nat) : Hw :=
  ({ h with power := .waitSupply, inh := true } |>.wr START_STATUS.WAKE_SRC src).wr START_STATUS.WAKE_CAN can

/-- A shutdown that a wake event has met ends in a cold start, with INH high (R68). -/
def Mach.shutWakes (m : Mach) : Mach :=
  let can := m.hw.wakeCan
  (m.coldReset .waitSupply).onHw (fun h => h.wakeFrom 3 can)

/-- The result of the shutdown test completes the record (R66, R567). -/
def Mach.testResult (m : Mach) (res : Nat) : Mach :=
  (m.onHw (fun h =>
    ((h.wrB KS_STATE.SEALED false).keepStore 0x18
      (Num.bytesLE 4 (h.rd POWER_CYCLES.COUNT) ++ Num.bytesLE 4 (h.rd OP_SECONDS.SECONDS))).keepStore 0x20 (BitVec.ofNat 8 res :: List.replicate 7 0))).keepFlush

/-- A wake event of a source. -/
def Mach.wake (m : Mach) (src can : Nat) : Mach :=
  let late := m.onHw (fun h => { h with wakeShut := true, wakeCan := h.wakeCan ||| can })
  match m.hw.power with
  | .standby => m.onHw (fun h => h.wakeFrom src can)
  | .shutPending | .shutStopping | .shutDischarge => late
  | .shutTest => (late.testResult 3).shutWakes
  | .shutDone => late.shutWakes
  | _ => m

/-- Whether the pin WAKE is at its inactive level, which WAKE_EDGE selects (R52). -/
def Hw.wakeInactive (h : Hw) : Bool := h.wakePin == h.on WAKE_CFG.WAKE_EDGE

/-- WAKE_PIN_EDGE: the pin leaves a level that it has held and holds the other one. An edge from the inactive level to the active one is valid,
and a wake event (R52, R53, R68; the level at reset: DESIGN CHOICE, log entry 77). -/
def Mach.wakeEdge (m : Mach) : Mach :=
  let n := m.onHw (fun h => { h with wakePin := !h.wakePin })
  if m.hw.wakeInactive then n.wake 1 0 else n

/-- WAKE_PIN_EDGE (R52, R53, R68). -/
def execWakePinEdge (s : State) := s.onAny Mach.wakeEdge

/-- CAN_WAKE_UP_PATTERN: on a channel whose CAN_WAKE_EN bit is set (R52, R53, R68). -/
def execCanWakeUpPattern (n : ChanId) (s : State) :=
  s.onAny (fun m => if m.hw.bit WAKE_CFG.CAN_WAKE_EN n.val then m.wake 2 (2 ^ n.val) else m)

/-- POWER_ON: VSUP rises through 3.0 V (R52, R53). -/
def execPowerOn (s : State) := s.onAny (fun m => if m.hw.power = .off then m.onHw (fun h => h.wakeFrom 0 0) else m)

/-- AON_RESET: below 3.0 V the always-on domain resets, and nothing runs (R51); what power failure leaves of running page writes stands. -/
def Mach.aonReset (m : Mach) : Mach :=
  let m := if m.hw.live then m.keepCut else m
  ((m.onHw (fun h => h.setReg CHIP_FAULT 0)).coldReset .off).onHw (fun h =>
    { ([WAKE_CFG, SHUTDOWN_CFG, START_STATUS, OP_SECONDS, POWER_CYCLES].foldl (fun (acc : Hw) r => acc.setReg r r.reset) h) with inh := false })

/-- AON_RESET (R51). -/
def execAonReset (s : State) := s.onAny Mach.aonReset

-- ## Faults of supplies and clocks

/-- Power-fail handling (R69): every cell goes to its safe state as for any chip fault; where the write completes, OP_SECONDS and the
marker are in keep memory. Before the PLL has locked at a cold start there is nothing to write; a start that waits for the PLL goes on waiting. -/
def Mach.powerFail (m : Mach) (saved : Bool) : Mach :=
  let writes := saved && m.hw.opRun
  let m := m.onHw (fun h => h.chipFaultSet 0x05)
  let m := m.onHw (fun h => { (if h.power = .shutTest then h.wrB KS_STATE.SEALED false else h) with
                              power := if h.live then .powerFail else h.power, opRun := false, wakeShut := false })
  if writes then
    (m.onHw (fun h => (h.keepStore 0 h.secondsWord).keepStore 0x28
      (Num.bytesLE 4 (h.rd POWER_CYCLES.COUNT) ++ Num.bytesLE 4 (h.rd OP_SECONDS.SECONDS)))).keepFlush
  else m

/-- The SUPPLY_STATUS bit of each supply that R48 watches. -/
def supplyBit (i : Nat) : Fld :=
  match i with
  | 0 => SUPPLY_STATUS.VCORE_OK | 1 => SUPPLY_STATUS.VCORE_L_OK | 2 => SUPPLY_STATUS.VIO_OK | _ => SUPPLY_STATUS.VANA_OK

/-- The dies' inputs of the comparators change: every block's comparator outputs and trip inputs are brought in line (R242). -/
def Hw.refreshAll (h : Hw) : Hw := Num.forEach 8 (fun k acc => acc.refreshTrips k) h

/-- The steps in which a supply is in range again: 1 ms (R45). -/
def rangeSteps : Nat := 800

/-- A supply has been below its range. The event names no end of the dip: the supply counts as back with the event, so that it is in range
again 1 ms later unless it dips anew (DESIGN CHOICE, log entry 71). -/
def Hw.supplyLow (h : Hw) (f : Fld) : Hw :=
  { h.wrB f false with supplyBack := h.supplyBack.filter (fun (e : Nat × Nat) => e.1 != f.lo) ++ [(f.lo, rangeSteps)] }.refreshAll

/-- A step passes for the supplies that were low: those that have stayed above their limit for 1 ms are in range (R45). -/
def Hw.suppliesBack (h : Hw) : Hw :=
  if h.supplyBack.isEmpty then h
  else
    let due := h.supplyBack.filter (fun (e : Nat × Nat) => decide (e.2 ≤ 1))
    let h := { h with supplyBack := (h.supplyBack.filter (fun (e : Nat × Nat) => decide (1 < e.2))).map (fun (e : Nat × Nat) => (e.1, e.2 - 1)) }
    if due.isEmpty then h else (due.foldl (fun (acc : Hw) (e : Nat × Nat) => acc.wrB ⟨SUPPLY_STATUS, e.1, e.1⟩ true) h).refreshAll

/-- In operation: the dies run, or a warm restart relocks the PLL (R65, R71). -/
def Hw.operating (h : Hw) : Bool := h.live || (h.power == .waitPll && h.opRun)

/-- SUPPLY_DIP: VCORE, VCORE_L, VIO or VANA has left its range for more than 2 µs in operation (R48). The write of R69 needs VIO and VCORE_L
in range, so it does not complete where one of them is the supply that dips. -/
def execSupplyDip (supply : Fin 4) (saved : Bool) (s : State) :=
  s.onAny (fun m => if m.hw.operating then
      (m.onHw (fun h => h.supplyLow (supplyBit supply.val))).powerFail (saved && supply.val != 1 && supply.val != 2)
    else m)

/-- VSUP_LOW: VSUP has been below 4.0 V for more than 10 µs, once the dies have left reset (R49, R69). -/
def execVsupLow (saved : Bool) (s : State) :=
  s.onAny (fun m => if m.hw.live || m.hw.power = .waitPll then
      (m.onHw (fun h => h.supplyLow SUPPLY_STATUS.VSUP_OK)).powerFail saved
    else m)

/-- CLOCK_MONITOR_FAULT: the reaction of Table 2-3. -/
def Hw.clockFault (h : Hw) (d : Nat) : Hw :=
  let h := ((h.wrBit CLK_STATUS.MON_FAULT d true).setDie d { h.die d with clockBad := true }).refreshAll
  match d with
  | 0 | 1 => h.chipFaultSet 0x02
  | 6 => h.measClockLost.d6Invalid 0x20 true
  | 7 => h.chipFaultSet 0x03
  | _ => h.fenceRegion (d - 2) 0x03

/-- CLOCK_MONITOR_FAULT (R60). -/
def execClockMonitorFault (d : DieId) (s : State) := s.onLive (fun h => h.clockFault d.val)

/-- CLOCK_MONITOR_CLEARED: no fault for 10 ms, so the region's cause clears (Table 1-12). -/
def execClockMonitorCleared (r : RegionId) (s : State) :=
  s.onLive (fun h => ((h.setDie (r.val + 2) { h.die (r.val + 2) with clockBad := false }).refreshAll).clearRegionCause r.val 0x03)

-- ## Warm restart (R65)

/-- A warm restart begins: the dies are reset with every cell in its safe state, the count goes up, and the PLL relocks only after a root
clock fault. `edge` where an edge on SRESET_N triggered it (R436). -/
def Mach.warmRestart (m : Mach) (edge : Bool) : Mach :=
  let relock := (m.hw.die 0).clockBad || (m.hw.die 1).clockBad
  m.onHw (fun h =>
    let n := (h.chipReset true).incTop WARM_RESTARTS.COUNT
    let n := n.setReg START_STATUS (Bits.set (Bits.set 0 3 2 (h.rd START_STATUS.WAKE_SRC)) 11 8 (h.rd START_STATUS.WAKE_CAN))
    let n := (n.wr START_STATUS.START_KIND 1).setReg CLK_STATUS (if relock then 0 else 3)
    { n with power := if relock then .waitPll else .starting, env := none, stepCount := 0, phase := 0,
             edgeRelease := if edge then h.rd SAFE_RESET_CFG.PARTS else 0 })

/-- A warm restart with what the dies show it. -/
def Mach.warmWith (m : Mach) (edge : Bool) (env : StartEnv) : Mach := (m.warmRestart edge).coldStart env

/-- A shutdown is in progress (R66). -/
def Hw.shutting (h : Hw) : Bool :=
  match h.power with
  | .shutPending | .shutStopping | .shutDischarge | .shutTest | .shutDone => true
  | _ => false

/-- SRESET_EDGE: an accepted edge (R435 to R437, Table 16-7). -/
def Mach.sresetEdge (m : Mach) (env : StartEnv) : Mach :=
  if m.hw.shutting then m.onHw (fun h => h.incTop SAFE_RESET_COUNT.REJECTED)
  else if m.hw.chipFault then (m.onHw (fun h => h.incTop SAFE_RESET_COUNT.ACCEPTED)).warmWith true env
  else m.onHw Hw.releaseEdge

/-- SRESET_EDGE (R25, R65, R93, R422, R435 to R437, R454, R464). -/
def execSresetEdge (env : StartEnv) (s : State) := s.onMach (fun m => m.sresetEdge env)

-- ## Orderly shutdown (R66 to R68)

/-- A shutdown begins; stage 1 follows at the next frame boundary. A further one has no effect. -/
def Hw.beginShutdown (h : Hw) : Hw := if h.power = .running then { h with power := .shutPending, wakeShut := false, wakeCan := 0 } else h

/-- AUTO_SHUTDOWN: WAKE has been inactive for OFF_DELAY (R66). -/
def execAutoShutdown (s : State) :=
  s.onLive (fun h => if h.on WAKE_CFG.AUTO_SHUTDOWN && h.wakeInactive then h.beginShutdown else h)

/-- The threads of block k that run are halted. -/
def Hw.haltThreads (h : Hw) (k : Nat) : Hw :=
  Num.forEach 8 (fun t acc =>
    let st := acc.rd (BLK_SEQ_STATE.THREAD k t)
    if 1 ≤ st && st ≤ 3 then
      (acc.setThread k t { acc.thread k t with stall := .none, stopReq := false }).wr (BLK_SEQ_STATE.THREAD k t) 4
    else acc) h

/-- Stage 1, at a frame boundary: every cell is held off, trios coast, sequencers halt, and a load is discarded (R66, R68, R333, R358). -/
def Hw.shutStage1 (h : Hw) : Hw :=
  if h.power ≠ .shutPending then h
  else
    let h := (Num.forEach 48 (fun c acc => (acc.dropReentry c).dropSet c) h)
    let h := Num.forEach 8 (fun k acc => acc.dropReturn k) h
    let h := (Num.forEach 8 (fun k acc => acc.haltThreads k) h).coastAll
    let h := if h.loadBusy then h.loadAbort else h
    ({ h with power := .shutStopping }).applyHolds

/-- Whether every trio with a speed source reports a speed below its stop threshold (R66). -/
def Hw.allStopped (h : Hw) : Bool :=
  (List.range 16).all (fun t => (h.trioCells t).isEmpty || h.rd (BLK_TRIO_MOTION_CFG.SPEED_SRC (t / 2) (t % 2)) == 0 || h.belowStop t)

/-- Stage 4: the recorders, OP_SECONDS and the first part of the shutdown record go to keep memory (R66, R72, R556); then the shutdown
test, unless it is disabled, a wake event has come or a chip fault holds (R68, R564, R565). -/
def Mach.shutSave (m : Mach) : Mach :=
  let m := Num.forEach 16 (fun p acc => acc.recUpdate p) m
  let m := (m.onHw (fun h => (h.keepStore 0 h.secondsWord).keepStore 0x10
    (Num.bytesLE 4 (h.rd POWER_CYCLES.COUNT) ++ Num.bytesLE 4 (h.rd OP_SECONDS.SECONDS)))).keepFlush
  if m.hw.on ST_CFG.SHUTDOWN_EN && !m.hw.wakeShut && !m.hw.chipFault then
    m.onHw (fun h => { h.sealStore with power := .shutTest })
  else
    let m := (m.onHw (fun h => h.keepStore 0x20 (4 :: List.replicate 7 0))).keepFlush
    if m.hw.wakeShut then m.shutWakes else m.onHw (fun h => { h with power := .shutDone })

/-- Stage 3 where DISCHARGE is set, else stage 4. -/
def Mach.shutStopped (m : Mach) : Mach :=
  if m.hw.on SHUTDOWN_CFG.DISCHARGE then m.onHw (fun h => { h.startDischarge with power := .shutDischarge }) else m.shutSave

/-- SHUTDOWN_STOPPED: the end of stage 2 (R66). -/
def execShutdownStopped (s : State) :=
  s.onMach (fun m => if m.hw.power = .shutStopping && m.hw.allStopped then m.shutStopped else m)

/-- STOP_TIMEOUT: the end of stage 2 by its time limit (R66). -/
def execStopTimeout (s : State) := s.onMach (fun m => if m.hw.power = .shutStopping then m.shutStopped else m)

/-- A shutdown whose discharge has ended goes on with stage 4 (R192). -/
def Mach.afterDischarge (m : Mach) : Mach := if m.hw.power = .shutDischarge && !m.hw.discharging then m.shutSave else m

/-- DISCHARGE_DONE: the link voltage is at or below TARGET (R192). -/
def Mach.dischargeDone (m : Mach) : Mach :=
  if m.hw.discharging && decide (m.hw.linkMax * 128 ≤ (m.hw.rd DSCH_CFG.TARGET : Int) * 32768) then
    (m.onHw (fun h => h.endDischarge 3)).afterDischarge
  else m

/-- DISCHARGE_DONE (R192). -/
def execDischargeDone (s : State) := s.onMach Mach.dischargeDone

/-- DISCHARGE_TIMEOUT: LIMIT has passed first; safety cause at unit 63 (R192). -/
def Mach.dischargeTimeout (m : Mach) : Mach :=
  if m.hw.discharging then (m.onHw (fun h => (h.endDischarge 4).record (faultCode 7 63 0x30))).afterDischarge else m

/-- DISCHARGE_TIMEOUT (R192). -/
def execDischargeTimeout (s : State) := s.onMach Mach.dischargeTimeout

/-- SHUTDOWN_TEST_END: the end of stage 5; a chip fault during the test leaves it ABORTED (R66, R68, R567). -/
def Mach.shutTestEnd (m : Mach) (passed : Bool) : Mach :=
  if m.hw.power = .shutTest then
    (m.testResult (if m.hw.chipFault then 3 else if passed then 1 else 2)).onHw (fun h => { h with power := .shutDone })
  else m

/-- SHUTDOWN_TEST_END (R66, R567). -/
def execShutdownTestEnd (passed : Bool) (s : State) := s.onMach (fun m => m.shutTestEnd passed)

/-- ENTER_STANDBY: stage 6, INH low (R53, R66). -/
def execEnterStandby (s : State) :=
  s.onMach (fun m => if m.hw.power = .shutDone then (m.coldReset .standby).onHw (fun h => { h with inh := false }) else m)

-- ## POWER_CMD (R75)

/-- A POWER_CMD write: its refusal, or the shutdown or restart it begins. -/
def Mach.powerCmdWrite (m : Mach) (v : Word) : Status × Mach :=
  if Bits.get v 31 16 ≠ 0x5A17 ∨ (v.getLsbD 0 ∧ v.getLsbD 1) then (.range, m)
  else if v.getLsbD 1 then
    if m.hw.chipFault then (.fenced, m)
    else if m.hw.shutting then (.range, m)
    else (.ok, m.warmRestart false)
  else if v.getLsbD 0 then (.ok, m.onHw Hw.beginShutdown)
  else (.ok, m)

end Sys2Proof.Machine
end

