-- ==== Sys2Proof/Machine/Access.lean ====
section
/-!
DEFINITION. One access: a read or a write of an aligned word by a requester, from the Turnstile's checks through the target's own conditions
to its effect (R104 to R108, and the registers' own rules). Every register-write command and every LOAD and STORE goes through it.
-/
namespace Sys2Proof.Machine

-- ## The order of refusals (R13, R105)

/-- The place of a status in the order of R105; an earlier refusal answers. -/
def Status.rank : Status → Nat
  | .auth => 0 | .staleEpoch => 1 | .busy => 2 | .owner => 3 | .fenced => 4 | .range => 5 | .locked => 6 | .notReady => 7
  | .tempBlocked => 8 | .halfCleared => 9 | .ok => 10

/-- The earlier of two statuses. -/
def Status.first (a b : Status) : Status := if b.rank < a.rank then b else a

/-- What the checks ahead of a unit answer: the first refusal of the Turnstile, of the fields' ranges and locks, or OK. -/
def Hw.preStatus (h : Hw) (q : Requester) (addr : Nat) (v : Word) : Status :=
  let a := addr / 4 * 4
  let t := h.turnstile q addr true v
  match t.1 with
  | some st => st
  | none =>
    let late := t.2.getD .ok
    match regHit a with
    | none => late
    | some x =>
      let old := h.reg (x.id a)
      let fit := if x.row.outOfRange old v then Status.range else .ok
      let lock := match h.governs (h.partOf q) (targetOf a) true v with
        | some g => if x.row.changesLocked old v && h.rd (PART_RUN.STATE g) == 1 then Status.locked else .ok
        | none => .ok
      (late.first fit).first lock

-- ## Writes

/-- A write of a register inside its unit; those of the load machine, of power commands and of keep memory act on more than the dies'
registers. -/
def Mach.unitStore (m : Mach) (q : Requester) (x : RegHit) (a : Nat) (v : Word) : Status × Mach :=
  match x.row.hook with
  | .bsCtrl => m.bsCtrlWrite q v
  | .bsPort => let r := m.hw.bsPortWrite q v; (r.1, ⟨m.mem, r.2⟩)
  | .powerCmd => m.powerCmdWrite v
  | .keepCtrl => m.keepCtrlWrite (x.ix 0) v
  | .dschCtrl => let r := m.hw.registerWrite q x a v; (r.1, (Mach.mk m.mem r.2).afterDischarge)
  | _ => let r := m.hw.registerWrite q x a v; (r.1, ⟨m.mem, r.2⟩)

/-- Whether a key-store offset is one of the byte strings that hosts write (Table 4-9). -/
def ksWritable (off : Nat) : Bool :=
  (decide (0x100 ≤ off) && decide (off < 0x180)) || (decide (0x1000 ≤ off) && decide (0xC0 ≤ off % 0x200) && decide (off % 0x200 < 0x140))

/-- A write outside the registers: key-store strings (R132), the frame buffer (R523), a capture area, and keep memory (R542). -/
def Mach.memStore (m : Mach) (q : Requester) (a : Nat) (v : Word) : Status × Mach :=
  match targetOf a with
  | .keyStore off => (.ok, if ksWritable off then m.onHw (fun h => h.setReg (ksWord off) v) else m)
  | .frameBuf => if m.hw.frameBusy then (.notReady, m) else (.ok, ⟨m.mem.setWord a v, m.hw⟩)
  | .capture _ | .lanes _ => (.ok, ⟨m.mem.setWord a v, m.hw⟩)
  | .keep _ =>
    let key := m.hw.copyKey q
    if a % 8 = 0 then (.ok, m.onHw (fun h => h.keepLower key a v)) else m.keepUpper key a v
  | .code _ => (.locked, m)
  | _ => (.range, m)

/-- A word that is written whole is good again (R571). -/
def Hw.ramWritten (h : Hw) (a : Nat) : Hw := { h with ramBad := h.ramBad.filter (fun b => b != a) }

/-- A write of an aligned word: its status, and the part after it. A refused write changes only its requester's record (R108), but for
what the unit itself records of a refusal. -/
def Mach.busWrite (m : Mach) (q : Requester) (addr : Nat) (v : Word) : Status × Mach :=
  let a := addr / 4 * 4
  let pre := m.hw.preStatus q addr v
  let u := match regHit a with
    | some x => m.unitStore q x a v
    | none => m.memStore q a v
  if pre ≠ .ok && pre.rank ≤ u.1.rank then (pre, m.onHw (fun h => h.refused q pre addr))
  else if u.1 = .ok then (.ok, u.2.onHw (fun h => h.ramWritten a))
  else (u.1, u.2.onHw (fun h => h.refused q u.1 addr))

-- ## Reads

/-- The registers that a read of another one copies for its requester, by the base of the register read (R57, R246, R261, R389, R411). -/
def copiedBy (x : RegHit) : List RegId :=
  let b := x.row.base
  if b = (LEG_SAMPLE_I 0).addr then [LEG_SAMPLE_V x.leg, LEG_SAMPLE_STATUS x.leg]
  else if b = (MEAS_CH_V 0).addr then [MEAS_CH_I (x.ix 0), MEAS_CH_STAMP (x.ix 0), MEAS_CH_FLAGS (x.ix 0)]
  else if b = (POS_POSITION 0).addr then [POS_SPEED (x.ix 0), POS_STATUS (x.ix 0), POS_EDGE_STEP (x.ix 0)]
  else if b = (LEG_ACC_CHARGE_LO 0).addr then
    [LEG_ACC_CHARGE_HI x.leg, LEG_ACC_ENERGY_LO x.leg, LEG_ACC_ENERGY_HI x.leg, LEG_ACC_PHASE_LO x.leg, LEG_ACC_PHASE_HI x.leg,
      LEG_ACC_EST_CYCLES x.leg, LEG_ACC_LAST x.leg]
  else []

/-- Whether a read of a register returns its requester's copy. -/
def isCopied (x : RegHit) : Bool :=
  [TB_STEP_HI.addr, TB_PHASE.addr, (LEG_SAMPLE_V 0).addr, (LEG_SAMPLE_STATUS 0).addr, (MEAS_CH_I 0).addr, (MEAS_CH_STAMP 0).addr,
    (MEAS_CH_FLAGS 0).addr, (POS_SPEED 0).addr, (POS_STATUS 0).addr, (POS_EDGE_STEP 0).addr, (LEG_ACC_CHARGE_HI 0).addr,
    (LEG_ACC_ENERGY_LO 0).addr, (LEG_ACC_ENERGY_HI 0).addr, (LEG_ACC_PHASE_LO 0).addr, (LEG_ACC_PHASE_HI 0).addr,
    (LEG_ACC_EST_CYCLES 0).addr, (LEG_ACC_LAST 0).addr].contains x.row.base

/-- The value of a register for a reader; a safety-command input shows the command in force (R279, R304), and the part after the read. -/
def Hw.readReg (h : Hw) (q : Requester) (x : RegHit) (a : Nat) : Word × Hw :=
  let key := h.copyKey q
  if a = TB_STEP_LO.addr then
    (BitVec.ofNat 32 h.stepCount, h.copyRegs key [(TB_STEP_HI, BitVec.ofNat 32 (h.stepCount / 2 ^ 32)), (TB_PHASE, BitVec.ofNat 32 h.phase)])
  else if isCopied x then (h.copyOf key a (x.resetOf a), h)
  else if x.row.hook = .seqFlagsClr then (h.reg (BLK_SEQ_FLAGS (x.ix 0)), h)
  else if x.row.base = (BLK_INPUT_VALUE 0 0).addr && decide (120 ≤ x.ix 2) then
    (BitVec.ofNat 32 ((h.block x.blk).safeIns.getD (x.ix 2 - 120) 3), h)
  else if x.row.base = (BLK_SIG 0 0).addr then (BitVec.ofNat 32 (h.sigAtEnd x.blk (x.ix 2)), h)
  else (h.reg (x.id a), h.copyRegs key ((copiedBy x).map (fun r => (r, h.reg r))))

/-- The word of block k's code area at an address (R147). -/
def Hw.codeWord (h : Hw) (k a : Nat) : Word :=
  match (h.block k).seq with
  | some s => s.code.getD ((a - codeBase k) / 4) 0
  | none => 0

/-- A read outside the registers and the direct-execution window. -/
def Mach.memLoad (m : Mach) (q : Requester) (a ecc : Nat) : Status × Word × Mach :=
  if m.hw.ramBad.contains a then (.range, 0, m)
  else match targetOf a with
    | .code k => (.ok, m.hw.codeWord k a, m)
    | .legSram => (.ok, BitVec.ofNat 32 (Config.freeNat m.hw.fresh), m.onHw (fun h => { h with fresh := h.fresh + 1 }))
    | .keyStore off => (.ok, if ksWritable off then 0 else m.hw.reg (ksWord off), m)
    | .sectorZero | .keep _ => m.keepRead (m.hw.copyKey q) a ecc
    | .frameBuf | .capture _ | .lanes _ | .areaSram _ => (.ok, m.mem.word a, m)
    | _ => (.range, 0, m)

/-- A refused read carries no data (R11, R108). -/
def Mach.readRefused (m : Mach) (q : Requester) (st : Status) (addr : Nat) : Option (Status × Word) × Mach :=
  (some (st, 0), m.onHw (fun h => h.refused q st addr))

/-- A read of an aligned word by a requester that waits as `who` in the direct-execution window; none while it waits there. -/
def Mach.busRead (m : Mach) (q : Requester) (who addr ecc : Nat) : Option (Status × Word) × Mach :=
  let a := addr / 4 * 4
  let t := m.hw.turnstile q addr false 0
  match t.1, t.2 with
  | some st, _ => m.readRefused q st addr
  | none, some st => m.readRefused q st addr
  | none, none =>
    match regHit a with
    | some x => let r := m.hw.readReg q x a; (some (.ok, r.1), ⟨m.mem, r.2⟩)
    | none =>
      if targetOf a = .xip then
        match m.hw.xipRead who (a - 0x60000000) with
        | (some (st, w), h) => if st = .ok then (some (.ok, w), ⟨m.mem, h⟩) else (Mach.mk m.mem h).readRefused q st addr
        | (none, h) => (none, ⟨m.mem, h⟩)
      else
        let r := m.memLoad q a ecc
        if r.1 = .ok then (some (.ok, r.2.1), r.2.2) else r.2.2.readRefused q r.1 addr

-- ## Commands that are one access

/-- Whether a write has begun a restart, so that nothing of the access that made it remains (R65). -/
def Hw.restarted (h : Hw) : Bool :=
  match h.power with
  | .waitPll => true
  | .starting => h.env.isNone
  | _ => false

/-- Before the PLL has locked every host transaction is answered NOT_READY (R61); without supplies nothing answers. -/
def State.onBus (s : State) (q : Requester) (f : Mach → Mach) : Host.Outcome State Fault Refusal :=
  match s.hw.power, q with
  | .waitPll, .host _ | .waitPll, .unauth _ => .next { s with hw := s.hw.answer .notReady 0 }
  | _, _ => s.onMach f

/-- A write and its answer. -/
def Mach.write (m : Mach) (q : Requester) (addr : Nat) (v : Word) : Mach :=
  let r := m.busWrite q addr v
  r.2.onHw (fun h => h.answer r.1 0)

/-- A read and its answer; one that waits in the direct-execution window is answered when its word arrives. -/
def Mach.read (m : Mach) (q : Requester) (addr ecc : Nat) : Mach :=
  match m.busRead q (whoRead q) addr ecc with
  | (some (st, w), m) => m.onHw (fun h => h.answer st w)
  | (none, m) => m

/-- A command that is one register write. -/
def State.regWrite (s : State) (q : Requester) (r : RegId) (v : Word) : Host.Outcome State Fault Refusal :=
  s.onBus q (fun m => m.write q r.addr v)

/-- A command that is one register read. -/
def State.regRead (s : State) (q : Requester) (r : RegId) : Host.Outcome State Fault Refusal :=
  s.onBus q (fun m => m.read q r.addr 0)

end Sys2Proof.Machine
end

