-- ==== Sys2Proof/Machine/Seq.lean ====
section
/-!
DEFINITION. The instructions of the block sequencers (R140 to R160, Table 5-5). A command names a block and a thread; it executes the word at
the thread's PC where that thread issues next and the word is valid and has the command's opcode.
-/
namespace Sys2Proof.Machine

-- ## Issue (R140, R145)

/-- The thread of block k that issues next: the first READY one after the thread that issued last (R140). -/
def Hw.nextReady (h : Hw) (k : Nat) : Option Nat :=
  ((List.range 8).map (fun i => ((h.block k).lastThread + 1 + i) % 8)).find? (fun t => h.threadState k t == 1)

/-- The word at the PC of thread t: fetched from the window, or that of the code area. -/
def Hw.wordAt (h : Hw) (k t : Nat) : Option Word :=
  if h.threadPc k t < 0x60000000 then some (h.codeWord k (h.threadPc k t)) else (h.thread k t).fetched

/-- The word that thread t issues now, if it is the one to issue. -/
def Hw.issues (h : Hw) (k t : Nat) : Option Word :=
  if h.blockActive k && !h.paused k && h.nextReady k == some t then h.wordAt k t else none

/-- Thread t issues a valid word of an opcode, with the effect `f`. -/
def Hw.issue (h : Hw) (k t op : Nat) (f : Word → Hw → Hw) : Hw :=
  match h.issues k t with
  | some w => if seqValid w && seqOp w == op then f w (h.updBlock k (fun b => { b with lastThread := t })) else h
  | none => h

/-- A result goes to G_D, and the thread goes on. -/
def Hw.result (h : Hw) (k t d : Nat) (v : Word) : Hw := (h.setGen k t d v).advance k t

/-- The values of the fields that name registers. -/
def Hw.gD (h : Hw) (k t : Nat) (w : Word) : Word := h.gen k t (seqD w)
def Hw.gA (h : Hw) (k t : Nat) (w : Word) : Word := h.gen k t (seqA w)
def Hw.gB (h : Hw) (k t : Nat) (w : Word) : Word := h.gen k t (seqB w)

-- ## Arithmetic (R141, R145)

/-- MOVI (R141, R145). -/
def execMovi (k : BlockId) (t : ThreadId) (s : State) :=
  s.onLive (fun h => h.issue k.val t.val 0x01 (fun w h => h.result k.val t.val (seqD w) (seqSext w)))

/-- MOVHI (R145). -/
def execMovhi (k : BlockId) (t : ThreadId) (s : State) :=
  s.onLive (fun h => h.issue k.val t.val 0x02 (fun w h =>
    h.result k.val t.val (seqD w) ((BitVec.ofNat 32 (seqImm w) <<< 16) ||| (h.gA k.val t.val w &&& 0x0000FFFF#32))))

/-- ADDI (R145). -/
def execAddi (k : BlockId) (t : ThreadId) (s : State) :=
  s.onLive (fun h => h.issue k.val t.val 0x03 (fun w h => h.result k.val t.val (seqD w) (h.gA k.val t.val w + seqSext w)))

/-- ADD (R141, R145). -/
def execAdd (k : BlockId) (t : ThreadId) (s : State) :=
  s.onLive (fun h => h.issue k.val t.val 0x04 (fun w h => h.result k.val t.val (seqD w) (h.gA k.val t.val w + h.gB k.val t.val w)))

/-- SUB (R141, R145). -/
def execSub (k : BlockId) (t : ThreadId) (s : State) :=
  s.onLive (fun h => h.issue k.val t.val 0x05 (fun w h => h.result k.val t.val (seqD w) (h.gA k.val t.val w - h.gB k.val t.val w)))

/-- AND (R145). -/
def execAnd (k : BlockId) (t : ThreadId) (s : State) :=
  s.onLive (fun h => h.issue k.val t.val 0x06 (fun w h => h.result k.val t.val (seqD w) (h.gA k.val t.val w &&& h.gB k.val t.val w)))

/-- OR (R145). -/
def execOr (k : BlockId) (t : ThreadId) (s : State) :=
  s.onLive (fun h => h.issue k.val t.val 0x07 (fun w h => h.result k.val t.val (seqD w) (h.gA k.val t.val w ||| h.gB k.val t.val w)))

/-- XOR (R145). -/
def execXor (k : BlockId) (t : ThreadId) (s : State) :=
  s.onLive (fun h => h.issue k.val t.val 0x08 (fun w h => h.result k.val t.val (seqD w) (h.gA k.val t.val w ^^^ h.gB k.val t.val w)))

/-- The three shifts of SHIFT, by IMM[6:5]. -/
def seqShift (v w : Word) : Word :=
  let n := Bits.get w 4 0
  match Bits.get w 6 5 with
  | 0 => v <<< n
  | 1 => v >>> n
  | _ => v.sshiftRight n

/-- SHIFT (R145). -/
def execShift (k : BlockId) (t : ThreadId) (s : State) :=
  s.onLive (fun h => h.issue k.val t.val 0x09 (fun w h => h.result k.val t.val (seqD w) (seqShift (h.gA k.val t.val w) w)))

-- ## Branches (R146, R156)

/-- The target of a branch from an address: 4 × sext(OFF) further (R145, R146). -/
def branchTo (from_ : Nat) (w : Word) : Nat := (BitVec.ofNat 32 from_ + 4#32 * seqSext w).toNat

/-- A conditional branch, with A in bits 25:22 and B in bits 21:18. -/
def Hw.branch (h : Hw) (k t : Nat) (w : Word) (taken : Word → Word → Bool) : Hw :=
  if taken (h.gD k t w) (h.gA k t w) then h.goto k t (branchTo (h.threadPc k t) w) else h.advance k t

/-- BEQ (R146, R156). -/
def execBeq (k : BlockId) (t : ThreadId) (s : State) :=
  s.onLive (fun h => h.issue k.val t.val 0x0A (fun w h => h.branch k.val t.val w (fun a b => a == b)))

/-- BNE (R146, R156). -/
def execBne (k : BlockId) (t : ThreadId) (s : State) :=
  s.onLive (fun h => h.issue k.val t.val 0x0B (fun w h => h.branch k.val t.val w (fun a b => a != b)))

/-- BLT (R146, R156). -/
def execBlt (k : BlockId) (t : ThreadId) (s : State) :=
  s.onLive (fun h => h.issue k.val t.val 0x0C (fun w h => h.branch k.val t.val w (fun a b => a.slt b)))

/-- BGE (R146, R156). -/
def execBge (k : BlockId) (t : ThreadId) (s : State) :=
  s.onLive (fun h => h.issue k.val t.val 0x0D (fun w h => h.branch k.val t.val w (fun a b => !a.slt b)))

/-- The address that JUMP and CALL count from: PC where A is 0. -/
def Hw.jumpBase (h : Hw) (k t : Nat) (w : Word) : Nat := if seqA w = 0 then h.threadPc k t else (h.gA k t w).toNat

/-- JUMP (R146, R156, R157). -/
def execJump (k : BlockId) (t : ThreadId) (s : State) :=
  s.onLive (fun h => h.issue k.val t.val 0x0E (fun w h => h.goto k.val t.val (branchTo (h.jumpBase k.val t.val w) w)))

/-- CALL: PC + 4 is pushed; a ninth entry faults the thread. -/
def Hw.call (h : Hw) (k t : Nat) (w : Word) : Hw :=
  if 8 ≤ (h.thread k t).stack.length then h.threadFault k t 0x0A (h.reg (BLK_SEQ_PC k t))
  else (h.updThread k t (fun x => { x with stack := (h.threadPc k t + 4) :: x.stack })).goto k t (branchTo (h.jumpBase k t w) w)

/-- CALL (R146, R156, R157, R159). -/
def execCall (k : BlockId) (t : ThreadId) (s : State) :=
  s.onLive (fun h => h.issue k.val t.val 0x0F (fun w h => h.call k.val t.val w))

/-- RET: from an empty return stack it faults the thread. -/
def Hw.ret (h : Hw) (k t : Nat) : Hw :=
  match (h.thread k t).stack with
  | [] => h.threadFault k t 0x0A (h.reg (BLK_SEQ_PC k t))
  | a :: r => (h.updThread k t (fun x => { x with stack := r })).goto k t a

/-- RET (R146, R156, R159). -/
def execRet (k : BlockId) (t : ThreadId) (s : State) :=
  s.onLive (fun h => h.issue k.val t.val 0x10 (fun _ h => h.ret k.val t.val))

-- ## Accesses (R140, R143, R147 to R149)

/-- The thread stalls with an access. -/
def Hw.stallWith (h : Hw) (k t : Nat) (x : Stall) : Hw :=
  (h.updThread k t (fun y => { y with stall := x })).wr (BLK_SEQ_STATE.THREAD k t) 3

/-- LOAD: the access is outstanding until ACCESS_COMPLETE (R5, R36, R37, R105 to R108, R140, R141, R143, R147). -/
def execLoad (k : BlockId) (t : ThreadId) (s : State) :=
  s.onLive (fun h => h.issue k.val t.val 0x11 (fun w h =>
    h.stallWith k.val t.val (.load (seqD w) (h.gA k.val t.val w + seqSext w).toNat)))

/-- STORE (R5, R36, R37, R105 to R108, R140, R143, R147, R150). -/
def execStore (k : BlockId) (t : ThreadId) (s : State) :=
  s.onLive (fun h => h.issue k.val t.val 0x12 (fun w h =>
    h.stallWith k.val t.val (.store (h.gA k.val t.val w + seqSext w).toNat (h.gD k.val t.val w))))

/-- PACE (R110, R140, R147, R148, R294, R296). -/
def execPace (k : BlockId) (t : ThreadId) (s : State) :=
  s.onLive (fun h => h.issue k.val t.val 0x18 (fun w h =>
    h.stallWith k.val t.val (.pace (Bits.get (h.gA k.val t.val w) 15 0) (Bits.get (h.gB k.val t.val w) 15 0) (h.gD k.val t.val w).toNat)))

/-- The status of a thread's access goes to G_15, and a stalled thread goes on, or is HALTED where a STOP waits (R147, R160). -/
def Hw.accessDone (h : Hw) (k t : Nat) (st : Status) : Hw :=
  let x := h.thread k t
  let h := (h.setGen k t 15 (BitVec.ofNat 32 st.code)).updThread k t (fun y => { y with stall := .none, stopReq := false })
  if h.threadState k t ≠ 3 then h
  else if x.stopReq && pcFits k (h.threadPc k t + 4) then
    ((h.setReg (BLK_SEQ_PC k t) (BitVec.ofNat 32 (h.threadPc k t + 4))).updThread k t (fun y => { y with fetched := none })).wr
      (BLK_SEQ_STATE.THREAD k t) 4
  else h.advance k t

/-- ACCESS_COMPLETE: the stalled access of a thread reaches its target, and its status returns. The thread of a block fenced meanwhile stays
FENCED (R107, R140, R147). A write that restarts the device leaves nothing of the thread. -/
def Mach.accessComplete (m : Mach) (k : BlockId) (t : ThreadId) : Mach :=
  let q : Requester := .thread k t
  let st := m.hw.threadState k.val t.val
  if st ≠ 3 && st ≠ 6 then m
  else match (m.hw.thread k.val t.val).stall with
    | .none | .fetch _ => m
    | .load d a =>
      match m.busRead q (whoLoad k.val t.val) a 0 with
      | (some (r, w), m) => m.onHw (fun h => (h.setGen k.val t.val d w).accessDone k.val t.val r)
      | (none, m) => m
    | .store a v =>
      let r := m.busWrite q a v
      if r.2.hw.restarted then r.2 else r.2.onHw (fun h => h.accessDone k.val t.val r.1)
    | .pace n target rate =>
      if st = 6 then m
      else m.onHw (fun h =>
        let r := h.pace k.val t.val n target rate
        (if r.1 = .ok then r.2 else h.refused q r.1 (BLK_INPUT_VALUE k.val n).addr).accessDone k.val t.val r.1)

/-- ACCESS_COMPLETE (R140). -/
def execAccessComplete (k : BlockId) (t : ThreadId) (s : State) := s.onMach (fun m => m.accessComplete k t)

-- ## Flags, WAIT and COMMIT (R149, R151, R152, R161)

/-- SET (R145, R151). -/
def execSet (k : BlockId) (t : ThreadId) (s : State) :=
  s.onLive (fun h => h.issue k.val t.val 0x13 (fun w h =>
    (h.setFlags k.val (BitVec.ofNat 32 (2 ^ Bits.get w 4 0)) 0).advance k.val t.val))

/-- CLR (R145). -/
def execClr (k : BlockId) (t : ThreadId) (s : State) :=
  s.onLive (fun h => h.issue k.val t.val 0x14 (fun w h =>
    (h.clearFlags k.val (BitVec.ofNat 32 (2 ^ Bits.get w 4 0))).advance k.val t.val))

/-- The status of a SIGNAL from block k to block j (R149). -/
def Hw.signalStatus (h : Hw) (k j : Nat) : Status :=
  if h.owner j ≠ h.owner k then .owner else if h.blockFenced j || h.regionHolds j then .fenced else .ok

/-- SIGNAL: a flag of another block of the partition; a refusal is counted, and its status is in G_15 (R147, R149). -/
def Hw.signal (h : Hw) (k : BlockId) (t : ThreadId) (w : Word) : Hw :=
  let j := Bits.get w 10 8
  let st := h.signalStatus k.val j
  let h := if st = .ok then h.setFlags j (BitVec.ofNat 32 (2 ^ Bits.get w 4 0)) 0
    else h.refused (.thread k t) st (BLK_SEQ_FLAGS j).addr
  (h.setGen k.val t.val 15 (BitVec.ofNat 32 st.code)).advance k.val t.val

/-- SIGNAL (R147, R149, R151). -/
def execSignal (k : BlockId) (t : ThreadId) (s : State) :=
  s.onLive (fun h => h.issue k.val t.val 0x15 (fun w h => h.signal k t w))

/-- WAIT: with a flag of its mask set and a flag source declared it continues at once; else the thread waits (R151). -/
def Hw.wait (h : Hw) (k t : Nat) (w : Word) : Hw :=
  let mask := h.gD k t w
  let src := seqSources w
  if (h.reg (BLK_SEQ_FLAGS k) &&& mask) != 0 && src % 4 != 0 then h.result k t 15 (BitVec.ofNat 32 (src % 4))
  else
    (h.updThread k t (fun x => { x with mask := mask.toNat, sources := src, timeout := h.stepCount + seqImm w, fired := 0 })).wr
      (BLK_SEQ_STATE.THREAD k t) 2

/-- WAIT (R151, R152). -/
def execWait (k : BlockId) (t : ThreadId) (s : State) :=
  s.onLive (fun h => h.issue k.val t.val 0x16 (fun w h => h.wait k.val t.val w))

/-- COMMIT (R134, R143, R161). -/
def execCommit (k : BlockId) (t : ThreadId) (s : State) :=
  s.onLive (fun h => h.issue k.val t.val 0x17 (fun _ h =>
    (match h.owner k.val with | some p => (h.requestCommit p).2 | none => h).advance k.val t.val))

/-- HALT (R145): PC stays at the instruction. -/
def execHalt (k : BlockId) (t : ThreadId) (s : State) :=
  s.onLive (fun h => h.issue k.val t.val 0x19 (fun _ h => h.wr (BLK_SEQ_STATE.THREAD k.val t.val) 4))

/-- THREAD_ILLEGAL: a thread that issues an invalid word faults (R145, R159). -/
def Hw.illegal (h : Hw) (k t : Nat) : Hw :=
  match h.issues k t with
  | some w =>
    if seqValid w then h
    else (h.updBlock k (fun b => { b with lastThread := t })).threadFault k t 0x08 (h.reg (BLK_SEQ_PC k t))
  | none => h

/-- THREAD_ILLEGAL (R145, R159). -/
def execThreadIllegal (k : BlockId) (t : ThreadId) (s : State) := s.onLive (fun h => h.illegal k.val t.val)

end Sys2Proof.Machine
end

