-- ==== Sys2Proof/Machine/Writes.lean ====
section
/-!
DEFINITION. The commands that are accesses: register writes and reads of every requester, the debugger's accesses, and the words of a
host request on the serial port (chapter 19) and over CAN (chapter 18).
-/
namespace Sys2Proof.Machine

/-- A register value with one field set. -/
def Fld.val (f : Fld) (v : Nat) : Word := Bits.set 0 f.hi f.lo v

/-- REGISTER_WRITE: any aligned or unaligned address (R5, R8 to R10, R105, R106, R613). -/
def execRegisterWrite (q : Requester) (addr value : Word) (s : State) := s.onBus q (fun m => m.write q addr.toNat value)

-- ## Power and clocks (R57, R65, R66, R75)

/-- SHUTDOWN: POWER_CMD with its key (R66, R68, R75). -/
def execShutdown (q : Requester) (s : State) := s.regWrite q POWER_CMD 0x5A170001#32

/-- RESTART: POWER_CMD with its key; the warm restart goes on with what the dies show it (R65, R75). -/
def Mach.restart (m : Mach) (q : Requester) (env : StartEnv) : Mach :=
  let r := m.busWrite q POWER_CMD.addr 0x5A170002#32
  let m := r.2.onHw (fun h => h.answer r.1 0)
  if r.1 = .ok && m.hw.restarted then m.coldStart env else m

/-- RESTART (R65, R75). -/
def execRestart (q : Requester) (env : StartEnv) (s : State) := s.onBus q (fun m => m.restart q env)

/-- TB_STEP_LO_READ: the read copies the upper half and the CLK_FAB phase of its cycle (R57). -/
def execTbStepLoRead (q : Requester) (phase : Fin 500) (s : State) :=
  s.onBus q (fun m => (m.onHw (fun h => h.atPhase phase.val)).read q TB_STEP_LO.addr 0)

-- ## Loads (R99, R100)

/-- BS_CTRL with its key. -/
def bsCtrlValue (part source bits : Nat) : Word := BitVec.ofNat 32 (0x3C960000 + part * 4096 + source * 1024 + bits)

/-- BS_RELOAD (R98 to R100). -/
def execBsReload (q : Requester) (part : PartId) (source : Fin 4) (hold : Bool) (s : State) :=
  s.regWrite q BS_CTRL (bsCtrlValue part.val source.val (1 + 8 * Num.ofBool hold))

/-- BS_ABORT (R99, R100). -/
def execBsAbort (q : Requester) (s : State) := s.regWrite q BS_CTRL (bsCtrlValue 0 0 2)

/-- BS_SWITCH (R99, R100). -/
def execBsSwitch (q : Requester) (s : State) := s.regWrite q BS_CTRL (bsCtrlValue 0 0 4)

/-- BS_PORT_WRITE (R95, R99). -/
def execBsPortWrite (q : Requester) (value : Word) (s : State) := s.regWrite q BS_PORT value

-- ## Identity (R121, R122, R126, R614)

/-- ENROL (R121, R125). -/
def execEnrol (q : Requester) (s : State) := s.regWrite q KS_KEY_CTRL 0x6B3D0001#32

/-- ROTATE (R122, R125). -/
def execRotate (q : Requester) (s : State) := s.regWrite q KS_KEY_CTRL 0x6B3D0002#32

/-- HS_START (R125, R126, R614). -/
def execHsStart (q : Requester) (p : PartId) (s : State) := s.regWrite q (HS_CTRL p.val) 1#32

/-- HS_SUBMIT (R125, R126, R614). -/
def execHsSubmit (q : Requester) (p : PartId) (s : State) := s.regWrite q (HS_CTRL p.val) 2#32

-- ## Sequencers (R160, R161, R163)

/-- THREAD_START (R160). -/
def execThreadStart (q : Requester) (k : BlockId) (t : ThreadId) (s : State) :=
  s.regWrite q (BLK_SEQ_CTRL k.val) (Fld.val (BLK_SEQ_CTRL.START k.val) (2 ^ t.val))

/-- THREAD_STOP (R160). -/
def execThreadStop (q : Requester) (k : BlockId) (t : ThreadId) (s : State) :=
  s.regWrite q (BLK_SEQ_CTRL k.val) (Fld.val (BLK_SEQ_CTRL.STOP k.val) (2 ^ t.val))

/-- SEQ_FLAGS_SET (R152, R163). -/
def execSeqFlagsSet (q : Requester) (k : BlockId) (flags : Word) (s : State) := s.regWrite q (BLK_SEQ_FLAGS k.val) flags

/-- SEQ_FLAGS_CLEAR (R163). -/
def execSeqFlagsClear (q : Requester) (k : BlockId) (flags : Word) (s : State) := s.regWrite q (BLK_SEQ_FLAGS_CLR k.val) flags

/-- SEQ_COMMIT_WRITE (R161). -/
def execSeqCommitWrite (q : Requester) (k : BlockId) (s : State) := s.regWrite q (BLK_SEQ_COMMIT k.val) 1#32

-- ## Regions, diagnostics and discharge (R43, R181, R189, R192)

/-- REGION_RETURN_REQUEST (R43). -/
def execRegionReturnRequest (q : Requester) (r : RegionId) (j : Fin 2) (s : State) :=
  s.regWrite q (REGION_RETURN r.val) (BitVec.ofNat 32 (2 ^ j.val))

/-- DIAG_RUN (R181). -/
def execDiagRun (q : Requester) (c : CellId) (s : State) := s.regWrite q (LEG_DIAG_CTRL c.val) 1#32

/-- DSCH_START (R189). -/
def execDschStart (q : Requester) (s : State) := s.regWrite q DSCH_CTRL 0x2E710001#32

/-- DSCH_STOP (R192). -/
def execDschStop (q : Requester) (s : State) := s.regWrite q DSCH_CTRL 0x2E710002#32

/-- TRIP_LATCHED_CLEAR (R215). -/
def execTripLatchedClear (q : Requester) (c : CellId) (mask : Fin 16) (s : State) :=
  s.regWrite q (LEG_TRIP_STATUS c.val) (BitVec.ofNat 32 mask.val)

/-- SAMPLE_I_READ (R246). -/
def execSampleIRead (q : Requester) (c : CellId) (s : State) := s.regRead q (LEG_SAMPLE_I c.val)

/-- REENTRY_REQUEST (R353). -/
def execReentryRequest (q : Requester) (c : CellId) (s : State) := s.regWrite q (LEG_REENTRY_CTRL c.val) 1#32

-- ## Precision converters (R254, R261, R264, R274)

/-- The control register of converter n. -/
def measCtrlReg (n : Nat) : RegId := if n < 48 then MEAS_CH_CTRL n else MEAS_AUX_CTRL (n - 48)

/-- MEAS_START (R254). -/
def execMeasStart (q : Requester) (n : ConvId) (s : State) := s.regWrite q (measCtrlReg n.val) 1#32

/-- MEAS_STOP (Table 9-4). -/
def execMeasStop (q : Requester) (n : ConvId) (s : State) := s.regWrite q (measCtrlReg n.val) 2#32

/-- MEAS_CAL (R264). -/
def execMeasCal (q : Requester) (n : ConvId) (range : Bool) (s : State) :=
  s.regWrite q (measCtrlReg n.val) (BitVec.ofNat 32 (4 + 8 * Num.ofBool range))

/-- MEAS_V_READ (R261). -/
def execMeasVRead (q : Requester) (n : CellId) (s : State) := s.regRead q (MEAS_CH_V n.val)

/-- CAP_AREA_START (R274). -/
def execCapAreaStart (q : Requester) (a : AreaId) (s : State) := s.regWrite q (MEAS_CAP_CTRL a.val) 1#32

/-- CAP_AREA_STOP (R274). -/
def execCapAreaStop (q : Requester) (a : AreaId) (s : State) := s.regWrite q (MEAS_CAP_CTRL a.val) 2#32

-- ## The control engine (R110, R293, R299, R301, R302)

/-- INPUT_VALUE_WRITE (R110, R111, R294, R304). -/
def execInputValueWrite (q : Requester) (k : BlockId) (n : Fin 128) (value : Fin 65536) (s : State) :=
  s.regWrite q (BLK_INPUT_VALUE k.val n.val) (BitVec.ofNat 32 value.val)

/-- LAW_CLEAR (R293). -/
def execLawClear (q : Requester) (k : BlockId) (l : Fin 256) (s : State) := s.regWrite q (BLK_LAW_CTRL k.val l.val) 1#32

/-- INJ_START (R299). -/
def execInjStart (q : Requester) (k : BlockId) (s : State) := s.regWrite q (BLK_INJ_CTRL k.val) 1#32

/-- INJ_STOP (R299). -/
def execInjStop (q : Requester) (k : BlockId) (s : State) := s.regWrite q (BLK_INJ_CTRL k.val) 2#32

/-- CAP_ARM (R301). -/
def execCapArm (q : Requester) (k : BlockId) (s : State) := s.regWrite q (BLK_CAP_CTRL k.val) 1#32

/-- CAP_STOP (R302). -/
def execCapStop (q : Requester) (k : BlockId) (s : State) := s.regWrite q (BLK_CAP_CTRL k.val) 2#32

-- ## Position and channels (R387, R389, R400, R411)

/-- CMP_ARM (R387). -/
def execCmpArm (q : Requester) (k : BlockId) (m : Fin 2) (s : State) := s.regWrite q (BLK_CMP_CTRL k.val m.val) 1#32

/-- CMP_DISARM (R387). -/
def execCmpDisarm (q : Requester) (k : BlockId) (m : Fin 2) (s : State) := s.regWrite q (BLK_CMP_CTRL k.val m.val) 2#32

/-- POSITION_READ (R389). -/
def execPositionRead (q : Requester) (u : UnitId) (s : State) := s.regRead q (POS_POSITION u.val)

/-- CHAN_RESTART (R400). -/
def execChanRestart (q : Requester) (c : CellId) (s : State) := s.regWrite q (LEG_CHAN_CTRL c.val) 8#32

/-- ACC_START (R411). -/
def execAccStart (q : Requester) (c : CellId) (s : State) := s.regWrite q (LEG_CHAN_CTRL c.val) 1#32

/-- ACC_STOP (R411). -/
def execAccStop (q : Requester) (c : CellId) (s : State) := s.regWrite q (LEG_CHAN_CTRL c.val) 2#32

/-- ACC_CLEAR (R411). -/
def execAccClear (q : Requester) (c : CellId) (s : State) := s.regWrite q (LEG_CHAN_CTRL c.val) 4#32

/-- ACC_CHARGE_READ (R411). -/
def execAccChargeRead (q : Requester) (c : CellId) (s : State) := s.regRead q (LEG_ACC_CHARGE_LO c.val)

-- ## Safety (R456)

/-- SAFE_CMD_WRITE (R112, R456). -/
def execSafeCmdWrite (q : Requester) (p : PartId) (code : Fin 4) (s : State) :=
  s.regWrite q (SAFE_CMD p.val) (BitVec.ofNat 32 code.val)

-- ## CAN and the serial port (R485, R489, R496, R497, R515, R523, R527)

/-- OBJ_OPEN (R485). -/
def execObjOpen (q : Requester) (o : ObjId) (s : State) := s.regWrite q (OBJ_CTRL o.val) 1#32

/-- OBJ_CLOSE (R485). -/
def execObjClose (q : Requester) (o : ObjId) (s : State) := s.regWrite q (OBJ_CTRL o.val) 2#32

/-- OBJ_SEND (R489). -/
def execObjSend (q : Requester) (o : ObjId) (s : State) := s.regWrite q (OBJ_CTRL o.val) 4#32

/-- CAN_START (R496). -/
def execCanStart (q : Requester) (n : ChanId) (s : State) := s.regWrite q (CAN_CTRL n.val) 0x4C2A0001#32

/-- CAN_STOP (R497). -/
def execCanStop (q : Requester) (n : ChanId) (s : State) := s.regWrite q (CAN_CTRL n.val) 0x4C2A0002#32

/-- CAN_RECOVER (R496). -/
def execCanRecover (q : Requester) (n : ChanId) (s : State) := s.regWrite q (CAN_CTRL n.val) 0x4C2A0004#32

/-- ROLE_WRITE: SPI_CFG with another ROLE (R513, R515). -/
def execRoleWrite (q : Requester) (role : Fin 2) (s : State) :=
  s.regWrite q SPI_CFG (Bits.set (s.hw.reg SPI_CFG) 0 0 role.val)

/-- SW_FRAME_GO (R523). -/
def execSwFrameGo (q : Requester) (s : State) := s.regWrite q SPI_FRAME_CTRL 1#32

/-- XIP_INVALIDATE (R527). -/
def execXipInvalidate (q : Requester) (s : State) := s.regWrite q SPI_XIP_CTRL 1#32

-- ## Keep memory (R541 to R543)

/-- KEEP_LOWER_WRITE (R542). -/
def execKeepLowerWrite (q : Requester) (addr value : Word) (s : State) := s.onBus q (fun m => m.write q addr.toNat value)

/-- KEEP_UPPER_WRITE (R542). -/
def execKeepUpperWrite (q : Requester) (addr value : Word) (s : State) := s.onBus q (fun m => m.write q addr.toNat value)

/-- KEEP_LOWER_READ: `ecc` is what the word's check bits show, 1 a corrected error and 2 an uncorrectable one (R541, R550). -/
def execKeepLowerRead (q : Requester) (addr : Word) (ecc : Fin 3) (s : State) := s.onBus q (fun m => m.read q addr.toNat ecc.val)

/-- WRITE_PAGE (R543). -/
def execWritePage (q : Requester) (p : PartId) (s : State) := s.regWrite q (PART_KEEP_CTRL p.val) 0x7E150001#32

/-- CLEAR (R543, R547). -/
def execClear (q : Requester) (p : PartId) (s : State) := s.regWrite q (PART_KEEP_CTRL p.val) 0x7E150002#32

/-- REC_RESET (R543, R552). -/
def execRecReset (q : Requester) (p : PartId) (s : State) := s.regWrite q (PART_KEEP_CTRL p.val) 0x7E150004#32

-- ## The debugger (R467, R469 to R471)

/-- The debugger as a requester: the rights of its session's scope. -/
def Hw.debugger (h : Hw) : Requester := .debugger (Fin.ofNat 16 h.dbgScope)

/-- An access completes: DONE with its status and data (R469). -/
def Hw.dbgDone (h : Hw) (st : Status) (w : Word) : Hw :=
  ({ h.inc DBG_COUNT.ACCESSES with
      dbgSt := { h.dbgSt with pending := false, done := true, accStatus := st.code, accData := w, lastAt := h.stepCount } }).answer st w

/-- DBG_ACCESS_EXECUTE: the access that waits executes; a read of the direct-execution window stays until its word arrives. -/
def Mach.dbgExecute (m : Mach) : Mach :=
  let d := m.hw.dbgSt
  if m.hw.dbgState ≠ 3 || !d.pending then m
  else if d.op = 2 then
    let r := m.busWrite m.hw.debugger d.addr d.data
    if r.2.hw.restarted then r.2 else r.2.onHw (fun h => h.dbgDone r.1 0)
  else
    match m.busRead m.hw.debugger whoDebug d.addr 0 with
    | (some (st, w), m) => m.onHw (fun h => h.dbgDone st w)
    | (none, m) => m

/-- DBG_ACCESS_EXECUTE (R5, R105 to R108, R150, R467, R469, R471). -/
def execDbgAccessExecute (s : State) := s.onMach Mach.dbgExecute

/-- DBG_THREAD_REG_WRITE: the debugger's write of a general register; without a session it returns AUTH (R467, R471). -/
def execDbgThreadRegWrite (k : BlockId) (t : ThreadId) (g : Fin 16) (value : Word) (s : State) :=
  s.onMach (fun m =>
    if m.hw.dbgState = 3 then m.write m.hw.debugger (BLK_SEQ_DBG_G k.val t.val g.val).addr value else m.onHw (fun h => h.answer .auth 0))

-- ## The words of a host request (R114, R500, R530)

/-- How far the words of a request have come. -/
structure ReqRun where
  mach : Mach
  status : Status := .ok
  got : List Word := []
  done : Nat := 0
  waits : Bool := false

/-- Word i of a request. -/
def HostReq.wordAddr (r : HostReq) (i : Nat) : Nat := r.addr + (if r.fixed then 0 else 4 * i)

/-- The words of a request from word i on, in order, up to the first refusal, to a read that waits, or to a restart. -/
def Mach.runWords (m : Mach) (q : Requester) (who : Nat) (r : HostReq) (i : Nat) (got : List Word) (left : Nat) : ReqRun :=
  match left with
  | 0 => { mach := m, got := got, done := i }
  | n + 1 =>
    if r.write then
      let x := m.busWrite q (r.wordAddr i) (r.data.getD i 0)
      if x.1 ≠ .ok then { mach := x.2, status := x.1, got := got, done := i }
      else if x.2.hw.restarted then { mach := x.2, got := got, done := i + 1 }
      else x.2.runWords q who r (i + 1) got n
    else
      match m.busRead q who (r.wordAddr i) 0 with
      | (some (st, w), m) =>
        if st = .ok then m.runWords q who r (i + 1) (got ++ [w]) n else { mach := m, status := st, got := got, done := i }
      | (none, m) => { mach := m, got := got, done := i, waits := true }

/-- The status of a code (Table 0-5). -/
def statusOfCode (c : Nat) : Status :=
  match c with
  | 0 => .ok | 1 => .busy | 2 => .owner | 3 => .fenced | 4 => .auth | 5 => .range | 6 => .tempBlocked | 7 => .halfCleared
  | 8 => .notReady | 9 => .staleEpoch | _ => .locked

/-- The queue of the host engine that a request waits in: its partition's, or that of the unauthenticated serial requests (R114). -/
def HostReq.place (r : HostReq) : Nat := if r.tagged then r.part % 16 else 16

/-- A turn of a request executes at most `n` of its words: one that admission has refused runs none; an untagged request acts as an
unauthenticated host (R529). -/
def Mach.runRequest (m : Mach) (r : HostReq) (n : Nat) : ReqRun :=
  if r.status ≠ 0 then { mach := m, status := statusOfCode r.status }
  else if 16 ≤ r.part then { mach := m, status := .auth }
  else
    let p : PartId := Fin.ofNat 16 r.part
    m.runWords (if r.tagged then .host p else .unauth p) (whoCan r.place) r r.done r.got (min n (r.count - r.done))

/-- The credit of a request is no longer queued (R113). -/
def Hw.unqueue (h : Hw) (r : HostReq) : Hw :=
  if r.part < 16 && r.cost ≠ 0 then h.wr (PART_CREDIT.QUEUED r.part) (h.rd (PART_CREDIT.QUEUED r.part) - r.cost) else h

/-- The body of a response (Tables 18-4 and 19-5); `wide` gives COUNT two bytes, as the serial port does. -/
def Hw.replyBody (h : Hw) (r : HostReq) (run : ReqRun) (wide : Bool) : List Byte :=
  [BitVec.ofNat 8 r.part, BitVec.ofNat 8 run.status.code] ++ (if wide then Num.bytesLE 2 run.done else Num.bytesLE 1 run.done ++ [0]) ++
    Num.bytesLE 2 (h.replyEpoch r) ++ [0, 0] ++ Num.bytesLE 4 r.counter ++ Num.bytesLE 4 r.addr ++
    (if r.write then [] else run.got.flatMap (fun w => Num.bytesLE 4 w.toNat))

/-- The tag of a response: with the session's key, or zeros where the request's tag failed or there is no session (R500, R529). -/
def Hw.replyTag (h : Hw) (r : HostReq) (body : List Byte) (n : Nat) : List Byte :=
  match r.key with
  | some k => tagOf k (authPrefix 2 (decide (r.via < 4)) r.part (h.replyEpoch r) r.counter body.length) body n
  | none => List.replicate n 0

/-- The smallest FD length of at least `n` bytes, from the 20 bytes of a read request on. -/
def fdLength (n : Nat) : Nat :=
  if n ≤ 20 then 20 else if n ≤ 24 then 24 else if n ≤ 32 then 32 else if n ≤ 48 then 48 else 64

/-- A serial request is complete: its response waits to be clocked out (R530, R531). -/
def Hw.serialReply (h : Hw) (r : HostReq) (run : ReqRun) : Hw :=
  let body := h.replyBody r run true
  let resp := body ++ (if r.tagged then h.replyTag r body 8 else [])
  let h := (h.unqueue r).updSerial (fun s => { s with req := none, resp := resp })
  (h.wr SPI_SLAVE_STATUS.RESP_LEN resp.length).wr SPI_SLAVE_STATUS.STATE 2

/-- A request over CAN is complete: its response is sent on its channel (R499, R500). -/
def Hw.canReply (h : Hw) (r : HostReq) (run : ReqRun) : Hw :=
  let u := h.unqueue r
  let h := { u with service := { u.service with queue := u.service.queue.filter (fun x => x.ord != r.ord) } }
  let body := h.replyBody r run false
  let n := fdLength (body.length + 4)
  let body := body ++ List.replicate (n - 4 - body.length) 0
  h.sendService r.via { ident := 0x1E040000 + h.rd CAN_NODE.NODE, extended := true, fd := true, brs := (h.canCfg r.via).data ≠ 0,
                        data := body ++ h.replyTag r body 4 }

-- ## The host engine (R107, R114)

/-- Every request that waits for the host engine: those of the CAN channels, and the serial port's while its STATE is 1. -/
def Hw.engineRequests (h : Hw) : List HostReq :=
  h.service.queue ++ (if h.slaveState = 1 then h.serial.req.toList else [])

/-- The request that heads queue i, the one admitted first (R107). -/
def Hw.engineHead (h : Hw) (i : Nat) : Option HostReq :=
  (h.engineRequests.filter (fun r => r.place == i)).foldl (fun b r =>
    match b with
    | some x => if x.ord < r.ord then some x else some r
    | none => some r) none

/-- The queue whose turn it is: the next one with work after the one that had the last turn (R114). -/
def Hw.engineNext (h : Hw) : Option Nat :=
  ((List.range 17).map (fun i => (h.service.turn + 1 + i) % 17)).find? (fun i => (h.engineHead i).isSome)

/-- A request that has had a turn and is not complete stands as `r`. -/
def Hw.keepRequest (h : Hw) (r : HostReq) : Hw :=
  if r.via < 4 then
    { h with service := { h.service with queue := h.service.queue.map (fun x => if x.ord = r.ord then r else x) } }
  else h.updSerial (fun s => { s with req := some r })

/-- A turn of queue i: its head executes one credit's worth, 64 bytes, and is answered once it is complete. -/
def Mach.engineTurn (m : Mach) (i : Nat) : Mach :=
  match m.hw.engineHead i with
  | none => m
  | some r =>
    let m := m.onHw (fun h => { h with service := { h.service with turn := i } })
    let run := m.runRequest r 16
    if run.mach.hw.restarted then run.mach
    else if run.waits || (run.status = .ok && run.done < r.count) then
      run.mach.onHw (fun h => h.keepRequest { r with got := run.got, done := run.done })
    else run.mach.onHw (fun h => if r.via < 4 then h.canReply r run else h.serialReply r run)

/-- Whether the request with order number `ord` still waits for the engine. -/
def Hw.engineHas (h : Hw) (ord : Nat) : Bool := h.engineRequests.any (fun r => r.ord == ord)

/-- Turns go round the queues until the request with order number `ord` is complete; those before it in its queue, and of the other queues
what their turns reach, complete on the way. `n` bounds the turns; a read that waits for the direct-execution window keeps its queue's place. -/
def Mach.engineUntil (m : Mach) (ord n : Nat) : Mach :=
  match n with
  | 0 => m
  | k + 1 =>
    if m.hw.restarted || !m.hw.engineHas ord then m
    else match m.hw.engineNext with
      | some i => (m.engineTurn i).engineUntil ord k
      | none => m

/-- The turns that request `r` can take: one for each credit's worth of its queue up to it, in each round of 17 queues. -/
def Hw.turnsFor (h : Hw) (r : HostReq) : Nat :=
  17 * ((h.engineRequests.filter (fun x => x.place == r.place && decide (x.ord ≤ r.ord))).map (fun x => creditCost x.count)).sum

/-- SERIAL_REQUEST_EXECUTED: the host engine completes the serial request (R114, R530, R531). -/
def Mach.serialExecute (m : Mach) : Mach :=
  match m.hw.serial.req with
  | none => m
  | some r => if m.hw.slaveState ≠ 1 then m else m.engineUntil r.ord (m.hw.turnsFor r)

/-- SERIAL_REQUEST_EXECUTED (R5, R11, R13, R36, R37, R104 to R108, R114, R116, R125, R128, R129, R529 to R531). -/
def execSerialRequestExecuted (s : State) := s.onMach Mach.serialExecute

-- ## Requests over CAN (R499, R500)

/-- A request's body over CAN (Table 18-4). -/
def canRequest (n : Nat) (d : List Byte) : HostReq :=
  let num (off len : Nat) : Nat := Num.ofBytesLE ((d.drop off).take len)
  let op := num 1 1
  let c := num 2 1
  { via := n, part := num 0 1, write := op == 2, count := c, epoch := num 4 2, counter := num 8 4, addr := num 12 4,
    data := if op = 2 then (List.range c).map (fun i => BitVec.ofNat 32 (num (16 + 4 * i) 4)) else [] }

/-- Whether a CAN request has a form of Table 18-4. -/
def canFormed (d : List Byte) (r : HostReq) : Bool :=
  let op := (d.getD 1 0).toNat
  (op == 1 || op == 2) && decide (1 ≤ r.count ∧ r.count ≤ 11) && d.length == fdLength (20 + (if r.write then 4 * r.count else 0))

/-- CAN_SERVICE_REQUEST: a host's frame arrives, passes admission and waits for the host engine; a ninth of its channel is dropped. -/
def Hw.canRequestFrame (h : Hw) (n : Nat) (f : CanFrame) : Hw :=
  if !(h.serves n && h.canHears n && f.extended && f.fd && f.brs == decide ((h.canCfg n).data ≠ 0) &&
      f.ident == 0x1E030000 + h.rd CAN_NODE.NODE && decide (20 ≤ f.data.length)) then h
  else
    let h := h.canHeard n
    if 8 ≤ (h.service.queue.filter (fun r => r.via == n)).length then h.incTop (CAN_COUNT_A.SERVICE_DROPPED n)
    else
      let r := { canRequest n f.data with ord := h.admitted }
      let h := { h with admitted := h.admitted + 1 }
      let a := h.admitTagged r (f.data.take (f.data.length - 4)) (f.data.drop (f.data.length - 4))
      let r := if a.1.status = 0 && !canFormed f.data r then { a.1 with status := Status.range.code } else a.1
      { a.2 with service := { a.2.service with queue := a.2.service.queue ++ [r] } }

/-- CAN_SERVICE_REQUEST (R113, R499, R500). -/
def execCanServiceRequest (n : ChanId) (frame : CanFrame) (s : State) := s.onLive (fun h => h.canRequestFrame n.val frame)

/-- CAN_SERVICE_EXECUTED: the host engine completes the oldest request of partition p that has come over CAN (R114, R500). -/
def Mach.canExecute (m : Mach) (p : Nat) : Mach :=
  match m.hw.service.queue.find? (fun r => r.place == p) with
  | none => m
  | some r => m.engineUntil r.ord (m.hw.turnsFor r)

/-- CAN_SERVICE_EXECUTED (R5, R11, R13, R105 to R108, R114, R116, R125, R128, R129, R500). -/
def execCanServiceExecuted (p : PartId) (s : State) := s.onMach (fun m => m.canExecute p.val)

end Sys2Proof.Machine
end

