-- ==== Sys2Proof/Machine/System.lean ====
section
/-!
DEFINITION. One control step of the whole part (Table 1-5): its boundary, its sample latch, the links and the command records; the frame
boundary (Table 5-1); and the exchange by which the dies authenticate one another during operation (R120).
-/
namespace Sys2Proof.Machine

-- ## Links (R26 to R30)

/-- A link of a die that is lost: D7's is an interface-die fault, every other a link loss (Table 1-10). -/
def linkCause (d : Nat) : Nat := if d = 7 then 0x03 else 0x04

/-- The cells whose command records slot 116 + i of a leg die carries, four to a slot (Table 1-4). -/
def slotCells (r i : Nat) : List Nat := (List.range 4).map (fun j => 12 * r + 4 * i + j)

/-- The leg die of region r discards the command slot of cell c: the cell keeps its command, once recorded in a step; in two
consecutive steps the link is lost (R28). -/
def Hw.commandLost (h : Hw) (r c : Nat) : Hw :=
  let x := h.cell c
  if x.slotLost then h
  else
    let h := (h.setCell c { x with slotLost := true }).cellFault c 0x30
    if x.repeated then h.setDie (r + 2) { h.die (r + 2) with lost := true } else h

/-- The leg die discards the slot that carries the COMMIT of cell c's set: the set stays in the shadow registers. -/
def Hw.commitLost (h : Hw) (c : Nat) : Hw :=
  if (h.cell c).capNew.isSome then
    (h.setCell c { h.cell c with capNew := none }).wrB (LEG_PWM_STATUS.SHADOW_PENDING c) true
  else h

/-- LINK_SLOT_RECEIVED on the D0 or D1 link of die d: a slot with a bad CRC is discarded and counted (R27); of a leg die, sample slots
are missing from the latch (R138, R228), command slots leave their cells as they are (R28), and without slot 119, which carries the COMMIT,
no set is captured (R27, log entry 39); of D6, its readings are missing (R237, R397). -/
def Hw.linkSlot (h : Hw) (d : Nat) (fromD1 toDie : Bool) (slot : Nat) (ok : Bool) : Hw :=
  if d < 2 then h
  else if ok then
    h.setDie d (if fromD1 then { h.die d with good1 := true } else { h.die d with good0 := true })
  else
    let h := h.incTop (if fromD1 then LINK_ERR.D1_COUNT (d - 2) else LINK_ERR.D0_COUNT (d - 2))
    let r := d - 2
    if 5 < d then (if d = 6 && !toDie && slot = 0 then h.setDie 6 { h.die 6 with readLost := true } else h)
    else if toDie then
      if 116 ≤ slot && slot ≤ 118 then (slotCells r (slot - 116)).foldl (fun acc c => acc.commandLost r c) h
      else if slot = 119 then Num.forEach 12 (fun i acc => acc.commitLost (12 * r + i)) h
      else h
    else if slot ≤ 3 then
      h.setRegion r { h.region r with sampleLost := Num.setBit (h.region r).sampleLost slot true }
    else h

/-- LINK_SLOT_RECEIVED (R27, R28). -/
def execLinkSlotReceived (d : DieId) (fromD1 toDie : Bool) (slot : Fin 125) (crcOk : Bool) (s : State) :=
  s.onLive (fun h => h.linkSlot d.val fromD1 toDie slot.val crcOk)

/-- Whether a link of die d is lost: four steps without a good slot, or R28 (R30). -/
def Hw.linkIsLost (h : Hw) (d : Nat) : Bool :=
  decide (2 ≤ d) && ((h.die d).lost || decide (4 ≤ (h.die d).bad0) || decide (4 ≤ (h.die d).bad1))

/-- LINK_LOSS (R30, R42). -/
def Hw.linkLoss (h : Hw) (d : Nat) : Hw := if h.linkIsLost d then h.chipFaultSet (linkCause d) else h

/-- LINK_LOSS (R30, R42). -/
def execLinkLoss (d : DieId) (s : State) := s.onLive (fun h => h.linkLoss d.val)

/-- A step ends on the links of die d. -/
def Hw.linkBoundary (h : Hw) (d : Nat) : Hw :=
  let x := h.die d
  h.setDie d { x with bad0 := if x.good0 then 0 else x.bad0 + 1, bad1 := if x.good1 then 0 else x.bad1 + 1,
                      good0 := false, good1 := false, readLost := false }

/-- A step ends for the command slots of cell c (R28). -/
def Hw.slotBoundary (h : Hw) (c : Nat) : Hw :=
  let x := h.cell c
  h.setCell c { x with repeated := x.slotLost, slotLost := false }

-- ## Command records (R24, R29, R202, R203, R209, R210, R239)

/-- The command of cell c: what the block's program has sent last, and a captured COMMIT set. -/
def Hw.takeCommand (h : Hw) (c : Nat) : Hw :=
  let h := h.takeCapture c
  let x := h.cell c
  if x.slotLost then h
  else h.setCell c { x with dutyIn := some x.outCmd, vectorNew := x.outVec, thrNewA := some x.outThrA, thrNewB := some x.outThrB }

/-- Matching records in 64 consecutive steps clear a command watchdog's cause (Table 1-12). -/
def Hw.countMatching (h : Hw) (r : Nat) (same : Bool) : Hw :=
  let x := h.region r
  if !same then h.setRegion r { x with matching := 0 }
  else
    let n := if x.matchAt + 1 = h.stepCount then x.matching + 1 else if x.matchAt = h.stepCount && x.matching != 0 then x.matching else 1
    let h := h.setRegion r { x with matching := n, matchAt := h.stepCount }
    if 64 ≤ n then h.clearRegionCause r 0x02 else h

/-- COMMAND_RECORD_RECEIVED at the leg die of region r: bit i of `differ` says that the D0 and D1 records of its local cell i differ. A block
with a difference is fenced; every other unfenced block's cells take their commands (R29). -/
def Hw.commandRecord (h : Hw) (r differ : Nat) : Hw :=
  let bad (k : Nat) : Bool := (cellsOf k).any (fun c => differ.testBit (c % 12))
  let h := (blocksOfRegion r).foldl (fun acc k =>
    if bad k then acc.fenceBlock k 0x02
    else if acc.blockFenced k || acc.regionHolds k || acc.chipFault then acc
    else (cellsOf k).foldl (fun a c => a.takeCommand c) acc) h
  h.countMatching r ((blocksOfRegion r).all (fun k => !bad k) &&
    (List.range 12).all (fun i => !(h.cell (12 * r + i)).slotLost))

/-- COMMAND_RECORD_RECEIVED (R29, R161, R202, R209, R210). -/
def execCommandRecordReceived (r : RegionId) (differ : Nat) (s : State) := s.onLive (fun h => h.commandRecord r.val differ)

/-- COMMAND_WATCHDOG: the leg die fences its region by itself (R19, R23, R24, R222). -/
def execCommandWatchdog (r : RegionId) (s : State) := s.onLive (fun h => h.fenceRegion r.val 0x02)

-- ## The step boundary

/-- The event flags of every block at its opening boundary, for the capture unit (R301). -/
def Hw.flagsKept (h : Hw) : Hw :=
  Num.forEach 8 (fun k acc => acc.updBlock k (fun b => { b with capFlags := (acc.reg (BLK_SEQ_FLAGS k)).toNat })) h

/-- STEP_BOUNDARY for everything but the keep-memory engine. The fences and stops of the step that ended take effect before the
boundary's own moves (R20, R31), commands before the carriers' events of the new step (R202, R203, R209). An injector advances for a step
that its block ran outside a halt (R298, R303, R472). -/
def Hw.stepBoundary (h : Hw) : Hw :=
  let h := { h with stepCount := h.stepCount + 1, phase := 0, tick := 0 }
  let h := h.wr RM_STATUS.STEP_IN_FRAME (h.stepCount % max (h.rd FRAME_CFG.FRAME_STEPS) 1)
  let h := (if h.chipFault then h.carouselReset else h).suppliesBack.dischargeTime
  let ran := (List.range 8).filter (fun k => !h.halted k)
  let h := h.debugHalts
  let h := Num.forEach 48 (fun c acc => (acc.pwmBoundary c).slotBoundary c) h
  let h := (h.safeBoundary.applyHolds).thermBoundary.startGoesOn
  let h := Num.forEach 8 (fun k acc => acc.stepWakes k) h
  let h := h.paceMoves
  let h := ran.foldl (fun acc k => acc.injBoundary k) h
  let h := Num.forEach 48 (fun c acc => acc.senseBoundary c) h
  let h := h.posBoundary.canBoundary
  let h := Num.forEach 16 (fun t acc =>
    if acc.halted (t / 2) || (acc.trioCells t).isEmpty then acc else acc.motionBoundary t) h
  let h := Num.forEach 8 (fun d acc => acc.linkBoundary d) h
  let h := Num.forEach 4 (fun r acc => acc.setRegion r { acc.region r with sampleLost := 0 }) h
  h.flagsKept.debugResumes

/-- STEP_BOUNDARY (Table 1-5, R56). -/
def Mach.stepBoundary (m : Mach) : Mach := (m.onHw Hw.stepBoundary).keepBoundary

/-- STEP_BOUNDARY (R20, R22, R26, R31, R56, R135, R151, R203, R215, R227, R239, R295, R298, R301, R306, R327, R329, R333, R339, R342, R347,
R349, R358, R394, R432, R433, R442, R444, R445). -/
def execStepBoundary (s : State) := s.onMach Mach.stepBoundary

-- ## The sample latch

/-- The lane program of block k starts from its latched signals (R111, R277, R292, R330). -/
def Hw.laneStart (h : Hw) (k : Nat) (lost auxLost : Nat → Bool) : Hw :=
  if !h.lanesRun k then h.updBlock k (fun b => { b with laneRuns := false })
  else
    let h := (h.lawsStart k).torqueStart k
    let b := h.block k
    let h := h.latchSigs k lost auxLost (h.rd (THERM_DERATE.F (k / 2 + 1))) (fun i => Tab.get b.posSnap i 0x8000)
    h.updBlock k (fun b => { b with lanePc := 0, laneRuns := true })

/-- A sample slot of the region of cell c was discarded in this step, the one with its samples or with its region record. -/
def Hw.slotMissing (h : Hw) (c : Nat) : Bool := (h.region (regionOf c)).sampleLost.testBit (c % 12 / 4)

/-- SAMPLE_LATCH: the records of the step that ended, the checks and controllers fed by them, and the start of the lane programs. -/
def Hw.sampleLatch (h : Hw) (i : LatchInputs) : Hw :=
  let h := h.atPhase 20
  let none : CellSample := { sar0 := [], sar1 := [], discard := true }
  let lost (c : Nat) : Bool := (i.cells.getD c none).discard || h.slotMissing c
  let regionLost := (List.range 4).foldl (fun m r =>
    if i.regionLost.testBit r || (h.region r).sampleLost.testBit 3 then m + 2 ^ r else m) 0
  let auxLost (r : Nat) : Bool := regionLost.testBit r
  let h := Num.forEach 48 (fun c acc => acc.sampleCell c (i.cells.getD c none)) h
  let h := (h.sampleVdc { i with regionLost := regionLost }).fastVolts i.fast (i.vdcBLost || (h.die 6).readLost)
  let h := Num.forEach 8 (fun k acc => acc.safetyLatch k) h
  let h := Num.forEach 16 (fun t acc => if (acc.trioCells t).isEmpty then acc else acc.latchFences t) h
  let h := Num.forEach 8 (fun k acc => if acc.blockEntered k && !acc.halted k then acc.chanLatches k else acc) h
  let h := Num.forEach 16 (fun t acc =>
    if (acc.trioCells t).isEmpty then acc else acc.monitorLatch t (i.tmDiffer.testBit t)) h
  let h := Num.forEach 8 (fun k acc => acc.laneStart k lost auxLost) h
  h.histLatch

/-- SAMPLE_LATCH (R111, R112, R137, R138, R228 to R231, R235 to R237, R245, R277, R297, R303, R307, R308, R363, R365, R366, R392, R395 to
R397, R399 to R408, R412, R421, R429, R430, R432, R440, R442, R446, R447, R454, R554). -/
def execSampleLatch (i : LatchInputs) (s : State) := s.onLive (fun h => h.sampleLatch i)

-- ## The frame boundary (Table 5-1)

/-- Order 1: the copies of the ownership map compare their digests (R109). -/
def Hw.compareMaps (h : Hw) (equal : Bool) : Hw :=
  let h := h.incTop TS_MAP_STATUS.FRAMES
  if equal then h else (h.incTop TS_MAP_STATUS.MISMATCHES).chipFaultSet 0x08

/-- Order 5 and what has no order of its own: blocks and cells return, the envelopes of SS1 are checked, and safety stops are released
(R43, R350, R352, R355, R356, R436, R443). -/
def Hw.frameReturns (h : Hw) : Hw :=
  let h := Num.forEach 8 (fun k acc => acc.returnBlock k) h
  let h := Num.forEach 16 (fun p acc => if acc.active p then acc.frameLegs p else acc) h
  (Num.forEach 16 (fun p acc => acc.envelopes p) h).releases

/-- FRAME_BOUNDARY, at a step boundary that opens a frame (R58): the actions of Table 5-1 in order, then those of the converters, of CAN
and of an orderly shutdown. -/
def Mach.frameBoundary (m : Mach) (equal : Bool) : Mach :=
  if !m.hw.frameDue then m
  else
    let m := m.onHw (fun h => (h.compareMaps equal).deadlocks.switchStart)
    let m := m.reloadBack
    m.onHw (fun h =>
      let h := Num.forEach 16 (fun p acc => acc.startPartition p) h
      let h := h.frameReturns
      let h := Num.forEach 16 (fun p acc => acc.creditRefill p) h
      let h := Num.forEach 8 (fun k acc => acc.frameWakes k) h
      h.measFrame.canFrame.shutStage1)

/-- FRAME_BOUNDARY (R19, R43, R58, R66, R98, R102, R103, R109, R113, R115, R117, R136, R142, R151, R153, R154, R181, R211, R269, R274, R280,
R316, R333, R350, R352, R355 to R358, R434, R436, R443, R444, R498). -/
def execFrameBoundary (digestEqual : Bool) (s : State) := s.onMach (fun m => m.frameBoundary digestEqual)

-- ## Authentication during operation (R120): die d proves itself to the others with fresh nonces, and the roster decides

/-- The fourth failure of an exchange: the reaction of the die, for D6 exactly that of a clock fault (R120). -/
def Hw.authLost (h : Hw) (d : Nat) : Hw :=
  if 2 ≤ d && d ≤ 5 then h.fenceRegion (d - 2) 0x01
  else if d = 6 then ((h.wr (DIE_STATE.DIE 6) 4).measClockLost).d6Invalid 0x21 true
  else (h.wr (DIE_STATE.DIE d) 4).chipFaultSet 0x07

/-- An exchange succeeds: a leg die refused at start is authenticated and stays fenced, and its region's cause clears (Table 1-12). -/
def Hw.authGood (h : Hw) (d : Nat) : Hw :=
  let h := h.setDie d { h.die d with retries := 0, retrying := false }
  if 2 ≤ d && d ≤ 5 then
    (if h.rd (DIE_STATE.DIE d) = 3 then h.wr (DIE_STATE.DIE d) 2 else h).clearRegionCause (d - 2) 0x01
  else h

/-- DIE_REAUTHENTICATION: the exchange of every 60 s (R120). -/
def Hw.reauth (h : Hw) (d : Nat) (good : Bool) : Hw :=
  if good then h.authGood d else h.setDie d { h.die d with retries := 0, retrying := true }

/-- DIE_REAUTHENTICATION (R120). -/
def execDieReauthentication (d : DieId) (answers : List DieAnswer) (s : State) :=
  s.onLive (fun h => { h.reauth d.val (h.dieAuthentic d.val answers) with fresh := h.fresh + 1 })

/-- DIE_REAUTH_RETRY: one of the three retries of a failed exchange (R120). -/
def Hw.reauthRetry (h : Hw) (d : Nat) (good : Bool) : Hw :=
  let x := h.die d
  if !x.retrying then h
  else if good then h.authGood d
  else if x.retries < 2 then h.setDie d { x with retries := x.retries + 1 }
  else (h.setDie d { x with retries := 0, retrying := false }).authLost d

/-- DIE_REAUTH_RETRY (R120). -/
def execDieReauthRetry (d : DieId) (answers : List DieAnswer) (s : State) :=
  s.onLive (fun h => { h.reauthRetry d.val (h.dieAuthentic d.val answers) with fresh := h.fresh + 1 })

end Sys2Proof.Machine
end

