-- ==== Sys2Proof/Machine/Dispatch.lean ====
section
/-!
DEFINITION. One arm per command: each calls its meaning.
-/
namespace Sys2Proof.Machine

def exec (i : Instr) (s : State) : Host.Outcome State Fault Refusal :=
  match i with
  | .registerWrite q addr value => Sys2Proof.Machine.execRegisterWrite q addr value s
  | .stepBoundary => Sys2Proof.Machine.execStepBoundary s
  | .sampleLatch x => Sys2Proof.Machine.execSampleLatch x s
  | .commitSample => Sys2Proof.Machine.execCommitSample s
  | .lockstepCompare g equal lane => Sys2Proof.Machine.execLockstepCompare g equal lane s
  | .linkSlotReceived d fromD1 toDie slot crcOk => Sys2Proof.Machine.execLinkSlotReceived d fromD1 toDie slot crcOk s
  | .linkLoss d => Sys2Proof.Machine.execLinkLoss d s
  | .commandRecordReceived r differ => Sys2Proof.Machine.execCommandRecordReceived r differ s
  | .commandWatchdog r => Sys2Proof.Machine.execCommandWatchdog r s
  | .frameBoundary digestEqual => Sys2Proof.Machine.execFrameBoundary digestEqual s
  | .deadlockFence p => Sys2Proof.Machine.execDeadlockFence p s
  | .regionReturnRequest q r j => Sys2Proof.Machine.execRegionReturnRequest q r j s
  | .regionReturnChecksDone r j causes => Sys2Proof.Machine.execRegionReturnChecksDone r j causes s
  | .dieReauthentication d answers => Sys2Proof.Machine.execDieReauthentication d answers s
  | .dieReauthRetry d answers => Sys2Proof.Machine.execDieReauthRetry d answers s
  | .coldStart env => Sys2Proof.Machine.execColdStart env s
  | .pllLock => Sys2Proof.Machine.execPllLock s
  | .partitionActivate p => Sys2Proof.Machine.execPartitionActivate p s
  | .supplyDip supply saved => Sys2Proof.Machine.execSupplyDip supply saved s
  | .vsupLow saved => Sys2Proof.Machine.execVsupLow saved s
  | .aonReset => Sys2Proof.Machine.execAonReset s
  | .powerOn => Sys2Proof.Machine.execPowerOn s
  | .wakePinEdge => Sys2Proof.Machine.execWakePinEdge s
  | .canWakeUpPattern n => Sys2Proof.Machine.execCanWakeUpPattern n s
  | .clockMonitorFault d => Sys2Proof.Machine.execClockMonitorFault d s
  | .shutdown q => Sys2Proof.Machine.execShutdown q s
  | .restart q env => Sys2Proof.Machine.execRestart q env s
  | .autoShutdown => Sys2Proof.Machine.execAutoShutdown s
  | .shutdownStopped => Sys2Proof.Machine.execShutdownStopped s
  | .stopTimeout => Sys2Proof.Machine.execStopTimeout s
  | .shutdownTestEnd passed => Sys2Proof.Machine.execShutdownTestEnd passed s
  | .enterStandby => Sys2Proof.Machine.execEnterStandby s
  | .opSecondsIncrement => Sys2Proof.Machine.execOpSecondsIncrement s
  | .keepWriteRetry => Sys2Proof.Machine.execKeepWriteRetry s
  | .tbStepLoRead q phase => Sys2Proof.Machine.execTbStepLoRead q phase s
  | .bsReload q part source hold => Sys2Proof.Machine.execBsReload q part source hold s
  | .bsAbort q => Sys2Proof.Machine.execBsAbort q s
  | .bsSwitch q => Sys2Proof.Machine.execBsSwitch q s
  | .bsPortWrite q value => Sys2Proof.Machine.execBsPortWrite q value s
  | .canLoadPiece node offset data => Sys2Proof.Machine.execCanLoadPiece node offset data s
  | .canLoadStatusRequest node => Sys2Proof.Machine.execCanLoadStatusRequest node s
  | .checksDone => Sys2Proof.Machine.execChecksDone s
  | .loadTimeout => Sys2Proof.Machine.execLoadTimeout s
  | .reloadApplySet laneFails => Sys2Proof.Machine.execReloadApplySet laneFails s
  | .serialRequestExecuted => Sys2Proof.Machine.execSerialRequestExecuted s
  | .canServiceRequest n frame => Sys2Proof.Machine.execCanServiceRequest n frame s
  | .canServiceExecuted p => Sys2Proof.Machine.execCanServiceExecuted p s
  | .enrol q => Sys2Proof.Machine.execEnrol q s
  | .rotate q => Sys2Proof.Machine.execRotate q s
  | .rotationDone => Sys2Proof.Machine.execRotationDone s
  | .hsStart q p => Sys2Proof.Machine.execHsStart q p s
  | .handshakePrepared p => Sys2Proof.Machine.execHandshakePrepared p s
  | .hsSubmit q p => Sys2Proof.Machine.execHsSubmit q p s
  | .handshakeVerified p => Sys2Proof.Machine.execHandshakeVerified p s
  | .handshakeTimeout p => Sys2Proof.Machine.execHandshakeTimeout p s
  | .sessionChangeover p => Sys2Proof.Machine.execSessionChangeover p s
  | .movi k t => Sys2Proof.Machine.execMovi k t s
  | .movhi k t => Sys2Proof.Machine.execMovhi k t s
  | .addi k t => Sys2Proof.Machine.execAddi k t s
  | .addOp k t => Sys2Proof.Machine.execAdd k t s
  | .subOp k t => Sys2Proof.Machine.execSub k t s
  | .andOp k t => Sys2Proof.Machine.execAnd k t s
  | .orOp k t => Sys2Proof.Machine.execOr k t s
  | .xorOp k t => Sys2Proof.Machine.execXor k t s
  | .shiftOp k t => Sys2Proof.Machine.execShift k t s
  | .beq k t => Sys2Proof.Machine.execBeq k t s
  | .bne k t => Sys2Proof.Machine.execBne k t s
  | .blt k t => Sys2Proof.Machine.execBlt k t s
  | .bge k t => Sys2Proof.Machine.execBge k t s
  | .jumpOp k t => Sys2Proof.Machine.execJump k t s
  | .callOp k t => Sys2Proof.Machine.execCall k t s
  | .retOp k t => Sys2Proof.Machine.execRet k t s
  | .loadOp k t => Sys2Proof.Machine.execLoad k t s
  | .storeOp k t => Sys2Proof.Machine.execStore k t s
  | .accessComplete k t => Sys2Proof.Machine.execAccessComplete k t s
  | .setFlag k t => Sys2Proof.Machine.execSet k t s
  | .clrFlag k t => Sys2Proof.Machine.execClr k t s
  | .signalOp k t => Sys2Proof.Machine.execSignal k t s
  | .waitOp k t => Sys2Proof.Machine.execWait k t s
  | .waitTimeout k t => Sys2Proof.Machine.execWaitTimeout k t s
  | .commitOp k t => Sys2Proof.Machine.execCommit k t s
  | .paceOp k t => Sys2Proof.Machine.execPace k t s
  | .haltOp k t => Sys2Proof.Machine.execHalt k t s
  | .threadIllegal k t => Sys2Proof.Machine.execThreadIllegal k t s
  | .windowFetchDone k t word => Sys2Proof.Machine.execWindowFetchDone k t word s
  | .fetchTimeout k t => Sys2Proof.Machine.execFetchTimeout k t s
  | .threadStart q k t => Sys2Proof.Machine.execThreadStart q k t s
  | .threadStop q k t => Sys2Proof.Machine.execThreadStop q k t s
  | .seqFlagsSet q k flags => Sys2Proof.Machine.execSeqFlagsSet q k flags s
  | .seqFlagsClear q k flags => Sys2Proof.Machine.execSeqFlagsClear q k flags s
  | .seqCommitWrite q k => Sys2Proof.Machine.execSeqCommitWrite q k s
  | .gateTurnOn c sw => Sys2Proof.Machine.execGateTurnOn c sw s
  | .gateTurnOff c sw => Sys2Proof.Machine.execGateTurnOff c sw s
  | .preLevelReached c sw => Sys2Proof.Machine.execPreLevelReached c sw s
  | .preTimeout c sw => Sys2Proof.Machine.execPreTimeout c sw s
  | .dvdtTransition c sw => Sys2Proof.Machine.execDvdtTransition c sw s
  | .weakTimeout c sw => Sys2Proof.Machine.execWeakTimeout c sw s
  | .interlockConfirm c sw => Sys2Proof.Machine.execInterlockConfirm c sw s
  | .interlockTimeout c sw => Sys2Proof.Machine.execInterlockTimeout c sw s
  | .bootstrapAboveUvlo c => Sys2Proof.Machine.execBootstrapAboveUvlo c s
  | .bootstrapPrecharge c => Sys2Proof.Machine.execBootstrapPrecharge c s
  | .bootstrapUvlo c => Sys2Proof.Machine.execBootstrapUvlo c s
  | .vdrvUvlo r => Sys2Proof.Machine.execVdrvUvlo r s
  | .vdrvAboveUvlo r => Sys2Proof.Machine.execVdrvAboveUvlo r s
  | .blankEnd c sw => Sys2Proof.Machine.execBlankEnd c sw s
  | .shortCircuitDetect c sw => Sys2Proof.Machine.execShortCircuitDetect c sw s
  | .softTurnOffEnd c sw peak => Sys2Proof.Machine.execSoftTurnOffEnd c sw peak s
  | .diagRun q c => Sys2Proof.Machine.execDiagRun q c s
  | .diagStageEnd c reading => Sys2Proof.Machine.execDiagStageEnd c reading s
  | .dschStart q => Sys2Proof.Machine.execDschStart q s
  | .dschStop q => Sys2Proof.Machine.execDschStop q s
  | .dschFallbackStart => Sys2Proof.Machine.execDschFallbackStart s
  | .fallbackPulseEnd t => Sys2Proof.Machine.execFallbackPulseEnd t s
  | .fallbackNextPulse t => Sys2Proof.Machine.execFallbackNextPulse t s
  | .dischargeDone => Sys2Proof.Machine.execDischargeDone s
  | .dischargeTimeout => Sys2Proof.Machine.execDischargeTimeout s
  | .carrierStart c => Sys2Proof.Machine.execCarrierStart c s
  | .reloadPoint c => Sys2Proof.Machine.execReloadPoint c s
  | .rawCommandEdge c sw tick => Sys2Proof.Machine.execRawCommandEdge c sw tick s
  | .deadTimeEnd c sw tick => Sys2Proof.Machine.execDeadTimeEnd c sw tick s
  | .minPulseEnd c sw => Sys2Proof.Machine.execMinPulseEnd c sw s
  | .tripAct c n => Sys2Proof.Machine.execTripAct c n s
  | .tripLatchedClear q c mask => Sys2Proof.Machine.execTripLatchedClear q c mask s
  | .hurdleEdgeWindowEnd k h => Sys2Proof.Machine.execHurdleEdgeWindowEnd k h s
  | .hurdleWindowBoundary k h => Sys2Proof.Machine.execHurdleWindowBoundary k h s
  | .currentDisagree c => Sys2Proof.Machine.execCurrentDisagree c s
  | .shuntSaturated c => Sys2Proof.Machine.execShuntSaturated c s
  | .vdcDisagree => Sys2Proof.Machine.execVdcDisagree s
  | .comparatorCrossing c compB signals => Sys2Proof.Machine.execComparatorCrossing c compB signals s
  | .sampleIRead q c => Sys2Proof.Machine.execSampleIRead q c s
  | .scmpTick m inputs => Sys2Proof.Machine.execScmpTick m inputs s
  | .scmpConfirmed m => Sys2Proof.Machine.execScmpConfirmed m s
  | .measStart q n => Sys2Proof.Machine.execMeasStart q n s
  | .measStop q n => Sys2Proof.Machine.execMeasStop q n s
  | .measCal q n range => Sys2Proof.Machine.execMeasCal q n range s
  | .firstWindowOpen n => Sys2Proof.Machine.execFirstWindowOpen n s
  | .windowEnd n rawV rawI cm clamp phase => Sys2Proof.Machine.execWindowEnd n rawV rawI cm clamp phase s
  | .refSettled n => Sys2Proof.Machine.execRefSettled n s
  | .refinExcursion millivolts => Sys2Proof.Machine.execRefinExcursion millivolts s
  | .calComplete n sums => Sys2Proof.Machine.execCalComplete n sums s
  | .auxSettleEnd n => Sys2Proof.Machine.execAuxSettleEnd n s
  | .frontEndClamp input => Sys2Proof.Machine.execFrontEndClamp input s
  | .measVRead q n => Sys2Proof.Machine.execMeasVRead q n s
  | .capAreaStart q a => Sys2Proof.Machine.execCapAreaStart q a s
  | .capAreaStop q a => Sys2Proof.Machine.execCapAreaStop q a s
  | .laneMove k => Sys2Proof.Machine.execMove k s
  | .laneAdd k => Sys2Proof.Machine.execLaneAdd k s
  | .laneSub k => Sys2Proof.Machine.execLaneSub k s
  | .laneMul k => Sys2Proof.Machine.execMul k s
  | .laneClamp k => Sys2Proof.Machine.execClamp k s
  | .laneLaw k => Sys2Proof.Machine.execLaw k s
  | .laneEstimate k => Sys2Proof.Machine.execEstimate k s
  | .estimatorResidual c => Sys2Proof.Machine.execEstimatorResidual c s
  | .laneVeto k => Sys2Proof.Machine.execVeto k s
  | .laneSelect k => Sys2Proof.Machine.execSelect k s
  | .laneCommutate k => Sys2Proof.Machine.execCommutate k s
  | .laneEnd k => Sys2Proof.Machine.execEnd k s
  | .inputValueWrite q k n value => Sys2Proof.Machine.execInputValueWrite q k n value s
  | .lawClear q k l => Sys2Proof.Machine.execLawClear q k l s
  | .injStart q k => Sys2Proof.Machine.execInjStart q k s
  | .injStop q k => Sys2Proof.Machine.execInjStop q k s
  | .injectorEnd k => Sys2Proof.Machine.execInjectorEnd k s
  | .capArm q k => Sys2Proof.Machine.execCapArm q k s
  | .capStop q k => Sys2Proof.Machine.execCapStop q k s
  | .captureDone k => Sys2Proof.Machine.execCaptureDone k s
  | .observeEnd t => Sys2Proof.Machine.execObserveEnd t s
  | .alignEnd t => Sys2Proof.Machine.execAlignEnd t s
  | .commutationMiss t => Sys2Proof.Machine.execCommutationMiss t s
  | .startFailed t => Sys2Proof.Machine.execStartFailed t s
  | .reentryRequest q c => Sys2Proof.Machine.execReentryRequest q c s
  | .reentryChecksDone c cause => Sys2Proof.Machine.execReentryChecksDone c cause s
  | .encoderEdge u levels phase => Sys2Proof.Machine.execEncoderEdge u levels phase s
  | .indexEdge u phase => Sys2Proof.Machine.execIndexEdge u phase s
  | .wireBroken u => Sys2Proof.Machine.execWireBroken u s
  | .wireRestored u => Sys2Proof.Machine.execWireRestored u s
  | .hallCodeChange u code phase => Sys2Proof.Machine.execHallCodeChange u code phase s
  | .hallInvalidTimeout u => Sys2Proof.Machine.execHallInvalidTimeout u s
  | .toothEdge u phase => Sys2Proof.Machine.execToothEdge u phase s
  | .toothMiss u phase => Sys2Proof.Machine.execToothMiss u phase s
  | .positionPoll u => Sys2Proof.Machine.execPositionPoll u s
  | .serialPositionFrame u data phase => Sys2Proof.Machine.execSerialPositionFrame u data phase s
  | .compareHit k m phase => Sys2Proof.Machine.execCompareHit k m phase s
  | .cmpArm q k m => Sys2Proof.Machine.execCmpArm q k m s
  | .cmpDisarm q k m => Sys2Proof.Machine.execCmpDisarm q k m s
  | .positionRead q u => Sys2Proof.Machine.execPositionRead q u s
  | .channelProtection c => Sys2Proof.Machine.execChannelProtection c s
  | .phaseTimeLimit c => Sys2Proof.Machine.execPhaseTimeLimit c s
  | .chanRestart q c => Sys2Proof.Machine.execChanRestart q c s
  | .accStart q c => Sys2Proof.Machine.execAccStart q c s
  | .accStop q c => Sys2Proof.Machine.execAccStop q c s
  | .accClear q c => Sys2Proof.Machine.execAccClear q c s
  | .accChargeRead q c => Sys2Proof.Machine.execAccChargeRead q c s
  | .thermalReading d temps => Sys2Proof.Machine.execThermalReading d temps s
  | .extTempReading n volts => Sys2Proof.Machine.execExtTempReading n volts s
  | .safeCmdWrite q p code => Sys2Proof.Machine.execSafeCmdWrite q p code s
  | .stoPinFall b => Sys2Proof.Machine.execStoPinFall b s
  | .stoPinRise b => Sys2Proof.Machine.execStoPinRise b s
  | .stoDiscrepancy => Sys2Proof.Machine.execStoDiscrepancy s
  | .sresetEdge env => Sys2Proof.Machine.execSresetEdge env s
  | .ss1Timeout p => Sys2Proof.Machine.execSs1Timeout p s
  | .torqueMonitorWindow t => Sys2Proof.Machine.execTorqueMonitorWindow t s
  | .safePairCopy o second data => Sys2Proof.Machine.execSafePairCopy o second data s
  | .safePairSingle o => Sys2Proof.Machine.execSafePairSingle o s
  | .dbgChallenge scope => Sys2Proof.Machine.execDbgChallenge scope s
  | .challengeNonceReady => Sys2Proof.Machine.execChallengeNonceReady s
  | .dbgResponse sig => Sys2Proof.Machine.execDbgResponse sig s
  | .dbgVerifyDone => Sys2Proof.Machine.execDbgVerifyDone s
  | .dbgResponseTimeout => Sys2Proof.Machine.execDbgResponseTimeout s
  | .dbgAccess op addr data => Sys2Proof.Machine.execDbgAccess op addr data s
  | .dbgAccessExecute => Sys2Proof.Machine.execDbgAccessExecute s
  | .dbgHalt halt resume step freeze => Sys2Proof.Machine.execDbgHalt halt resume step freeze s
  | .dbgFreeze k => Sys2Proof.Machine.execDbgFreeze k s
  | .dbgResume mask => Sys2Proof.Machine.execDbgResume mask s
  | .dbgStep mask => Sys2Proof.Machine.execDbgStep mask s
  | .dbgEndSession => Sys2Proof.Machine.execDbgEndSession s
  | .tapReset => Sys2Proof.Machine.execTapReset s
  | .freezeTimeout => Sys2Proof.Machine.execFreezeTimeout s
  | .dbgThreadRegWrite k t g value => Sys2Proof.Machine.execDbgThreadRegWrite k t g value s
  | .canFrameReceived n frame phase => Sys2Proof.Machine.execCanFrameReceived n frame phase s
  | .objOpen q o => Sys2Proof.Machine.execObjOpen q o s
  | .objClose q o => Sys2Proof.Machine.execObjClose q o s
  | .objSend q o => Sys2Proof.Machine.execObjSend q o s
  | .latchInstant n => Sys2Proof.Machine.execLatchInstant n s
  | .exclusiveSlot n column wait => Sys2Proof.Machine.execExclusiveSlot n column wait s
  | .arbitratingWindow n column wait => Sys2Proof.Machine.execArbitratingWindow n column wait s
  | .canTxComplete n how phase => Sys2Proof.Machine.execCanTxComplete n how phase s
  | .basicCycleStart n busy => Sys2Proof.Machine.execBasicCycleStart n busy s
  | .referenceFrameReceived n frame sof => Sys2Proof.Machine.execReferenceFrameReceived n frame sof s
  | .syncLost n => Sys2Proof.Machine.execSyncLost n s
  | .busOff n => Sys2Proof.Machine.execBusOff n s
  | .busOffRecovery n => Sys2Proof.Machine.execBusOffRecovery n s
  | .busDominant n => Sys2Proof.Machine.execBusDominant n s
  | .rejoinComplete n => Sys2Proof.Machine.execRejoinComplete n s
  | .canStart q n => Sys2Proof.Machine.execCanStart q n s
  | .canStop q n => Sys2Proof.Machine.execCanStop q n s
  | .canRecover q n => Sys2Proof.Machine.execCanRecover q n s
  | .rollCallStart n frame => Sys2Proof.Machine.execRollCallStart n frame s
  | .rollCallRound n frame => Sys2Proof.Machine.execRollCallRound n frame s
  | .bidReceived n frame => Sys2Proof.Machine.execBidReceived n frame s
  | .rollCallAssign n frame => Sys2Proof.Machine.execRollCallAssign n frame s
  | .unenrolledTimer => Sys2Proof.Machine.execUnenrolledTimer s
  | .heartbeatTimer => Sys2Proof.Machine.execHeartbeatTimer s
  | .roleWrite q role => Sys2Proof.Machine.execRoleWrite q role s
  | .roleApply => Sys2Proof.Machine.execRoleApply s
  | .swFrameGo q => Sys2Proof.Machine.execSwFrameGo q s
  | .masterFrameStart => Sys2Proof.Machine.execMasterFrameStart s
  | .masterFrameDone data => Sys2Proof.Machine.execMasterFrameDone data s
  | .xipWindowRead q addr => Sys2Proof.Machine.execXipWindowRead q addr s
  | .xipInvalidate q => Sys2Proof.Machine.execXipInvalidate q s
  | .slaveRequestFrame data => Sys2Proof.Machine.execSlaveRequestFrame data s
  | .slaveResponseFrame clocked => Sys2Proof.Machine.execSlaveResponseFrame clocked s
  | .slavePortStatusFrame => Sys2Proof.Machine.execSlavePortStatusFrame s
  | .slaveUnknownFrame => Sys2Proof.Machine.execSlaveUnknownFrame s
  | .responseExpired => Sys2Proof.Machine.execResponseExpired s
  | .keepLowerWrite q addr value => Sys2Proof.Machine.execKeepLowerWrite q addr value s
  | .keepUpperWrite q addr value => Sys2Proof.Machine.execKeepUpperWrite q addr value s
  | .keepLowerRead q addr ecc => Sys2Proof.Machine.execKeepLowerRead q addr ecc s
  | .writePage q p => Sys2Proof.Machine.execWritePage q p s
  | .keepClear q p => Sys2Proof.Machine.execClear q p s
  | .recReset q p => Sys2Proof.Machine.execRecReset q p s
  | .pageWriteDone p => Sys2Proof.Machine.execPageWriteDone p s
  | .clearDone p => Sys2Proof.Machine.execClearDone p s
  | .carouselSliceStart d found sarOk => Sys2Proof.Machine.execCarouselSliceStart d found sarOk s
  | .laneSliceCheck k passed => Sys2Proof.Machine.execLaneSliceCheck k passed s
  | .comparatorSliceEnd r passed => Sys2Proof.Machine.execComparatorSliceEnd r passed s
  | .converterTestEnd windowsOk refDev => Sys2Proof.Machine.execConverterTestEnd windowsOk refDev s
  | .clockMonitorCleared r => Sys2Proof.Machine.execClockMonitorCleared r s
  | .discrepancyCleared => Sys2Proof.Machine.execDiscrepancyCleared s
  | .refinInRange millivolts => Sys2Proof.Machine.execRefinInRange millivolts s
  | .busError n => Sys2Proof.Machine.execBusError n s

end Sys2Proof.Machine
end

