-- ==== Sys2Proof/WellFormed.lean ====
section
/-!
DEFINITION. Which commands are well formed: the operands that Syntax.lean holds as lists and numbers have the lengths and ranges that the
spec gives them. Operands bounded by their types need no check. A meaning is total, and answers for ill-formed commands as well.
-/
namespace Sys2Proof

/-- A CAN frame's identifier and length fit its format (R487; ISO 11898-1 lengths are 0 to 8, and 12, 16, 20, 24, 32, 48 and 64). -/
def CanFrame.wf (f : CanFrame) : Bool :=
  decide (f.ident < if f.extended then 0x20000000 else 0x800) && (f.fd || !f.brs) &&
    (decide (f.data.length ≤ 8) || (f.fd && [12, 16, 20, 24, 32, 48, 64].contains f.data.length))

/-- A SAR code: 16 bits (R227). -/
def sarCode (i : Int) : Bool := decide (-32768 ≤ i) && decide (i ≤ 32767)

/-- A cell's record: sixteen codes of each converter (R227). -/
def CellSample.wf (c : CellSample) : Bool :=
  c.sar0.length == 16 && c.sar1.length == 16 && c.sar0.all sarCode && c.sar1.all sarCode

/-- A latch carries 48 cells' records and 48 fast voltages, and a bit for each region and each trio. -/
def LatchInputs.wf (i : LatchInputs) : Bool :=
  i.cells.length == 48 && i.cells.all CellSample.wf && i.vdcB.all sarCode && i.fast.length == 48 && decide (i.regionLost < 16) &&
    decide (i.tmDiffer < 0x10000)

/-- A start shows eight dies and 78 on-die sensors, and results that fit their fields (Table 2-4, Table 21-3). -/
def StartEnv.wf (e : StartEnv) : Bool :=
  (match e.groupFail with | some g => decide (g < 30) | none => true) && e.temps.length == 78

/-- Which commands are well formed. -/
def Instr.wf : Instr → Bool
  | .sampleLatch i => i.wf
  | .commandRecordReceived _ d => decide (d < 4096)
  | .regionReturnChecksDone _ _ cs => cs.length == 6 && cs.all (fun c => decide (c < 64))
  | .coldStart e | .restart _ e | .sresetEdge e => e.wf
  | .canLoadPiece node off d => decide (node < 0x10000) && decide (off < 0x1000000) && d.length == 60
  | .canLoadStatusRequest node => decide (node < 0x10000)
  | .canServiceRequest _ f | .canFrameReceived _ f _ | .referenceFrameReceived _ f _ | .rollCallStart _ f | .rollCallRound _ f
  | .bidReceived _ f | .rollCallAssign _ f => f.wf
  | .scmpTick _ is => is.length == 84
  | .rawCommandEdge _ _ t => decide (t < 4000)
  | .windowEnd _ v i _ _ _ => decide (v.natAbs ≤ 16777216) && decide (i.natAbs ≤ 16777216)
  | .thermalReading _ ts => decide (ts.length ≤ 14)
  | .safePairCopy _ _ d => decide (d.length ≤ 64)
  | .dbgResponse sig => sig.length == 64
  | .masterFrameDone d => decide (d.length ≤ 4096)
  | .xipWindowRead _ a => decide (0x60000000 ≤ a.toNat) && decide (a.toNat < 0x64000000)
  | .keepLowerWrite _ a _ | .keepLowerRead _ a _ => decide (0x50000000 ≤ a.toNat) && decide (a.toNat < 0x51000000) && a.toNat / 4 % 2 == 0
  | .keepUpperWrite _ a _ => decide (0x50000000 ≤ a.toNat) && decide (a.toNat < 0x51000000) && a.toNat / 4 % 2 == 1
  | _ => true

end Sys2Proof
end

