-- ==== Sys2Proof/Safety.lean ====
section
/-!
DEFINITION. The words the statements are made of: a sound state, the outcomes they speak of, and the conditions under which a command has
its own effect.
-/
namespace Sys2Proof.Machine

/-- A state whose addressed memory has its canonical form: addresses rise strictly, and no entry holds what an unwritten byte reads as. -/
def State.sound (s : State) : Prop := Memory.wf s.mem = true

/-- The outcome is a next state for which `P` holds. -/
def completes (o : Host.Outcome State Fault Refusal) (P : State → Prop) : Prop :=
  match o with
  | .next t => P t
  | .fault _ => False
  | .refused _ => False

/-- The next state in which only the part has changed, to `h`: memory and the queue stand. -/
def State.to (s : State) (h : Hw) : Host.Outcome State Fault Refusal := .next { s with hw := h }

/-- The next state in which the part and its memory have changed; the queue stands. -/
def State.toMach (s : State) (m : Memory) (h : Hw) : Host.Outcome State Fault Refusal := .next { s with mem := m, hw := h }

-- ## Threads

/-- Thread t of block k issues the valid word w of opcode op: the block belongs to an active partition and is not paused, t is the first
READY thread after the one that issued last, and w stands at its PC (R140, R145). -/
def State.issuing (s : State) (k t op : Nat) (w : Word) : Prop :=
  s.hw.live = true ∧ s.hw.blockActive k = true ∧ s.hw.paused k = false ∧ s.hw.nextReady k = some t ∧ s.hw.wordAt k t = some w ∧
    seqValid w = true ∧ seqOp w = op

/-- Thread t of block k is the one that issued last. -/
def Hw.issued (h : Hw) (k t : Nat) : Hw := h.setBlock k { h.block k with lastThread := t }

/-- Thread t of block k has issued, v is in G_d, and the thread goes on at the next word. -/
def State.resulting (s : State) (k t d : Nat) (v : Word) : Host.Outcome State Fault Refusal :=
  s.to (((s.hw.issued k t).setGen k t d v).goto k t (s.hw.threadPc k t + 4))

-- ## Lane programs

/-- The word w of opcode op is due in block k's running lane program (R277). -/
def State.laneAt (s : State) (k op : Nat) (w : Word) : Prop :=
  s.hw.live = true ∧ s.hw.laneWord k = some w ∧ laneOp w = op

/-- The operation that was due in block k has had the effect `h`, and its program goes on at the next word. -/
def State.laneNext (s : State) (k : Nat) (h : Hw) : Host.Outcome State Fault Refusal :=
  s.to (h.setBlock k { h.block k with lanePc := (h.block k).lanePc + 1 })

/-- The part at END of block k's program before its capture unit takes the point: the outputs of a CHANNEL block, the torque states of a TRIO
block (R330), the completion cycle (R162, R277), the commands sent and the inputs that lane outputs write (R110, R287, R398). -/
def Hw.programSent (h : Hw) (k : Nat) : Hw :=
  let h := if h.mode k = 3 then (cellsOf k).foldl (fun (a : Hw) c => a.chanOutputs c) h else h
  (((if h.mode k = 1 then h.torqueShown k else h).laneFinish k).sendOutputs k).laneWriters k

-- ## Register accesses

/-- The checks ahead of the unit let requester q write v to register r: its rights, the owner's state, the fields' ranges and locks (R104 to
R108, R613). -/
def State.admits (s : State) (q : Requester) (r : RegId) (v : Word) : Prop := s.hw.live = true ∧ s.hw.preStatus q r.addr v = .ok

/-- A write of register r is answered OK, with the effect `h` in its unit; a word that is written whole is good (R571). -/
def State.wrote (s : State) (r : RegId) (h : Hw) : Host.Outcome State Fault Refusal := s.to ((h.ramWritten r.addr).answer .ok 0)

/-- The checks of R104 to R107 let requester q read register r. -/
def State.readable (s : State) (q : Requester) (r : RegId) : Prop :=
  s.hw.live = true ∧ s.hw.turnstile q r.addr false 0 = (none, none)

-- ## Commands that may store

end Sys2Proof.Machine

namespace Sys2Proof

/-- Whether a command may write addressed memory: the capture areas, the frame buffer and keep memory (Tables 1-6 to 1-8). -/
def Instr.mayStore (c : Instr) : Bool :=
  match c with
  | .registerWrite _ _ _ | .restart _ _ | .keepLowerWrite _ _ _ | .keepUpperWrite _ _ _ | .recReset _ _ | .bsSwitch _
  | .dschStart _ | .dschStop _ | .coldStart _ | .pllLock | .aonReset | .wakePinEdge | .canWakeUpPattern _ | .stepBoundary
  | .frameBoundary _ | .partitionActivate _ | .supplyDip _ _ | .vsupLow _ | .shutdownStopped | .stopTimeout | .shutdownTestEnd _
  | .enterStandby | .opSecondsIncrement | .keepWriteRetry | .checksDone | .reloadApplySet _ | .serialRequestExecuted
  | .canServiceExecuted _ | .accessComplete _ _ | .dischargeDone | .dischargeTimeout | .windowEnd _ _ _ _ _ _ | .laneEnd _
  | .sresetEdge _ | .dbgAccessExecute | .dbgThreadRegWrite _ _ _ _ | .masterFrameDone _ | .pageWriteDone _ | .clearDone _ => true
  | _ => false

end Sys2Proof
end

