-- ==== Sys2Proof/Certificates/Slice0/Obligations.lean ====
section
/-!
DEFINITION. The statements for the provers, family by family.
-/
open Sys2Proof Sys2Proof.Machine

/-- For every state whose queue holds command c in front of others, a step is exec of c on the state with the queue's rest. On an
empty queue the state stands, which is the model's choice (log entry 6). (spec/INDEX.md, notes/assumptions/6.md) -/
def Obligations.StepRunsFront : Prop :=
  (∀ (s : State) (c : Instr) (rest : List Instr), s.pending = c :: rest → step s = exec c { s with pending := rest }) ∧
  (∀ s : State, s.pending = [] → step s = .next s)

/-- After reset the memory lists nothing and is sound, the queue is empty, the part waits for supply-good with INH high, no die runs,
and every register reads the reset value of its table; where a table gives none, that value is the model's choice (log entries 3
and 4). (R53, spec/02_power_clocks_start.md Table 2-4, notes/assumptions/3.md, notes/assumptions/4.md) -/
def Obligations.ResetState : Prop :=
  State.reset.sound ∧ State.reset.mem = [] ∧ State.reset.pending = [] ∧ State.reset.hw.power = .waitSupply ∧
  State.reset.hw.inh = true ∧ State.reset.hw.live = false ∧ ∀ r : RegId, State.reset.hw.reg r = r.reset

/-- For every state whose addressed memory has its canonical form (addresses rise strictly, and no entry holds what an unwritten byte
reads as), every next state of a step has it too, whatever the command is. (spec/INDEX.md, notes/assumptions/4.md) -/
def Obligations.EveryStepSound : Prop :=
  ∀ s t : State, s.sound → step s = .next t → t.sound

/-- Every command, in every state, ends in a next state that differs in the part and its memory only: the queue is never touched, and
nothing stops by a fault or a refusal. A command outside the list of those that may store leaves every byte of memory as it was.
(R11, R105, R541, notes/assumptions/6.md) -/
def Obligations.EveryCommandAnswers : Prop :=
  (∀ (c : Instr) (s : State), ∃ (m : Memory) (h : Hw), exec c s = s.toMach m h) ∧
  (∀ (c : Instr) (s : State), c.mayStore = false → ∃ h : Hw, exec c s = s.to h)

/-- When thread t of block k issues a valid word of MOVI, MOVHI, ADDI, ADD, SUB, AND, OR, XOR or SHIFT, the next state differs only in
that t issued last, G_D holds the result of Table 5-5 (sext(IMM); IMM in the upper half over the lower half of G_A; G_A +
sext(IMM); the sum, difference, and, or, exclusive or of G_A and G_B modulo 2^32; the logical left, logical right or arithmetic
right shift of G_A), and the thread goes on at PC + 4. (R140, R141, R145, R146, spec/05_ringmaster_sequencers.md Table 5-5) -/
def Obligations.ThreadArithmetic : Prop :=
  (∀ (s : State) (k : BlockId) (t : ThreadId) (w : Word), s.issuing k t 0x01 w →
    exec (.movi k t) s = s.resulting k t (seqD w) ((BitVec.ofNat 16 (seqImm w)).signExtend 32)) ∧
  (∀ (s : State) (k : BlockId) (t : ThreadId) (w : Word), s.issuing k t 0x02 w →
    exec (.movhi k t) s = s.resulting k t (seqD w) (BitVec.ofNat 32 (65536 * seqImm w + (s.hw.gen k t (seqA w)).toNat % 65536))) ∧
  (∀ (s : State) (k : BlockId) (t : ThreadId) (w : Word), s.issuing k t 0x03 w →
    exec (.addi k t) s = s.resulting k t (seqD w) (s.hw.gen k t (seqA w) + (BitVec.ofNat 16 (seqImm w)).signExtend 32)) ∧
  (∀ (s : State) (k : BlockId) (t : ThreadId) (w : Word), s.issuing k t 0x04 w →
    exec (.addOp k t) s = s.resulting k t (seqD w) (s.hw.gen k t (seqA w) + s.hw.gen k t (seqB w))) ∧
  (∀ (s : State) (k : BlockId) (t : ThreadId) (w : Word), s.issuing k t 0x05 w →
    exec (.subOp k t) s = s.resulting k t (seqD w) (s.hw.gen k t (seqA w) - s.hw.gen k t (seqB w))) ∧
  (∀ (s : State) (k : BlockId) (t : ThreadId) (w : Word), s.issuing k t 0x06 w →
    exec (.andOp k t) s = s.resulting k t (seqD w) (s.hw.gen k t (seqA w) &&& s.hw.gen k t (seqB w))) ∧
  (∀ (s : State) (k : BlockId) (t : ThreadId) (w : Word), s.issuing k t 0x07 w →
    exec (.orOp k t) s = s.resulting k t (seqD w) (s.hw.gen k t (seqA w) ||| s.hw.gen k t (seqB w))) ∧
  (∀ (s : State) (k : BlockId) (t : ThreadId) (w : Word), s.issuing k t 0x08 w →
    exec (.xorOp k t) s = s.resulting k t (seqD w) (s.hw.gen k t (seqA w) ^^^ s.hw.gen k t (seqB w))) ∧
  (∀ (s : State) (k : BlockId) (t : ThreadId) (w : Word), s.issuing k t 0x09 w →
    exec (.shiftOp k t) s = s.resulting k t (seqD w) (if seqImm w / 32 % 4 = 0 then s.hw.gen k t (seqA w) <<< (seqImm w % 32)
      else if seqImm w / 32 % 4 = 1 then s.hw.gen k t (seqA w) >>> (seqImm w % 32) else (s.hw.gen k t (seqA w)).sshiftRight (seqImm w % 32)))

/-- When thread t of block k issues BEQ, BNE, BLT or BGE, it goes on at PC + 4 × sext(OFF) if the registers compare so (signed for BLT
and BGE) and else at PC + 4. JUMP goes on at PC + 4 × sext(OFF) where A is 0 and at G_A + 4 × sext(OFF) else. CALL does so with PC
+ 4 pushed on a return stack of fewer than eight entries, and with eight the thread faults with cause 0x0A. RET goes on at the
popped address, and from an empty stack it faults with cause 0x0A. Nothing else changes. (R140, R145, R146, R156, R159) -/
def Obligations.ThreadBranches : Prop :=
  (∀ (s : State) (k : BlockId) (t : ThreadId) (w : Word), s.issuing k t 0x0A w →
    exec (.beq k t) s = s.to ((s.hw.issued k t).goto k t
      (if s.hw.gen k t (seqD w) = s.hw.gen k t (seqA w) then branchTo (s.hw.threadPc k t) w else s.hw.threadPc k t + 4))) ∧
  (∀ (s : State) (k : BlockId) (t : ThreadId) (w : Word), s.issuing k t 0x0B w →
    exec (.bne k t) s = s.to ((s.hw.issued k t).goto k t
      (if s.hw.gen k t (seqD w) ≠ s.hw.gen k t (seqA w) then branchTo (s.hw.threadPc k t) w else s.hw.threadPc k t + 4))) ∧
  (∀ (s : State) (k : BlockId) (t : ThreadId) (w : Word), s.issuing k t 0x0C w →
    exec (.blt k t) s = s.to ((s.hw.issued k t).goto k t
      (if (s.hw.gen k t (seqD w)).toInt < (s.hw.gen k t (seqA w)).toInt then branchTo (s.hw.threadPc k t) w else s.hw.threadPc k t + 4))) ∧
  (∀ (s : State) (k : BlockId) (t : ThreadId) (w : Word), s.issuing k t 0x0D w →
    exec (.bge k t) s = s.to ((s.hw.issued k t).goto k t
      (if (s.hw.gen k t (seqA w)).toInt ≤ (s.hw.gen k t (seqD w)).toInt then branchTo (s.hw.threadPc k t) w else s.hw.threadPc k t + 4))) ∧
  (∀ (s : State) (k : BlockId) (t : ThreadId) (w : Word), s.issuing k t 0x0E w →
    exec (.jumpOp k t) s = s.to ((s.hw.issued k t).goto k t
      (branchTo (if seqA w = 0 then s.hw.threadPc k t else (s.hw.gen k t (seqA w)).toNat) w))) ∧
  (∀ (s : State) (k : BlockId) (t : ThreadId) (w : Word), s.issuing k t 0x0F w →
    exec (.callOp k t) s = s.to (if (s.hw.thread k t).stack.length < 8 then
      (((s.hw.issued k t).setThread k t { s.hw.thread k t with stack := (s.hw.threadPc k t + 4) :: (s.hw.thread k t).stack }).goto k t
        (branchTo (if seqA w = 0 then s.hw.threadPc k t else (s.hw.gen k t (seqA w)).toNat) w))
      else (s.hw.issued k t).threadFault k t 0x0A (s.hw.reg (BLK_SEQ_PC k t)))) ∧
  (∀ (s : State) (k : BlockId) (t : ThreadId) (w : Word) (a : Nat) (r : List Nat), s.issuing k t 0x10 w → (s.hw.thread k t).stack = a :: r →
    exec (.retOp k t) s = s.to (((s.hw.issued k t).setThread k t { s.hw.thread k t with stack := r }).goto k t a)) ∧
  (∀ (s : State) (k : BlockId) (t : ThreadId) (w : Word), s.issuing k t 0x10 w → (s.hw.thread k t).stack = [] →
    exec (.retOp k t) s = s.to ((s.hw.issued k t).threadFault k t 0x0A (s.hw.reg (BLK_SEQ_PC k t))))

/-- A thread that goes on at a multiple of 4 in its block's code area has that PC, no fetched word, no stall, and state READY, with
nothing else changed. At an address of the direct-execution window that the port can reach in master role, it is STALLED with a
fetch of that word, counted as a hit or a miss. In slave role it faults with cause 0x0B at that address. At any other address it
faults with cause 0x09 at the PC that produced it. (R140, R156, R157, R159) -/
def Obligations.ThreadGoesOn : Prop :=
  (∀ (h : Hw) (k : BlockId) (t : ThreadId) (a : Nat), a % 4 = 0 → 0x21000000 + k.val * 0x1000 ≤ a →
    a < 0x21000000 + k.val * 0x1000 + 0x1000 →
    h.goto k t a = ((h.setReg (BLK_SEQ_PC k t) (BitVec.ofNat 32 a)).setThread k t { h.thread k t with fetched := none, stall := .none }).wr
      (BLK_SEQ_STATE.THREAD k t) 1) ∧
  (∀ (h : Hw) (k : BlockId) (t : ThreadId) (a : Nat), a % 4 = 0 → 0x60000000 ≤ a → a < 0x64000000 → h.spiSlave = false →
    h.xipReaches (a - 0x60000000) = true →
    h.goto k t a = (((((h.setReg (BLK_SEQ_PC k t) (BitVec.ofNat 32 a)).setThread k t { h.thread k t with fetched := none, stall := .none }).xipClose
      (whoFetch k t)).xipOpen (whoFetch k t) (a - 0x60000000)).setThread k t { h.thread k t with fetched := none, stall := .fetch a }).wr
        (BLK_SEQ_STATE.THREAD k t) 3) ∧
  (∀ (h : Hw) (k : BlockId) (t : ThreadId) (a : Nat), a % 4 = 0 → 0x60000000 ≤ a → a < 0x64000000 → h.spiSlave = true →
    h.goto k t a = ((h.setReg (BLK_SEQ_PC k t) (BitVec.ofNat 32 a)).setThread k t { h.thread k t with fetched := none, stall := .none }).threadFault k t
      0x0B (BitVec.ofNat 32 a)) ∧
  (∀ (h : Hw) (k : BlockId) (t : ThreadId) (a : Nat), a % 4 ≠ 0 ∨ a < 0x21000000 + k.val * 0x1000 ∨
      (0x21000000 + k.val * 0x1000 + 0x1000 ≤ a ∧ a < 0x60000000) ∨ 0x64000000 ≤ a →
    h.goto k t a = h.threadFault k t 0x09 (h.reg (BLK_SEQ_PC k t)))

/-- LOAD stalls its thread with a read of G_A + sext(IMM) for G_D, STORE with a write of G_D there, and PACE with a ramp on the input
in G_A to the target in G_B at the rate in G_D. When the access of a stalled thread completes, a LOAD writes the word read to G_D,
the status goes to G_15, and the thread goes on at PC + 4, or is HALTED there where a STOP waits, in the part and the memory that
the access left; a read that waits for the window leaves the thread stalled. (R140, R141, R147, spec/05_ringmaster_sequencers.md
Table 5-5) -/
def Obligations.ThreadAccesses : Prop :=
  (∀ (s : State) (k : BlockId) (t : ThreadId) (w : Word), s.issuing k t 0x11 w →
    exec (.loadOp k t) s = s.to (((s.hw.issued k t).setThread k t { s.hw.thread k t with
      stall := .load (seqD w) (s.hw.gen k t (seqA w) + seqSext w).toNat }).wr (BLK_SEQ_STATE.THREAD k t) 3)) ∧
  (∀ (s : State) (k : BlockId) (t : ThreadId) (w : Word), s.issuing k t 0x12 w →
    exec (.storeOp k t) s = s.to (((s.hw.issued k t).setThread k t { s.hw.thread k t with
      stall := .store (s.hw.gen k t (seqA w) + seqSext w).toNat (s.hw.gen k t (seqD w)) }).wr (BLK_SEQ_STATE.THREAD k t) 3)) ∧
  (∀ (s : State) (k : BlockId) (t : ThreadId) (w : Word), s.issuing k t 0x18 w →
    exec (.paceOp k t) s = s.to (((s.hw.issued k t).setThread k t { s.hw.thread k t with
      stall := .pace ((s.hw.gen k t (seqA w)).toNat % 65536) ((s.hw.gen k t (seqB w)).toNat % 65536) (s.hw.gen k t (seqD w)).toNat }).wr
        (BLK_SEQ_STATE.THREAD k t) 3)) ∧
  (∀ (s : State) (k : BlockId) (t : ThreadId) (d a : Nat), s.hw.live = true → s.hw.threadState k t = 3 →
    (s.hw.thread k t).stall = .load d a →
    exec (.accessComplete k t) s = match (Mach.mk s.mem s.hw).busRead (.thread k t) (whoLoad k t) a 0 with
      | (some (r, w), m) => s.toMach m.mem ((m.hw.setGen k t d w).accessDone k t r)
      | (none, m) => s.toMach m.mem m.hw) ∧
  (∀ (s : State) (k : BlockId) (t : ThreadId) (a : Nat) (v : Word), s.hw.live = true → s.hw.threadState k t = 3 →
    (s.hw.thread k t).stall = .store a v →
    exec (.accessComplete k t) s =
      (let r := (Mach.mk s.mem s.hw).busWrite (.thread k t) a v
       s.toMach r.2.mem (if r.2.hw.restarted then r.2.hw else r.2.hw.accessDone k t r.1))) ∧
  (∀ (s : State) (k : BlockId) (t : ThreadId) (n target rate : Nat), s.hw.live = true → s.hw.threadState k t = 3 →
    (s.hw.thread k t).stall = .pace n target rate →
    exec (.accessComplete k t) s = s.to
      (let r := s.hw.pace k t n target rate
       (if r.1 = .ok then r.2 else s.hw.refused (.thread k t) r.1 (BLK_INPUT_VALUE k n).addr).accessDone k t r.1)) ∧
  (∀ (h : Hw) (k : BlockId) (t : ThreadId) (r : Status), h.threadState k t = 3 → (h.thread k t).stopReq = false →
    h.accessDone k t r = ((h.setGen k t 15 (BitVec.ofNat 32 r.code)).setThread k t
      { h.thread k t with stall := .none, stopReq := false }).goto k t (h.threadPc k t + 4)) ∧
  (∀ (h : Hw) (k : BlockId) (t : ThreadId) (r : Status), h.threadState k t = 3 → (h.thread k t).stopReq = true →
    pcFits k (h.threadPc k t + 4) = true →
    (h.accessDone k t r).threadState k t = 4 ∧ (h.accessDone k t r).threadPc k t = h.threadPc k t + 4 ∧
      (h.accessDone k t r).gen k t 15 = BitVec.ofNat 32 r.code)

/-- SET sets a flag of the own block as a thread of the partition does, CLR clears one, and SIGNAL sets one of a block of the same
partition that is not fenced and leaves OK in G_15, each going on at PC + 4. A WAIT that declares a flag source and finds a flag
of its mask set goes on with the declared bits 0 and 1 in G_15; any other WAIT makes its thread WAITING with its mask, its sources
and its timeout. WAIT_TIMEOUT wakes a waiting thread whose timeout has come with the sources that fired. COMMIT of an active
partition requests its COMMIT and goes on. HALT makes the thread HALTED with PC at the instruction. An invalid word faults the
thread with cause 0x08. (R141, R145, R147, R149, R151, R152, R159, R161) -/
def Obligations.ThreadFlagsAndWaits : Prop :=
  (∀ (s : State) (k : BlockId) (t : ThreadId) (w : Word), s.issuing k t 0x13 w →
    exec (.setFlag k t) s = s.to (((s.hw.issued k t).setFlags k (BitVec.ofNat 32 (2 ^ (seqImm w % 32))) 0).advance k t)) ∧
  (∀ (s : State) (k : BlockId) (t : ThreadId) (w : Word), s.issuing k t 0x14 w →
    exec (.clrFlag k t) s = s.to (((s.hw.issued k t).setReg (BLK_SEQ_FLAGS k)
      (s.hw.reg (BLK_SEQ_FLAGS k) &&& ~~~ (BitVec.ofNat 32 (2 ^ (seqImm w % 32))))).goto k t (s.hw.threadPc k t + 4))) ∧
  (∀ (s : State) (k : BlockId) (t : ThreadId) (w : Word), s.issuing k t 0x15 w → s.hw.owner (seqImm w / 256 % 8) = s.hw.owner k →
    s.hw.blockFenced (seqImm w / 256 % 8) = false → s.hw.regionHolds (seqImm w / 256 % 8) = false →
    exec (.signalOp k t) s = s.to ((((s.hw.issued k t).setFlags (seqImm w / 256 % 8) (BitVec.ofNat 32 (2 ^ (seqImm w % 32))) 0).setGen k t 15 0).advance k t)) ∧
  (∀ (s : State) (k : BlockId) (t : ThreadId) (w : Word), s.issuing k t 0x16 w →
    s.hw.reg (BLK_SEQ_FLAGS k) &&& s.hw.gen k t (seqD w) ≠ 0 → seqSources w % 4 ≠ 0 →
    exec (.waitOp k t) s = s.resulting k t 15 (BitVec.ofNat 32 (seqSources w % 4))) ∧
  (∀ (s : State) (k : BlockId) (t : ThreadId) (w : Word), s.issuing k t 0x16 w →
    s.hw.reg (BLK_SEQ_FLAGS k) &&& s.hw.gen k t (seqD w) = 0 ∨ seqSources w % 4 = 0 →
    exec (.waitOp k t) s = s.to (((s.hw.issued k t).setThread k t { s.hw.thread k t with
      mask := (s.hw.gen k t (seqD w)).toNat, sources := seqSources w, timeout := s.hw.stepCount + seqImm w, fired := 0 }).wr
        (BLK_SEQ_STATE.THREAD k t) 2)) ∧
  (∀ (s : State) (k : BlockId) (t : ThreadId), s.hw.live = true → s.hw.threadState k t = 2 → (s.hw.thread k t).sources.testBit 4 = true →
    (s.hw.thread k t).timeout ≤ s.hw.stepCount → s.hw.paused k = false →
    exec (.waitTimeout k t) s = s.to (s.hw.wakeThread k t ((s.hw.thread k t).fired +
      (if s.hw.frameDue = true ∧ (s.hw.thread k t).sources.testBit 3 = true then 8 else 0) + 16))) ∧
  (∀ (s : State) (k : BlockId) (t : ThreadId) (p : PartId) (w : Word), s.issuing k t 0x17 w → s.hw.owner k = some p.val →
    exec (.commitOp k t) s = s.to (((s.hw.issued k t).setPart p { s.hw.part p with commitReq := true }).goto k t (s.hw.threadPc k t + 4))) ∧
  (∀ (s : State) (k : BlockId) (t : ThreadId) (w : Word), s.issuing k t 0x19 w →
    exec (.haltOp k t) s = s.to ((s.hw.issued k t).wr (BLK_SEQ_STATE.THREAD k t) 4)) ∧
  (∀ (s : State) (k : BlockId) (t : ThreadId) (w : Word), s.hw.live = true → s.hw.issues k t = some w → seqValid w = false →
    exec (.threadIllegal k t) s = s.to ((s.hw.issued k t).threadFault k t 0x08 (s.hw.reg (BLK_SEQ_PC k t))))

/-- When the word of a stalled thread's fetch arrives, the thread stops waiting in the window and holds the word, and it is READY, or
HALTED where a STOP waits. A fetch that has taken 20 µs faults the thread with cause 0x0B at the address fetched. Nothing else
changes. (R157, R159, R160) -/
def Obligations.ThreadFetches : Prop :=
  (∀ (s : State) (k : BlockId) (t : ThreadId) (word : Word) (a : Nat) (x : XipWait), s.hw.live = true → s.hw.threadState k t = 3 →
    (s.hw.thread k t).stall = .fetch a → s.hw.xipWait (whoFetch k t) (a - 0x60000000) = some x → x.word = some word →
    exec (.windowFetchDone k t word) s = s.to ((({ s.hw with serial := { s.hw.serial with
      waits := s.hw.serial.waits.filter (fun w => w.who != whoFetch k t) } }).setThread k t
        { s.hw.thread k t with stall := .none, fetched := some word, stopReq := false }).wr (BLK_SEQ_STATE.THREAD k t)
          (if (s.hw.thread k t).stopReq = true then 4 else 1))) ∧
  (∀ (s : State) (k : BlockId) (t : ThreadId) (a : Nat), s.hw.live = true → s.hw.threadState k t = 3 → (s.hw.thread k t).stall = .fetch a →
    exec (.fetchTimeout k t) s = s.to ((s.hw.xipClose (whoFetch k t)).threadFault k t 0x0B (BitVec.ofNat 32 a)))

/-- A write of START that passes the checks clears an IDLE, HALTED or FAULTED thread and makes it READY at its THREAD_START word, and
leaves a READY, WAITING or STALLED thread. A write of STOP makes a READY or WAITING thread HALTED and leaves one that is IDLE,
HALTED, FAULTED or FENCED; a STALLED thread keeps the request. A write of the flags sets them as the host does, or as a thread of
the partition does, and a write of FLAGS_CLR clears them. A write of COMMIT requests the COMMIT of the active partition. Each is
answered OK and changes nothing else. (R142, R151, R152, R160, R161, R163) -/
def Obligations.ThreadControls : Prop :=
  (∀ (s : State) (q : Requester) (k : BlockId) (t : ThreadId), s.admits q (BLK_SEQ_CTRL k) (BitVec.ofNat 32 (2 ^ t.val)) →
    exec (.threadStart q k t) s = s.wrote (BLK_SEQ_CTRL k)
      (if s.hw.threadState k t = 0 ∨ s.hw.threadState k t = 4 ∨ s.hw.threadState k t = 5 then s.hw.startThread k t else s.hw)) ∧
  (∀ (s : State) (q : Requester) (k : BlockId) (t : ThreadId), s.admits q (BLK_SEQ_CTRL k) (BitVec.ofNat 32 (256 * 2 ^ t.val)) →
    exec (.threadStop q k t) s = s.wrote (BLK_SEQ_CTRL k)
      (if s.hw.threadState k t = 1 ∨ s.hw.threadState k t = 2 then s.hw.wr (BLK_SEQ_STATE.THREAD k t) 4
       else if s.hw.threadState k t = 3 then s.hw.setThread k t { s.hw.thread k t with stopReq := true } else s.hw)) ∧
  (∀ (s : State) (q : Requester) (k : BlockId) (flags : Word), s.admits q (BLK_SEQ_FLAGS k) flags →
    exec (.seqFlagsSet q k flags) s = s.wrote (BLK_SEQ_FLAGS k) (s.hw.setFlags k flags (match q with | .thread _ _ => 0 | _ => 1))) ∧
  (∀ (s : State) (q : Requester) (k : BlockId) (flags : Word), s.admits q (BLK_SEQ_FLAGS_CLR k) flags →
    exec (.seqFlagsClear q k flags) s = s.wrote (BLK_SEQ_FLAGS_CLR k)
      (s.hw.setReg (BLK_SEQ_FLAGS k) (s.hw.reg (BLK_SEQ_FLAGS k) &&& ~~~flags))) ∧
  (∀ (s : State) (q : Requester) (k : BlockId) (p : PartId), s.admits q (BLK_SEQ_COMMIT k) 1#32 → s.hw.requesterPart q = some p.val →
    s.hw.active p = true →
    exec (.seqCommitWrite q k) s = s.wrote (BLK_SEQ_COMMIT k) (s.hw.setPart p { s.hw.part p with commitReq := true }))

/-- A switch that is commanded on, whose opposite is commanded off, whose gate is in hold-off or in a turn-off phase and which does
not wait, starts its turn-on where the opposite gate is confirmed low: the profile and dv/dt registers are latched for the edge,
blanking starts and the gate is in its strong turn-on phase. A turn-off of a switch that is commanded off and whose gate is in a
turn-on phase latches the turn-off profile and enters the strong turn-off phase. The pre-level and the pre-timeout, whichever
comes first, end the strong phase; the dv/dt transition ends the weak phase; a weak timeout does so too and is counted, also where
a soft turn-off took the edge over in its weak phase. Nothing else changes. (R165, R166, R167, R168, R177,
notes/assumptions/10.md) -/
def Obligations.GateEdges : Prop :=
  (∀ (s : State) (c : CellId) (sw : Switch), s.hw.live = true → s.hw.on (gateCmd c sw) = true →
    s.hw.on (gateCmd c (otherSwitch sw)) = false → s.hw.rd (gatePhase c sw) = 0 ∨ s.hw.rd (gatePhase c sw) = 4 ∨
    s.hw.rd (gatePhase c sw) = 5 → ((s.hw.cell c).sw sw).waiting = false → ((s.hw.cell c).sw (otherSwitch sw)).low = true →
    exec (.gateTurnOn c sw) s = s.to ((s.hw.setCell c ((s.hw.cell c).setSw sw { (s.hw.cell c).sw sw with
      profile := s.hw.reg (profileOn c sw), dvdt := s.hw.reg (LEG_GD_DVDT c), waiting := false, low := false, blank := true })).wr (gatePhase c sw) 1)) ∧
  (∀ (s : State) (c : CellId) (sw : Switch), s.hw.on (gateCmd c sw) = false → 1 ≤ s.hw.rd (gatePhase c sw) → s.hw.rd (gatePhase c sw) ≤ 3 →
    exec (.gateTurnOff c sw) s = s.to ((s.hw.setCell c ((s.hw.cell c).setSw sw { (s.hw.cell c).sw sw with
      profile := s.hw.reg (profileOff c sw), dvdt := s.hw.reg (LEG_GD_DVDT c), waiting := false, blank := false })).wr (gatePhase c sw) 4)) ∧
  (∀ (s : State) (c : CellId) (sw : Switch), s.hw.rd (gatePhase c sw) = 1 →
    exec (.preLevelReached c sw) s = s.to (s.hw.wr (gatePhase c sw) 2)) ∧
  (∀ (s : State) (c : CellId) (sw : Switch), s.hw.rd (gatePhase c sw) = 4 →
    exec (.preLevelReached c sw) s = s.to (s.hw.wr (gatePhase c sw) 5)) ∧
  (∀ (s : State) (c : CellId) (sw : Switch), s.hw.rd (gatePhase c sw) = 1 →
    exec (.preTimeout c sw) s = s.to (s.hw.wr (gatePhase c sw) 2)) ∧
  (∀ (s : State) (c : CellId) (sw : Switch), s.hw.rd (gatePhase c sw) = 4 →
    exec (.preTimeout c sw) s = s.to (s.hw.wr (gatePhase c sw) 5)) ∧
  (∀ (s : State) (c : CellId) (sw : Switch), s.hw.rd (gatePhase c sw) = 2 →
    exec (.dvdtTransition c sw) s = s.to (s.hw.wr (gatePhase c sw) 3)) ∧
  (∀ (s : State) (c : CellId) (sw : Switch), s.hw.rd (gatePhase c sw) = 5 →
    exec (.dvdtTransition c sw) s = s.to (s.hw.wr (gatePhase c sw) 0)) ∧
  (∀ (s : State) (c : CellId) (sw : Switch), s.hw.rd (gatePhase c sw) = 2 →
    exec (.weakTimeout c sw) s = s.to ((s.hw.wr (gatePhase c sw) 3).incTop (LEG_GD_COUNT.SLOPE_TIMEOUTS c))) ∧
  (∀ (s : State) (c : CellId) (sw : Switch), s.hw.rd (gatePhase c sw) = 5 →
    exec (.weakTimeout c sw) s = s.to ((s.hw.wr (gatePhase c sw) 0).incTop (LEG_GD_COUNT.SLOPE_TIMEOUTS c))) ∧
  (∀ (s : State) (c : CellId) (sw : Switch), s.hw.rd (gatePhase c sw) = 6 → ((s.hw.cell c).sw sw).softWeak = true →
    exec (.weakTimeout c sw) s = s.to ((s.hw.setCell c ((s.hw.cell c).setSw sw
      { (s.hw.cell c).sw sw with softWeak := false })).incTop (LEG_GD_COUNT.SLOPE_TIMEOUTS c)))

/-- Where the opposite gate is not confirmed low, a turn-on waits and INTERLOCK_WAITS is counted. The confirmation of the opposite
gate, which is in no turn-on phase, starts the turn-on of a switch that waits and is still commanded on. A turn-on of a cell that
nothing holds, or that a freeze holds, and that waits 2 µs ends both commands and fences the cell with INTERLOCK_TIMEOUT, and both
commands on at once do so with SHOOT_THROUGH_COMMAND. Nothing else changes. (R169, R170) -/
def Obligations.GateInterlock : Prop :=
  (∀ (s : State) (c : CellId) (sw : Switch), s.hw.live = true → s.hw.on (gateCmd c sw) = true →
    s.hw.on (gateCmd c (otherSwitch sw)) = false → s.hw.rd (gatePhase c sw) = 0 ∨ s.hw.rd (gatePhase c sw) = 4 ∨
    s.hw.rd (gatePhase c sw) = 5 → ((s.hw.cell c).sw sw).waiting = false → ((s.hw.cell c).sw (otherSwitch sw)).low = false →
    exec (.gateTurnOn c sw) s = s.to ((s.hw.setCell c ((s.hw.cell c).setSw sw { (s.hw.cell c).sw sw with waiting := true })).incTop
      (LEG_GD_COUNT.INTERLOCK_WAITS c))) ∧
  (∀ (s : State) (c : CellId) (sw : Switch), s.hw.gateOn c (otherSwitch sw) = false → ((s.hw.cell c).sw sw).waiting = true →
    s.hw.on (gateCmd c sw) = true →
    exec (.interlockConfirm c sw) s = s.to ((s.hw.updSw c (otherSwitch sw) (fun y => { y with low := true })).startTurnOn c sw)) ∧
  (∀ (s : State) (c : CellId) (sw : Switch), s.hw.live = true → ((s.hw.cell c).sw sw).waiting = true → (s.hw.cell c).hold = .none ∨
    (s.hw.cell c).hold = .frozen → s.hw.on (gateCmd c .hs) = false ∨ s.hw.on (gateCmd c .ls) = false →
    exec (.interlockTimeout c sw) s = s.to ((s.hw.dropCmds c).fenceCell c 0x05)) ∧
  (∀ (s : State) (c : CellId) (sw : Switch), s.hw.live = true → s.hw.on (gateCmd c .hs) = true → s.hw.on (gateCmd c .ls) = true →
    exec (.interlockTimeout c sw) s = s.to ((s.hw.dropCmds c).fenceCell c 0x06))

/-- A bootstrap supply above its threshold sets BST_OK, starts the test that waits for it, and may arm its region. One that has not
risen in time, with no test waiting, fences its cell with cause 0x04 and may arm the region. One below UVLO ends the high-side
command, which stays ended until the fence is applied, turns the high side off and fences the cell with cause 0x03. VDRV below
UVLO clears VDRV_OK, fences the region with cause 0x04 and puts its twelve cells into their holds. VDRV above UVLO sets VDRV_OK,
clears the region cause and may arm the region. Nothing else changes. (R47, R173, R174, R175, R176) -/
def Obligations.GateSupplies : Prop :=
  (∀ (s : State) (c : CellId), s.hw.live = true → (s.hw.cell c).preCharge = 0 →
    exec (.bootstrapAboveUvlo c) s = s.to ((s.hw.wrB (LEG_GD_STATUS.BST_OK c) true).armRegion (c.val / 12))) ∧
  (∀ (s : State) (c : CellId), s.hw.live = true → (s.hw.cell c).preCharge ≠ 0 →
    exec (.bootstrapAboveUvlo c) s = s.to
      ((((s.hw.wrB (LEG_GD_STATUS.BST_OK c) true).setCell c { s.hw.cell c with preCharge := 0 }).startDiag c (s.hw.cell c).preCharge).armRegion (c.val / 12))) ∧
  (∀ (s : State) (c : CellId), s.hw.live = true → (s.hw.cell c).preCharge = 0 → s.hw.vdrvOk (c.val / 12) = true →
    s.hw.on (LEG_GD_STATUS.BST_OK c) = false →
    exec (.bootstrapPrecharge c) s = s.to ((s.hw.fenceCell c 0x04).armRegion (c.val / 12))) ∧
  (∀ (s : State) (c : CellId), s.hw.live = true → s.hw.on (LEG_GD_STATUS.BST_OK c) = true →
    exec (.bootstrapUvlo c) s = s.to
      (let x := s.hw.cell c
       let h := (s.hw.wrB (LEG_GD_STATUS.BST_OK c) false).setCell c
         { x with forcedOff := x.forcedOff ||| 1, hs := { x.hs with waiting := false, deadWait := false, minHold := false, extended := false } }
       ((h.setCmds c false (h.on (LEG_PWM_STATUS.LS_CMD c))).gateTurnOff c .hs).fenceCell c 0x03)) ∧
  (∀ (s : State) (r : RegionId), s.hw.live = true → s.hw.vdrvOk r = true →
    exec (.vdrvUvlo r) s = s.to ((List.range 12).foldl (fun h i => h.applyHold (12 * r.val + i))
      (((s.hw.wrBit SUPPLY_STATUS.VDRV_OK r false).wrB (REGION_VDRV_STATUS.VDRV_OK r) false).fenceRegion r 0x04))) ∧
  (∀ (s : State) (r : RegionId), s.hw.live = true →
    exec (.vdrvAboveUvlo r) s = s.to ((((s.hw.wrBit SUPPLY_STATUS.VDRV_OK r true).wrB
      (REGION_VDRV_STATUS.VDRV_OK r) true).clearRegionCause r 4).armRegion r))

/-- The end of blanking is noted for the switch. A detection outside blanking on a switch whose gate is in a turn-on phase starts a
soft turn-off, records the switch, ends both commands, and fences the cell with cause 0x01 (high side) or 0x02 (low side); on a
low side that a terminal state holds on, the cell is held off and the cause is 0x0C. When the soft turn-off ends, the gate is in
hold-off and PEAK holds the peak current, at most 0xFFFF. Nothing else changes. (R177, R178, R179, R180) -/
def Obligations.ShortCircuit : Prop :=
  (∀ (s : State) (c : CellId) (sw : Switch),
    exec (.blankEnd c sw) s = s.to (s.hw.setCell c ((s.hw.cell c).setSw sw { (s.hw.cell c).sw sw with blank := false }))) ∧
  (∀ (s : State) (c : CellId) (sw : Switch), s.hw.gateOn c sw = true → ((s.hw.cell c).sw sw).blank = false → sw = .hs ∨
    (s.hw.cell c).hold ≠ .terminal ∨ s.hw.terminalLow c = false →
    exec (.shortCircuitDetect c sw) s = s.to ((((((s.hw.setCell c ((s.hw.cell c).setSw sw { (s.hw.cell c).sw sw with softWeak := s.hw.rd (gatePhase c sw) == 2 })).wr (gatePhase c sw) 6).wrB (LEG_GD_STATUS.SOFT_OFF c) true).wrB
      (LEG_SC_CAPTURE.SWITCH c) (decide (sw = .ls))).dropCmds c).fenceCell c (if sw = .hs then 0x01 else 0x02))) ∧
  (∀ (s : State) (c : CellId), s.hw.gateOn c .ls = true → (s.hw.cell c).ls.blank = false → (s.hw.cell c).hold = .terminal →
    s.hw.terminalLow c = true →
    exec (.shortCircuitDetect c .ls) s = s.to
      (let h := ((((s.hw.setCell c ((s.hw.cell c).setSw .ls { (s.hw.cell c).sw .ls with softWeak := s.hw.rd (gatePhase c .ls) == 2 })).wr (gatePhase c .ls) 6).wrB (LEG_GD_STATUS.SOFT_OFF c) true).wrB (LEG_SC_CAPTURE.SWITCH c) true).dropCmds c
       (h.setCell c { h.cell c with shortHold := true }).fenceCell c 0x0C)) ∧
  (∀ (s : State) (c : CellId) (sw : Switch) (peak : Nat), s.hw.rd (gatePhase c sw) = 6 → s.hw.rd (gatePhase c (otherSwitch sw)) ≠ 6 →
    exec (.softTurnOffEnd c sw peak) s = s.to ((((s.hw.setCell c ((s.hw.cell c).setSw sw { (s.hw.cell c).sw sw with softWeak := false })).wr
      (gatePhase c sw) 0).wrB (LEG_GD_STATUS.SOFT_OFF c) false).wr (LEG_SC_CAPTURE.PEAK c) (min peak 0xFFFF)))

/-- A write of RUN for a fenced cell on which no test or return check runs starts the diagnostics of its group. The end of the
pre-check notes whether the trio rotates; the ends of the next two stages keep the readings with the switches pulled high and low
and show them, at most 0xFFFF; the end of the pair stage keeps the pair readings; the end of the last stage classifies each cell
of the group. The single procedure keeps its two readings in the same way. Nothing else changes. (R180, R181, R182, R183, R188,
spec/06_gate_drive.md Table 6-3) -/
def Obligations.Diagnostics : Prop :=
  (∀ (s : State) (q : Requester) (c : CellId), s.admits q (LEG_DIAG_CTRL c) 1#32 → s.hw.cellFenced c = true →
    (s.hw.cell c).diagStage = 0 → (s.hw.cell c).testing = false → s.hw.rd (LEG_REENTRY_STATUS.STATE c) ≠ 1 →
    exec (.diagRun q c) s = s.wrote (LEG_DIAG_CTRL c) (s.hw.startDiag c 0)) ∧
  (∀ (s : State) (c : CellId) (rd : DiagReading), s.hw.live = true → (s.hw.cell c).diagStage = 1 →
    exec (.diagStageEnd c rd) s = s.to ((s.hw.diagRunning c).foldl
      (fun h x => h.wrB (LEG_DIAG_RESULT.OPEN_UNTESTED x) (decide (100 < rd.lineMax)))
      ((s.hw.diagRunning c).foldl (fun h x => h.setCell x { h.cell x with diagStage := 2, diagRotating := decide (100 < rd.lineMax) }) s.hw))) ∧
  (∀ (s : State) (c : CellId) (rd : DiagReading), s.hw.live = true → (s.hw.cell c).diagStage = 2 →
    exec (.diagStageEnd c rd) s = s.to ((s.hw.diagRunning c).foldl
      (fun h x => h.wr (LEG_DIAG_VOLTS.HIGH x) (min (rd.volts.getD ((s.hw.diagRunning c).idxOf x) 0) 0xFFFF))
      ((s.hw.diagRunning c).foldl (fun h x => h.setCell x { h.cell x with diagStage := 3, diagHigh := if (h.cell x).diagRotating then rd.maxes else rd.volts }) s.hw))) ∧
  (∀ (s : State) (c : CellId) (rd : DiagReading), s.hw.live = true → (s.hw.cell c).diagStage = 3 →
    exec (.diagStageEnd c rd) s = s.to ((s.hw.diagRunning c).foldl
      (fun h x => h.wr (LEG_DIAG_VOLTS.LOW x) (min (rd.volts.getD ((s.hw.diagRunning c).idxOf x) 0) 0xFFFF))
      ((s.hw.diagRunning c).foldl (fun h x => h.setCell x { h.cell x with diagStage := if (h.cell x).diagRotating then 5 else 4, diagVdc := rd.vdcA, diagLow := if (h.cell x).diagRotating then rd.mins else rd.volts }) s.hw))) ∧
  (∀ (s : State) (c : CellId) (rd : DiagReading), s.hw.live = true → (s.hw.cell c).diagStage = 4 →
    exec (.diagStageEnd c rd) s = s.to ((s.hw.diagRunning c).foldl (fun h x => h.setCell x { h.cell x with diagStage := 5, diagPairs := rd.pairs }) s.hw)) ∧
  (∀ (s : State) (c : CellId) (rd : DiagReading), s.hw.live = true → (s.hw.cell c).diagStage = 5 →
    exec (.diagStageEnd c rd) s = s.to ((s.hw.diagRunning c).foldl (fun h x => h.diagClassify x
      ((s.hw.diagRunning c).idxOf x) (s.hw.on (LEG_DIAG_RESULT.PROCEDURE c)) (rd.scMissed.contains x)) s.hw)) ∧
  (∀ (s : State) (c : CellId) (rd : DiagReading), s.hw.live = true → (s.hw.cell c).diagStage = 6 →
    exec (.diagStageEnd c rd) s = s.to (((s.hw.diagRunning c).foldl (fun h x => h.setCell x { h.cell x with diagStage := 7, diagHigh := rd.volts, diagPairs := [rd.vdcA] }) s.hw).wr
      (LEG_DIAG_VOLTS.HIGH c) (min (rd.volts.getD 0 0) 0xFFFF))) ∧
  (∀ (s : State) (c : CellId) (rd : DiagReading), s.hw.live = true → (s.hw.cell c).diagStage = 7 →
    exec (.diagStageEnd c rd) s = s.to (((s.hw.diagRunning c).foldl (fun h x => h.setCell x { h.cell x with diagStage := 5, diagLow := rd.volts, diagVdc := rd.vdcA }) s.hw).wr
      (LEG_DIAG_VOLTS.LOW c) (min (rd.volts.getD 0 0) 0xFFFF)))

/-- A START while no power partition is active and no discharge runs makes DSCH_STATUS running from 0 ms, drives the enabled pins and
keeps the step and the link voltage. The fallback starts outside a chip fault where no pin is enabled or the link has not fallen
by 10 %, with one pulse in each listed trio that may be pulsed; a pulse turns one high side and the other low side on with
comparator A of the first at IPEAK. The end of a pulse turns both switches off, and the next pulse runs in the opposite direction.
At a completion, a timeout (recorded as cause 0x30) or a STOP, the pulses and the pins end and STATE shows 3, 4 or 5. ELAPSED
follows with the step boundaries, in ms, at most 0xFFFF. Outside a shutdown nothing else changes. (R189, R190, R191, R192) -/
def Obligations.LinkDischarge : Prop :=
  (∀ (s : State) (q : Requester), s.admits q DSCH_CTRL 0x2E710001#32 → s.hw.power = .running → s.hw.powerActive = false →
    s.hw.discharging = false →
    exec (.dschStart q) s = s.wrote DSCH_CTRL
      { (s.hw.wr DSCH_STATUS.STATE 1).wr DSCH_STATUS.ELAPSED 0 with
        discharge := { driven := true, startMs := s.hw.stepCount, startV := s.hw.linkMax.toNat } }) ∧
  (∀ (s : State) (q : Requester), s.admits q DSCH_CTRL 0x2E710002#32 → s.hw.power = .running → s.hw.discharging = true →
    exec (.dschStop q) s = s.wrote DSCH_CTRL { (s.hw.discharge.dirs.foldl (fun (h : Hw) (e : Nat × Bool) => h.fallbackOff e.1) s.hw).wr DSCH_STATUS.STATE 5 with
        discharge := { startMs := s.hw.discharge.startMs } }) ∧
  (∀ s : State, s.hw.live = true → s.hw.rd DSCH_STATUS.STATE = 1 → s.hw.on DSCH_CFG.FALLBACK_EN = true → s.hw.chipFault = false →
    (s.hw.on DSCH_CFG.PIN_0_EN = false ∧ s.hw.on DSCH_CFG.PIN_1_EN = false) ∨ (s.hw.discharge.startV : Int) * 9 < s.hw.linkMax * 10 →
    exec .dschFallbackStart s = s.to
      (let ts := (List.range 16).filter (fun t => s.hw.bit DSCH_FALLBACK.TRIOS t && !(s.hw.trioCells t).isEmpty && s.hw.mayPulse t)
       let h := { s.hw.wr DSCH_STATUS.STATE 2 with
         discharge := { s.hw.discharge with dirs := ts.map (fun t => (t, false)) } }
       ts.foldl (fun (h : Hw) t => h.fallbackPulse t false) h)) ∧
  (∀ (h : Hw) (t : TrioId) (a b : Nat) (back : Bool), a = (h.trioCells t).getD (if back then 1 else 0) 0 →
    b = (h.trioCells t).getD (if back then 0 else 1) 0 →
    h.fallbackPulse t back = (let code := ampereCode (h.rd DSCH_FALLBACK.IPEAK) (h.rd (LEG_IFS.IFS a))
      ((((h.setCell a { h.cell a with baseA := code }).wr (LEG_COMP_STATUS.A_THR a) code).setCmds a true false).setCmds b false true))) ∧
  (∀ h : Hw, h.rd DSCH_STATUS.STATE ≠ 0 →
    h.dischargeTime = h.wr DSCH_STATUS.ELAPSED (min ((h.stepCount - h.discharge.startMs) / 800) 0xFFFF)) ∧
  (∀ (s : State) (t : TrioId), s.hw.live = true → s.hw.discharge.dirs.any (fun e => e.1 == t.val) = true →
    exec (.fallbackPulseEnd t) s = s.to ((s.hw.trioCells t).foldl (fun h c => h.setCmds c false false) s.hw)) ∧
  (∀ (s : State) (t : TrioId) (back : Bool), s.hw.live = true → s.hw.discharge.dirs.find? (fun e => e.1 == t.val) = some (t.val, back) →
    s.hw.mayPulse t = true →
    exec (.fallbackNextPulse t) s = s.to
      (let h := { s.hw with discharge := { s.hw.discharge with
         dirs := s.hw.discharge.dirs.map (fun (e : Nat × Bool) => if e.1 = t.val then (t.val, !back) else e) } }
       h.fallbackPulse t (!back))) ∧
  (∀ s : State, s.hw.live = true → s.hw.power = .running → s.hw.discharging = true →
    s.hw.linkMax * 128 ≤ (s.hw.rd DSCH_CFG.TARGET : Int) * 32768 →
    exec .dischargeDone s = s.to { (s.hw.discharge.dirs.foldl (fun (h : Hw) (e : Nat × Bool) => h.fallbackOff e.1) s.hw).wr DSCH_STATUS.STATE 3 with
        discharge := { startMs := s.hw.discharge.startMs } }) ∧
  (∀ s : State, s.hw.live = true → s.hw.power = .running → s.hw.discharging = true →
    exec .dischargeTimeout s = s.to (({ (s.hw.discharge.dirs.foldl (fun (h : Hw) (e : Nat × Bool) => h.fallbackOff e.1) s.hw).wr DSCH_STATUS.STATE 4 with
        discharge := { startMs := s.hw.discharge.startMs } }).record 0x7FF0))

/-- A cell that waits for a carrier start, fenced or not, whose block is not halted, starts its carrier at an aligned step boundary:
the period starts there, ramps that select a period start restart, both raw commands are formed at period time 0 and the counter
is shown. A reload point of an unfenced cell that is neither frozen nor halted loads the captured set that is pending and the
newest lane duty, clears CYCLE latches, restarts ramps at a period start, forms the raw commands, evaluates the trip inputs,
settles both switches and shows the counter of a running carrier. A fenced cell drops its set, clears its CYCLE latches, restarts
such ramps and shows its counter. Nothing else changes. (R161, R199, R200, R202, R209, R215, R223, R240) -/
def Obligations.CarrierAndReload : Prop :=
  (∀ (s : State) (c : CellId), s.hw.live = true → (s.hw.cell c).wantStart = true → (s.hw.cell c).startFrom ≤ s.hw.stepCount →
    (s.hw.cell c).active.aligned s.hw.stepCount = true → s.hw.halted (c.val / 6) = false →
    exec (.carrierStart c) s = s.to ((((s.hw.setCell c { s.hw.cell c with
      running := true, wantStart := false, startTick := 4000 * s.hw.stepCount }).rampStart c 0 (4000 * s.hw.stepCount)).reform c 0 (4000 * s.hw.stepCount)).showCounter c 0)) ∧
  (∀ (s : State) (c : CellId) (t p : Nat), s.hw.live = true → s.hw.reloadTick c = some (t, p) → (s.hw.cell c).hold ≠ .frozen →
    s.hw.on (LEG_PWM_STATUS.HALTED c) = false → s.hw.cellFenced c = true →
    exec (.reloadPoint c) s = s.to
      (let h := ((s.hw.atTick (t - 4000 * s.hw.stepCount)).dropSet c).clearCycle c
       let h := if p = 0 ∨ (h.cell c).active.mode = 2 then h.rampStart c 0 t else h
       if (h.cell c).running = true then h.showCounter c p else h)) ∧
  (∀ (s : State) (c : CellId) (t p : Nat) (a : PwmSet), s.hw.live = true → s.hw.reloadTick c = some (t, p) →
    (s.hw.cell c).hold ≠ .frozen → s.hw.on (LEG_PWM_STATUS.HALTED c) = false → s.hw.cellFenced c = false →
    (s.hw.cell c).captured = some a → (s.hw.cell c).pendingSet = true →
    exec (.reloadPoint c) s = s.to
      (let h := ((((s.hw.atTick (t - 4000 * s.hw.stepCount)).setCell c { s.hw.cell c with captured := none, pendingSet := false }).wrB (LEG_PWM_STATUS.LOAD_WAITING c)
         (s.hw.cell c).capNew.isSome).loadActive c a t)
       h.reloadRest c t p)) ∧
  (∀ (s : State) (c : CellId) (t p : Nat), s.hw.live = true → s.hw.reloadTick c = some (t, p) → (s.hw.cell c).hold ≠ .frozen →
    s.hw.on (LEG_PWM_STATUS.HALTED c) = false → s.hw.cellFenced c = false → (s.hw.cell c).captured = none ∨
    (s.hw.cell c).pendingSet = false →
    exec (.reloadPoint c) s = s.to ((s.hw.atTick (t - 4000 * s.hw.stepCount)).reloadRest c t p)) ∧
  (∀ (h : Hw) (c : CellId) (t p d : Nat), (h.cell c).dutyNew = some d → h.reloadRest c t p =
    (h.setCell c { h.cell c with duty := d, dutyNew := none }).reloadRest c t p) ∧
  (∀ (h : Hw) (c : CellId) (t p : Nat), (h.cell c).dutyNew = none → h.reloadRest c t p =
    (let h := h.clearCycle c
     let q := if (h.cell c).startTick = t then 0 else p
     let h := if q = 0 ∨ (h.cell c).active.mode = 2 then h.rampStart c 0 t else h
     let h := (((h.setRaw c .hs q t).setRaw c .ls q t).evalTrips c t).settleBoth c t
     if (h.cell c).running = true then h.showCounter c q else h))

/-- At a crossing of the running carrier of a cell in COUNTER mode that is not halted, the raw command of the switch is formed anew
and its effective command settled at that tick, and the counter is shown. At the end of a dead time with the opposite command off,
the effective command turns on; with both raw commands turned on at one tick, both commands end and the cell is fenced with cause
0x06. At the end of the minimum pulse an extended command that nothing asks for turns off and the other switch settles. Nothing
else changes. (R169, R170, R201, R205, R206, R207) -/
def Obligations.EffectiveCommands : Prop :=
  (∀ (s : State) (c : CellId) (sw : Switch) (p : Nat), s.hw.live = true → (s.hw.cell c).running = true → (s.hw.cell c).active.mode = 1 →
    p < (s.hw.cell c).active.ticks → s.hw.on (LEG_PWM_STATUS.HALTED c) = false →
    exec (.rawCommandEdge c sw p) s = s.to
      (let t := 4000 * s.hw.stepCount + (p + 4000 * (s.hw.cell c).active.period - (s.hw.cell c).periodTime (4000 * s.hw.stepCount)) %
         (max (s.hw.cell c).active.ticks 1)
       (((s.hw.atTick (min (t - 4000 * s.hw.stepCount) 3999)).setRaw c sw p t).settle c sw t).showCounter c p)) ∧
  (∀ (s : State) (c : CellId) (sw : Switch) (tick : Fin 4000), s.hw.live = true → ((s.hw.cell c).sw sw).deadWait = true →
    s.hw.wantsOn c sw = true → s.hw.on (gateCmd c (otherSwitch sw)) = false →
    exec (.deadTimeEnd c sw tick) s = s.to ((s.hw.atTick tick).cmdOn c sw (4000 * s.hw.stepCount + tick.val))) ∧
  (∀ (s : State) (c : CellId) (sw : Switch) (tick : Fin 4000), s.hw.live = true → ((s.hw.cell c).sw sw).deadWait = true →
    s.hw.wantsOn c sw = true → s.hw.on (gateCmd c (otherSwitch sw)) = true → ((s.hw.cell c).sw sw).raw = true →
    ((s.hw.cell c).sw (otherSwitch sw)).raw = true → ((s.hw.cell c).sw (otherSwitch sw)).rawAt = ((s.hw.cell c).sw sw).rawAt →
    exec (.deadTimeEnd c sw tick) s = s.to ((s.hw.dropCmds c).fenceCell c 0x06)) ∧
  (∀ (s : State) (c : CellId) (sw : Switch), s.hw.live = true → ((s.hw.cell c).sw sw).extended = true → (s.hw.cell c).hold = .none →
    (s.hw.cell c).running = true → s.hw.wantsOn c sw = false →
    exec (.minPulseEnd c sw) s = s.to
      (let h := s.hw.setCell c ((s.hw.cell c).setSw sw { (s.hw.cell c).sw sw with minHold := false })
       let since := (match sw with | .hs => (s.hw.cell c).onHs | .ls => (s.hw.cell c).onLs).getD (4000 * s.hw.stepCount)
       let h := h.atTick (max s.hw.tick (min (since + (s.hw.cell c).active.minPulse - 4000 * s.hw.stepCount) 3999))
       (h.cmdOff c sw).settle c (otherSwitch sw) (4000 * s.hw.stepCount))) ∧
  (∀ (s : State) (c : CellId) (sw : Switch), s.hw.live = true → ((s.hw.cell c).sw sw).extended = false →
    exec (.minPulseEnd c sw) s = s.to (s.hw.setCell c ((s.hw.cell c).setSw sw { (s.hw.cell c).sw sw with minHold := false })))

/-- An active, unblanked trip input whose latch is clear, in a cell that nothing holds and whose carrier runs, sets its latch, turns
its target switches off and settles the others. Action CYCLE is counted, action LATCH wakes the block's threads with the cell's
TRIP event, and action FENCE wakes them and fences the cell with cause 0x10. In a held cell, and before the carrier runs, the
latch and the action remain and the switches stay, which is the model's choice (log entry 61). In a freeze it only holds its
switches off, counted for CYCLE. Writing 1 to LATCHED bits clears the latches whose inputs do not act and settles the cell. An
EDGE window closes at its end; a WINDOW channel opens at its START, where START is below END and the carrier runs, and closes at
its END. Nothing else changes. (R213, R214, R215, R216, R220, R241, notes/assumptions/61.md) -/
def Obligations.Trips : Prop :=
  (∀ (s : State) (c : CellId) (n : Fin 4), s.hw.live = true → s.hw.bit (LEG_TRIP_STATUS.ACTIVE c) n = true →
    s.hw.bit (LEG_TRIP_STATUS.BLANKED c) n = false → s.hw.bit (LEG_TRIP_STATUS.LATCHED c) n = false → (s.hw.cell c).hold = .none →
    (s.hw.cell c).running = true → s.hw.rd (BLK_CELL_TRIP.ACTION (c.val / 6) (c.val % 6) n) = 0 →
    exec (.tripAct c n) s = s.to ((((s.hw.wrBit (LEG_TRIP_STATUS.LATCHED c) n true).turnOffTargets c (s.hw.rd (BLK_CELL_TRIP.TARGET (c.val / 6) (c.val % 6) n))).settleBoth c (4000 * s.hw.stepCount)).incTop
      (LEG_PWM_COUNT.CYCLE_TRIPS c))) ∧
  (∀ (s : State) (c : CellId) (n : Fin 4), s.hw.live = true → s.hw.bit (LEG_TRIP_STATUS.ACTIVE c) n = true →
    s.hw.bit (LEG_TRIP_STATUS.BLANKED c) n = false → s.hw.bit (LEG_TRIP_STATUS.LATCHED c) n = false → (s.hw.cell c).hold = .none →
    (s.hw.cell c).running = true → s.hw.rd (BLK_CELL_TRIP.ACTION (c.val / 6) (c.val % 6) n) = 1 →
    exec (.tripAct c n) s = s.to ((((s.hw.wrBit (LEG_TRIP_STATUS.LATCHED c) n true).turnOffTargets c (s.hw.rd (BLK_CELL_TRIP.TARGET (c.val / 6) (c.val % 6) n))).settleBoth c (4000 * s.hw.stepCount)).wakeEvent
      (c.val / 6) (2 ^ (6 + c.val % 6)))) ∧
  (∀ (s : State) (c : CellId) (n : Fin 4), s.hw.live = true → s.hw.bit (LEG_TRIP_STATUS.ACTIVE c) n = true →
    s.hw.bit (LEG_TRIP_STATUS.BLANKED c) n = false → s.hw.bit (LEG_TRIP_STATUS.LATCHED c) n = false → (s.hw.cell c).hold = .none →
    (s.hw.cell c).running = true → s.hw.rd (BLK_CELL_TRIP.ACTION (c.val / 6) (c.val % 6) n) = 2 →
    exec (.tripAct c n) s = s.to (((((s.hw.wrBit (LEG_TRIP_STATUS.LATCHED c) n true).turnOffTargets c (s.hw.rd (BLK_CELL_TRIP.TARGET (c.val / 6) (c.val % 6) n))).settleBoth c (4000 * s.hw.stepCount)).wakeEvent
      (c.val / 6) (2 ^ (6 + c.val % 6))).fenceCell c 0x10)) ∧
  (∀ (s : State) (c : CellId) (n : Fin 4), s.hw.live = true → s.hw.bit (LEG_TRIP_STATUS.ACTIVE c) n = true →
    s.hw.bit (LEG_TRIP_STATUS.BLANKED c) n = false → s.hw.bit (LEG_TRIP_STATUS.LATCHED c) n = false → (s.hw.cell c).hold ≠ .frozen →
    (s.hw.cell c).hold ≠ .none ∨ (s.hw.cell c).running = false → s.hw.rd (BLK_CELL_TRIP.ACTION (c.val / 6) (c.val % 6) n) = 0 →
    exec (.tripAct c n) s = s.to ((s.hw.wrBit (LEG_TRIP_STATUS.LATCHED c) n true).incTop (LEG_PWM_COUNT.CYCLE_TRIPS c))) ∧
  (∀ (s : State) (c : CellId) (n : Fin 4), s.hw.live = true → s.hw.bit (LEG_TRIP_STATUS.ACTIVE c) n = true →
    s.hw.bit (LEG_TRIP_STATUS.BLANKED c) n = false → s.hw.bit (LEG_TRIP_STATUS.LATCHED c) n = false → (s.hw.cell c).hold ≠ .frozen →
    (s.hw.cell c).hold ≠ .none ∨ (s.hw.cell c).running = false → s.hw.rd (BLK_CELL_TRIP.ACTION (c.val / 6) (c.val % 6) n) = 1 →
    exec (.tripAct c n) s = s.to ((s.hw.wrBit (LEG_TRIP_STATUS.LATCHED c) n true).wakeEvent (c.val / 6) (2 ^ (6 + c.val % 6)))) ∧
  (∀ (s : State) (c : CellId) (n : Fin 4), s.hw.live = true → s.hw.bit (LEG_TRIP_STATUS.ACTIVE c) n = true →
    s.hw.bit (LEG_TRIP_STATUS.BLANKED c) n = false → s.hw.bit (LEG_TRIP_STATUS.LATCHED c) n = false → (s.hw.cell c).hold ≠ .frozen →
    (s.hw.cell c).hold ≠ .none ∨ (s.hw.cell c).running = false → s.hw.rd (BLK_CELL_TRIP.ACTION (c.val / 6) (c.val % 6) n) = 2 →
    exec (.tripAct c n) s = s.to (((s.hw.wrBit (LEG_TRIP_STATUS.LATCHED c) n true).wakeEvent (c.val / 6) (2 ^ (6 + c.val % 6))).fenceCell c 0x10)) ∧
  (∀ (s : State) (c : CellId) (n : Fin 4), s.hw.live = true → s.hw.bit (LEG_TRIP_STATUS.ACTIVE c) n = true →
    s.hw.bit (LEG_TRIP_STATUS.BLANKED c) n = false → s.hw.bit (LEG_TRIP_STATUS.LATCHED c) n = false → (s.hw.cell c).hold = .frozen →
    s.hw.rd (BLK_CELL_TRIP.ACTION (c.val / 6) (c.val % 6) n) = 0 →
    exec (.tripAct c n) s = s.to
      ((((s.hw.wrBit (LEG_TRIP_STATUS.LATCHED c) n true).setCell c { s.hw.cell c with freezeOff := (s.hw.cell c).freezeOff ||| (s.hw.rd (BLK_CELL_TRIP.TARGET (c.val / 6) (c.val % 6) n)) }).incTop (LEG_PWM_COUNT.CYCLE_TRIPS c)).turnOffTargets c (s.hw.rd (BLK_CELL_TRIP.TARGET (c.val / 6) (c.val % 6) n)))) ∧
  (∀ (s : State) (c : CellId) (n : Fin 4), s.hw.live = true → s.hw.bit (LEG_TRIP_STATUS.ACTIVE c) n = true →
    s.hw.bit (LEG_TRIP_STATUS.BLANKED c) n = false → s.hw.bit (LEG_TRIP_STATUS.LATCHED c) n = false → (s.hw.cell c).hold = .frozen →
    s.hw.rd (BLK_CELL_TRIP.ACTION (c.val / 6) (c.val % 6) n) ≠ 0 →
    exec (.tripAct c n) s = s.to
      (((s.hw.wrBit (LEG_TRIP_STATUS.LATCHED c) n true).setCell c { s.hw.cell c with freezeOff := (s.hw.cell c).freezeOff ||| (s.hw.rd (BLK_CELL_TRIP.TARGET (c.val / 6) (c.val % 6) n)) }).turnOffTargets c (s.hw.rd (BLK_CELL_TRIP.TARGET (c.val / 6) (c.val % 6) n)))) ∧
  (∀ (s : State) (q : Requester) (c : CellId) (mask : Fin 16), s.admits q (LEG_TRIP_STATUS c) (BitVec.ofNat 32 mask.val) →
    exec (.tripLatchedClear q c mask) s = s.wrote (LEG_TRIP_STATUS c)
      (let h := Num.forEach 4 (fun n h => if mask.val.testBit n && !h.tripActs c n then h.wrBit (LEG_TRIP_STATUS.LATCHED c) n false else h) s.hw
       if (h.cell c).hold = .none then h.settleBoth c (4000 * h.stepCount) else h)) ∧
  (∀ (s : State) (k : BlockId) (n : Fin 12), s.hw.live = true → s.hw.rd (BLK_HURDLE_CFG.MODE k n) = 1 →
    exec (.hurdleEdgeWindowEnd k n) s = s.to (s.hw.setHurdle k n false)) ∧
  (∀ (s : State) (k : BlockId) (n : Fin 12), s.hw.live = true → s.hw.rd (BLK_HURDLE_CFG.MODE k n) = 2 →
    (s.hw.block k).hurdleOpen.testBit n = true →
    exec (.hurdleWindowBoundary k n) s = s.to (s.hw.setHurdle k n false)) ∧
  (∀ (s : State) (k : BlockId) (n : Fin 12), s.hw.live = true → s.hw.rd (BLK_HURDLE_CFG.MODE k n) = 2 →
    (s.hw.block k).hurdleOpen.testBit n = false → s.hw.rd (BLK_HURDLE_START.START k n) < s.hw.rd (BLK_HURDLE_END.END k n) →
    (s.hw.cell (6 * k.val + n.val / 2)).running = true →
    exec (.hurdleWindowBoundary k n) s = s.to (s.hw.setHurdle k n true))

/-- In an active block, a count of cross-check failures that has reached STEPS and is not 0 fences the cell with cause 0x11, and eight
saturated steps fence it with cause 0x12, once per run of failures. A count of link disagreements that has reached STEPS and is
not 0 raises safety cause 0x31, once per episode, for each active power partition that PARTS names. Nothing else changes. (R235,
R236, R237, R245) -/
def Obligations.SensingFaults : Prop :=
  (∀ (s : State) (c : CellId), s.hw.live = true → s.hw.blockActive (c.val / 6) = true → (s.hw.cell c).disRaised = false →
    s.hw.rd (LEG_XCHK_CFG.STEPS c) ≤ s.hw.rd (LEG_XCHK_STATUS.COUNT c) → s.hw.rd (LEG_XCHK_STATUS.COUNT c) ≠ 0 →
    exec (.currentDisagree c) s = s.to ((s.hw.setCell c { s.hw.cell c with disRaised := true }).fenceCell c 0x11)) ∧
  (∀ (s : State) (c : CellId), s.hw.live = true → s.hw.blockActive (c.val / 6) = true → (s.hw.cell c).satRaised = false →
    8 ≤ s.hw.rd (LEG_XCHK_STATUS.SAT_COUNT c) →
    exec (.shuntSaturated c) s = s.to ((s.hw.setCell c { s.hw.cell c with satRaised := true }).fenceCell c 0x12)) ∧
  (∀ s : State, s.hw.live = true → s.hw.vdcEpisode = false → s.hw.rd VDC_XCHK_CFG.STEPS ≤ s.hw.rd VDC_STATUS.COUNT →
    s.hw.rd VDC_STATUS.COUNT ≠ 0 →
    exec .vdcDisagree s = s.to (((List.range 16).filter (fun p => s.hw.active p && s.hw.bit VDC_XCHK_CFG.PARTS p &&
      s.hw.rd (PART_RUN.KIND p) == 2)).foldl (fun h p => h.safetyCause p 0x31) { s.hw with vdcEpisode := true }))

/-- A crossing sets the level of comparator A or B of a cell by comparing the signal that INPUT selects with the threshold in force at
that tick, above it for POLARITY 0 and below it for 1, with HYST codes back where the level was set; the live outputs, the trip
inputs and their blanking follow. A tick of supervisory comparator m, while D6 has its clock, sets LEVEL to whether an input is
selected and lies above THRESHOLD × 2.5 V ÷ 1,024 (below it for POLARITY 1), and counts the consecutive ticks that differ from
CONFIRMED. Where CONFIRM + 1 of them have, CONFIRMED takes the level and the count starts anew. Nothing else changes. (R212, R214,
R238, R242, R243, R244) -/
def Obligations.ComparatorLevels : Prop :=
  (∀ (s : State) (c : CellId) (b : Bool) (i : CompInputs), s.hw.live = true →
    exec (.comparatorCrossing c b i) s = s.to
      (let h := s.hw.atTick i.tick
       let x := s.hw.cell c
       let w := h.reg (compCfg c b)
       let past := compPast w (h.thresholdAt c b (4000 * s.hw.stepCount + i.tick.val)) (if b then x.levelB else x.levelA) (compPick i (Bits.get w 13 12))
       (h.setCell c (if b then { x with levelB := past } else { x with levelA := past })).refreshTrips (c.val / 6))) ∧
  (∀ (w : Word) (thr : Nat) (sig : Int),
    (w.getLsbD 11 = false → compPast w thr false sig = decide (compScale (Bits.get w 13 12) thr < sig)) ∧
    (w.getLsbD 11 = true → compPast w thr false sig = decide (sig < compScale (Bits.get w 13 12) thr)) ∧
    (w.getLsbD 11 = false → Bits.get w 15 14 = 3 →
      compPast w thr true sig = decide (compScale (Bits.get w 13 12) ((thr : Int) - 4) < sig))) ∧
  (∀ (s : State) (m : Fin 16) (inputs : List Nat) (v : Bool), s.hw.live = true → (s.hw.die 6).clockBad = false →
    (v = true ↔ s.hw.rd (SCMP_CFG.INPUT m) ≠ 0 ∧
      (if s.hw.on (SCMP_CFG.POLARITY m) then 1024 * inputs.getD (s.hw.rd (SCMP_CFG.INPUT m) - 1) 0 < 2500000 * s.hw.rd (SCMP_CFG.THRESHOLD m)
       else 2500000 * s.hw.rd (SCMP_CFG.THRESHOLD m) < 1024 * inputs.getD (s.hw.rd (SCMP_CFG.INPUT m) - 1) 0)) →
         v ≠ s.hw.bit SCMP_STATUS.CONFIRMED m →
    exec (.scmpTick m inputs) s = s.to { s.hw.wrBit SCMP_STATUS.LEVEL m v with scmpRun := Tab.put s.hw.scmpRun m (Tab.get s.hw.scmpRun m 0 + 1) 0 }) ∧
  (∀ (s : State) (m : Fin 16) (inputs : List Nat) (v : Bool), s.hw.live = true → (s.hw.die 6).clockBad = false →
    (v = true ↔ s.hw.rd (SCMP_CFG.INPUT m) ≠ 0 ∧
      (if s.hw.on (SCMP_CFG.POLARITY m) then 1024 * inputs.getD (s.hw.rd (SCMP_CFG.INPUT m) - 1) 0 < 2500000 * s.hw.rd (SCMP_CFG.THRESHOLD m)
       else 2500000 * s.hw.rd (SCMP_CFG.THRESHOLD m) < 1024 * inputs.getD (s.hw.rd (SCMP_CFG.INPUT m) - 1) 0)) →
         v = s.hw.bit SCMP_STATUS.CONFIRMED m →
    exec (.scmpTick m inputs) s = s.to { s.hw.wrBit SCMP_STATUS.LEVEL m v with scmpRun := Tab.put s.hw.scmpRun m 0 0 }) ∧
  (∀ (s : State) (m : Fin 16), s.hw.live = true → s.hw.rd (SCMP_CFG.CONFIRM m) + 1 ≤ Tab.get s.hw.scmpRun m 0 →
    exec (.scmpConfirmed m) s = s.to { s.hw.wrBit SCMP_STATUS.CONFIRMED m (s.hw.bit SCMP_STATUS.LEVEL m) with scmpRun := Tab.put s.hw.scmpRun m 0 0 })

/-- A read of TB_STEP_LO in a phase answers the low half of the step count and copies the upper half and the phase for its requester.
A read of LEG_SAMPLE_I, MEAS_CH_V, POS_POSITION or LEG_ACC_CHARGE_LO answers its value with OK and copies the other registers of
its set for its requester. Nothing else changes. (R57, R246, R261, R389, R411) -/
def Obligations.CopyingReads : Prop :=
  (∀ (s : State) (q : Requester) (phase : Fin 500), s.hw.power = .running →
    (s.hw.atPhase phase.val).turnstile q TB_STEP_LO.addr false 0 = (none, none) →
    exec (.tbStepLoRead q phase) s = s.to (((s.hw.atPhase phase.val).copyRegs ((s.hw.atPhase phase.val).copyKey q)
      [(TB_STEP_HI, BitVec.ofNat 32 (s.hw.stepCount / 2 ^ 32)), (TB_PHASE, BitVec.ofNat 32 phase.val)]).answer .ok
        (BitVec.ofNat 32 s.hw.stepCount))) ∧
  (∀ (s : State) (q : Requester) (c : CellId), s.readable q (LEG_SAMPLE_I c) →
    exec (.sampleIRead q c) s = s.to ((s.hw.copyRegs (s.hw.copyKey q)
      [(LEG_SAMPLE_V c, s.hw.reg (LEG_SAMPLE_V c)), (LEG_SAMPLE_STATUS c, s.hw.reg (LEG_SAMPLE_STATUS c))]).answer .ok (s.hw.reg (LEG_SAMPLE_I c)))) ∧
  (∀ (s : State) (q : Requester) (n : CellId), s.readable q (MEAS_CH_V n) →
    exec (.measVRead q n) s = s.to ((s.hw.copyRegs (s.hw.copyKey q)
      [(MEAS_CH_I n, s.hw.reg (MEAS_CH_I n)), (MEAS_CH_STAMP n, s.hw.reg (MEAS_CH_STAMP n)), (MEAS_CH_FLAGS n, s.hw.reg (MEAS_CH_FLAGS n))]).answer .ok (s.hw.reg (MEAS_CH_V n)))) ∧
  (∀ (s : State) (q : Requester) (u : UnitId), s.readable q (POS_POSITION u) →
    exec (.positionRead q u) s = s.to ((s.hw.copyRegs (s.hw.copyKey q)
      [(POS_SPEED u, s.hw.reg (POS_SPEED u)), (POS_STATUS u, s.hw.reg (POS_STATUS u)), (POS_EDGE_STEP u, s.hw.reg (POS_EDGE_STEP u))]).answer .ok (s.hw.reg (POS_POSITION u)))) ∧
  (∀ (s : State) (q : Requester) (c : CellId), s.readable q (LEG_ACC_CHARGE_LO c) →
    exec (.accChargeRead q c) s = s.to ((s.hw.copyRegs (s.hw.copyKey q)
      [(LEG_ACC_CHARGE_HI c, s.hw.reg (LEG_ACC_CHARGE_HI c)), (LEG_ACC_ENERGY_LO c, s.hw.reg (LEG_ACC_ENERGY_LO c)), (LEG_ACC_ENERGY_HI c, s.hw.reg (LEG_ACC_ENERGY_HI c)), (LEG_ACC_PHASE_LO c, s.hw.reg (LEG_ACC_PHASE_LO c)), (LEG_ACC_PHASE_HI c, s.hw.reg (LEG_ACC_PHASE_HI c)), (LEG_ACC_EST_CYCLES c, s.hw.reg (LEG_ACC_EST_CYCLES c)), (LEG_ACC_LAST c, s.hw.reg (LEG_ACC_LAST c))]).answer .ok (s.hw.reg (LEG_ACC_CHARGE_LO c))))

/-- START of an idle converter whose MODE is not 0, while D6 has its clock, takes the mode, begins a new sequence and waits for its
reference or, where that has settled, for its start boundary. STOP ends a wait at once, lets an open window complete, and ends a
calibration as ABORTED. CAL of an idle converter waits as START does; CAL of a converting one is done after its window. START of
an area that does not record sets its status to 1, recording from record 0; STOP ends recording. The statement is about a
converter that is not under test and whose channel does not hold it. Nothing else changes. (R254, R258, R264, R265, R269, R274) -/
def Obligations.MeasControl : Prop :=
  (∀ (s : State) (q : Requester) (n : ConvId), s.admits q (measCtrlReg n) 1#32 → s.hw.rd (measMode n) ≠ 0 → s.hw.rd (measState n) = 0 →
    (s.hw.die 6).clockBad = false →
    exec (.measStart q n) s = s.wrote (measCtrlReg n) ((s.hw.setConv n { s.hw.conv n with
      run := s.hw.rd (measMode n), cal := false, calPend := false,
      stopping := false, seq := 0, entry := 0, frameSeen := false, isOpen := false, gapNext := true, restart := false }).wr (measState n)
      (if s.hw.on (measSettled n) then 2 else 1))) ∧
  (∀ (s : State) (q : Requester) (n : ConvId), s.admits q (measCtrlReg n) 2#32 → s.hw.convTest ≠ n.val → s.hw.measHeld n 2#32 = false →
    s.hw.rd (measState n) = 1 ∨ s.hw.rd (measState n) = 2 →
    exec (.measStop q n) s = s.wrote (measCtrlReg n) (s.hw.measIdle n)) ∧
  (∀ (s : State) (q : Requester) (n : ConvId), s.admits q (measCtrlReg n) 2#32 → s.hw.convTest ≠ n.val → s.hw.measHeld n 2#32 = false →
    s.hw.rd (measState n) = 3 → (s.hw.conv n).isOpen = true →
    exec (.measStop q n) s = s.wrote (measCtrlReg n) (s.hw.setConv n { s.hw.conv n with stopping := true, calPend := false })) ∧
  (∀ (s : State) (q : Requester) (n : ConvId), s.admits q (measCtrlReg n) 2#32 → s.hw.convTest ≠ n.val → s.hw.measHeld n 2#32 = false →
    s.hw.rd (measState n) = 4 →
    exec (.measStop q n) s = s.wrote (measCtrlReg n) ((s.hw.measIdle n).wr (measCalState n) 3)) ∧
  (∀ (s : State) (q : Requester) (n : ConvId) (range : Bool), s.admits q (measCtrlReg n) (BitVec.ofNat 32 (4 + 8 * Num.ofBool range)) →
    s.hw.convTest ≠ n.val → s.hw.measHeld n 4#32 = false → s.hw.rd (measMode n) ≠ 0 → s.hw.rd (measState n) = 0 →
    (s.hw.die 6).clockBad = false →
    exec (.measCal q n range) s = s.wrote (measCtrlReg n) ((s.hw.setConv n { s.hw.conv n with
      cal := true, calResume := 0,
      calRange := if n.val < 48 then 0 else Num.ofBool range, frameSeen := false, isOpen := false, gapNext := true, restart := false }).wr (measState n)
      (if s.hw.on (measSettled n) then 2 else 1))) ∧
  (∀ (s : State) (q : Requester) (n : ConvId) (range : Bool), s.admits q (measCtrlReg n) (BitVec.ofNat 32 (4 + 8 * Num.ofBool range)) →
    s.hw.convTest ≠ n.val → s.hw.measHeld n 4#32 = false → s.hw.rd (measMode n) ≠ 0 → s.hw.rd (measState n) = 3 →
    (s.hw.conv n).calPend = false →
    exec (.measCal q n range) s = s.wrote (measCtrlReg n) (s.hw.setConv n { s.hw.conv n with
      calPend := true,
      calRange := if n.val < 48 then 0 else Num.ofBool range })) ∧
  (∀ (h : Hw) (n : ConvId), (h.measIdle n).rd (measState n) = 0 ∧ ((h.measIdle n).conv n).isOpen = false) ∧
  (∀ (s : State) (q : Requester) (a : AreaId), s.admits q (MEAS_CAP_CTRL a) 1#32 → s.hw.rd (MEAS_CAP_CFG.MODE a) ≠ 0 →
    s.hw.rd (MEAS_CAP_STATUS.STATE a) ≠ 1 →
    exec (.capAreaStart q a) s = s.wrote (MEAS_CAP_CTRL a) (s.hw.setReg (MEAS_CAP_STATUS a) 1)) ∧
  (∀ (s : State) (q : Requester) (a : AreaId), s.admits q (MEAS_CAP_CTRL a) 2#32 → s.hw.rd (MEAS_CAP_STATUS.STATE a) = 1 →
    exec (.capAreaStop q a) s = s.wrote (MEAS_CAP_CTRL a) (s.hw.wr (MEAS_CAP_STATUS.STATE a) 3))

/-- At an even step boundary after a frame boundary the first window of a waiting converter opens, or its calibration begins. An
auxiliary entry's window opens when its SETTLE has passed. An open window takes the configuration in force. The end of an open
window writes its result, appends it to every recording area that selects the converter, shows the event, lets a channel
accumulate it, and the converter goes on. The result holds the calibrated codes and the step; an auxiliary entry is followed by
the next one. A record takes 16 bytes at the area's next slot, and no other byte of memory changes. (R250, R254, R255, R258, R259,
R260, R261, R263, R266, R273) -/
def Obligations.MeasWindows : Prop :=
  (∀ (s : State) (n : ConvId), s.hw.live = true → s.hw.rd (measState n) = 2 → (s.hw.conv n).frameSeen = true → s.hw.stepCount % 2 = 0 →
    (s.hw.conv n).cal = true →
    exec (.firstWindowOpen n) s = s.to ((s.hw.setConv n { s.hw.conv n with cal := false, isOpen := false }).wr (measState n) 4)) ∧
  (∀ (s : State) (n : ConvId), s.hw.live = true → s.hw.rd (measState n) = 2 → (s.hw.conv n).frameSeen = true → s.hw.stepCount % 2 = 0 →
    (s.hw.conv n).cal = false → n.val < 48 → s.hw.rd (measMode n) ≠ 0 →
    exec (.firstWindowOpen n) s = s.to (s.hw.openWindow n)) ∧
  (∀ (s : State) (n : ConvId), s.hw.live = true → 48 ≤ n.val → s.hw.rd (measState n) = 3 → (s.hw.conv n).isOpen = false →
    exec (.auxSettleEnd n) s = s.to (s.hw.openWindow n)) ∧
  (∀ (h : Hw) (n : ConvId), (h.openWindow n).rd (measState n) = 3 ∧ ((h.openWindow n).conv n).isOpen = true ∧
    ((h.openWindow n).conv n).cfgUse = h.reg (measCfgReg n) ∧ ((h.openWindow n).conv n).run = h.rd (measMode n) ∧
    (((h.openWindow n).conv n).refBad = true ↔ h.on (measSettled n) = false ∨ h.dieGood 6 = false)) ∧
  (∀ (s : State) (n : ConvId) (rawV rawI : Int) (cm clamp : Bool) (ph : Fin 500), s.hw.live = true → s.hw.rd (measState n) = 3 →
    (s.hw.conv n).isOpen = true →
    exec (.windowEnd n rawV rawI cm clamp ph) s =
      (let h := s.hw.atPhase ph.val
       let r := if n.val < 48 then h.chanResult n rawV rawI cm clamp ph.val else h.auxResult n rawV clamp
       let m := (Mach.mk s.mem r.1).captureAll r.2
       let h := m.hw.measEvent n
       let h := if n.val < 48 then h.chanWindow n r.2 (windowCycles (s.hw.conv n).cfgUse) cm else h
       s.toMach m.mem (h.afterWindow n))) ∧
  (∀ (h : Hw) (n : CellId) (rawV rawI : Int) (cm clamp : Bool) (ph : Nat),
    let r := h.chanResult n rawV rawI cm clamp ph
    let v := calibrated rawV (h.rd (MEAS_CH_CAL_V_OFFSET.OFFSET n)) (h.rd (MEAS_CH_CAL_V_GAIN.GAIN n))
    r.1.rd (MEAS_CH_V.VALUE n) = Num.code 24 v.1 ∧ r.1.rd (MEAS_CH_STAMP.STEP n) = h.stepCount % 2 ^ 32 ∧ r.2.step = h.stepCount ∧
    r.2.v = Num.code 24 v.1 ∧ r.2.conv = n.val ∧ r.2.seq = ((h.conv n).seq + 1) % 0x10000 ∧ (cm = true →
      r.1.rd (MEAS_CH_I.VALUE n) = 0x800000)) ∧
  (∀ (h : Hw) (n : ConvId) (raw : Int) (clamp : Bool), 48 ≤ n.val →
    let x := h.conv n
    let g := Bits.get x.entryUse 7 7
    let v := calibrated raw (Bits.get (h.reg (MEAS_AUX_CAL_OFFSET (n.val - 48) g)) 23 0) (h.reg (MEAS_AUX_CAL_GAIN (n.val - 48) g)).toNat
    let r := h.auxResult n raw clamp
    r.2.v = Num.code 24 v.1 ∧ r.2.entry = x.entry ∧ r.2.seq = h.rd (MEAS_AUX_STATUS.PASS (n.val - 48)) ∧ r.2.step = h.stepCount ∧
    (r.1.conv n).entry = (if x.entriesUse ≤ x.entry then 0 else x.entry + 1)) ∧
  (∀ (m : Mach) (a : AreaId) (r : MeasResult),
    let i := m.hw.rd (MEAS_CAP_STATUS.NEXT a)
    (m.capture a r).mem.bytes (0x31000000 + a.val * 0x10000 + 16 * i) 16 = r.bytes ∧
    (∀ x, x < 0x31000000 + a.val * 0x10000 + 16 * i ∨ 0x31000000 + a.val * 0x10000 + 16 * i + 16 ≤ x →
      (m.capture a r).mem.byte x = m.mem.byte x) ∧
    (m.capture a r).hw.rd (MEAS_CAP_STATUS.NEXT a) = (if i < 4095 then i + 1 else 0))

/-- REF_SETTLED sets the converter's bit, and a converter that waits for its reference then waits for its start boundary. REFIN in
range sets REFIN_OK, shows the millivolts and ends an excursion. REFIN out of range clears REFIN_OK and acts on every converter
that uses it; each partition concerned records cause 0x23 once per excursion. A calibration of a channel converter without
current, or of a range of an auxiliary one, with sums within the limits writes the factors and ends PASSED; one outside them ends
FAILED and records cause 0x24. A clamp event records cause 0x25 for the claimant of the converter or of the TEMP input. Nothing
else changes. (R256, R257, R258, R264, R265, R268, R269) -/
def Obligations.MeasReferences : Prop :=
  (∀ (s : State) (n : ConvId), s.hw.live = true → s.hw.rd (measRefSel n) ≠ 1 ∨ s.hw.on MEAS_REF_STATUS.REFIN_OK = true →
    s.hw.rd (measState n) ≠ 1 →
    exec (.refSettled n) s = s.to (s.hw.wrB (measSettled n) true)) ∧
  (∀ (s : State) (n : ConvId), s.hw.live = true → s.hw.rd (measRefSel n) ≠ 1 ∨ s.hw.on MEAS_REF_STATUS.REFIN_OK = true →
    s.hw.rd (measState n) = 1 →
    exec (.refSettled n) s = s.to (((s.hw.wrB (measSettled n) true).setConv n
      { s.hw.conv n with frameSeen := false }).wr (measState n) 2)) ∧
  (∀ (s : State) (mv : Nat), s.hw.live = true → 2000 ≤ mv → mv ≤ 3000 →
    exec (.refinInRange mv) s = s.to { (s.hw.wr MEAS_REF_STATUS.REFIN mv).wrB MEAS_REF_STATUS.REFIN_OK true with refinRec := 0 }) ∧
  (∀ (s : State) (mv : Nat), s.hw.live = true → mv < 2000 ∨ 3000 < mv → (∀ n < 64, s.hw.usesRefin n = false) →
    exec (.refinExcursion mv) s = s.to ((s.hw.wr MEAS_REF_STATUS.REFIN (min mv 0xFFFF)).wrB MEAS_REF_STATUS.REFIN_OK false)) ∧
  (∀ (s : State) (mv : Nat) (n : ConvId) (p : Nat), s.hw.live = true → mv < 2000 ∨ 3000 < mv → s.hw.refinRec.testBit p = false →
    (∀ j < 64, s.hw.usesRefin j = decide (j = n.val)) → s.hw.rd (measRefSel n) = 1 → s.hw.measOwner n = some p →
    (s.hw.conv n).isOpen = true → s.hw.rd (measState n) = 3 →
    exec (.refinExcursion mv) s = s.to
      ((({ (s.hw.wr MEAS_REF_STATUS.REFIN (min mv 0xFFFF)).wrB MEAS_REF_STATUS.REFIN_OK false with
        refinRec := s.hw.refinRec + 2 ^ p }.record (faultCode 4 p 0x23)).wrB (measSettled n) false).setConv n
          { s.hw.conv n with refFault := true })) ∧
  (∀ (s : State) (n : CellId) (sums : List Int) (off gain : Nat), s.hw.live = true → s.hw.rd (measState n) = 4 →
    s.hw.on (MEAS_CH_CFG.I_EN n) = false → calFactors (sums.getD 1 0) (sums.getD 2 0) = some (off, gain) →
    exec (.calComplete ⟨n.val, by omega⟩ sums) s = s.to ((((s.hw.wrI (MEAS_CH_CAL_ZERO.Z n) (Num.roundDiv (sums.getD 0 0) 20)).wr
      (MEAS_CH_CAL_V_OFFSET.OFFSET n) off).wr (MEAS_CH_CAL_V_GAIN.GAIN n) gain).calEnd n 1)) ∧
  (∀ (s : State) (n : CellId) (sums : List Int), s.hw.live = true → s.hw.rd (measState n) = 4 →
    calFactors (sums.getD 1 0) (sums.getD 2 0) = none →
    exec (.calComplete ⟨n.val, by omega⟩ sums) s = s.to (((s.hw.wrI (MEAS_CH_CAL_ZERO.Z n) (Num.roundDiv (sums.getD 0 0) 20)).measRecord
      n 0x24).calEnd n 2)) ∧
  (∀ (h : Hw) (n : ConvId) (st : Nat), (h.conv n).calResume = 0 → h.calEnd n st = (h.wr (measCalState n) st).measIdle n) ∧
  (∀ (s : State) (n : ConvId) (sums : List Int) (off gain : Nat), s.hw.live = true → 48 ≤ n.val → s.hw.rd (measState n) = 4 →
    calFactors (sums.getD 1 0) (sums.getD 2 0) = some (off, gain) →
    exec (.calComplete n sums) s = s.to (((s.hw.setReg (MEAS_AUX_CAL_OFFSET (n.val - 48) (s.hw.conv n).calRange) (BitVec.ofNat 32 off)).setReg
      (MEAS_AUX_CAL_GAIN (n.val - 48) (s.hw.conv n).calRange) (BitVec.ofNat 32 gain)).calEnd n 1)) ∧
  (∀ (s : State) (n : ConvId) (p : Nat), s.hw.live = true → s.hw.measOwner n = some p →
    exec (.frontEndClamp (.conv n)) s = s.to (s.hw.record (faultCode 4 p 0x25))) ∧
  (∀ (s : State) (n : ConvId) (p : Nat), s.hw.live = true → s.hw.tempOwner n = some p →
    exec (.frontEndClamp (.temp n)) s = s.to (s.hw.record (faultCode 4 p 0x25)))

/-- MOVE writes the value it reads to its destination. ADD, SUB, MUL (rounded from 15 bits more) and CLAMP (to minus and plus the
magnitude of the second operand) write their result, saturated to -32,767 to +32,767, and write 0x8000 where an operand is 0x8000.
The program goes on at the next word, and nothing else changes. (R277, R281, R283, R284, spec/10_control_engine.md Table 10-3) -/
def Obligations.LaneArithmetic : Prop :=
  (∀ (s : State) (k : BlockId) (w : Word), s.laneAt k 1 w →
    exec (.laneMove k) s = s.laneNext k (s.hw.setSig k (laneD w) (s.hw.sigIn k (laneA w)))) ∧
  (∀ (s : State) (k : BlockId) (w : Word) (x y : Int), s.laneAt k 2 w → Q15.val (s.hw.sigIn k (laneA w)) = some x →
    Q15.val (s.hw.sigIn k (laneB w)) = some y →
    exec (.laneAdd k) s = s.laneNext k (s.hw.setSig k (laneD w) (Q15.code (x + y)))) ∧
  (∀ (s : State) (k : BlockId) (w : Word), s.laneAt k 2 w → Q15.val (s.hw.sigIn k (laneA w)) = none ∨
    Q15.val (s.hw.sigIn k (laneB w)) = none →
    exec (.laneAdd k) s = s.laneNext k (s.hw.setSig k (laneD w) 0x8000)) ∧
  (∀ (s : State) (k : BlockId) (w : Word) (x y : Int), s.laneAt k 3 w → Q15.val (s.hw.sigIn k (laneA w)) = some x →
    Q15.val (s.hw.sigIn k (laneB w)) = some y →
    exec (.laneSub k) s = s.laneNext k (s.hw.setSig k (laneD w) (Q15.code (x - y)))) ∧
  (∀ (s : State) (k : BlockId) (w : Word), s.laneAt k 3 w → Q15.val (s.hw.sigIn k (laneA w)) = none ∨
    Q15.val (s.hw.sigIn k (laneB w)) = none →
    exec (.laneSub k) s = s.laneNext k (s.hw.setSig k (laneD w) 0x8000)) ∧
  (∀ (s : State) (k : BlockId) (w : Word) (x y : Int), s.laneAt k 4 w → Q15.val (s.hw.sigIn k (laneA w)) = some x →
    Q15.val (s.hw.sigIn k (laneB w)) = some y →
    exec (.laneMul k) s = s.laneNext k (s.hw.setSig k (laneD w) (Q15.code (Num.roundShift (x * y) 15)))) ∧
  (∀ (s : State) (k : BlockId) (w : Word), s.laneAt k 4 w → Q15.val (s.hw.sigIn k (laneA w)) = none ∨
    Q15.val (s.hw.sigIn k (laneB w)) = none →
    exec (.laneMul k) s = s.laneNext k (s.hw.setSig k (laneD w) 0x8000)) ∧
  (∀ (s : State) (k : BlockId) (w : Word) (x y : Int), s.laneAt k 5 w → Q15.val (s.hw.sigIn k (laneA w)) = some x →
    Q15.val (s.hw.sigIn k (laneB w)) = some y →
    exec (.laneClamp k) s = s.laneNext k (s.hw.setSig k (laneD w) (Q15.code (min (max x (-(y.natAbs : Int))) (y.natAbs : Int))))) ∧
  (∀ (s : State) (k : BlockId) (w : Word), s.laneAt k 5 w → Q15.val (s.hw.sigIn k (laneA w)) = none ∨
    Q15.val (s.hw.sigIn k (laneB w)) = none →
    exec (.laneClamp k) s = s.laneNext k (s.hw.setSig k (laneD w) 0x8000))

/-- LAW on a valid input writes the clamped output to its destination and to BLK_k_LAW_l_OUT, takes the input and the clamped output
into the history, and counts and shows a limited output. On 0x8000 it writes the last output, keeps the history, sets HELD and
counts the step. CLEAR of a law that has a record marks its history for clearing. A write of a control input by its writer, of
another value than 0x8000, ends a ramp and sets the value. Nothing else changes. (R110, R279, R281, R288, R289, R290, R293, R296) -/
def Obligations.LawsAndInputs : Prop :=
  (∀ (s : State) (k : BlockId) (w : Word) (e : Int), s.laneAt k 6 w → Q15.val (s.hw.sigIn k (laneA w)) = some e →
    exec (.laneLaw k) s = s.laneNext k
      (let l := Bits.get w 9 2
       let x := s.hw.law k l
       let y := Q15.sat (Num.roundShift (lawAcc x.recd e x.e x.u) (15 - Bits.get w 1 0))
       let z := min (max y (Num.signed 16 x.recd.outMin)) (Num.signed 16 x.recd.outMax)
       let h := s.hw.setLaw k l { x with e := [e, x.e.getD 0 0, x.e.getD 1 0], u := [z, x.u.getD 0 0, x.u.getD 1 0] }
       let h := if z = y then h else h.incTop (BLK_LAW_STATUS.LIMIT_COUNT k l)
       let h := (h.wrB (BLK_LAW_OUT.HELD k l) false).wrB (BLK_LAW_OUT.LIMITED k l) (decide (z ≠ y))
       (h.wr (BLK_LAW_OUT.U k l) (Num.code 16 z)).setSig k (laneD w) (Num.code 16 z))) ∧
  (∀ (s : State) (k : BlockId) (w : Word), s.laneAt k 6 w → Q15.val (s.hw.sigIn k (laneA w)) = none →
    exec (.laneLaw k) s = s.laneNext k
      (let l := Bits.get w 9 2
       let u := Num.code 16 ((s.hw.law k l).u.getD 0 0)
       ((((s.hw.incTop (BLK_LAW_STATUS.HELD_COUNT k l)).wrB (BLK_LAW_OUT.HELD k l) true).wrB (BLK_LAW_OUT.LIMITED k l) false).wr
         (BLK_LAW_OUT.U k l) u).setSig k (laneD w) u)) ∧
  (∀ (s : State) (q : Requester) (k : BlockId) (l : Fin 256), s.admits q (BLK_LAW_CTRL k l) 1#32 → (s.hw.law k l).present = true →
    exec (.lawClear q k l) s = s.wrote (BLK_LAW_CTRL k l) (s.hw.setLaw k l { s.hw.law k l with clear := true })) ∧
  (∀ (s : State) (q : Requester) (k : BlockId) (n : Fin 128) (v : Fin 65536), s.admits q (BLK_INPUT_VALUE k n) (BitVec.ofNat 32 v.val) →
    s.hw.isWriter k n q = true → v.val ≠ 0x8000 →
    exec (.inputValueWrite q k n v) s = s.wrote (BLK_INPUT_VALUE k n) (((s.hw.setPacer k n {}).wrB (BLK_INPUT_CFG.RAMPING k n) false).wr
      (BLK_INPUT_VALUE.VALUE k n) v.val))

/-- START of the injector with a usable waveform takes effect at the next boundary, and STOP sets the injected value to 0 from the
next step. A waveform that has ended makes the state 2 and the value 0. ARM with a usable configuration arms the capture unit from
the next step on with nothing held, STOP of an armed or triggered unit makes it stopped, and a triggered unit that holds LENGTH
points is done. Nothing else changes. (R298, R299, R300, R301, R302) -/
def Obligations.InjectorAndCapture : Prop :=
  (∀ (s : State) (q : Requester) (k : BlockId), s.admits q (BLK_INJ_CTRL k) 1#32 → s.hw.rd (BLK_INJ_CFG.WAVE k) = 3 ∨
    (s.hw.rd (BLK_INJ_CFG.WAVE k) = 0 ∧ s.hw.rd (BLK_INJ_FREQ.INC k 0) ≠ 0) ∨
      (s.hw.rd (BLK_INJ_CFG.WAVE k) = 1 ∧ s.hw.rd (BLK_INJ_SWEEP.SWEEP k) ≠ 0) ∨
      (s.hw.rd (BLK_INJ_CFG.WAVE k) = 2 ∧ ∀ e, e ≤ s.hw.rd (BLK_INJ_CFG.ENTRIES k) → s.hw.rd (BLK_INJ_FREQ.INC k e) ≠ 0) →
    exec (.injStart q k) s = s.wrote (BLK_INJ_CTRL k) (s.hw.setBlock k { s.hw.block k with injArm := true, injStop := false })) ∧
  (∀ (s : State) (q : Requester) (k : BlockId), s.admits q (BLK_INJ_CTRL k) 2#32 →
    exec (.injStop q k) s = s.wrote (BLK_INJ_CTRL k) (s.hw.setBlock k { s.hw.block k with injArm := false, injStop := true })) ∧
  (∀ (s : State) (k : BlockId), s.hw.live = true → (s.hw.block k).injDone = true →
    exec (.injectorEnd k) s = s.to (((s.hw.setBlock k { s.hw.block k with injDone := false, injX := 0 }).wr (BLK_INJ_STATUS.VALUE k) 0).wr
      (BLK_INJ_STATUS.STATE k) 2)) ∧
  (∀ (s : State) (q : Requester) (k : BlockId), s.admits q (BLK_CAP_CTRL k) 1#32 → s.hw.capOk k = true →
    exec (.capArm q k) s = s.wrote (BLK_CAP_CTRL k) ((((s.hw.setBlock k { s.hw.block k with
      capFrom := s.hw.stepCount + 1, capSlot := 0,
      capDecim := 0, capHave := 0 }).wr (BLK_CAP_STATUS.STATE k) 1).setReg (BLK_CAP_FIRST k) 0).setReg (BLK_CAP_PRE_HELD k) 0)) ∧
  (∀ (s : State) (q : Requester) (k : BlockId), s.admits q (BLK_CAP_CTRL k) 2#32 → s.hw.rd (BLK_CAP_STATUS.STATE k) = 1 ∨
    s.hw.rd (BLK_CAP_STATUS.STATE k) = 2 →
    exec (.capStop q k) s = s.wrote (BLK_CAP_CTRL k) (s.hw.wr (BLK_CAP_STATUS.STATE k) 4)) ∧
  (∀ (s : State) (k : BlockId), s.hw.live = true → s.hw.rd (BLK_CAP_STATUS.STATE k) = 2 →
    s.hw.rd (BLK_CAP_LEN.LENGTH k) ≤ (s.hw.block k).capHave →
    exec (.captureDone k) s = s.to (s.hw.wr (BLK_CAP_STATUS.STATE k) 3))

/-- END of a program sets the outputs of a CHANNEL block, shows the torque states of a TRIO block and the completion cycle, puts the
command outputs into the cells' records, gives control inputs that lane outputs write their value, lets the capture unit take its
point, keeps the signals as those of the last program and ends the program. An idle capture unit takes none; a triggered unit of a
block that is not halted stores a point that is due. A point is stored from the block's area base plus the slot times the bytes of
a point, little-endian, and no other byte of memory changes. (R110, R162, R277, R287, R300, R301, R302, R330) -/
def Obligations.LaneProgramEnd : Prop :=
  (∀ (s : State) (k : BlockId) (w : Word), s.laneAt k 15 w →
    exec (.laneEnd k) s =
      (let m := (Mach.mk s.mem (s.hw.programSent k)).capStep k
       s.toMach m.mem (m.hw.setBlock k { m.hw.block k with sigEnd := (m.hw.block k).sigs, laneRuns := false }))) ∧
  (∀ (h : Hw) (k : BlockId) (b : BlockSec), h.mode k = 0 ∨ h.mode k = 2 ∨ h.mode k = 4 → (h.block k).sec = some b →
    h.programSent k = (((h.wr (RM_LANE_FINISH.LAST k) (112 + b.cycles (h.rd (BLK_DTC_STATUS.EFFECTIVE k)))).wr (RM_LANE_FINISH.WORST k)
      (max (112 + b.cycles (h.rd (BLK_DTC_STATUS.EFFECTIVE k))) (h.rd (RM_LANE_FINISH.WORST k)))).sendOutputs k).laneWriters k) ∧
  (∀ (h : Hw) (k : BlockId) (t : TrioId), h.triosOf k = [t.val] →
    (h.torqueShown k).reg (BLK_TRIO_STATE k (t.val % 2)) = (h.trio t).selNow) ∧
  (∀ (m : Mach) (k : BlockId), m.hw.rd (BLK_CAP_STATUS.STATE k) = 0 → m.capStep k = m) ∧
  (∀ (m : Mach) (k : BlockId), m.hw.rd (BLK_CAP_STATUS.STATE k) = 2 → (m.hw.block k).capFrom ≤ m.hw.stepCount → m.hw.halted k = false →
    (m.hw.block k).capDecim = 0 → (m.hw.block k).capHave < m.hw.rd (BLK_CAP_LEN.LENGTH k) → m.capStep k = m.capStore k) ∧
  (∀ (m : Mach) (k : BlockId),
    let pt := m.hw.capPoint k
    let a := 0x22000000 + k.val * 0x80000 + (m.hw.block k).capSlot * pt.length * 2
    (m.capStore k).mem.bytes a (2 * pt.length) = pt.flatMap (fun v => Num.bytesLE 2 v) ∧
    (∀ x, x < a ∨ a + 2 * pt.length ≤ x → (m.capStore k).mem.byte x = m.mem.byte x) ∧
    ((m.capStore k).hw.block k).capHave = (m.hw.block k).capHave + 1 ∧
    ((m.capStore k).hw.block k).capDecim = m.hw.rd (BLK_CAP_CFG.DECIM k)) ∧
  (∀ (h : Hw) (k : BlockId) (i : Fin 6), ((h.sendOutputs k).cell (6 * k.val + i.val)).outCmd =
    h.sent k (0x1B0 + 4 * i.val) (h.cell (6 * k.val + i.val)).outCmd)

/-- ESTIMATE with a valid angle and valid samples forms the flux of the three cells from the voltages against their mean, writes
torque, flux magnitude and sector to the trio's variables, keeps the sector for the registers, and gives the fluxes to the
tracker. VETO of the trio, with a valid link voltage, keeps a candidate for each code of its live cells and marks those that grow
an excursion. SELECT without a veto forms the torque and flux states by their comparators, looks up the switching table and
applies its code. 64 steps beyond the residual limit record block cause 0x0D once. Nothing else changes. (R314, R317, R318, R319,
R320, R322, R323, R325, R326) -/
def Obligations.TorqueControl : Prop :=
  (∀ (s : State) (k : BlockId) (w : Word) (t : TrioId) (u : Nat) (i0 i1 i2 v0 v1 v2 : Int), s.laneAt k 8 w →
    s.hw.fluxAngle k true = some u → s.hw.triosOf k = [t.val] → s.hw.trioSamples t 0 = [some i0, some i1, some i2] →
    s.hw.trioSamples t 1 = [some v0, some v1, some v2] →
    exec (.laneEstimate k) s = s.laneNext k
      (let g := s.hw.phases t
       let n := Num.roundDiv (v0 + v1 + v2) 3
       let h := ((s.hw.psiStep (g.getD 0 0) (v0 - n) i0 (some u)).psiStep (g.getD 1 0) (v1 - n) i1 (some u)).psiStep (g.getD 2 0) (v2 - n) i2 (some u)
       let ps := g.map (fun c => Num.roundShift (h.cell c).psi 16)
       let a := alphaOf (ps.getD 0 0) (ps.getD 1 0) (ps.getD 2 0)
       let b := betaOf (ps.getD 1 0) (ps.getD 2 0)
       let v := 0x0F0 + 8 * (t.val % 2)
       ((((h.setSig k v (Q15.code (torqueOf (h.ktOf t).1 (h.ktOf t).2 ps [i0, i1, i2]))).setSig k (v + 1) (fluxMag ps)).setSig k (v + 3)
         (sectorOf a b)).selWr t (BLK_TRIO_STATE.SECTOR k (t.val % 2)) (sectorOf a b)).track t [v0 - n, v1 - n, v2 - n] [i0, i1, i2]
           (some (fluxTurn a b)))) ∧
  (∀ (s : State) (c : CellId), s.hw.live = true → 64 ≤ (s.hw.cell c).residCount → (s.hw.cell c).residDone = false →
    exec (.estimatorResidual c) s = s.to ((s.hw.setCell c { s.hw.cell c with residDone := true }).blockFault (c.val / 6) 0x0D)) ∧
  (∀ (s : State) (k : BlockId) (w : Word) (t : TrioId), s.laneAt k 9 w → s.hw.triosOf k = [t.val] → w.getLsbD (t.val % 2) = true →
    exec (.laneVeto k) s = s.laneNext k (s.hw.vetoTrio t)) ∧
  (∀ (h : Hw) (t : TrioId) (p : Nat) (vdc : Int), h.owner (t.val / 2) = some p → Q15.val (h.sigIn (t.val / 2) 0x118) = some vdc →
    ∃ cs : List Cand, h.vetoTrio t = h.setTrio t { h.trio t with cands := cs, vetoRan := true } ∧
      cs.map (·.code) = (List.range 8).filter (fun c => c &&& h.liveMask t == c) ∧ ∀ c ∈ cs, c.vetoed = decide (0 < c.excess)) ∧
  (∀ (s : State) (k : BlockId) (w : Word) (t : TrioId), s.laneAt k 10 w → s.hw.triosOf k = [t.val] → w.getLsbD (t.val % 2) = true →
    exec (.laneSelect k) s = s.laneNext k (s.hw.selectTrio t)) ∧
  (∀ (h : Hw) (t : TrioId) (p : Nat) (r f e m : Int), h.owner (t.val / 2) = some p → h.torqueRef t = some r → (h.trio t).vetoRan = false →
    Q15.val (h.sigIn (t.val / 2) (2 * (t.val % 2) + 1)) = some f → Q15.val (h.sigIn (t.val / 2) (0x0F0 + 8 * (t.val % 2))) = some e →
    Q15.val (h.sigIn (t.val / 2) (0x0F0 + 8 * (t.val % 2) + 1)) = some m → h.on (BLK_TRIO_CFG.ZERO_MIN (t.val / 2) (t.val % 2)) = false →
    let k := t.val / 2
    let j := t.val % 2
    let band := (h.block k).torque.band.getD j 0
    let ts := nextTorque ((h.selRd t (BLK_TRIO_STATE.T_STATE k j) : Int) - 1) (r - e) (Bits.get band 31 16)
    let fs := nextFlux (h.selRd t (BLK_TRIO_STATE.F_STATE k j)) (f - m) (Bits.get band 15 0)
    let code := ((h.tableOf p 1 t).getD []).getD ((ts + 1).toNat * 12 + fs * 6 + h.selRd t (BLK_TRIO_STATE.SECTOR k j)) 0 &&& h.liveMask t
    let h' := h.selectTrio t
    h'.selRd t (BLK_TRIO_STATE.T_STATE k j) = (ts + 1).toNat ∧ h'.selRd t (BLK_TRIO_STATE.F_STATE k j) = fs ∧
      h'.selRd t (BLK_TRIO_STATE.APPLIED k j) = code ∧ h'.selRd t (BLK_TRIO_STATE.VETOED k j) = 0 ∧
        h'.selRd t (BLK_TRIO_STATE.HELD k j) = 0)

/-- COMMUTATE acts on the trio that its word names, and in RUN moves its duty toward the commanded one, at least 0, by at most
DUTY_SLEW. A first miss in RUN of a SIX_STEP trio is counted, and a crossing is taken at c_prev + I with its commutation due; a
second one records block cause 0x0E and sends the trio to COAST. The end of OBSERVE of a trio at rest without a fenced cell sends
it to ALIGN, a TRIO trio to RUN; rotation against RUN of a trio not at rest records cause 0x10. The end of ALIGN sends the trio to
OPEN_LOOP, and twelve forced commutations without synchronisation record cause 0x0F and send it to COAST. Nothing else changes.
(R339, R340, R342, R343, R344, R345) -/
def Obligations.SixStep : Prop :=
  (∀ (s : State) (k : BlockId) (w : Word) (t : TrioId), s.laneAt k 11 w → s.hw.triosOf k = [t.val] → w.getLsbD (t.val % 2) = true →
    exec (.laneCommutate k) s = s.laneNext k (s.hw.commutate t)) ∧
  (∀ (h : Hw) (t : TrioId) (d : Int), h.motion t = 6 → (h.trio t).catchBack = false → (h.block (t.val / 2)).ss1On = false →
    Q15.val (h.sigIn (t.val / 2) (2 * (t.val % 2))) = some d →
    let slew : Int := h.rd (BLK_TRIO_COMM_CFG.DUTY_SLEW (t.val / 2) (t.val % 2))
    let x := (h.trio t).duty
    ((h.commutate t).trio t).duty = if x ≤ max d 0 then min (max d 0) (x + slew) else max (max d 0) (x - slew)) ∧
  (∀ (s : State) (t : TrioId), s.hw.live = true → s.hw.motion t = 4 →
    800 * s.hw.rd (BLK_TRIO_START_CFG.ALIGN_MS (t.val / 2) (t.val % 2)) ≤ (s.hw.trio t).timer →
    exec (.alignEnd t) s = s.to (s.hw.setTrio t { s.hw.trio t with nextMotion := some 5 })) ∧
  (∀ (s : State) (t : TrioId), s.hw.live = true → s.hw.motion t = 5 → 12 ≤ (s.hw.trio t).olCount → (s.hw.trio t).nextMotion = none →
    exec (.startFailed t) s = s.to ((s.hw.blockFault (t.val / 2) 0x0F).setTrio t { s.hw.trio t with nextMotion := some 7 })) ∧
  (∀ (s : State) (t : TrioId), s.hw.live = true → s.hw.motion t = 1 → (s.hw.trio t).nextMotion = none → (s.hw.trio t).catching = false →
    s.hw.runOf t ≠ 0 → 800 * s.hw.rd (BLK_TRIO_MOTION_CFG.OBSERVE_MS (t.val / 2) (t.val % 2)) ≤ (s.hw.trio t).timer →
    (s.hw.trio t).observed = [] → s.hw.atRest t = true →
    exec (.observeEnd t) s = s.to (s.hw.setTrio t { s.hw.trio t with runDir := s.hw.runOf t, lookFrom := s.hw.stepCount + 1, nextMotion := some (if s.hw.sixStep t = true then 4 else 6) })) ∧
  (∀ (s : State) (t : TrioId), s.hw.live = true → s.hw.motion t = 1 → (s.hw.trio t).nextMotion = none → (s.hw.trio t).catching = false →
    s.hw.runOf t ≠ 0 → 800 * s.hw.rd (BLK_TRIO_MOTION_CFG.OBSERVE_MS (t.val / 2) (t.val % 2)) ≤ (s.hw.trio t).timer →
    (s.hw.trio t).observed = [] → s.hw.atRest t = false → (s.hw.trio t).dir ≠ 0 → (s.hw.trio t).dir ≠ s.hw.runOf t →
    s.hw.rd (BLK_TRIO_MOTION_CFG.REVERSE_ACTION (t.val / 2) (t.val % 2)) = 0 →
    exec (.observeEnd t) s = s.to (((((s.hw.setTrio t { s.hw.trio t with runDir := s.hw.runOf t, lookFrom := s.hw.stepCount + 1 }).blockFault (t.val / 2) 0x10).wrB
      (BLK_TRIO_MOTION_STATUS.REVERSE_SEEN (t.val / 2) (t.val % 2)) true)).setTrio t { s.hw.trio t with runDir := s.hw.runOf t, lookFrom := s.hw.stepCount + 1, nextMotion := some 2 })) ∧
  (∀ (s : State) (t : TrioId) (c : Nat), s.hw.live = true → (s.hw.trio t).cPrev = some c → s.hw.motion t = 6 → s.hw.sixStep t = true →
    (s.hw.trio t).crossed = false → (s.hw.trio t).nextMotion = none → c + (3 * (s.hw.trio t).interval + 1) / 2 ≤ s.hw.stepCount →
    (s.hw.trio t).missRun = 0 → (s.hw.block (t.val / 2)).laneRuns = false →
    exec (.commutationMiss t) s = s.to
      (let x := s.hw.trio t
       (s.hw.incTop (BLK_TRIO_COMM_STATUS.MISSES (t.val / 2) (t.val % 2))).setTrio t { x with
         cPrev := some (c + x.interval), crossed := true, missRun := 1,
         nextComm := some (max (c + x.interval + x.interval * s.hw.rd (BLK_TRIO_COMM_CFG.COMM_DELAY (t.val / 2) (t.val % 2)) / 256) (s.hw.stepCount + 1)) })) ∧
  (∀ (s : State) (t : TrioId) (c : Nat), s.hw.live = true → (s.hw.trio t).cPrev = some c → s.hw.motion t = 6 → s.hw.sixStep t = true →
    (s.hw.trio t).crossed = false → (s.hw.trio t).nextMotion = none → c + (3 * (s.hw.trio t).interval + 1) / 2 ≤ s.hw.stepCount →
    1 ≤ (s.hw.trio t).missRun →
    exec (.commutationMiss t) s = s.to (((s.hw.incTop (BLK_TRIO_COMM_STATUS.MISSES (t.val / 2) (t.val % 2))).blockFault (t.val / 2) 0x0E).setTrio t
      { s.hw.trio t with missRun := 2, nextMotion := some 7 }))

/-- A REQUEST for a cell that is fenced on its own, while its region has VDRV and no return runs, shows the checks as running and
starts its diagnostics, or first waits for its bootstrap supply with the switches held. The end of the checks without a cause,
once its tests have ended, lets the cell wait for the frame boundary; a cause is recorded and shown, and the cell stays fenced.
Nothing else changes. (R172, R353, R354) -/
def Obligations.ReturnOfCell : Prop :=
  (∀ (s : State) (q : Requester) (c : CellId), s.admits q (LEG_REENTRY_CTRL c) 1#32 → s.hw.blockFenced (c.val / 6) = false →
    s.hw.regionHolds (c.val / 6) = false → s.hw.cellFenced c = true → s.hw.vdrvOk (c.val / 12) = true →
    s.hw.rd (LEG_REENTRY_STATUS.STATE c) ≠ 1 → s.hw.rd (LEG_REENTRY_STATUS.STATE c) ≠ 2 → s.hw.on (LEG_GD_STATUS.BST_OK c) = true →
    exec (.reentryRequest q c) s = s.wrote (LEG_REENTRY_CTRL c)
      (((s.hw.setReg (LEG_REENTRY_STATUS c) 0).wr (LEG_REENTRY_STATUS.STATE c) 1).startDiag c 2)) ∧
  (∀ (s : State) (q : Requester) (c : CellId), s.admits q (LEG_REENTRY_CTRL c) 1#32 → s.hw.blockFenced (c.val / 6) = false →
    s.hw.regionHolds (c.val / 6) = false → s.hw.cellFenced c = true → s.hw.vdrvOk (c.val / 12) = true →
    s.hw.rd (LEG_REENTRY_STATUS.STATE c) ≠ 1 → s.hw.rd (LEG_REENTRY_STATUS.STATE c) ≠ 2 → s.hw.on (LEG_GD_STATUS.BST_OK c) = false →
    exec (.reentryRequest q c) s = s.wrote (LEG_REENTRY_CTRL c)
      ((((s.hw.setReg (LEG_REENTRY_STATUS c) 0).wr (LEG_REENTRY_STATUS.STATE c) 1).setCell c
        { s.hw.cell c with preCharge := 2, testing := true }).applyHold c)) ∧
  (∀ (s : State) (c : CellId), s.hw.live = true → s.hw.rd (LEG_REENTRY_STATUS.STATE c) = 1 → (s.hw.cell c).diagStage = 0 →
    (s.hw.cell c).preCharge = 0 →
    exec (.reentryChecksDone c 0) s = s.to ((s.hw.setCell c { s.hw.cell c with retWait := true }).wr (LEG_REENTRY_STATUS.STATE c) 2)) ∧
  (∀ (s : State) (c : CellId) (cause : Fin 64), s.hw.live = true → s.hw.rd (LEG_REENTRY_STATUS.STATE c) = 1 → cause ≠ 0 →
    exec (.reentryChecksDone c cause) s = s.to
      (let h := ((s.hw.cellFault c cause).wr (LEG_REENTRY_STATUS.STATE c) 5).wr (LEG_REENTRY_STATUS.CAUSE c) cause
       (h.setCell c { h.cell c with testing := false, diagStage := 0, preCharge := 0 }).applyHold c))

/-- A quadrature step of a running encoder moves its count by one in the direction that the levels and DIR give, moves the position
with it and shows the step; a step that skips a state is counted as noise. The first accepted index makes the count 0 and the
angle REF_OFFSET, homed and synchronised. A later one within ENC_TOL corrects the count to the nearest revolution; one beyond it
loses the home and records cause 0x13. A broken wire makes the unit invalid and records cause 0x14, and restored wires let it
count again from 0. Placing a unit shows its position, and nothing else changes. (R364, R365, R367, R368, R369, R370, R386,
notes/assumptions/15.md) -/
def Obligations.EncoderPosition : Prop :=
  (∀ (s : State) (u : UnitId) (ph : Fin 500) (lv : Fin 4) (fwd : Bool), s.hw.live = true → u.val < 3 → s.hw.on (POS_CFG.ENABLE u) = true →
    (s.hw.posUnit u).valid = true →
    (quadPlace lv.val + 4 - quadPlace (s.hw.posUnit u).level) % 4 = (if fwd = s.hw.on (POS_CFG.DIR u) then 3 else 1) →
    exec (.encoderEdge u lv ph) s = s.to
      (let h := s.hw.atPhase ph.val
       let x := s.hw.posUnit u
       let c := if fwd then x.count + 1 else x.count - 1
       let es := (h.fabTime, c) :: x.edges
       let near := es.filter (fun e => decide (h.fabTime ≤ e.1 + h.rd (POS_GEOM2.ENC_WIN u) * 500))
       (h.placeUnit u { x with
         level := lv.val, count := c, pos := x.pos + (h.encPos u c - h.encPos u x.count) * 4294967296, posAt := h.fabTime,
         lastEdge := h.fabTime, edges := if near.length < 2 then es.take 2 else near, seen := min 2 (x.seen + 1) } false false).setReg
           (POS_EDGE_STEP u) (BitVec.ofNat 32 h.stepCount))) ∧
  (∀ (s : State) (u : UnitId) (ph : Fin 500) (lv : Fin 4), s.hw.live = true → u.val < 3 → s.hw.on (POS_CFG.ENABLE u) = true →
    (s.hw.posUnit u).valid = true → (quadPlace lv.val + 4 - quadPlace (s.hw.posUnit u).level) % 4 = 2 →
    exec (.encoderEdge u lv ph) s = s.to (((s.hw.atPhase ph.val).setPosUnit u { s.hw.posUnit u with level := lv.val }).incTop (POS_COUNT.NOISE u))) ∧
  (∀ (s : State) (u : UnitId) (ph : Fin 500), s.hw.live = true → u.val < 3 → s.hw.on (POS_CFG.ENABLE u) = true →
    (s.hw.posUnit u).valid = true → s.hw.on (POS_GEOM.ENC_INDEX_EN u) = true → (s.hw.posUnit u).homed = false →
    exec (.indexEdge u ph) s = s.to
      (let h := s.hw.atPhase ph.val
       let x := s.hw.posUnit u
       let es := x.edges.map (fun (e : Nat × Int) => (e.1, e.2 + 0 - x.count))
       ((h.placeUnit u { x with
        count := 0, edges := es, homed := true, synced := true, pos := withAngle x.pos (h.rd (POS_OFFSET.REF_OFFSET u)) } true false).cmpLost u false).cmpResume u)) ∧
  (∀ (s : State) (u : UnitId) (ph : Fin 500), s.hw.live = true → u.val < 3 → s.hw.on (POS_CFG.ENABLE u) = true →
    (s.hw.posUnit u).valid = true → s.hw.on (POS_GEOM.ENC_INDEX_EN u) = true → (s.hw.posUnit u).homed = true →
    ((s.hw.posUnit u).count - Num.roundDiv (s.hw.posUnit u).count (s.hw.encTurn u) * s.hw.encTurn u).natAbs ≤ s.hw.rd (POS_GEOM.ENC_TOL u) →
    exec (.indexEdge u ph) s = s.to
      (let h := s.hw.atPhase ph.val
       let x := s.hw.posUnit u
       let n := Num.roundDiv x.count (h.encTurn u) * h.encTurn u
       h.placeUnit u { x with
        count := n, edges := x.edges.map (fun (e : Nat × Int) => (e.1, e.2 + n - x.count)),
        pos := x.pos + (h.encPos u n - h.encPos u x.count) * 4294967296 } false true)) ∧
  (∀ (s : State) (u : UnitId) (ph : Fin 500), s.hw.live = true → u.val < 3 → s.hw.on (POS_CFG.ENABLE u) = true →
    (s.hw.posUnit u).valid = true → s.hw.on (POS_GEOM.ENC_INDEX_EN u) = true → (s.hw.posUnit u).homed = true →
    s.hw.rd (POS_GEOM.ENC_TOL u) < ((s.hw.posUnit u).count - Num.roundDiv (s.hw.posUnit u).count (s.hw.encTurn u) * s.hw.encTurn u).natAbs →
    exec (.indexEdge u ph) s = s.to ((((s.hw.atPhase ph.val).placeUnit u { s.hw.posUnit u with homed := false, synced := false } false false).unitLost u).posRecord u 0x13)) ∧
  (∀ (s : State) (u : UnitId), s.hw.live = true → u.val < 3 → s.hw.on (POS_CFG.ENABLE u) = true → (s.hw.posUnit u).broken = false →
    exec (.wireBroken u) s = s.to (((s.hw.placeUnit u { s.hw.posUnit u with
      broken := true, valid := false, synced := false, homed := false, seen := 0 } false false).unitLost u).posRecord u 0x14)) ∧
  (∀ (s : State) (u : UnitId), s.hw.live = true → s.hw.on (POS_CFG.ENABLE u) = true → (s.hw.posUnit u).broken = true →
    exec (.wireRestored u) s = s.to (
      let x := s.hw.posUnit u
      let home := !s.hw.on (POS_GEOM.ENC_INDEX_EN u)
      ((s.hw.placeUnit u { x with
        valid := true, synced := home, homed := home, broken := false, count := 0, edges := [], seen := 0,
        pos := withAngle x.pos (s.hw.rd (POS_OFFSET.REF_OFFSET u)), posAt := s.hw.fabTime, num := 0, den := 1, lim := none } true false)).cmpResume u)) ∧
  (∀ (h : Hw) (u : UnitId) (x : PosUnit) (jump corr : Bool), (h.placeUnit u x jump corr).posUnit u = x ∧
    (h.placeUnit u x jump corr).reg (POS_POSITION u) = BitVec.ofInt 32 (x.pos / 4294967296))

/-- An invalid code holds the position and sets HALL_INVALID; where it persists, the unit becomes invalid and cause 0x12 is recorded
once. A valid code in the same sector clears it. A forward change to the next sector puts the position at the entered edge and
lets it advance up to the far one. An accepted edge of a synchronised wheel without a missed tooth makes the interval the tooth
period and the next edge the tooth; one sooner than half of it is noise. The first miss extrapolates the tooth, and a second in a
row loses the wheel and records cause 0x11. Nothing else changes. (R371, R372, R373, R374, R375, R377, R378, R379) -/
def Obligations.HallAndToothPosition : Prop :=
  (∀ (s : State) (u : UnitId) (ph : Fin 500) (code : Fin 8), s.hw.live = true → posKind u = 1 → s.hw.on (POS_CFG.ENABLE u) = true →
    code = 0 ∨ code = 7 → (s.hw.posUnit u).hallBad = false →
    exec (.hallCodeChange u code ph) s = s.to
      (let h := s.hw.atPhase ph.val
       let x := s.hw.posUnit u
       h.placeUnit u { x.hold h.fabTime with
        hallBad := true, hallOut := false, level := code.val, invSince := h.stepCount, lim := x.lim } false false)) ∧
  (∀ (s : State) (u : UnitId) (ph : Fin 500) (code : Fin 8), s.hw.live = true → posKind u = 1 → s.hw.on (POS_CFG.ENABLE u) = true →
    code ≠ 0 → code ≠ 7 → (s.hw.posUnit u).valid = true → s.hw.hallSector u code.val = (s.hw.posUnit u).sector →
    exec (.hallCodeChange u code ph) s = s.to
      (let h := s.hw.atPhase ph.val
       let x := s.hw.posUnit u
       h.placeUnit u (h.pacedUnit u { x.hold h.fabTime with hallBad := false, level := code.val, lim := x.lim }) false false)) ∧
  (∀ (s : State) (u : UnitId) (ph : Fin 500) (code : Fin 8), s.hw.live = true → posKind u = 1 → s.hw.on (POS_CFG.ENABLE u) = true →
    code ≠ 0 → code ≠ 7 → (s.hw.posUnit u).valid = true → (s.hw.hallSector u code.val + 6 - (s.hw.posUnit u).sector) % 6 = 1 →
    exec (.hallCodeChange u code ph) s = s.to
      (let h := s.hw.atPhase ph.val
       let x := s.hw.posUnit u
       let sec := h.hallSector u code.val
       let cur := x.at h.fabTime / 4294967296
       let p := cur + ((h.sectorStart u sec : Int) - cur) % 65536
       (h.placeUnit u (h.pacedUnit u { x with
         hallBad := false, level := code.val, sector := sec, dir := 1, edges := ((h.fabTime, 0) :: x.edges).take 7,
         seen := min 2 (x.seen + 1), lastEdge := h.fabTime, pos := p * 4294967296, posAt := h.fabTime,
         lim := some (p + ((h.sectorStart u ((sec + 1) % 6) : Int) - p) % 65536 - 1) }) false false).setReg (POS_EDGE_STEP u)
           (BitVec.ofNat 32 h.stepCount))) ∧
  (∀ (s : State) (u : UnitId), s.hw.live = true → posKind u = 1 → s.hw.on (POS_CFG.ENABLE u) = true → (s.hw.posUnit u).hallBad = true →
    (s.hw.posUnit u).hallOut = false → (s.hw.posUnit u).valid = true →
    (s.hw.posUnit u).invSince + s.hw.rd (POS_GEOM2.HALL_INV u) ≤ s.hw.stepCount →
    exec (.hallInvalidTimeout u) s = s.to
      (((s.hw.placeUnit u { s.hw.posUnit u with valid := false, synced := false, hallOut := true, seen := 0 } false false).unitLost u).posRecord u 0x12)) ∧
  (∀ (s : State) (u : UnitId), s.hw.live = true → posKind u = 1 → s.hw.on (POS_CFG.ENABLE u) = true → (s.hw.posUnit u).hallBad = true →
    (s.hw.posUnit u).hallOut = false → (s.hw.posUnit u).valid = false →
    (s.hw.posUnit u).invSince + s.hw.rd (POS_GEOM2.HALL_INV u) ≤ s.hw.stepCount →
    exec (.hallInvalidTimeout u) s = s.to
      ((s.hw.placeUnit u { s.hw.posUnit u with valid := false, synced := false, hallOut := true, seen := 0 } false false).posRecord u 0x12)) ∧
  (∀ (s : State) (u : UnitId) (ph : Fin 500), s.hw.live = true → posKind u = 2 → s.hw.on (POS_CFG.ENABLE u) = true →
    (s.hw.posUnit u).valid = true → (s.hw.posUnit u).missed = false → s.hw.toothGap u (s.hw.toothNext u (s.hw.posUnit u).tooth) = false →
    s.hw.toothP u (s.hw.toothNext u (s.hw.posUnit u).tooth) ≤ 2 * (24 * (s.hw.atPhase ph.val).fabTime - (s.hw.posUnit u).toothAt) →
    24 * (s.hw.atPhase ph.val).fabTime ≤ s.hw.toothUpper u →
    exec (.toothEdge u ph) s = s.to
      (let h := s.hw.atPhase ph.val
       let x := s.hw.posUnit u
       let e := h.toothNext u x.tooth
       let y := { x with
         t12 := 24 * (h.fabTime - x.toothAt / 24) / h.toothTwoK u e, tooth := e, toothAt := 24 * h.fabTime, missed := false,
         late := none, extrap := false }
       ((h.placeUnit u (h.toothAccept u e y) false false).wr (POS_STATUS.MISS_RUN u) 0).setReg (POS_EDGE_STEP u)
         (BitVec.ofNat 32 h.stepCount))) ∧
  (∀ (s : State) (u : UnitId) (ph : Fin 500), s.hw.live = true → posKind u = 2 → s.hw.on (POS_CFG.ENABLE u) = true →
    (s.hw.posUnit u).valid = true → (s.hw.posUnit u).missed = false → s.hw.toothGap u (s.hw.toothNext u (s.hw.posUnit u).tooth) = false →
    2 * (24 * (s.hw.atPhase ph.val).fabTime - (s.hw.posUnit u).toothAt) < s.hw.toothP u (s.hw.toothNext u (s.hw.posUnit u).tooth) →
    exec (.toothEdge u ph) s = s.to ((s.hw.atPhase ph.val).incTop (POS_COUNT.NOISE u))) ∧
  (∀ (s : State) (u : UnitId) (ph : Fin 500), s.hw.live = true → posKind u = 2 → (s.hw.posUnit u).valid = true →
    s.hw.toothUpper u ≤ 24 * (s.hw.atPhase ph.val).fabTime → s.hw.rd (POS_STATUS.MISS_RUN u) = 0 →
    exec (.toothMiss u ph) s = s.to
      (let h := ((s.hw.atPhase ph.val).incTop (POS_COUNT.MISSES u)).wr (POS_STATUS.MISS_RUN u) 1
       let x := s.hw.posUnit u
       h.placeUnit u { x with
         extrap := true, missed := true, late := none, tooth := s.hw.toothNext u x.tooth,
         toothAt := x.toothAt + s.hw.toothP u (s.hw.toothNext u x.tooth) } false false)) ∧
  (∀ (s : State) (u : UnitId) (ph : Fin 500), s.hw.live = true → posKind u = 2 → (s.hw.posUnit u).valid = true →
    s.hw.toothUpper u ≤ 24 * (s.hw.atPhase ph.val).fabTime → 1 ≤ s.hw.rd (POS_STATUS.MISS_RUN u) →
    exec (.toothMiss u ph) s = s.to
      ((((s.hw.atPhase ph.val).incTop (POS_COUNT.MISSES u)).wr (POS_STATUS.MISS_RUN u) (min 3 (s.hw.rd (POS_STATUS.MISS_RUN u) + 1))).toothLost u []))

/-- A due poll that finds the port in master role and no poll running waits in the port's queue. A good frame of a valid sensor that
is being read puts the position at the nearest position with the frame's angle. DISARM makes a channel idle, ARM in LIST mode
starts at entry 0, and ARM in REGULAR mode aims at the first grid point ahead. Where the position has crossed NEXT in the
direction of the channel since it was last seen, the hit is counted with its step and phase, the event flag is set where FLAG_EN
says so, and a REGULAR channel aims at the next grid point. Nothing else changes. (R380, R381, R383, R384, R385, R386, R387) -/
def Obligations.SerialPositionAndCompare : Prop :=
  (∀ (s : State) (u : UnitId), s.hw.live = true → posKind u = 3 → s.hw.on (POS_CFG.ENABLE u) = true →
    (s.hw.posUnit u).pollAt ≤ s.hw.stepCount → (s.hw.posUnit u).polling = false → s.hw.spiSlave = false →
    exec (.positionPoll u) s = s.to ((s.hw.setPosUnit u { s.hw.posUnit u with
      pollAt := s.hw.stepCount + s.hw.rd (POS_GEOM2.SER_POLL u), polling := true }).updSerial
        (fun (x : Serial) => { x with queue := x.queue ++ [{ cls := 2, unit := u }] }))) ∧
  (∀ (s : State) (u : UnitId) (ph : Fin 500) (data : List Byte), s.hw.live = true → (s.hw.posUnit u).polling = true →
    s.hw.serial.running = none → s.hw.serial.polled = [u.val] → s.hw.frameGood u data = true → (s.hw.posUnit u).valid = true →
    exec (.serialPositionFrame u data ph) s = s.to
      (let h := (s.hw.atPhase ph.val).updSerial (fun (x : Serial) => { x with polled := [] })
       let x := s.hw.posUnit u
       let c := x.at h.fabTime / 4294967296
       let p := c + Num.signed 16 (Num.code 16 ((h.framePos u data : Int) - c))
       (h.placeUnit u (h.pacedUnit u { x with
         synced := true, polling := false, errRun := 0, edges := ((h.fabTime, p) :: x.edges).take 2, lastEdge := h.fabTime,
         seen := min 2 (x.seen + 1), pos := p * 4294967296, posAt := h.fabTime, lim := none }) false false).setReg (POS_EDGE_STEP u)
           (BitVec.ofNat 32 h.stepCount))) ∧
  (∀ (s : State) (q : Requester) (k : BlockId) (m : Fin 2), s.admits q (BLK_CMP_CTRL k m) 2#32 →
    exec (.cmpDisarm q k m) s = s.wrote (BLK_CMP_CTRL k m) (s.hw.wr (BLK_CMP_STATUS.STATE k m) 0)) ∧
  (∀ (s : State) (q : Requester) (k : BlockId) (m : Fin 2) (u : Nat), s.admits q (BLK_CMP_CTRL k m) 1#32 →
    s.hw.rd (BLK_POS_SLOT.UNIT k (s.hw.rd (BLK_CMP_CFG.SLOT k m))) = u + 1 → s.hw.rd (BLK_CMP_CFG.MODE k m) = 2 →
    exec (.cmpArm q k m) s = s.wrote (BLK_CMP_CTRL k m)
      (let h := s.hw.bringUnit u
       (((h.setCmp k m { seenTo := (h.posUnit u).counts }).wr (BLK_CMP_STATUS.LIST_INDEX k m) 0).wr (BLK_CMP_STATUS.STATE k m) 1).wr
         (BLK_CMP_NEXT.NEXT k m) ((h.setCmp k m { seenTo := (h.posUnit u).counts }).rd (BLK_CMP_LIST.POSITION k m 0)))) ∧
  (∀ (s : State) (q : Requester) (k : BlockId) (m : Fin 2) (u : Nat), s.admits q (BLK_CMP_CTRL k m) 1#32 →
    s.hw.rd (BLK_POS_SLOT.UNIT k (s.hw.rd (BLK_CMP_CFG.SLOT k m))) = u + 1 → s.hw.rd (BLK_CMP_CFG.MODE k m) = 1 →
    ((s.hw.bringUnit u).cmpAim k m u).unitRegular u = true →
    exec (.cmpArm q k m) s = s.wrote (BLK_CMP_CTRL k m) (((s.hw.bringUnit u).cmpAim k m u).wr (BLK_CMP_STATUS.STATE k m) 1)) ∧
  (∀ (s : State) (k : BlockId) (m : Fin 2) (ph : Fin 500) (u : Nat), s.hw.live = true →
    s.hw.rd (BLK_POS_SLOT.UNIT k (s.hw.rd (BLK_CMP_CFG.SLOT k m))) = u + 1 → s.hw.rd (BLK_CMP_STATUS.STATE k m) = 1 →
    s.hw.rd (BLK_CMP_CFG.MODE k m) = 1 → s.hw.on (BLK_CMP_CFG.DIR k m) = false →
    ((s.hw.atPhase ph.val).bringUnit u).unitRegular u = true →
    (((s.hw.rd (BLK_CMP_NEXT.NEXT k m) : Int) - (((s.hw.atPhase ph.val).bringUnit u).cmp k m).seenTo - 1) % 65536 + 1 ≤
      (((s.hw.atPhase ph.val).bringUnit u).posUnit u).counts - (((s.hw.atPhase ph.val).bringUnit u).cmp k m).seenTo) →
    exec (.compareHit k m ph) s = s.to
      (let h := (s.hw.atPhase ph.val).bringUnit u
       let a := (h.cmp k m).seenTo
       h.cmpHit k m u (a + (((s.hw.rd (BLK_CMP_NEXT.NEXT k m) : Int) - a - 1) % 65536 + 1)))) ∧
  (∀ (h : Hw) (k : BlockId) (m : Fin 2) (u : Nat) (pos : Int), h.rd (BLK_CMP_CFG.MODE k m) = 1 →
    let t := h.cmpHit k m u pos
    t.rd (BLK_CMP_HITS.COUNT k m) = (h.rd (BLK_CMP_HITS.COUNT k m) + 1) % 2 ^ ((BLK_CMP_HITS.COUNT k m).hi + 1 - (BLK_CMP_HITS.COUNT k m).lo) ∧
    t.rd (BLK_CMP_LAST.STEP k m) = h.stepCount % 2 ^ 32 ∧ (t.cmp k m).seenTo = pos ∧
    (h.on (BLK_CMP_CFG.FLAG_EN k m) = true → t.bit (BLK_SEQ_FLAGS.FLAG k) (h.rd (BLK_CMP_CFG.FLAG k m)) = true))

/-- A protection condition that has lasted more than PROT_STEPS steps in a running or gated channel records its cause 0x14, 0x15 or
0x16, makes the channel FAULT with reason 7, 8 or 9 and sets its variables anew. A running channel whose phase time has reached
T_LIMIT ends with reason TIME. RESTART of an ended channel, ACC_START, ACC_STOP and ACC_CLEAR each set their bit. A channel that
ends sets its event flag where FLAG_EN says so. Nothing else changes. (R400, R402, R407, R408, R411) -/
def Obligations.Channels : Prop :=
  (∀ (s : State) (c : CellId), s.hw.live = true → s.hw.isChannel c = true → chanRuns (s.hw.rd (LEG_CHAN_STATUS.STATE c)) = true ∨
    s.hw.rd (LEG_CHAN_STATUS.STATE c) = 4 → s.hw.rd (LEG_CHAN_END.PROT_STEPS c) < (s.hw.cell c).protHigh →
    exec (.channelProtection c) s = s.to (((s.hw.cellFault c 0x14).chanEnd c 6 7).chanVars c)) ∧
  (∀ (s : State) (c : CellId), s.hw.live = true → s.hw.isChannel c = true → chanRuns (s.hw.rd (LEG_CHAN_STATUS.STATE c)) = true ∨
    s.hw.rd (LEG_CHAN_STATUS.STATE c) = 4 → (s.hw.cell c).protHigh ≤ s.hw.rd (LEG_CHAN_END.PROT_STEPS c) →
    s.hw.rd (LEG_CHAN_END.PROT_STEPS c) < (s.hw.cell c).protLow →
    exec (.channelProtection c) s = s.to (((s.hw.cellFault c 0x15).chanEnd c 6 8).chanVars c)) ∧
  (∀ (s : State) (c : CellId), s.hw.live = true → s.hw.isChannel c = true → chanRuns (s.hw.rd (LEG_CHAN_STATUS.STATE c)) = true ∨
    s.hw.rd (LEG_CHAN_STATUS.STATE c) = 4 → (s.hw.cell c).protHigh ≤ s.hw.rd (LEG_CHAN_END.PROT_STEPS c) →
    (s.hw.cell c).protLow ≤ s.hw.rd (LEG_CHAN_END.PROT_STEPS c) → s.hw.rd (LEG_CHAN_END.PROT_STEPS c) < (s.hw.cell c).protLost →
    exec (.channelProtection c) s = s.to (((s.hw.cellFault c 0x16).chanEnd c 6 9).chanVars c)) ∧
  (∀ (s : State) (c : CellId), s.hw.live = true → s.hw.isChannel c = true → chanRuns (s.hw.rd (LEG_CHAN_STATUS.STATE c)) = true →
    s.hw.rd (LEG_CHAN_TLIM.T_LIMIT c) ≠ 0 → s.hw.rd (LEG_CHAN_TLIM.T_LIMIT c) ≤ s.hw.rd (LEG_CHAN_PHASE_TIME.MS c) →
    exec (.phaseTimeLimit c) s = s.to ((s.hw.chanEnd c 5 3).chanVars c)) ∧
  (∀ (s : State) (q : Requester) (c : CellId), s.admits q (LEG_CHAN_CTRL c) 8#32 → s.hw.rd (LEG_CHAN_STATUS.STATE c) = 5 →
    exec (.chanRestart q c) s = s.wrote (LEG_CHAN_CTRL c) (s.hw.setCell c { s.hw.cell c with restartReq := true })) ∧
  (∀ (s : State) (q : Requester) (c : CellId), s.admits q (LEG_CHAN_CTRL c) 1#32 →
    exec (.accStart q c) s = s.wrote (LEG_CHAN_CTRL c) ((s.hw.wrB (LEG_CHAN_STATUS.ACC_RUN c) true).setCell c (s.hw.cell c))) ∧
  (∀ (s : State) (q : Requester) (c : CellId), s.admits q (LEG_CHAN_CTRL c) 2#32 →
    exec (.accStop q c) s = s.wrote (LEG_CHAN_CTRL c) ((s.hw.wrB (LEG_CHAN_STATUS.ACC_RUN c) false).setCell c (s.hw.cell c))) ∧
  (∀ (s : State) (q : Requester) (c : CellId), s.admits q (LEG_CHAN_CTRL c) 4#32 →
    exec (.accClear q c) s = s.wrote (LEG_CHAN_CTRL c) (s.hw.setCell c { s.hw.cell c with accClear := true })) ∧
  (∀ (h : Hw) (c : CellId) (st reason : Nat), st < 8 → reason < 16 →
    (h.chanEnd c st reason).rd (LEG_CHAN_STATUS.STATE c) = st ∧ (h.chanEnd c st reason).rd (LEG_CHAN_STATUS.END_REASON c) = reason ∧
    (h.on (LEG_CHAN_CFG.FLAG_EN c) = true →
      (h.chanEnd c st reason).bit (BLK_SEQ_FLAGS.FLAG (c.val / 6)) (h.rd (LEG_CHAN_CFG.FLAG c)) = true))

/-- A reading of a die updates each of its sensors, then the zone's temperature, bits and level, and offers the zone's value to the
histograms; a reading of the keep die also judges the write window. A raw value out of range makes a sensor broken at 0x7FFF; one
within it, of a sensor that is not broken, shows it limited to -55.0 to 200.0 degrees. A level is entered at its threshold and
left below the threshold minus the hysteresis. An external input without a type shows 0x8000 0000 and no level; a typed one
outside 10 mV to 3.2 V is broken and above every level. Nothing else changes. (R417, R418, R419, R420, R554) -/
def Obligations.ThermalReadings : Prop :=
  (∀ (s : State) (d : DieId) (temps : List (Option Int)), s.hw.live = true → d.val ≠ 7 →
    exec (.thermalReading d temps) s = s.to
      (let z := if d.val ≤ 1 then 0 else d.val - 1
       let h := (List.range (min (dieSensors d).2 temps.length)).foldl (fun (h : Hw) i => h.sensorRead ((dieSensors d).1 + i) (temps.getD i none)) s.hw
       (h.zoneRead z).histUpdate (fun n => n == z + 1 || n == 8))) ∧
  (∀ (s : State) (temps : List (Option Int)), s.hw.live = true →
    exec (.thermalReading 7 temps) s = s.to
      (let h := (List.range (min 2 temps.length)).foldl (fun (h : Hw) i => h.sensorRead (76 + i) (temps.getD i none)) s.hw
       let h := (h.zoneRead 6).histUpdate (fun n => n == 7 || n == 8)
       h.keepReading (h.rd (THERM_STATUS.TEMP 6)) (h.on (THERM_STATUS.BROKEN 6)))) ∧
  (∀ (h : Hw) (n : Fin 78), (h.sensorRead n none).reg (THERM_SENSOR n) = 0x17FFF#32) ∧
  (∀ (h : Hw) (n : Fin 78) (t : Int), h.on (THERM_SENSOR.BROKEN n) = false → -550 ≤ t → t ≤ 2000 →
    (h.sensorRead n (some t)).rdI (THERM_SENSOR.TEMP n) = t ∧ (h.sensorRead n (some t)).on (THERM_SENSOR.BROKEN n) = false) ∧
  (∀ (old : Nat) (t : Int) (thr hyst : List Int) (j : Nat), j < 3 →
    (thr.getD j 0 ≤ t → (levelBits old (some t) thr hyst).testBit j = true) ∧
    (t < thr.getD j 0 → t < thr.getD j 0 - hyst.getD j 0 → (levelBits old (some t) thr hyst).testBit j = false) ∧
    (t < thr.getD j 0 → thr.getD j 0 - hyst.getD j 0 ≤ t → (levelBits old (some t) thr hyst).testBit j = old.testBit j)) ∧
  (∀ (s : State) (n : Fin 64) (v : Nat), s.hw.live = true → s.hw.rd (TEMP_CFG.TYPE n) = 0 →
    exec (.extTempReading n v) s = s.to
      { (s.hw.wr (TEMP_RAW.VOLTS n) v).setReg (TEMP_STATUS n) 0x80000000#32 with
        levels := Tab.put s.hw.levels (16 + n.val) 0 0 }) ∧
  (∀ (s : State) (n : Fin 64) (v : Nat), s.hw.live = true → s.hw.rd (TEMP_CFG.TYPE n) ≠ 0 → v < 100 ∨ 32000 < v →
    exec (.extTempReading n v) s = s.to
      (let b := levelBits (Tab.get s.hw.levels (16 + n.val) 0) none [] []
       (((({ s.hw.wr (TEMP_RAW.VOLTS n) v with
         sensorGood := Tab.put s.hw.sensorGood (128 + n.val) 0 0, levels := Tab.put s.hw.levels (16 + n.val) b 0 }).wr
           (TEMP_STATUS.TEMP n) 0x7FFF).wrB (TEMP_STATUS.BROKEN n) true).wr (TEMP_STATUS.LEVEL n) 3).histUpdate (fun m => m == 0x40 + n.val)))

/-- A host of partition p, and a thread of a block it owns, deliver a safety command as their source. A fall or a rise of an STO pin
sets its level, and each region's hold follows the pins at once. Pins that differ too long set DISCREPANCY and record cause 0x33;
it clears where they agree. An SRESET edge outside a chip fault and a shutdown that can release nothing is rejected, and one that
can marks the blocks for release; either shows SRESET_N high. SS1 beyond MAX_MS records cause 0x35 and stops its blocks. A
complete torque monitor window within tolerance clears FAILS, and one beyond it is counted. (R430, R436, R437, R438, R439, R440,
R441, R444, R448, R456) -/
def Obligations.SafetyFunctions : Prop :=
  (∀ (s : State) (o p : PartId) (code : Fin 4), s.admits (.host o) (SAFE_CMD p) (BitVec.ofNat 32 code.val) → o = p →
    exec (.safeCmdWrite (.host o) p code) s = s.wrote (SAFE_CMD p) (s.hw.deliver p 0x80 code.val)) ∧
  (∀ (s : State) (k : BlockId) (t : ThreadId) (p : PartId) (code : Fin 4), s.admits (.thread k t) (SAFE_CMD p) (BitVec.ofNat 32 code.val) → s.hw.owner k = some p.val →
    exec (.safeCmdWrite (.thread k t) p code) s = s.wrote (SAFE_CMD p) (s.hw.deliver p (0x100 + 8 * k.val + t.val) code.val)) ∧
  (∀ (h : Hw) (p src code : Nat), Tab.get ((h.deliver p src code).part p).src src 0 = code) ∧
  (∀ (s : State) (b : Bool),
    exec (.stoPinFall b) s = s.to ((s.hw.wrB (if b then SAFE_PIN_STATUS.STO_B else SAFE_PIN_STATUS.STO_A) false).syncSto)) ∧
  (∀ (s : State) (b : Bool),
    exec (.stoPinRise b) s = s.to ((s.hw.wrB (if b then SAFE_PIN_STATUS.STO_B else SAFE_PIN_STATUS.STO_A) true).syncSto)) ∧
  (∀ (h : Hw) (r : RegionId), (h.syncSto.region r).sto = h.pinHolds r) ∧
  (∀ s : State, s.hw.live = true → s.hw.on SAFE_PIN_CFG.DISC_EN = true → s.hw.rd SAFE_PIN_CFG.A_REGIONS = s.hw.rd SAFE_PIN_CFG.B_REGIONS →
    s.hw.pinsDiffer = true →
    s.hw.on SAFE_PIN_STATUS.DISCREPANCY = false →
    exec .stoDiscrepancy s = s.to ((s.hw.wrB SAFE_PIN_STATUS.DISCREPANCY true).record 0x7FF3)) ∧
  (∀ s : State, s.hw.live = true → s.hw.pinsDiffer = false →
    exec .discrepancyCleared s = s.to (s.hw.wrB SAFE_PIN_STATUS.DISCREPANCY false)) ∧
  (∀ (s : State) (env : StartEnv) (ks : List Nat), s.hw.live = true → s.hw.shutting = false → s.hw.chipFault = false →
    ks = (List.range 8).filter (fun k => (match s.hw.owner k with
      | some p => s.hw.bit SAFE_RESET_CFG.PARTS p && s.hw.stopped k && s.hw.releasable k
      | none => false)) →
    exec (.sresetEdge env) s = s.to (let h := s.hw.wrB SAFE_PIN_STATUS.SRESET_N true
       if ks = [] then h.incTop SAFE_RESET_COUNT.REJECTED
       else (ks.foldl (fun (h : Hw) k => h.setBlock k { h.block k with release := true }) h).incTop SAFE_RESET_COUNT.ACCEPTED)) ∧
  (∀ (s : State) (p : PartId) (ks : List Nat), s.hw.live = true → ks ≠ [] →
    ks = (s.hw.blocksOf p).filter (fun k => (s.hw.block k).ss1On && !(s.hw.block k).stopEnd &&
      decide ((s.hw.block k).ss1Start + 800 * s.hw.rd (SAFE_SS1_LIM.MAX_MS p) ≤ s.hw.stepCount)) →
    exec (.ss1Timeout p) s = s.to (ks.foldl (fun (h : Hw) k => let h := h.wrBit (SAFE_STATUS.STOPPED p) k true
      h.setBlock k { h.block k with stopEnd := true }) ((s.hw.record (faultCode 7 p 0x35)).wr (SAFE_STATUS.CAUSE p) (faultCode 7 p 0x35)))) ∧
  (∀ (s : State) (t : TrioId) (p : Nat) (fail : Bool), s.hw.live = true → s.hw.owner (t.val / 2) = some p → (s.hw.trio t).tmDue = true →
    s.hw.rd (SAFE_CFG.WINDOW p) ≤ 2 * (s.hw.trio t).tmN → (s.hw.trio t).tmN ≠ 0 →
    fail = windowFails (s.hw.trio t).tmT (s.hw.trio t).tmE (s.hw.trio t).tmN (s.hw.rd (SAFE_TM_TOL.ABS p)) (s.hw.rd (SAFE_TM_TOL.REL p)) →
    fail = false ∨ s.hw.rd (SAFE_TRIO_TM_STATUS.FAILS t) + 1 < s.hw.rd (SAFE_CFG.COUNT p) →
    exec (.torqueMonitorWindow t) s = s.to
      (let x := s.hw.trio t
       let h := s.hw.setTrio t { x with tmSteps := 0, tmN := 0, tmT := 0, tmE := 0, tmDue := false, blind := 0, blindDone := false }
       let h := (h.wr (SAFE_TRIO_TM_STATUS.LAST_DIFF t) (min (Num.shown (x.tmT - x.tmE).natAbs x.tmN) 0xFFFF)).wrB
         (SAFE_TRIO_TM_STATUS.EVALUATED t) true
       if fail then h.incTop (SAFE_TRIO_TM_STATUS.FAILS t) else h.wr (SAFE_TRIO_TM_STATUS.FAILS t) 0))

/-- Equal values have no effect. A mismatch in a block's group shows the group, the lane (0x3FF but for the LANES group) and the step,
and fences the block with cause 0x01; one in the ACCESS group first withholds the accesses of the block's threads. A mismatch in a
chip group shows the group and sets chip fault 0x01. Nothing else changes. (R459, R460, R461, R462) -/
def Obligations.LockstepCompare : Prop :=
  (∀ (s : State) (g : Fin 30) (lane : Nat), s.hw.live = true →
    exec (.lockstepCompare g true lane) s = s.to s.hw) ∧
  (∀ (s : State) (k : BlockId) (lane : Nat), s.hw.live = true →
    exec (.lockstepCompare ⟨3 * k.val, by omega⟩ false lane) s = s.to ((((s.hw.wr (LS_BLOCK.GROUP k) 1).wr (LS_BLOCK.LANE k)
      (min lane 0x3FF)).setReg (LS_BLOCK_STEP k) (BitVec.ofNat 32 s.hw.stepCount)).fenceBlock k 0x01)) ∧
  (∀ (s : State) (k : BlockId) (lane : Nat), s.hw.live = true →
    exec (.lockstepCompare ⟨3 * k.val + 1, by omega⟩ false lane) s = s.to (((((s.hw.withholdAccess k).wr (LS_BLOCK.GROUP k) 2).wr
      (LS_BLOCK.LANE k) 0x3FF).setReg (LS_BLOCK_STEP k) (BitVec.ofNat 32 s.hw.stepCount)).fenceBlock k 0x01)) ∧
  (∀ (s : State) (k : BlockId) (lane : Nat), s.hw.live = true →
    exec (.lockstepCompare ⟨3 * k.val + 2, by omega⟩ false lane) s = s.to ((((s.hw.wr (LS_BLOCK.GROUP k) 3).wr (LS_BLOCK.LANE k)
      0x3FF).setReg (LS_BLOCK_STEP k) (BitVec.ofNat 32 s.hw.stepCount)).fenceBlock k 0x01)) ∧
  (∀ (s : State) (g : Fin 30) (lane : Nat), s.hw.live = true → 24 ≤ g.val →
    exec (.lockstepCompare g false lane) s = s.to ((s.hw.wr LS_STATUS.CHIP_GROUP g.val).chipFaultSet 0x01)) ∧
  (∀ (h : Hw) (k : BlockId) (t : ThreadId), ((h.withholdAccess k).thread k t).stall = .none)

/-- A challenge for an active partition, outside a session, a second after a failed response and while the key store is not sealed,
begins; its nonce of 32 bytes becomes ready once. A response to it goes to verification. A signature that verifies establishes the
session of the scope; another fails, is counted and ends the challenge. A nonce without a response in time ends the challenge as
expired. A session ends on request and on a TAP reset: its requests are dropped, and each halted block is asked to stop and to
resume. Without a session the request answers AUTH. Nothing else changes. (R465, R466, R468, R475) -/
def Obligations.DebugSession : Prop :=
  (∀ (s : State) (scope : Byte), s.hw.live = true → s.hw.dbgState ≠ 3 → (∀ n, s.hw.dbgSt.failedAt = some n →
    n + 800000 ≤ s.hw.stepCount) → scope.toNat < 16 → s.hw.on KS_STATE.SEALED = false → s.hw.active scope.toNat = true →
    exec (.dbgChallenge scope) s = s.to ({ (s.hw.wr DBG_SESSION.STATE 1).wr DBG_SESSION.SCOPE 0 with
      dbgSt := { s.hw.dbgSt with scope := scope.toNat, nonce := [], sig := [], expired := false, chalStatus := 0 } }.answer .ok 0)) ∧
  (∀ s : State, s.hw.live = true → s.hw.dbgState = 1 → s.hw.dbgSt.nonce = [] →
    exec .challengeNonceReady s = s.to { s.hw with
      fresh := s.hw.fresh + 1
      dbgSt := { s.hw.dbgSt with nonce := (List.range 32).map (fun i => Config.freeByte s.hw.fresh i) } }) ∧
  (∀ (s : State) (sig : List Byte), s.hw.live = true → s.hw.dbgState = 1 →
    exec (.dbgResponse sig) s = s.to ({ s.hw.wr DBG_SESSION.STATE 2 with dbgSt := { s.hw.dbgSt with sig := sig, respStatus := 1 } }.answer .ok 0)) ∧
  (∀ s : State, s.hw.live = true → s.hw.dbgState = 2 →
    exec .dbgVerifyDone s = s.to
      (if Config.signatureOk (s.hw.ownerKey s.hw.dbgSt.scope) s.hw.dbgMessage s.hw.dbgSt.sig then
        { (s.hw.wr DBG_SESSION.STATE 3).wr DBG_SESSION.SCOPE s.hw.dbgSt.scope with
          dbgSt := { s.hw.dbgSt with respStatus := 0, lastAt := s.hw.stepCount, pending := false } }.answer .ok 0
       else { (((s.hw.incTop DBG_COUNT.AUTH_FAIL).inc (TS_AUTH_COUNT.COUNT s.hw.dbgSt.scope)).wr DBG_SESSION.STATE 0).wr DBG_SESSION.SCOPE 0 with
          dbgSt := { s.hw.dbgSt with respStatus := 4, failedAt := some s.hw.stepCount, expired := false } }.answer .auth 0)) ∧
  (∀ s : State, s.hw.live = true → s.hw.dbgState = 1 → s.hw.dbgSt.nonce ≠ [] →
    exec .dbgResponseTimeout s = s.to { s.hw.wr DBG_SESSION.STATE 0 with dbgSt := { s.hw.dbgSt with expired := true } }) ∧
  (∀ s : State, s.hw.live = true → s.hw.dbgState = 3 →
    exec .dbgEndSession s = s.to (s.hw.dbgEnd.answer .ok 0)) ∧
  (∀ s : State, s.hw.live = true → s.hw.dbgState ≠ 3 →
    exec .dbgEndSession s = s.to (s.hw.answer .auth 0)) ∧
  (∀ s : State, s.hw.live = true →
    exec .tapReset s = s.to s.hw.dbgEnd) ∧
  (∀ h : Hw, h.dbgState = 3 → h.dbgEnd.dbgState = 0 ∧ h.dbgEnd.dbgSt.pending = false ∧
    ∀ k : BlockId, h.halted k = true → (h.dbgEnd.block k).resumeReq = true ∧ (h.dbgEnd.block k).stepReq = false)

/-- A read or a write of the session waits where no access waits. It executes with the rights of the session's scope, and completes
with its status and data, counted; a read that waits for the window stays. A control request that R467, R470 and R472 do not
refuse is counted, asks the blocks it names to halt, freeze, resume or step at the next boundary and answers OK. A write of a
general register of a thread of a halted block sets it. A second without an access or a control ends every freeze and applies the
holds of its cells. Nothing else changes. (R219, R467, R469, R470, R471, R472, R474) -/
def Obligations.DebugAccess : Prop :=
  (∀ (s : State) (op : Fin 4) (addr data : Word), s.hw.live = true → op = 1 ∨ op = 2 → s.hw.dbgState = 3 → s.hw.dbgSt.pending = false →
    exec (.dbgAccess op addr data) s = s.to { s.hw with
      dbgSt := { s.hw.dbgSt with pending := true, op := op.val, addr := addr.toNat, data := data, done := false } }) ∧
  (∀ s : State, s.hw.live = true → s.hw.dbgState = 3 → s.hw.dbgSt.pending = true → s.hw.dbgSt.op = 2 →
    exec .dbgAccessExecute s =
      (let r := (Mach.mk s.mem s.hw).busWrite s.hw.debugger s.hw.dbgSt.addr s.hw.dbgSt.data
       s.toMach r.2.mem (if r.2.hw.restarted then r.2.hw else r.2.hw.dbgDone r.1 0))) ∧
  (∀ s : State, s.hw.live = true → s.hw.dbgState = 3 → s.hw.dbgSt.pending = true → s.hw.dbgSt.op = 1 →
    exec .dbgAccessExecute s =
      match (Mach.mk s.mem s.hw).busRead s.hw.debugger whoDebug s.hw.dbgSt.addr 0 with
      | (some (st, w), m) => s.toMach m.mem (m.hw.dbgDone st w)
      | (none, m) => s.toMach m.mem m.hw) ∧
  (∀ (h : Hw) (st : Status) (w : Word), (h.dbgDone st w).dbgSt = { h.dbgSt with
      pending := false, done := true, accStatus := st.code, accData := w, lastAt := h.stepCount } ∧
    (h.dbgDone st w).rd DBG_COUNT.ACCESSES = (h.rd DBG_COUNT.ACCESSES + 1) % 2 ^ (DBG_COUNT.ACCESSES.hi + 1 - DBG_COUNT.ACCESSES.lo)) ∧
  (∀ (s : State) (halt resume step : Byte) (freeze : Bool), s.hw.live = true →
    s.hw.controlRefusal halt.toNat resume.toNat step.toNat freeze = none →
    exec (.dbgHalt halt resume step freeze) s = s.to
      (let h := { s.hw.inc DBG_COUNT.ACCESSES with dbgSt := { s.hw.dbgSt with lastAt := s.hw.stepCount } }
       (Num.forEach 8 (fun j (h : Hw) => h.setBlock j { h.block j with
         haltReq := (h.block j).haltReq || (halt.toNat).testBit j, freezeReq := (h.block j).freezeReq || (freeze && (halt.toNat).testBit j)
         resumeReq := (h.block j).resumeReq || (resume.toNat).testBit j, stepReq := (h.block j).stepReq || (step.toNat).testBit j }) h).answer .ok 0)) ∧
  (∀ (s : State) (k : BlockId), s.hw.live = true → s.hw.controlRefusal (2 ^ k.val) 0 0 true = none →
    exec (.dbgFreeze k) s = s.to
      (let h := { s.hw.inc DBG_COUNT.ACCESSES with dbgSt := { s.hw.dbgSt with lastAt := s.hw.stepCount } }
       (Num.forEach 8 (fun j (h : Hw) => h.setBlock j { h.block j with
         haltReq := (h.block j).haltReq || (2 ^ k.val).testBit j, freezeReq := (h.block j).freezeReq || (true && (2 ^ k.val).testBit j)
         resumeReq := (h.block j).resumeReq || (0).testBit j, stepReq := (h.block j).stepReq || (0).testBit j }) h).answer .ok 0)) ∧
  (∀ (s : State) (mask : Byte), s.hw.live = true → s.hw.controlRefusal 0 mask.toNat 0 false = none →
    exec (.dbgResume mask) s = s.to
      (let h := { s.hw.inc DBG_COUNT.ACCESSES with dbgSt := { s.hw.dbgSt with lastAt := s.hw.stepCount } }
       (Num.forEach 8 (fun j (h : Hw) => h.setBlock j { h.block j with
         haltReq := (h.block j).haltReq || (0).testBit j, freezeReq := (h.block j).freezeReq || (false && (0).testBit j)
         resumeReq := (h.block j).resumeReq || (mask.toNat).testBit j, stepReq := (h.block j).stepReq || (0).testBit j }) h).answer .ok 0)) ∧
  (∀ (s : State) (mask : Byte), s.hw.live = true → s.hw.controlRefusal 0 0 mask.toNat false = none →
    exec (.dbgStep mask) s = s.to
      (let h := { s.hw.inc DBG_COUNT.ACCESSES with dbgSt := { s.hw.dbgSt with lastAt := s.hw.stepCount } }
       (Num.forEach 8 (fun j (h : Hw) => h.setBlock j { h.block j with
         haltReq := (h.block j).haltReq || (0).testBit j, freezeReq := (h.block j).freezeReq || (false && (0).testBit j)
         resumeReq := (h.block j).resumeReq || (0).testBit j, stepReq := (h.block j).stepReq || (mask.toNat).testBit j }) h).answer .ok 0)) ∧
  (∀ (s : State) (k : BlockId) (t : ThreadId) (g : Fin 16) (v : Word), s.hw.dbgState = 3 →
    s.admits s.hw.debugger (BLK_SEQ_DBG_G k t g) v → s.hw.halted k = true →
    exec (.dbgThreadRegWrite k t g v) s = s.wrote (BLK_SEQ_DBG_G k t g) (s.hw.setGen k t g v)) ∧
  (∀ s : State, s.hw.live = true → s.hw.dbgSt.lastAt + 800000 ≤ s.hw.stepCount →
    exec .freezeTimeout s = s.to (Num.forEach 8 (fun k (h : Hw) =>
      if h.frozen k then
        let h := (cellsOf k).foldl (fun (a : Hw) c => a.wrB (LEG_PWM_STATUS.FROZEN c) false) (h.wrBit DBG_HALT.FROZEN k false)
        (cellsOf k).foldl (fun (a : Hw) c => a.applyHold c) h
      else h) s.hw))

/-- OPEN, CLOSE and SEND of a transmit object set OPEN, clear it, and set PENDING without a snapshot. A frame that matches a receive
object of a partition that takes part, of the right length and without a pair, is stored, and one of another length is discarded
and counted. At the latch instant of a cycle the one live receive object of the channel, or its one transmit object, is latched. A
plain receive object with a new frame has AGE 0 and feeds its inputs, one without ages and is STALE. A transmit object that is not
open takes its snapshot, an open one is SKIPPED. Nothing else changes. (R482, R483, R485, R489, R492, R494) -/
def Obligations.CanObjects : Prop :=
  (∀ (s : State) (q : Requester) (o : ObjId) (r : ObjRec), s.admits q (OBJ_CTRL o) 1#32 → (s.hw.obj o).cfg = some r → r.transmits = true →
    exec (.objOpen q o) s = s.wrote (OBJ_CTRL o) (s.hw.wrB (OBJ_STATUS.OPEN o) true)) ∧
  (∀ (s : State) (q : Requester) (o : ObjId) (r : ObjRec), s.admits q (OBJ_CTRL o) 2#32 → (s.hw.obj o).cfg = some r → r.transmits = true →
    exec (.objClose q o) s = s.wrote (OBJ_CTRL o) (s.hw.wrB (OBJ_STATUS.OPEN o) false)) ∧
  (∀ (s : State) (q : Requester) (o : ObjId) (r : ObjRec), s.admits q (OBJ_CTRL o) 4#32 → (s.hw.obj o).cfg = some r → r.transmits = true →
    exec (.objSend q o) s = s.wrote (OBJ_CTRL o) ((s.hw.wrB (OBJ_STATUS.PENDING o) true).setObj o { s.hw.obj o with pend := false })) ∧
  (∀ (s : State) (n : ChanId) (f : CanFrame) (ph : Fin 500) (o : Nat) (r : ObjRec), s.hw.live = true → s.hw.canHears n = true →
    s.hw.objMatching n f = some o → (s.hw.obj o).cfg = some r → f.data.length = r.bytes → s.hw.objLive o = true → r.paired = false →
    exec (.canFrameReceived n f ph) s = s.to (((s.hw.atPhase ph.val).canHeard n).objStore o f.data)) ∧
  (∀ (s : State) (n : ChanId) (f : CanFrame) (ph : Fin 500) (o : Nat) (r : ObjRec), s.hw.live = true → s.hw.canHears n = true →
    s.hw.objMatching n f = some o → (s.hw.obj o).cfg = some r → f.data.length ≠ r.bytes →
    exec (.canFrameReceived n f ph) s = s.to (((s.hw.atPhase ph.val).canHeard n).incTop (CAN_COUNT_A.DISCARDED n))) ∧
  (∀ (s : State) (n : ChanId) (o p : Nat) (r : ObjRec), s.hw.live = true → (s.hw.chan n).on = true → (s.hw.chan n).latched = false →
    s.hw.objsWhere (fun r => r.chan == n.val && !r.transmits) = [o] → s.hw.objsWhere (fun r => r.chan == n.val && r.transmits) = [] →
    (s.hw.obj o).cfg = some r → s.hw.objOwner o = some p → s.hw.active p = true →
    exec (.latchInstant n) s = s.to (((s.hw.setChan n { s.hw.chan n with latched := true }).wr (CAN_STATUS.COLUMN n) (s.hw.canCfg n).latchColumn).latchReceive p o r)) ∧
  (∀ (s : State) (n : ChanId) (o : Nat) (r : ObjRec), s.hw.live = true → (s.hw.chan n).on = true → (s.hw.chan n).latched = false →
    s.hw.objsWhere (fun r => r.chan == n.val && !r.transmits) = [] → s.hw.objsWhere (fun r => r.chan == n.val && r.transmits) = [o] →
    (s.hw.obj o).cfg = some r → s.hw.objLive o = true →
    exec (.latchInstant n) s = s.to (((s.hw.setChan n { s.hw.chan n with latched := true }).wr (CAN_STATUS.COLUMN n) (s.hw.canCfg n).latchColumn).latchTransmit o r)) ∧
  (∀ (h : Hw) (p : Nat) (o : ObjId) (r : ObjRec), r.paired = false → (h.obj o).fresh = true →
    h.latchReceive p o r = ((((h.setObj o { h.obj o with fresh := false }).wr (OBJ_STATUS.AGE o) 0).wrB (OBJ_STATUS.STALE o) false).wrB
      (OBJ_STATUS.EXPIRED o) false).feedInputs p o (some ((((h.setObj o { h.obj o with fresh := false }).wr (OBJ_STATUS.AGE o) 0).wrB
        (OBJ_STATUS.STALE o) false).wrB (OBJ_STATUS.EXPIRED o) false |>.objBytes o r.bytes))) ∧
  (∀ (h : Hw) (p : Nat) (o : ObjId) (r : ObjRec), (h.obj o).fresh = false → min (h.rd (OBJ_STATUS.AGE o) + 1) 255 < r.stale →
    h.latchReceive p o r = ((h.setObj o { h.obj o with fresh := false }).incTop (OBJ_STATUS.AGE o)).wrB (OBJ_STATUS.STALE o) true) ∧
  (∀ (h : Hw) (o : ObjId) (r : ObjRec), h.on (OBJ_STATUS.PENDING o) = false →
    h.latchTransmit o r = if h.on (OBJ_STATUS.OPEN o) then h.wrB (OBJ_STATUS.SKIPPED o) true
      else h.setObj o { h.obj o with snap := some (h.objBytes o r.bytes) })

/-- A copy with a wrong length or CRC is counted. A good copy of a sequence number that is not repeated waits where no partner waits;
where the other channel's copy waits within the window and has the same bytes, the pair is accepted: the object stores it and the
source takes its command; where the bytes differ, both copies go and the mismatch is counted with safety cause 0x38. Copies older
than the window are dropped and counted. The statement is about copies of the first channel; nothing else changes. (R450, R452,
R453) -/
def Obligations.SafePairs : Prop :=
  (∀ (s : State) (o : ObjId) (data : List Byte) (p : Nat) (r : ObjRec), s.hw.live = true → s.hw.objOwner o = some p →
    (s.hw.obj o).cfg = some r → r.paired = true → r.isPrimary = true → r.transmits = false → s.hw.canPart p = true →
    data.length ≠ r.bytes ∨ pairCrcOk r.ident data = false →
    exec (.safePairCopy o false data) s = s.to (s.hw.incTop (SAFE_DATA_COUNT.CRC p))) ∧
  (∀ (s : State) (o : ObjId) (data : List Byte) (p : Nat) (r : ObjRec), s.hw.live = true → s.hw.objOwner o = some p →
    (s.hw.obj o).cfg = some r → r.paired = true → r.isPrimary = true → r.transmits = false → s.hw.canPart p = true →
    data.length = r.bytes → pairCrcOk r.ident data = true → (s.hw.obj o).lastSeq = none → (s.hw.obj o).copies = [] →
    exec (.safePairCopy o false data) s = s.to (s.hw.setObj o { s.hw.obj o with copies := [⟨false, (data.getD 0 0).toNat + 256 * (data.getD 1 0).toNat, 0, data⟩] })) ∧
  (∀ (s : State) (o : ObjId) (data : List Byte) (p : Nat) (r : ObjRec) (age : Nat), s.hw.live = true → s.hw.objOwner o = some p →
    (s.hw.obj o).cfg = some r → r.paired = true → r.isPrimary = true → r.transmits = false → s.hw.canPart p = true →
    data.length = r.bytes → pairCrcOk r.ident data = true → (s.hw.obj o).lastSeq = none → age ≤ r.window →
    (s.hw.obj o).copies = [⟨true, (data.getD 0 0).toNat + 256 * (data.getD 1 0).toNat, age, data⟩] →
    exec (.safePairCopy o false data) s = s.to
      (((s.hw.setObj o { s.hw.obj o with lastSeq := some ((data.getD 0 0).toNat + 256 * (data.getD 1 0).toNat), copies := [] }).objStore o data).deliver
        p (0x1000 + o.val) ((data.getD 2 0).toNat % 4))) ∧
  (∀ (s : State) (o : ObjId) (data other : List Byte) (p : Nat) (r : ObjRec) (age : Nat), s.hw.live = true → s.hw.objOwner o = some p →
    (s.hw.obj o).cfg = some r → r.paired = true → r.isPrimary = true → r.transmits = false → s.hw.canPart p = true →
    data.length = r.bytes → pairCrcOk r.ident data = true → (s.hw.obj o).lastSeq = none → age ≤ r.window → other ≠ data →
    (s.hw.obj o).copies = [⟨true, (data.getD 0 0).toNat + 256 * (data.getD 1 0).toNat, age, other⟩] →
    exec (.safePairCopy o false data) s = s.to (((s.hw.setObj o { s.hw.obj o with copies := [] }).incTop (SAFE_DATA_COUNT.MISMATCH p)).safetyCause p 0x38)) ∧
  (∀ (s : State) (o : ObjId) (p : Nat) (r : ObjRec) (c : PairCopy), s.hw.live = true → s.hw.objOwner o = some p →
    (s.hw.obj o).cfg = some r → (s.hw.obj o).copies = [c] → r.window < c.age →
    exec (.safePairSingle o) s = s.to ((s.hw.setObj o { s.hw.obj o with copies := [] }).incTop (SAFE_DATA_COUNT.SINGLE p)))

/-- In an exclusive slot the column's object is put on an idle bus where its frame fits, else it is NOT_SENT and counted as late. In a
window the one pending object that fits is put on the bus, and without one a service frame. A sent frame of a window lowers TEC,
is stamped and counted, and no longer pends. A basic cycle that has passed starts the next one at column 0, with the written
CAN_n_TIME in force. A reference frame with bit 7 set gives only the cycle number; one with bit 7 clear places column 0 at its
start, of the present cycle in its first half and of the next one after that, on its channel and on the odd one beside it, and the
follower is in sync. Two cycles without one clear SYNC_OK and record cause 3. Nothing else changes. (R486, R488, R489, R490, R491,
R492, R501, R510) -/
def Obligations.CanSending : Prop :=
  (∀ (s : State) (n : ChanId) (col : Fin 64) (wait : Nat) (r : SlotRec) (f : CanFrame), s.hw.live = true → (s.hw.chan n).on = true →
    (s.hw.slotsAt n (s.hw.rd (CAN_STATUS.CYCLE n)) col).find? (fun x => x.kind == 1) = some r → s.hw.canRestricted n = false →
    s.hw.canSends n = true → s.hw.objFrame r.obj = some f →
    exec (.exclusiveSlot n col wait) s = s.to
      (let h := s.hw.wr (CAN_STATUS.COLUMN n) col.val
       if (s.hw.chan n).onBus = none ∧ wait + s.hw.frameBits n f ≤ (s.hw.canCfg n).columnBits then
         (h.fixPair r.obj).setChan n { (h.fixPair r.obj).chan n with onBus := some ⟨r.obj, f, true⟩ }
       else (h.wrB (OBJ_STATUS.NOT_SENT r.obj) true).incTop (CAN_COUNT_C.LATE n))) ∧
  (∀ (s : State) (n : ChanId) (col : Fin 64) (wait : Nat) (r : SlotRec) (f : CanFrame), s.hw.live = true → (s.hw.chan n).on = true →
    s.hw.slotsAt n (s.hw.rd (CAN_STATUS.CYCLE n)) col = [r] → r.kind = 2 → s.hw.canRestricted n = false → s.hw.canSends n = true →
    s.hw.on (OBJ_STATUS.PENDING r.obj) = true → (s.hw.obj r.obj).pend = true → s.hw.objFrame r.obj = some f → (s.hw.chan n).onBus = none →
    (s.hw.chan n).service = [] →
    exec (.arbitratingWindow n col wait) s = s.to
      (let h := s.hw.wr (CAN_STATUS.COLUMN n) col.val
       if wait + s.hw.frameBits n f ≤ (s.hw.canCfg n).columnBits then
         (h.fixPair r.obj).setChan n { (h.fixPair r.obj).chan n with onBus := some ⟨r.obj, f, false⟩ }
       else h)) ∧
  (∀ (s : State) (n : ChanId) (col : Fin 64) (wait : Nat) (f : CanFrame) (rest : List CanFrame), s.hw.live = true →
    (s.hw.chan n).on = true → s.hw.slotsAt n (s.hw.rd (CAN_STATUS.CYCLE n)) col = [] → s.hw.canRestricted n = false →
    s.hw.canSends n = true → (s.hw.chan n).onBus = none → (s.hw.chan n).service = f :: rest →
    exec (.arbitratingWindow n col wait) s = s.to
      (let h := s.hw.wr (CAN_STATUS.COLUMN n) col.val
       if wait + s.hw.frameBits n f ≤ (s.hw.canCfg n).columnBits then
         h.setChan n { s.hw.chan n with onBus := some ⟨65536, f, false⟩, service := rest }
       else h)) ∧
  (∀ (s : State) (n : ChanId) (ph : Fin 500) (o : ObjId) (f : CanFrame), s.hw.live = true → (s.hw.chan n).onBus = some ⟨o.val, f, false⟩ →
    (s.hw.chan n).wantStop = false → (s.hw.chan n).refPend = false →
    exec (.canTxComplete n .sent ph) s = s.to
      (let h := s.hw.atPhase ph.val
       let h := ((h.setChan n { h.chan n with onBus := none }).wr (CAN_ERR.TEC n) (h.rd (CAN_ERR.TEC n) - 1)).canConfine n
       let h := (h.objStamp o).wrB (OBJ_STATUS.PENDING o) false
       h.setObj o { h.obj o with pend := false })) ∧
  (∀ (s : State) (n : ChanId) (busy : Bool), s.hw.live = true → (s.hw.chan n).on = true →
    (s.hw.canCfg n).columns * s.hw.columnCycles n < (s.hw.stepCount + 1 - (s.hw.chan n).startStep) * 100 →
    exec (.basicCycleStart n busy) s = s.to ((s.hw.cycleStart n ((s.hw.rd (CAN_STATUS.CYCLE n) + 1) % max (s.hw.canCfg n).cycles 1)).sendReference n busy)) ∧
  (∀ (h : Hw) (n : ChanId) (cyc : Nat), cyc < 64 → (h.cycleStart n cyc).rd (CAN_STATUS.CYCLE n) = cyc ∧
    (h.cycleStart n cyc).rd (CAN_STATUS.COLUMN n) = 0 ∧
    ((h.cycleStart n cyc).chan n).startStep = h.stepCount ∧ ((h.cycleStart n cyc).chan n).latched = false ∧
    ((h.cycleStart n cyc).chan n).time = h.reg (CAN_TIME n)) ∧
  (∀ (s : State) (n : ChanId) (f : CanFrame) (sof : Nat), s.hw.live = true → (s.hw.chan n).on = true → n.val % 2 = 0 →
    s.hw.canHears n = true → Bits.get (s.hw.chan n).time 14 13 = 2 → f.extended = false → f.fd = false →
    f.ident = Bits.get (s.hw.chan n).time 10 0 → f.data.length = 1 → 128 ≤ (f.data.getD 0 0).toNat →
    exec (.referenceFrameReceived n f sof) s = s.to ((s.hw.canHeard n).wr (CAN_STATUS.CYCLE n)
      ((f.data.getD 0 0).toNat % 64 % max (s.hw.canCfg n).cycles 1))) ∧
  (∀ (s : State) (n : ChanId) (f : CanFrame) (sof : Nat), s.hw.live = true → (s.hw.chan n).on = true → n.val % 2 = 0 →
    s.hw.canHears n = true → Bits.get (s.hw.chan n).time 14 13 = 2 → f.extended = false → f.fd = false →
    f.ident = Bits.get (s.hw.chan n).time 10 0 → f.data.length = 1 → (f.data.getD 0 0).toNat < 128 →
    exec (.referenceFrameReceived n f sof) s = s.to
      (let h := (s.hw.canHeard n).placeColumn n sof ((f.data.getD 0 0).toNat % 64 % max (s.hw.canCfg n).cycles 1)
       let h := h.setChan n { h.chan n with refMissed := 0, lostRec := false }
       let h := if (h.chan (n + 1)).on = true then h.placeColumn (n + 1) sof (h.cycleAfter (n + 1) sof) else h
       h.wrB (CAN_STATUS.SYNC_OK n) true)) ∧
  (∀ (h : Hw) (n : ChanId) (sof cyc : Nat), cyc < 64 →
    (2 * ((h.stepCount - sof - (h.chan n).startStep) * 100) < (h.canCfg n).columns * h.columnCycles n →
      h.placeColumn n sof cyc = (h.wr (CAN_STATUS.CYCLE n) cyc).setChan n { h.chan n with startStep := h.stepCount - sof }) ∧
    ((h.canCfg n).columns * h.columnCycles n ≤ 2 * ((h.stepCount - sof - (h.chan n).startStep) * 100) → (h.chan n).latched = true →
      h.placeColumn n sof cyc = (h.cycleStart n cyc).setChan n { (h.cycleStart n cyc).chan n with startStep := h.stepCount - sof })) ∧
  (∀ (s : State) (n : ChanId), s.hw.live = true → (s.hw.chan n).on = true → Bits.get (s.hw.chan n).time 14 13 = 2 →
    2 ≤ (s.hw.chan n).refMissed → (s.hw.chan n).lostRec = false →
    exec (.syncLost n) s = s.to (((s.hw.setChan n { s.hw.chan n with lostRec := true }).wrB (CAN_STATUS.SYNC_OK n) false).record (faultCode 5 n 3)))

/-- A bus error raises REC of a controller that stores frames and is not restricted, and fault confinement follows. TEC above 255
makes it bus-off, dropping its frame, counted and recorded as cause 1. 128 sequences let a recovering one integrate with its
counters at 0. A dominant bus takes a sending one off and records cause 4. 11 recessive bits let an integrating one store frames
where a matrix runs. START of a controller that is off, enabled and not held by a dominant bus lets it integrate, STOP without a
frame on the bus takes it off, and RECOVER of a bus-off one without AUTO_RECOVER begins its recovery. Nothing else changes. (R479,
R481, R496, R497) -/
def Obligations.CanControllers : Prop :=
  (∀ (s : State) (n : ChanId), s.hw.live = true → s.hw.canHears n = true → s.hw.canRestricted n = false →
    exec (.busError n) s = s.to ((s.hw.incTop (CAN_ERR.REC n)).canConfine n)) ∧
  (∀ (s : State) (n : ChanId), s.hw.live = true → s.hw.canHears n = true → s.hw.canState n ≠ 6 → 255 < s.hw.rd (CAN_ERR.TEC n) →
    exec (.busOff n) s = s.to
      (let h := ((s.hw.dropFrame n).wr (CAN_STATUS.STATE n) 5).incTop (CAN_COUNT_B.BUS_OFFS n)
       (h.setChan n { h.chan n with recovering := s.hw.canAuto n, wantStop := false }).record (faultCode 5 n 1))) ∧
  (∀ (h : Hw) (n : ChanId), ((h.dropFrame n).chan n).onBus = none ∧
    h.canAuto n = if (h.chan n).on then (h.chan n).time.getLsbD 15 else h.on (CAN_TIME.AUTO_RECOVER n)) ∧
  (∀ (s : State) (n : ChanId), s.hw.live = true → s.hw.canState n = 5 → (s.hw.chan n).recovering = true →
    exec (.busOffRecovery n) s = s.to (((s.hw.setChan n { s.hw.chan n with recovering := false }).setReg (CAN_ERR n) 0).wr (CAN_STATUS.STATE n) 1)) ∧
  (∀ (s : State) (n : ChanId), s.hw.live = true → s.hw.canSends n = true →
    exec (.busDominant n) s = s.to
      (let h := (s.hw.dropFrame n).wr (CAN_STATUS.STATE n) 0
       (h.setChan n { h.chan n with dominant := true, wantStop := false }).record (faultCode 5 n 4))) ∧
  (∀ (s : State) (n : ChanId), s.hw.live = true → s.hw.canState n = 1 → (s.hw.chan n).on = true →
    exec (.rejoinComplete n) s = s.to ((s.hw.setChan n { s.hw.chan n with dominant := false }).wr (CAN_STATUS.STATE n) 2)) ∧
  (∀ (s : State) (q : Requester) (n : ChanId), s.admits q (CAN_CTRL n) 0x4C2A0001#32 → s.hw.canState n = 0 →
    (s.hw.canCfg n).flags.testBit 0 = true → (s.hw.chan n).dominant = false →
    exec (.canStart q n) s = s.wrote (CAN_CTRL n) (s.hw.wr (CAN_STATUS.STATE n) 1)) ∧
  (∀ (s : State) (q : Requester) (n : ChanId), s.admits q (CAN_CTRL n) 0x4C2A0002#32 → (s.hw.chan n).onBus = none →
    exec (.canStop q n) s = s.wrote (CAN_CTRL n) ((s.hw.setChan n { s.hw.chan n with refPend := false, dominant := false, recovering := false }).wr (CAN_STATUS.STATE n) 0)) ∧
  (∀ (s : State) (q : Requester) (n : ChanId), s.admits q (CAN_CTRL n) 0x4C2A0004#32 → s.hw.canState n = 5 → s.hw.canAuto n = false →
    exec (.canRecover q n) s = s.wrote (CAN_CTRL n) (s.hw.setChan n { s.hw.chan n with recovering := true }))

/-- A START that the device hears, with the search not locked, that it does not already know, in mode 0 takes its number away and
makes it a participant of the epoch. A participant whose upper chunks match a ROUND sends a BID with its next chunk. A BID with a
lower identifier withdraws its waiting ones. An ASSIGN with its UID and epoch gives it the number, stores number and epoch and
answers ENROLLED. Once a second a device without a number sends UNENROLLED, and one with a number its HEARTBEAT. Nothing else
changes. (R501, R503, R504, R505, R506, R507, R508) -/
def Obligations.RollCall : Prop :=
  (∀ (s : State) (n : ChanId) (f : CanFrame), s.hw.live = true → s.hw.rollHears n = true → rollFrame f false 4 = true →
    f.ident = 0x1E100000 → (f.data.getD 2 0).toNat = 0 → s.hw.on CAN_SERVICE_CFG.RC_LOCK = false → s.hw.service.heardRounds = 0 ∨
    s.hw.service.heardEpoch ≠ frameHalf f 0 →
    exec (.rollCallStart n f) s = s.to
      { (s.hw.canHeard n).wr CAN_NODE.NODE 0xFFFF with
        service := { s.hw.service with epoch := frameHalf f 0, participant := true, heardRounds := 0 } }) ∧
  (∀ (s : State) (n : ChanId) (f : CanFrame) (j : Fin 4), s.hw.live = true → s.hw.rollHears n = true → rollFrame f false 8 = true →
    f.ident = 0x1E110000 + j.val → s.hw.service.participant = true → s.hw.service.epoch = frameHalf f 0 →
    s.hw.on CAN_SERVICE_CFG.RC_LOCK = false → (∀ i < j.val, s.hw.uidChunk i = frameChunk f i) →
    exec (.rollCallRound n f) s = s.to ((s.hw.canHeard n).sendService n (serviceFrame (0x1E200000 + s.hw.uidChunk j) []))) ∧
  (∀ (s : State) (n : ChanId) (f : CanFrame), s.hw.live = true → s.hw.rollHears n = true → rollFrame f false 0 = true →
    0x1E200000 ≤ f.ident → f.ident ≤ 0x1E20FFFF →
    exec (.bidReceived n f) s = s.to
      (let h := s.hw.canHeard n
       h.setChan n { h.chan n with service := (h.chan n).service.filter (fun g => !(decide (0x1E200000 ≤ g.ident) && decide (f.ident < g.ident))) })) ∧
  (∀ (s : State) (n : ChanId) (f : CanFrame), s.hw.live = true → s.hw.rollHears n = true → rollFrame f true 12 = true →
    f.ident = 0x1E120000 → s.hw.on CAN_SERVICE_CFG.RC_LOCK = false → Num.ofBytesBE (f.data.take 8) = s.hw.uid →
    frameHalf f 10 = s.hw.service.epoch → s.hw.service.participant = true →
    exec (.rollCallAssign n f) s = s.to
      (let h := ((s.hw.canHeard n).wr CAN_NODE.NODE (frameHalf f 8)).wr CAN_NODE.SEARCH_EPOCH (frameHalf f 10)
       let h := ({ h with service := { h.service with participant := false } }).keepStore 0xC0
         (Num.bytesLE 2 (frameHalf f 8) ++ Num.bytesLE 2 (frameHalf f 10) ++ [1, 0, 0, 0])
       h.sendService n (serviceFrame (0x1E130000 + frameHalf f 8) (Num.bytesBE 8 h.uid)))) ∧
  (∀ s : State, s.hw.live = true → s.hw.rd CAN_NODE.NODE = 0xFFFF → s.hw.service.participant = false →
    exec .unenrolledTimer s = s.to (s.hw.sendAll (serviceFrame 0x1E140000 (Num.bytesBE 8 s.hw.uid)))) ∧
  (∀ s : State, s.hw.live = true → s.hw.rd CAN_NODE.NODE ≠ 0xFFFF → s.hw.rd CAN_SERVICE_CFG.HB_PERIOD ≠ 0 →
    exec .heartbeatTimer s = s.to (s.hw.sendAll (serviceFrame (0x1E150000 + s.hw.rd CAN_NODE.NODE)
      [BitVec.ofNat 8 (if s.hw.chipFault then 2 else if s.hw.power = .starting then 0 else 1), 0]))) ∧
  (∀ (h : Hw) (n : ChanId) (f : CanFrame), h.canRestricted n = false → h.canState n ≠ 0 →
    h.sendService n f = h.setChan n { h.chan n with service := (h.chan n).service ++ [f] })

/-- Writing another role waits for it; on an idle port it applies, and where nothing waits the port only leaves continuous mode,
invalidates its lines and shows the new role. GO queues a software frame. On an idle master the next waiting frame starts with its
code on SEL and SSTB low, a software frame without a select with STATE 2, SEL as it was and SSTB high. When a frame ends the port
is idle with SSTB high: a write is done, a read's data go to the frame buffer, a poll's data are kept for its unit. A read of the
window whose line is held is a hit, answered with the word at once; without a line it is a miss and waits. INVALIDATE drops every
line. Nothing else changes. (R515, R516, R521, R523, R525, R526, R527, R534) -/
def Obligations.SerialMaster : Prop :=
  (∀ (s : State) (q : Requester) (r : Fin 2), s.admits q SPI_CFG (Bits.set (s.hw.reg SPI_CFG) 0 0 r.val) →
    exec (.roleWrite q r) s = s.wrote SPI_CFG ((s.hw.setReg SPI_CFG (Bits.set (s.hw.reg SPI_CFG) 0 0 r.val)).wrB SPI_STATUS.PENDING_ROLE
      (r.val != s.hw.rd SPI_STATUS.ROLE))) ∧
  (∀ s : State, s.hw.live = true → s.hw.on SPI_STATUS.PENDING_ROLE = true → s.hw.serial.running = none → s.hw.serial.queue = [] →
    s.hw.serial.waits = [] → s.hw.rd SPI_FRAME_STATUS.STATE ≠ 1 →
    exec .roleApply s = s.to ((((({ s.hw with
      serial := { s.hw.serial with lines := [], req := none, resp := [] } }.wr SPI_SLAVE_STATUS.STATE 0).wrB
      SPI_STATUS.CONTINUOUS false).wr SPI_STATUS.ROLE (s.hw.rd SPI_CFG.ROLE))).wrB SPI_STATUS.PENDING_ROLE false)) ∧
  (∀ (s : State) (q : Requester), s.admits q SPI_FRAME_CTRL 1#32 → s.hw.frameFits = true → s.hw.spiSlave = false → s.hw.frameBusy = false →
    exec (.swFrameGo q) s = s.wrote SPI_FRAME_CTRL
      { s.hw.wr SPI_FRAME_STATUS.STATE 1 with serial := { s.hw.serial with queue := s.hw.serial.queue ++ [{ cls := 4 }] } }) ∧
  (∀ (s : State) (j : SpiJob), s.hw.live = true → s.hw.spiSlave = false → s.hw.serial.running = none →
    s.hw.on SPI_STATUS.PENDING_ROLE = false → s.hw.serial.nextJob = some j → s.hw.on SPI_STATUS.CONTINUOUS = false → j.cls ≠ 4 →
    exec .masterFrameStart s = s.to (({ s.hw with
      serial := { s.hw.serial with queue := s.hw.serial.queue.erase j, running := some j, strobe := false, sel := if j.cls = 2 then s.hw.rd (POS_GEOM.SER_SEL j.unit) else s.hw.rd SPI_XIP_CFG.SEL } }.wrB SPI_STATUS.BUSY true).wr SPI_STATUS.SOURCE
        (if j.cls = 5 then 4 else j.cls))) ∧
  (∀ (s : State) (j : SpiJob), s.hw.live = true → s.hw.spiSlave = false → s.hw.serial.running = none →
    s.hw.on SPI_STATUS.PENDING_ROLE = false → s.hw.serial.nextJob = some j → s.hw.on SPI_STATUS.CONTINUOUS = false → j.cls = 4 →
    s.hw.on SPI_FRAME_SEL.NOSEL = true →
    exec .masterFrameStart s = s.to (({ s.hw.wr SPI_FRAME_STATUS.STATE 2 with
      serial := { s.hw.serial with queue := s.hw.serial.queue.erase j, running := some j, strobe := true } }.wrB SPI_STATUS.BUSY true).wr SPI_STATUS.SOURCE 5)) ∧
  (∀ (s : State) (j : SpiJob) (data : List Byte), s.hw.live = true → s.hw.serial.running = some j → j.cls = 4 →
    s.hw.on SPI_FRAME_CFG.DIR = false →
    exec (.masterFrameDone data) s = s.to (s.hw.spiIdle.wr SPI_FRAME_STATUS.STATE 3)) ∧
  (∀ (s : State) (j : SpiJob) (data : List Byte), s.hw.live = true → s.hw.serial.running = some j → j.cls = 4 →
    s.hw.on SPI_FRAME_CFG.DIR = true → data.length = s.hw.rd SPI_FRAME_CFG.DATA_BYTES →
    exec (.masterFrameDone data) s = s.toMach (s.mem.setBytes 0x40061000 data) (s.hw.spiIdle.wr SPI_FRAME_STATUS.STATE 3)) ∧
  (∀ (s : State) (j : SpiJob) (data : List Byte), s.hw.live = true → s.hw.serial.running = some j → j.cls = 2 → j.void = false →
    exec (.masterFrameDone data) s = s.to
      (let h := s.hw.spiIdle
       { h with serial := { h.serial with polled := h.serial.polled ++ [j.unit] } })) ∧
  (∀ h : Hw, h.spiIdle = ({ h with serial := { h.serial with running := none, strobe := true } }.wrB SPI_STATUS.BUSY false).wr SPI_STATUS.SOURCE 0) ∧
  (∀ (s : State) (q : Requester) (addr : Word) (d : List Byte), s.hw.live = true → s.hw.spiSlave = false → (∀ p, q ≠ .unauth p) →
    addr.toNat % 4 = 0 → 0x60000000 ≤ addr.toNat → addr.toNat < 0x64000000 → s.hw.xipReaches (addr.toNat - 0x60000000) = true →
    s.hw.xipWait (whoRead q) (addr.toNat - 0x60000000) = none → s.hw.xipLine ((addr.toNat - 0x60000000) / 64) = some d →
    exec (.xipWindowRead q addr) s = s.to ((((s.hw.xipClose (whoRead q)).inc SPI_XIP_STATUS.HITS).touchLine ((addr.toNat - 0x60000000) / 64)).answer .ok
      (lineWord d (addr.toNat - 0x60000000)))) ∧
  (∀ (s : State) (q : Requester) (addr : Word), s.hw.live = true → s.hw.spiSlave = false → (∀ p, q ≠ .unauth p) → addr.toNat % 4 = 0 →
    0x60000000 ≤ addr.toNat → addr.toNat < 0x64000000 → s.hw.xipReaches (addr.toNat - 0x60000000) = true →
    s.hw.xipWait (whoRead q) (addr.toNat - 0x60000000) = none → s.hw.xipLine ((addr.toNat - 0x60000000) / 64) = none →
    exec (.xipWindowRead q addr) s = s.to
      { (((s.hw.xipClose (whoRead q)).inc SPI_XIP_STATUS.MISSES).wantLine ((addr.toNat - 0x60000000) / 64)) with
        serial := { (((s.hw.xipClose (whoRead q)).inc SPI_XIP_STATUS.MISSES).wantLine ((addr.toNat - 0x60000000) / 64)).serial with
          waits := s.hw.serial.waits.filter (fun w => w.who != whoRead q) ++
            [{ who := whoRead q, off := (addr.toNat - 0x60000000), late := s.hw.lineRunsVoid ((addr.toNat - 0x60000000) / 64) }] } }) ∧
  (∀ (s : State) (q : Requester), s.admits q SPI_XIP_CTRL 1#32 →
    exec (.xipInvalidate q) s = s.wrote SPI_XIP_CTRL s.hw.invalidateLines) ∧
  (∀ (h : Hw) (l : Nat), h.invalidateLines.xipLine l = none ∧ h.invalidateLines.serial.queue = h.serial.queue ∧
    h.invalidateLines.regs = h.regs)

/-- A slave takes a well-formed request frame while no request is in work; another is rejected and counted, a malformed or unknown one
is a frame error with cause 0x05. A tagged request whose session, tag, counter, epoch and credit are good takes its credit and its
counter; one whose tag is wrong is refused AUTH and recorded. A request is executed by turns of the host engine, which go round
the queues with 64 bytes a turn; complete, its credit leaves the queue and its response waits, or over CAN is sent; a response
clocked whole is consumed, and clocking none underruns. Over CAN a request waits in the queue. (R113, R116, R125, R129, R499,
R500, R529, R530, R531, R532) -/
def Obligations.HostRequests : Prop :=
  (∀ (s : State) (data : List Byte), s.hw.live = true → s.hw.spiSlave = true → s.hw.slaveState ≠ 0 →
    exec (.slaveRequestFrame data) s = s.to ((s.hw.wr SPI_SLAVE_STATUS.LAST_REQ 1).incTop SPI_SLAVE_COUNT.REJECTED)) ∧
  (∀ (s : State) (data : List Byte), s.hw.live = true → s.hw.spiSlave = true → s.hw.slaveState = 0 → requestFormed data = false →
    exec (.slaveRequestFrame data) s = s.to
      (((s.hw.wr SPI_SLAVE_STATUS.LAST_REQ 2).incTop SPI_SLAVE_COUNT.FRAME_ERRORS).record (faultCode 5 4 0x05))) ∧
  (∀ (s : State) (data : List Byte), s.hw.live = true → s.hw.spiSlave = true → s.hw.slaveState = 0 → requestFormed data = true →
    exec (.slaveRequestFrame data) s = s.to
      (let r := { serialRequest data with ord := s.hw.admitted }
       let h := { s.hw with admitted := s.hw.admitted + 1 }
       let a := if r.tagged then h.admitTagged r (data.take r.bodyLen) (data.drop r.bodyLen) else (r, h)
       ({ a.2 with serial := { a.2.serial with req := some a.1, resp := [] } }.wr SPI_SLAVE_STATUS.LAST_REQ 0).wr SPI_SLAVE_STATUS.STATE 1)) ∧
  (∀ (h : Hw) (r : HostReq) (body tag key : List Byte), r.part < 16 → 4 ≤ r.via → h.on KS_STATE.SEALED = false →
    (h.part r.part).newKey = none → (h.part r.part).key = some key →
    h.rd (PART_SER_COUNTER.COUNTER r.part) < r.counter → r.epoch = h.rd (PART_RUN.EPOCH r.part) →
    creditCost r.count ≤ h.rd (PART_CREDIT_CFG.DEPTH r.part) → creditCost r.count ≤ h.rd (PART_CREDIT.AVAILABLE r.part) →
    h.rd (PART_CREDIT.QUEUED r.part) + creditCost r.count ≤ h.rd (PART_CREDIT_CFG.DEPTH r.part) →
    h.admitTagged r body tag =
      if tagOf key (authPrefix 1 false r.part r.epoch r.counter body.length) body tag.length = tag then
        ({ r with key := some key, cost := creditCost r.count },
          (((h.wr (PART_SER_COUNTER.COUNTER r.part) r.counter).wrB (PART_SESSION.SER_EXHAUSTED r.part) (r.counter == 0xFFFFFFFF)).wr
            (PART_CREDIT.AVAILABLE r.part) (h.rd (PART_CREDIT.AVAILABLE r.part) - creditCost r.count)).wr
            (PART_CREDIT.QUEUED r.part) (h.rd (PART_CREDIT.QUEUED r.part) + creditCost r.count))
      else ({ r with key := none, status := 4 }, h.refusedIn r.part 0 .auth r.addr)) ∧
  (∀ (s : State) (n : Nat), s.hw.live = true → s.hw.spiSlave = true → s.hw.slaveState = 2 → s.hw.rd SPI_SLAVE_STATUS.RESP_LEN + 4 ≤ n →
    exec (.slaveResponseFrame n) s = s.to
      (let h := (s.hw.wrB SPI_SLAVE_STATUS.UNDERRUN false).wr SPI_SLAVE_STATUS.STATE 0
       { h with serial := { h.serial with resp := [] } })) ∧
  (∀ (s : State) (n : Nat), s.hw.live = true → s.hw.spiSlave = true → s.hw.slaveState ≠ 2 → 0 < n →
    exec (.slaveResponseFrame n) s = s.to (s.hw.wrB SPI_SLAVE_STATUS.UNDERRUN true)) ∧
  (∀ s : State, s.hw.live = true → s.hw.spiSlave = true →
    exec .slavePortStatusFrame s = s.to ((s.hw.answer .ok (s.hw.reg SPI_SLAVE_STATUS)).wrB SPI_SLAVE_STATUS.UNDERRUN false)) ∧
  (∀ s : State, s.hw.live = true → s.hw.spiSlave = true →
    exec .slaveUnknownFrame s = s.to ((s.hw.incTop SPI_SLAVE_COUNT.FRAME_ERRORS).record (faultCode 5 4 0x05))) ∧
  (∀ (s : State) (r : HostReq), s.hw.live = true → s.hw.slaveState = 1 → s.hw.serial.req = some r →
    exec .serialRequestExecuted s =
      (let m := (Mach.mk s.mem s.hw).engineUntil r.ord (s.hw.turnsFor r)
       s.toMach m.mem m.hw)) ∧
  (∀ (m : Mach) (ord n i : Nat), m.hw.restarted = false → m.hw.engineHas ord = true → m.hw.engineNext = some i →
    m.engineUntil ord (n + 1) = (m.engineTurn i).engineUntil ord n) ∧
  (∀ (m : Mach) (ord n : Nat), m.hw.restarted = true ∨ m.hw.engineHas ord = false → m.engineUntil ord n = m) ∧
  (∀ (m : Mach) (i : Nat) (r : HostReq), m.hw.engineHead i = some r →
    m.engineTurn i =
      (let run := (Mach.mk m.mem { m.hw with service := { m.hw.service with turn := i } }).runRequest r 16
       if run.mach.hw.restarted = true then run.mach
       else if run.waits = true ∨ (run.status = .ok ∧ run.done < r.count) then
         ⟨run.mach.mem, run.mach.hw.keepRequest { r with got := run.got, done := run.done }⟩
       else if r.via < 4 then ⟨run.mach.mem,
         (let u := run.mach.hw.unqueue r
          let h := { u with service := { u.service with queue := u.service.queue.filter (fun x => x.ord != r.ord) } }
          let body := h.replyBody r run false
          let body := body ++ List.replicate (fdLength (body.length + 4) - 4 - body.length) 0
          h.sendService r.via { ident := 0x1E040000 + h.rd CAN_NODE.NODE, extended := true, fd := true,
                                brs := (h.canCfg r.via).data ≠ 0, data := body ++ h.replyTag r body 4 })⟩
       else ⟨run.mach.mem,
         (let body := run.mach.hw.replyBody r run true
          let resp := body ++ (if r.tagged then run.mach.hw.replyTag r body 8 else [])
          let h := run.mach.hw.unqueue r
          ({ h with serial := { h.serial with req := none, resp := resp } }.wr SPI_SLAVE_STATUS.RESP_LEN resp.length).wr
            SPI_SLAVE_STATUS.STATE 2)⟩)) ∧
  (∀ (m : Mach) (r : HostReq) (n : Nat), r.status ≠ 0 →
    (m.runRequest r n).mach = m ∧ (m.runRequest r n).status = statusOfCode r.status ∧ (m.runRequest r n).waits = false) ∧
  (∀ (s : State) (n : ChanId) (f : CanFrame), s.hw.live = true → s.hw.serves n = true → s.hw.canHears n = true → f.extended = true →
    f.fd = true → f.brs = decide ((s.hw.canCfg n).data ≠ 0) → f.ident = 0x1E030000 + s.hw.rd CAN_NODE.NODE → 20 ≤ f.data.length →
    ((s.hw.canHeard n).service.queue.filter (fun r => r.via == n.val)).length < 8 → canFormed f.data (canRequest n f.data) = true →
    exec (.canServiceRequest n f) s = s.to
      (let h := s.hw.canHeard n
       let a := { h with admitted := h.admitted + 1 }.admitTagged { canRequest n f.data with ord := h.admitted }
         (f.data.take (f.data.length - 4)) (f.data.drop (f.data.length - 4))
       { a.2 with service := { a.2.service with queue := a.2.service.queue ++ [a.1] } })) ∧
  (∀ (s : State) (p : PartId) (r : HostReq), s.hw.live = true → s.hw.service.queue.find? (fun r => r.place == p.val) = some r →
    exec (.canServiceExecuted p) s =
      (let m := (Mach.mk s.mem s.hw).engineUntil r.ord (s.hw.turnsFor r)
       s.toMach m.mem m.hw))

/-- When the second of a waiting response ends (RESPONSE_EXPIRED with STATE 2), the response is discarded, EXPIRED counts it up to its
largest value, RESPONSE_EXPIRED (level 5, unit 4, cause 0x06) is recorded, and STATE is 0. Nothing else changes: the session
counters stay as the request left them. (R533) -/
def Obligations.ResponseExpires : Prop :=
  (∀ s : State, s.hw.live = true → s.hw.slaveState = 2 →
    exec .responseExpired s = s.to
      (let h := ((s.hw.incTop SPI_SLAVE_COUNT.EXPIRED).record (faultCode 5 4 0x06)).wr SPI_SLAVE_STATUS.STATE 0
       { h with serial := { h.serial with resp := [] } }))

/-- A write of the lower half of a keep word, which the checks of R105 let pass, loads its requester's latch with the value and the
address, replacing any earlier one, and changes nothing in memory. A write of the upper half of the same word writes both halves
and then answers OK, where no clear of the sector runs, the write window is open and the sector is whole. An upper half that does
not match the latch answers RANGE and writes nothing. Nothing else changes but the refusal record. (R542) -/
def Obligations.DirectWrites : Prop :=
  (∀ (s : State) (q : Requester) (addr v : Word) (n : Nat), s.hw.live = true → s.hw.preStatus q addr.toNat v = .ok →
    regHit addr.toNat = none → targetOf addr.toNat = .keep n → addr.toNat % 8 = 0 →
    exec (.keepLowerWrite q addr v) s = s.to ((({ s.hw with
      latches := Tab.put s.hw.latches (s.hw.copyKey q) (addr.toNat, v) (0, 0) }.ramWritten addr.toNat)).answer .ok 0)) ∧
  (∀ (s : State) (q : Requester) (addr v : Word) (n : Nat) (w : Word), s.hw.live = true → s.hw.preStatus q addr.toNat v = .ok →
    regHit addr.toNat = none → targetOf addr.toNat = .keep n → addr.toNat % 8 = 4 →
    Tab.get s.hw.latches (s.hw.copyKey q) (0, 0) = (addr.toNat - 4, w) → s.hw.keepClearing n = false → s.hw.keepOpen = true →
    s.hw.keepHalf n = false →
    exec (.keepUpperWrite q addr v) s = s.toMach ((s.mem.setWord (addr.toNat - 4) w).setWord addr.toNat v) ((s.hw.ramWritten addr.toNat).answer .ok 0)) ∧
  (∀ (s : State) (q : Requester) (addr v : Word) (n : Nat), s.hw.live = true → s.hw.preStatus q addr.toNat v = .ok →
    regHit addr.toNat = none → targetOf addr.toNat = .keep n → addr.toNat % 8 = 4 →
    (Tab.get s.hw.latches (s.hw.copyKey q) (0, 0)).1 + 4 ≠ addr.toNat →
    exec (.keepUpperWrite q addr v) s = s.to ((s.hw.refused q .range addr.toNat).answer .range 0)) ∧
  (∀ (h : Hw) (key a : Nat) (v : Word), Tab.get (h.keepLower key a v).latches key (0, 0) = (a, v) ∧
    ∀ j ≠ key, Tab.get (h.keepLower key a v).latches j (0, 0) = Tab.get h.latches j (0, 0))

/-- A read of a good lower half of a keep word answers it and copies the upper half, which the next read of that half answers; within
a page whose write runs a word is the old or the new one. An uncorrectable word is refused RANGE, counted with its address and
recorded as cause 0x01. A write of a register without further effect leaves in each field what its access code says. A write that
the Turnstile refuses with AUTH is only recorded and answered. Nothing else changes. (R8, R105, R108, R541, R549, R550) -/
def Obligations.KeepAccess : Prop :=
  (∀ (s : State) (q : Requester) (addr : Word) (n : Nat), s.hw.live = true → s.hw.turnstile q addr.toNat false 0 = (none, none) →
    regHit addr.toNat = none → targetOf addr.toNat = .keep n → addr.toNat % 8 = 0 → s.hw.ramBad.contains addr.toNat = false →
    s.hw.keepClearing n = false → s.hw.keepHalf n = false →
    exec (.keepLowerRead q addr 0) s = s.to ({ s.hw with
      fresh := s.hw.fresh + Num.ofBool (s.hw.pageRuns addr.toNat).isSome
      keepCopies := Tab.put s.hw.keepCopies (s.hw.copyKey q) (addr.toNat + 4, (Mach.mk s.mem s.hw).keepWord (addr.toNat + 4)) (0, 0) }.answer
        .ok ((Mach.mk s.mem s.hw).keepWord addr.toNat))) ∧
  (∀ (m : Mach) (a : Nat), m.hw.pageRuns a = none → m.keepWord a = m.mem.word a) ∧
  (∀ (m : Mach) (a p : Nat), m.hw.pageRuns a = some p →
    m.keepWord a = m.mem.word a ∨ m.keepWord a = m.hw.reg (PART_KEEP_PAGE p ((a - m.hw.rd (PART_KEEP_ADDR.ADDR p)) / 4))) ∧
  (∀ (s : State) (q : Requester) (addr : Word) (n : Nat) (w : Word), s.hw.live = true →
    s.hw.turnstile q addr.toNat false 0 = (none, none) → regHit addr.toNat = none → targetOf addr.toNat = .keep n → addr.toNat % 8 = 4 →
    s.hw.ramBad.contains addr.toNat = false → s.hw.keepClearing n = false → s.hw.keepHalf n = false →
    Tab.get s.hw.keepCopies (s.hw.copyKey q) (0, 0) = (addr.toNat, w) →
    exec (.keepLowerRead q addr 0) s = s.to ({ s.hw with
      fresh := s.hw.fresh + Num.ofBool (s.hw.pageRuns addr.toNat).isSome
      keepCopies := Tab.put s.hw.keepCopies (s.hw.copyKey q) (0, 0) (0, 0) }.answer .ok w)) ∧
  (∀ (s : State) (q : Requester) (addr : Word) (n : Nat), s.hw.live = true → s.hw.turnstile q addr.toNat false 0 = (none, none) →
    regHit addr.toNat = none → targetOf addr.toNat = .keep n → s.hw.ramBad.contains addr.toNat = false → s.hw.keepClearing n = false →
    s.hw.keepHalf n = false →
    exec (.keepLowerRead q addr 2) s = s.to ((((((s.hw.incTop KEEP_ECC.UNCORRECTABLE).wr KEEP_ECC_ADDR.ADDRESS
      (addr.toNat / 8 * 8)).record (faultCode 6 0 0x01)).refused q .range addr.toNat)).answer .range 0)) ∧
  (∀ (s : State) (q : Requester) (addr v : Word) (x : RegHit), s.hw.live = true → s.hw.preStatus q addr.toNat v = .ok →
    addr.toNat % 4 = 0 → regHit addr.toNat = some x → x.row.hook = .plain →
    (s.hw.setReg (x.id addr.toNat) (x.row.next (s.hw.reg (x.id addr.toNat)) v)).fieldsFit (s.hw.partOf q) x addr.toNat
      (judgedBy (s.hw.reg (x.id addr.toNat)) v) = true →
        (s.hw.setReg (x.id addr.toNat) (x.row.next (s.hw.reg (x.id addr.toNat)) v)).chanTablesOk = true →
    exec (.registerWrite q addr v) s = s.to
      (((s.hw.setReg (x.id addr.toNat) (x.row.next (s.hw.reg (x.id addr.toNat)) v)).ramWritten addr.toNat).answer .ok 0)) ∧
  (∀ (f : FieldRow) (old v : Nat), f.next old v = match f.acc with
    | .rw | .rwl => v
    | .w1c => old - (old &&& v)
    | .w1s => old ||| v
    | .ro | .rs | .wo => old) ∧
  (∀ (s : State) (q : Requester) (addr v : Word), s.hw.live = true → s.hw.preStatus q addr.toNat v = .auth →
    exec (.registerWrite q addr v) s = s.to ((s.hw.refused q .auth addr.toNat).answer .auth 0))

/-- WRITE_PAGE and CLEAR of an aligned page or sector of the partition's window, outside its recorder, with no operation in work and
the write window open, are queued (a page only in a whole sector). REC_RESET formats the recorder's area. The end of a page write
stores the 256 bytes of the buffer and the journal word with page, last word 31 and state 2. The end of a clear leaves the sector
all ones and whole. A retry with the window open writes the device's words that waited. A second counts while the device is in
operation, and every sixtieth stores OP_SECONDS and POWER_CYCLES in sector 0. Nothing else changes. (R71, R72, R73, R543, R544,
R545, R546, R547, R552, R553) -/
def Obligations.KeepOperations : Prop :=
  (∀ (s : State) (q : Requester) (p : PartId), s.admits q (PART_KEEP_CTRL p) 0x7E150001#32 →
    (s.hw.rd (PART_KEEP_ADDR.ADDR p)) % 0x100 = 0 → (s.hw.keepWindow p).1 ≤ (s.hw.rd (PART_KEEP_ADDR.ADDR p)) →
    (s.hw.rd (PART_KEEP_ADDR.ADDR p)) + 0x100 ≤ (s.hw.keepWindow p).1 + (s.hw.keepWindow p).2 →
    s.hw.inRecorder p (s.hw.rd (PART_KEEP_ADDR.ADDR p)) = false → s.hw.keepBusy p = false → s.hw.keepOpen = true →
    s.hw.keepHalf (keepSector (s.hw.rd (PART_KEEP_ADDR.ADDR p))) = false →
    exec (.writePage q p) s = s.wrote (PART_KEEP_CTRL p) (((s.hw.wr (PART_KEEP_STATUS.OP p) 1).wr (PART_KEEP_STATUS.STATE p) 1).wr
      (PART_KEEP_STATUS.CODE p) 0)) ∧
  (∀ (s : State) (q : Requester) (p : PartId), s.admits q (PART_KEEP_CTRL p) 0x7E150002#32 →
    (s.hw.rd (PART_KEEP_ADDR.ADDR p)) % 0x10000 = 0 → (s.hw.keepWindow p).1 ≤ (s.hw.rd (PART_KEEP_ADDR.ADDR p)) →
    (s.hw.rd (PART_KEEP_ADDR.ADDR p)) + 0x10000 ≤ (s.hw.keepWindow p).1 + (s.hw.keepWindow p).2 →
    s.hw.inRecorder p (s.hw.rd (PART_KEEP_ADDR.ADDR p)) = false → s.hw.keepBusy p = false → s.hw.keepOpen = true →
    exec (.keepClear q p) s = s.wrote (PART_KEEP_CTRL p) (((s.hw.wr (PART_KEEP_STATUS.OP p) 2).wr (PART_KEEP_STATUS.STATE p) 1).wr
      (PART_KEEP_STATUS.CODE p) 0)) ∧
  (∀ (s : State) (q : Requester) (p : PartId), s.admits q (PART_KEEP_CTRL p) 0x7E150004#32 → (s.hw.claims p).recKib ≠ 0 →
    s.hw.keepBusy p = false → s.hw.keepOpen = true →
    exec (.recReset q p) s = s.toMach ((Mach.mk s.mem s.hw).recFormat p).mem
      ((((((Mach.mk s.mem s.hw).recFormat p).hw.wr (PART_KEEP_STATUS.OP p) 3).keepEnd p 3 .ok).ramWritten
        (PART_KEEP_CTRL p).addr).answer .ok 0)) ∧
  (∀ (m : Mach) (p : PartId), (((m.recFormat p).hw.recorder p).entries = [] ∧ ((m.recFormat p).hw.recorder p).seq = 0 ∧
    (m.recFormat p).hw.rd (PART_REC_STATUS.ENTRIES_USED p) = 0 ∧
    ((m.recFormat p).hw.recorder p).createdS = m.hw.rd OP_SECONDS.SECONDS)) ∧
  (∀ (s : State) (p : PartId), s.hw.live = true → s.hw.rd (PART_KEEP_STATUS.OP p) = 1 → s.hw.rd (PART_KEEP_STATUS.STATE p) = 2 →
    exec (.pageWriteDone p) s =
      (let n := s.hw.keepPageNo p
       let mem := s.mem.putRange (s.hw.rd (PART_KEEP_ADDR.ADDR p)) (s.hw.pageBytes p)
       s.toMach (mem.setBytes (0x50000100 + p.val * 8) (Num.bytesLE 2 n ++ [31, 2] ++ Num.bytesLE 4 (mem.word ((0x50000100 + p.val * 8) + 4)).toNat))
         ((s.hw.setReg (PART_KEEP_JOURNAL p) (BitVec.ofNat 32 (n * 65536 + 31 * 256 + 2))).keepEnd p 3 .ok))) ∧
  (∀ (s : State) (p : PartId), s.hw.live = true → s.hw.rd (PART_KEEP_STATUS.OP p) = 2 → s.hw.keepBusy p = true → s.hw.keepOpen = true →
    exec (.clearDone p) s = s.toMach
      (s.mem.fill (0x50000000 + keepSector (s.hw.rd (PART_KEEP_ADDR.ADDR p)) * 0x10000) 0x10000 0xFF)
      (({ s.hw with headers := Tab.put s.hw.headers (keepSector (s.hw.rd (PART_KEEP_ADDR.ADDR p))) 0 0 }.wrBit (KEEP_HALF.SECTOR (keepSector (s.hw.rd (PART_KEEP_ADDR.ADDR p)) / 32))
        (keepSector (s.hw.rd (PART_KEEP_ADDR.ADDR p)) % 32) false).keepEnd p 3 .ok)) ∧
  (∀ s : State, s.hw.live = true → s.hw.keepOpen = true →
    exec .keepWriteRetry s = s.toMach
      (s.hw.keepBlocked.foldl (fun (m : Memory) (w : Nat × List Byte) => m.setBytes (0x50000000 + w.1) w.2) s.mem) { s.hw with keepBlocked := [] }) ∧
  (∀ s : State, s.hw.live = true → s.hw.opRun = true → s.hw.rd OP_SECONDS.SECONDS < 0xFFFFFFFF →
    (s.hw.rd OP_SECONDS.SECONDS + 1) % 60 ≠ 0 → s.hw.keepPend = [] → (∀ p < 16, (s.hw.recorder p).base = 0) →
    exec .opSecondsIncrement s = s.to (s.hw.incTop OP_SECONDS.SECONDS)) ∧
  (∀ s : State, s.hw.live = true → s.hw.opRun = true → s.hw.rd OP_SECONDS.SECONDS < 0xFFFFFFFF →
    (s.hw.rd OP_SECONDS.SECONDS + 1) % 60 = 0 → s.hw.keepPend = [] → s.hw.keepBlocked = [] → s.hw.keepOpen = true →
    (∀ p < 16, (s.hw.recorder p).base = 0) →
    exec .opSecondsIncrement s = s.toMach (s.mem.setBytes 0x50000000
      (Num.bytesLE 4 (s.hw.rd OP_SECONDS.SECONDS + 1) ++ Num.bytesLE 4 (s.hw.rd POWER_CYCLES.COUNT))) (s.hw.incTop OP_SECONDS.SECONDS)) ∧
  (∀ (x : Hist) (v : Nat), x.source ≠ 0 → v = 0x8000 → x.sample v = { x with invalid := min 0xFFFFFFFF (x.invalid + 1) })

/-- At an interval the slice of die 0 lends one lane of each block that can lend it, in ascending order; those of D6 and D7 are
deferred at throttle. A lane that passes is handed back; one that fails is recorded as block cause 0x17 and retired, the sixteenth
leaves the block UNTESTED, a seventeenth fences it with cause 0x18. A comparator goes back, or its cell is fenced. A converter is
handed back with its deviation, at the end of its window where one is open. A correctable error is counted, another one too, and
fences a region with cause 0x06. A clock fault sets MON_FAULT: chip fault 0x02 or 0x03, a region fence 0x03, or invalid results of
D6; the comparators are judged again (refreshAll). Nothing else changes. (R60, R568, R569, R570, R571, R572, R574) -/
def Obligations.SelfTests : Prop :=
  (∀ s : State, s.hw.live = true → s.hw.power = .running → s.hw.chipFault = false → s.hw.on ST_CFG.CAROUSEL_EN = true →
    s.hw.stepCount % max (s.hw.rd ST_CFG.INTERVAL) 1 = 0 → s.hw.carouselNext < 511 →
    exec (.carouselSliceStart 0 [] true) s = s.to
      { (s.hw.wrBit ST_CAROUSEL.DEFERRED 0 false).laneSlices s.hw.carouselNext with carouselNext := s.hw.carouselNext + 1 }) ∧
  (∀ (h : Hw) (k : BlockId) (l : Nat), h.blockFenced k = false → h.regionHolds k = false → h.on (ST_LANE.UNTESTED k) = false →
    (h.block k).retired.contains l = false → (h.block k).underTest = none → h.halted k = false →
    (h.laneSlices l).block k = { h.block k with underTest := some l } ∧ (h.laneSlices l).regs = h.regs) ∧
  (∀ (s : State) (d : DieId) (found : List ScrubFind) (ok : Bool), s.hw.live = true → s.hw.power = .running → s.hw.chipFault = false →
    s.hw.on ST_CFG.CAROUSEL_EN = true → s.hw.stepCount % max (s.hw.rd ST_CFG.INTERVAL) 1 = 0 → d = 6 ∨ d = 7 →
    2 ≤ s.hw.rd (THERM_STATUS.LEVEL (dieZone d)) →
    exec (.carouselSliceStart d found ok) s = s.to (s.hw.wrBit ST_CAROUSEL.DEFERRED d true)) ∧
  (∀ (h : Hw) (d : DieId) (e : ScrubFind), e.correctable = true → h.scrubFound d e = h.incTop ST_SCRUB_COUNT.CORRECTED) ∧
  (∀ (h : Hw) (r : RegionId) (e : ScrubFind), e.correctable = false →
    h.scrubFound (r.val + 2) e = (h.incTop ST_SCRUB_COUNT.UNCORRECTABLE).fenceRegion r 0x06) ∧
  (∀ (s : State) (k : BlockId) (l : Nat), s.hw.live = true → (s.hw.block k).underTest = some l →
    exec (.laneSliceCheck k true) s = s.to (s.hw.setBlock k { s.hw.block k with underTest := none })) ∧
  (∀ (s : State) (k : BlockId) (l : Nat), s.hw.live = true → (s.hw.block k).underTest = some l → s.hw.rd (ST_LANE.RETIRED k) < 16 →
    exec (.laneSliceCheck k false) s = s.to
      (let h := s.hw.setBlock k { s.hw.block k with underTest := none }
       let h := ((h.blockFault k 0x17).wr (ST_LANE.RETIRED k) (s.hw.rd (ST_LANE.RETIRED k) + 1)).wr (ST_LANE.LAST_RETIRED k) l
       let h := h.setBlock k { h.block k with retired := l :: (h.block k).retired }
       if s.hw.rd (ST_LANE.RETIRED k) = 15 then h.wrB (ST_LANE.UNTESTED k) true else h)) ∧
  (∀ (s : State) (k : BlockId) (l : Nat), s.hw.live = true → (s.hw.block k).underTest = some l → 16 ≤ s.hw.rd (ST_LANE.RETIRED k) →
    exec (.laneSliceCheck k false) s = s.to ((s.hw.setBlock k { s.hw.block k with underTest := none }).fenceBlock k 0x18)) ∧
  (∀ (s : State) (r : RegionId), s.hw.live = true → (s.hw.region r).compBusy = true →
    exec (.comparatorSliceEnd r true) s = s.to (s.hw.setRegion r
      { s.hw.region r with compBusy := false, compSlice := ((s.hw.region r).compSlice + 1) % 24 })) ∧
  (∀ (s : State) (r : RegionId), s.hw.live = true → (s.hw.region r).compBusy = true →
    exec (.comparatorSliceEnd r false) s = s.to ((s.hw.setRegion r
      { s.hw.region r with compBusy := false, compSlice := ((s.hw.region r).compSlice + 1) % 24 }).fenceCell
        (12 * r.val + (s.hw.region r).compSlice / 2) 0x18)) ∧
  (∀ (s : State) (n : CellId) (dev : Int), s.hw.live = true → s.hw.convTest = n.val → (s.hw.conv n).backNext = false →
    (s.hw.conv n).held = 0 → (s.hw.conv n).isOpen = false → -500 ≤ dev → dev ≤ 500 →
    exec (.converterTestEnd true dev) s = s.to (({ s.hw.wr ST_MEAS_STATUS.UNDER_TEST 0xFF with convTest := 0xFF }.setConv n
      { s.hw.conv n with bySpare := false, spareNext := false, backNext := false, held := 0 }).wrI ST_MEAS_STATUS.REF_DEV dev)) ∧
  (∀ (s : State) (n : CellId) (dev : Int), s.hw.live = true → s.hw.convTest = n.val → (s.hw.conv n).backNext = false →
    (s.hw.conv n).isOpen = true → -500 ≤ dev → dev ≤ 500 →
    exec (.converterTestEnd true dev) s = s.to ((s.hw.wrI ST_MEAS_STATUS.REF_DEV dev).setConv n { s.hw.conv n with backNext := true })) ∧
  (∀ (s : State) (d : DieId), s.hw.live = true → d = 0 ∨ d = 1 ∨ d = 7 →
    exec (.clockMonitorFault d) s = s.to ((((s.hw.wrBit CLK_STATUS.MON_FAULT d true).setDie d
      { s.hw.die d with clockBad := true }).refreshAll).chipFaultSet (if d = 7 then 0x03 else 0x02))) ∧
  (∀ (s : State) (r : RegionId) (d : DieId), s.hw.live = true → d.val = r.val + 2 →
    exec (.clockMonitorFault d) s = s.to ((((s.hw.wrBit CLK_STATUS.MON_FAULT d true).setDie d
      { s.hw.die d with clockBad := true }).refreshAll).fenceRegion r 0x03)) ∧
  (∀ s : State, s.hw.live = true →
    exec (.clockMonitorFault 6) s = s.to (((((s.hw.wrBit CLK_STATUS.MON_FAULT 6 true).setDie 6
      { s.hw.die 6 with clockBad := true }).refreshAll).measClockLost).d6Invalid 0x20 true)) ∧
  (∀ (s : State) (r : RegionId), s.hw.live = true →
    exec (.clockMonitorCleared r) s = s.to (((s.hw.setDie (r.val + 2) { s.hw.die (r.val + 2) with clockBad := false }).refreshAll).clearRegionCause r 0x03))

/-- ENROL in a key store that is neither sealed nor provisioned stores a valid key in the active slot, clears the rotations and
provisions the store; an invalid key is refused RANGE. ROTATE with a good signature (else AUTH) and a new valid key (else RANGE)
starts a rotation, whose end stores the key in the other slot, counts it and ends P0's session and a debug session of scope 0.
START of a handshake that its own host may start is noted; the device fills the nonce, its ephemeral key and its signature; SUBMIT
hands it to verification; a good signature establishes a session, or one beside the old; a bad one fails with AUTH; without SUBMIT
it ends. In a sealed store a pending one fails with LOCKED (the model's choice, log entry 67). A changeover puts the new key in
force and starts the counters at 0. Nothing else changes. (R121, R122, R123, R126, R127, R129, notes/assumptions/67.md) -/
def Obligations.Identity : Prop :=
  (∀ (s : State) (q : Requester), s.admits q KS_KEY_CTRL 0x6B3D0001#32 → s.hw.on KS_STATE.SEALED = false →
    s.hw.on KS_STATE.PROVISIONED = false →
    exec (.enrol q) s = if Config.pointOk (s.hw.ksBytes 0x100 64) then s.wrote KS_KEY_CTRL
        (((((s.hw.storeKey (s.hw.rd KS_STATE.P0_SLOT) (s.hw.ksBytes 0x100 64)).wr KS_STATE.ROTATIONS 0).wrB KS_STATE.PROVISIONED true).wr
          KS_KEY_STATUS.STATE 2).wr KS_KEY_STATUS.CODE 0)
      else s.to ((((s.hw.wr KS_KEY_STATUS.STATE 3).wr KS_KEY_STATUS.CODE 5).refused q .range KS_KEY_CTRL.addr).answer .range 0)) ∧
  (∀ (s : State) (q : Requester), s.admits q KS_KEY_CTRL 0x6B3D0002#32 → s.hw.on KS_STATE.SEALED = false → s.hw.keyBusy = 0 →
    (s.hw.ksBytes 0x100 64) ≠ s.hw.p0Key → s.hw.rd KS_STATE.ROTATIONS ≠ 0xFFFF →
    exec (.rotate q) s =
      if Config.signatureOk s.hw.p0Key (ascii "ZGK1" ++ s.hw.uidBytes ++ Num.bytesBE 4 (s.hw.rd KS_STATE.ROTATIONS + 1) ++ (s.hw.ksBytes 0x100 64))
        (s.hw.ksBytes 0x140 64) = false then
        s.to ((((s.hw.wr KS_KEY_STATUS.STATE 3).wr KS_KEY_STATUS.CODE 4).refused q .auth KS_KEY_CTRL.addr).answer .auth 0)
      else if Config.pointOk (s.hw.ksBytes 0x100 64) = false then
        s.to ((((s.hw.wr KS_KEY_STATUS.STATE 3).wr KS_KEY_STATUS.CODE 5).refused q .range KS_KEY_CTRL.addr).answer .range 0)
      else s.wrote KS_KEY_CTRL { (s.hw.wr KS_KEY_STATUS.STATE 1).wr KS_KEY_STATUS.CODE 0 with keyBusy := 1, rotKey := (s.hw.ksBytes 0x100 64) }) ∧
  (∀ s : State, s.hw.live = true → s.hw.keyBusy ≠ 0 →
    exec .rotationDone s = s.to
      (let h := { (((s.hw.storeKey (1 - s.hw.rd KS_STATE.P0_SLOT) s.hw.rotKey).inc KS_STATE.ROTATIONS).wr KS_KEY_STATUS.STATE 2).wr
         KS_KEY_STATUS.CODE 0 with keyBusy := 0, rotKey := [] }.endSession 0
       if h.dbgState = 3 ∧ h.dbgScope = 0 then h.dbgEnd else h)) ∧
  (∀ (h : Hw) (i : Nat) (k : List Byte), (h.storeKey i k).p0Key = k ∧ (h.storeKey i k).slotKeys = h.slotKeys.set i k) ∧
  (∀ (h : Hw) (p : PartId), ((h.endSession p).part p).key = none ∧ (h.endSession p).on (PART_SESSION.ESTABLISHED p) = false) ∧
  (∀ (s : State) (p : PartId), s.admits (.host p) (HS_CTRL p) 1#32 → s.hw.on KS_STATE.SEALED = false →
    ((s.hw.part p).hsStarts.filter (fun n => decide (s.hw.stepCount < n + 800000))).length < 4 →
    exec (.hsStart (.host p) p) s = s.wrote (HS_CTRL p)
      (((s.hw.setPart p { s.hw.part p with
        hsStarts := (s.hw.part p).hsStarts.filter (fun n => decide (s.hw.stepCount < n + 800000)) ++ [s.hw.stepCount] }).wr
          (HS_STATUS.STATE p) 1).wr (HS_STATUS.CODE p) 0)) ∧
  (∀ (s : State) (p : PartId), s.hw.live = true → s.hw.on KS_STATE.SEALED = false → s.hw.rd (HS_STATUS.STATE p) = 1 →
    exec (.handshakePrepared p) s = s.to
      (let h := s.hw.setKsBytes (hsOff p + 0x20) ((List.range 32).map (fun i => Config.freeByte s.hw.fresh i))
       let h := h.setKsBytes (hsOff p + 0x40) (Config.ephemeralPublic h.fresh)
       let h := h.setKsBytes (hsOff p + 0x80) (Config.identitySign (h.hsMessage p))
       { (h.setPart p { h.part p with hsSecret := h.fresh }).wr (HS_STATUS.STATE p) 2 with fresh := h.fresh + 1 })) ∧
  (∀ (s : State) (q : Requester) (p : PartId), s.admits q (HS_CTRL p) 2#32 → s.hw.on KS_STATE.SEALED = false →
    s.hw.rd (HS_STATUS.STATE p) = 2 →
    exec (.hsSubmit q p) s = s.wrote (HS_CTRL p) (s.hw.wr (HS_STATUS.STATE p) 3)) ∧
  (∀ (s : State) (p : PartId), s.hw.live = true → s.hw.on KS_STATE.SEALED = true → s.hw.rd (HS_STATUS.STATE p) = 1 →
    exec (.handshakePrepared p) s = s.to ((s.hw.wr (HS_STATUS.STATE p) 5).wr (HS_STATUS.CODE p) 0x0A)) ∧
  (∀ (s : State) (p : PartId), s.hw.live = true → s.hw.on KS_STATE.SEALED = true → s.hw.rd (HS_STATUS.STATE p) = 3 →
    exec (.handshakeVerified p) s = s.to ((s.hw.wr (HS_STATUS.STATE p) 5).wr (HS_STATUS.CODE p) 0x0A)) ∧
  (∀ (s : State) (p : PartId), s.hw.live = true → s.hw.on KS_STATE.SEALED = false → s.hw.rd (HS_STATUS.STATE p) = 3 →
    exec (.handshakeVerified p) s = s.to
      (if Config.signatureOk (s.hw.ownerKey p) (s.hw.hsMessage p ++ s.hw.ksBytes (hsOff p + 0xC0) 64) (s.hw.ksBytes (hsOff p + 0x100) 64) then
        ((s.hw.establish p ((Config.sessionKey (s.hw.part p).hsSecret (s.hw.ksBytes (hsOff p + 0xC0) 64)
          (s.hw.ksBytes (hsOff p + 0x20) 32) (ascii "ZGS1" ++ [BitVec.ofNat 8 p.val])).take 16)).wr (HS_STATUS.STATE p) 4).wr
            (HS_STATUS.CODE p) 0
       else (s.hw.wr (HS_STATUS.STATE p) 5).wr (HS_STATUS.CODE p) 4)) ∧
  (∀ (h : Hw) (p : PartId) (k : List Byte), (h.part p).key ≠ none →
    h.establish p k = (h.setPart p { h.part p with newKey := some k }).wrB (PART_SESSION.CHANGEOVER p) true) ∧
  (∀ (h : Hw) (p : PartId) (k : List Byte), (h.part p).key = none →
    h.establish p k = ((h.setPart p { h.part p with key := some k }).freshCounters p).wrB (PART_SESSION.ESTABLISHED p) true) ∧
  (∀ (h : Hw) (p : PartId), (h.freshCounters p).rd (PART_CAN_COUNTER.COUNTER p) = 0 ∧
    (h.freshCounters p).rd (PART_SER_COUNTER.COUNTER p) = 0) ∧
  (∀ (s : State) (p : PartId), s.hw.live = true → s.hw.rd (HS_STATUS.STATE p) = 2 →
    exec (.handshakeTimeout p) s = s.to (s.hw.wr (HS_STATUS.STATE p) 0)) ∧
  (∀ (s : State) (p : PartId) (k : List Byte), s.hw.live = true → (s.hw.part p).newKey = some k →
    exec (.sessionChangeover p) s = s.to
      (((s.hw.setPart p { s.hw.part p with key := some k, newKey := none }).freshCounters p).wrB (PART_SESSION.CHANGEOVER p) false))

/-- RELOAD, ABORT and SWITCH that the load machine does not refuse start a load of the named partition and source, discard the one in
work, and release a held partial load. A word of the port brings four bytes. A piece over CAN starts a load in WAITING at offset
0; the next one in order brings its bytes, one behind or ahead is counted; a status request is answered, as is the end of a load
over CAN. A full file that the checks refuse ends REFUSED with its causes, another is applied; a partial one is staged where they
accept it, and else REFUSED. A second without bytes ends the load with cause 0x1B. A staged set whose partition has reached its
terminal state is applied: its cells, areas, images, floor and epoch are set, and its cells' diagnostics start. (R91, R92, R95,
R97, R98, R99, R100, R115) -/
def Obligations.Loads : Prop :=
  (∀ (s : State) (q : Requester) (p : PartId) (src : Fin 4) (hold : Bool), s.admits q BS_CTRL (bsCtrlValue p src (1 + 8 * Num.ofBool hold)) → s.hw.bsRefusal q (bsCtrlValue p src (1 + 8 * Num.ofBool hold)) = .ok →
    exec (.bsReload q p src hold) s = s.wrote BS_CTRL
      (let h := { s.hw with load := { isPart := s.hw.anyActive, part := p, hold := hold, reqKey := bsKey q } }
       ((((h.setReg BS_STATUS 0).wr BS_STATUS.SOURCE (src.val + 1)).wr BS_STATUS.STATE 2).setReg BS_BYTES 0).setReg BS_CAN_COUNT 0)) ∧
  (∀ (s : State) (q : Requester), s.admits q BS_CTRL (bsCtrlValue 0 0 2) → s.hw.bsRefusal q (bsCtrlValue 0 0 2) = .ok →
    exec (.bsAbort q) s = s.wrote BS_CTRL
      { (let h : Hw := (s.hw).wr BS_STATUS.STATE 0
        if h.rd BS_STATUS.SOURCE = 2 then h.loadStatusFrame else h) with load := {} }) ∧
  (∀ (s : State) (q : Requester), s.admits q BS_CTRL (bsCtrlValue 0 0 4) → s.hw.bsRefusal q (bsCtrlValue 0 0 4) = .ok →
    s.hw.load.isPart = true →
    exec (.bsSwitch q) s = s.wrote BS_CTRL { s.hw with load := { s.hw.load with switch := true } }) ∧
  (∀ (s : State) (q : Requester), s.admits q BS_CTRL (bsCtrlValue 0 0 4) → s.hw.bsRefusal q (bsCtrlValue 0 0 4) = .ok →
    s.hw.load.isPart = false →
    exec (.bsSwitch q) s =
      (let m := (Mach.mk s.mem s.hw).applyFull s.hw.fullVerdict
       s.toMach m.mem ((m.hw.ramWritten BS_CTRL.addr).answer .ok 0))) ∧
  (∀ (s : State) (q : Requester) (v : Word), s.admits q BS_PORT v → s.hw.anyActive = false ∨ bsKey q = s.hw.load.reqKey →
    s.hw.bsState = 2 → s.hw.rd BS_STATUS.SOURCE = 1 →
    exec (.bsPortWrite q v) s = s.wrote BS_PORT (s.hw.loadBytes (Num.bytesLE 4 v.toNat))) ∧
  (∀ (h : Hw) (new : List Byte), (h.load.bytes ++ new).length < 16 →
    h.loadBytes new = { h.wr BS_BYTES.COUNT (h.load.bytes ++ new).length with load := { h.load with bytes := h.load.bytes ++ new } }) ∧
  (∀ (h : Hw) (new : List Byte), 16 ≤ (h.load.bytes ++ new).length → bsTotal (h.load.bytes ++ new) ≤ (h.load.bytes ++ new).length →
    h.loadBytes new = (let b := (h.load.bytes ++ new).take (bsTotal (h.load.bytes ++ new))
      let h := { h.wr BS_BYTES.COUNT b.length with load := { h.load with bytes := b } }
      (let h : Hw := (h).wr BS_STATUS.STATE 3
        if h.rd BS_STATUS.SOURCE = 2 then h.loadStatusFrame else h))) ∧
  (∀ (h : Hw) (new : List Byte), 16 ≤ (h.load.bytes ++ new).length → (h.load.bytes ++ new).length < bsTotal (h.load.bytes ++ new) →
    bsTotal (h.load.bytes ++ new) ≤ bsLimit (!h.load.isPart) →
    h.loadBytes new = { h.wr BS_BYTES.COUNT (h.load.bytes ++ new).length with load := { h.load with bytes := h.load.bytes ++ new } }) ∧
  (∀ (s : State) (node : Nat) (d : List Byte), s.hw.live = true → s.hw.loadHears node = true → d.length = 60 → s.hw.bsState = 1 →
    exec (.canLoadPiece node 0 d) s = s.to ((s.hw.loadStart 17 0 2 false).loadBytes d)) ∧
  (∀ (s : State) (node off : Nat) (d : List Byte), s.hw.live = true → s.hw.loadHears node = true → d.length = 60 → s.hw.bsState = 2 →
    s.hw.rd BS_STATUS.SOURCE = 2 →
    exec (.canLoadPiece node off d) s = s.to
      (if off = s.hw.rd BS_BYTES.COUNT then s.hw.loadBytes d
       else if off < s.hw.rd BS_BYTES.COUNT then s.hw.incTop BS_CAN_COUNT.BEHIND else s.hw.incTop BS_CAN_COUNT.AHEAD)) ∧
  (∀ (s : State) (node : Nat), s.hw.live = true → s.hw.loadHears node = true →
    exec (.canLoadStatusRequest node) s = s.to s.hw.loadStatusFrame) ∧
  (∀ h : Hw, h.loadStatusFrame =
      (h.sendService 0 (serviceFrame (0x1E010000 + h.rd CAN_NODE.NODE)
        ([BitVec.ofNat 8 h.bsState, 0] ++ Num.bytesLE 2 (h.rd BS_STATUS.CAUSE) ++ Num.bytesLE 4 (h.rd BS_BYTES.COUNT))))) ∧
  (∀ (s : State) (c : Nat), s.hw.live = true → s.hw.bsState = 3 → s.hw.load.isPart = false → s.hw.fullVerdict.fatal = some c →
    exec .checksDone s = s.to
      { (let h : Hw := (s.hw.recordRefusals (s.hw.fullVerdict.refs ++ [(0, c)])).wr BS_STATUS.STATE 7
        if h.rd BS_STATUS.SOURCE = 2 then h.loadStatusFrame else h) with load := {} }) ∧
  (∀ s : State, s.hw.live = true → s.hw.bsState = 3 → s.hw.load.isPart = false → s.hw.load.hold = false →
    exec .checksDone s =
      match s.hw.fullVerdict.fatal with
      | none => (let m := (Mach.mk s.mem s.hw).applyFull s.hw.fullVerdict
                 s.toMach m.mem m.hw)
      | some c => s.to { (let h : Hw := (s.hw.recordRefusals (s.hw.fullVerdict.refs ++ [(0, c)])).wr BS_STATUS.STATE 7
        if h.rd BS_STATUS.SOURCE = 2 then h.loadStatusFrame else h) with load := {} }) ∧
  (∀ s : State, s.hw.live = true → s.hw.bsState = 3 → s.hw.load.isPart = true →
    exec .checksDone s = s.to
      (let v := s.hw.verdict false s.hw.load.part s.hw.load.bytes
       let h := s.hw.recordRefusals (v.refusals s.hw.load.part)
       match v.sets.find? (fun e => e.1 == s.hw.load.part) with
       | some e => { h.wr BS_STATUS.STATE 4 with load := { h.load with staged := some e.2, stagedPlat := v.plat } }
       | none => { (let h : Hw := (h).wr BS_STATUS.STATE 7
        if h.rd BS_STATUS.SOURCE = 2 then h.loadStatusFrame else h) with load := {} })) ∧
  (∀ s : State, s.hw.live = true → s.hw.bsState = 2 → s.hw.rd BS_STATUS.SOURCE ≠ 0 →
    exec .loadTimeout s = s.to
      (let code := faultCode 4 (if s.hw.load.isPart then s.hw.load.part else 0) 0x1B
       let h := (s.hw.record code).wr BS_STATUS.CAUSE code
       let h := if s.hw.load.isPart then h.wr (PART_BS_STATE.CAUSE s.hw.load.part) code else h
       { (let h : Hw := (h).wr BS_STATUS.STATE 7
        if h.rd BS_STATUS.SOURCE = 2 then h.loadStatusFrame else h) with load := {} })) ∧
  (∀ (s : State) (p : PartId) (st : Sys2Proof.Machine.PSet), s.hw.live = true → s.hw.bsState = 5 → s.hw.load.part = p.val →
    (s.hw.part p).arming = false → s.hw.blocksOf p = [] ∨ s.hw.terminalReached p = true → s.hw.load.staged = some st →
    s.hw.load.stagedPlat = none →
    exec (.reloadApplySet []) s = s.toMach ((Mach.mk s.mem s.hw).applySet p st).mem ((Mach.mk s.mem s.hw).applySet p st).hw) ∧
  (∀ (m : Mach) (p : PartId) (st : Sys2Proof.Machine.PSet) (e : Nat), e ≠ 0 → (m.hw.part p).nextEpoch = e → st.part.epochPolicy = 0 →
    m.applySet p st = ⟨m.mem,
      (let h := st.areasOf.foldl (fun (h : Hw) a => h.freshArea p a) ((m.hw.placeSet p st).safeSettings st)
       let h := h.writeImages p st.images
       let h := if h.rd (PART_BS_FLOOR.FLOOR p) < st.part.floor then h.wr (PART_BS_FLOOR.FLOOR p) st.part.floor else h
       let h := h.keepStore (0x40 + 8 * p.val) (Num.bytesLE 4 (h.rd (PART_BS_FLOOR.FLOOR p)) ++ Num.bytesLE 2 e ++ [0, 0])
       let h := h.setPart p { h.part p with arming := true, nextEpoch := e }
       let cells := (h.setBlocks p).flatMap cellsOf
       let h := h.raiseUvlo cells (fun c => m.hw.rd (LEG_BST_CFG.UVLO_SEL c))
       let h := cells.foldl (fun (h : Hw) c => if (h.cell c).diagStage = 0 then h.startDiag c 1 else h) h
       Num.forEach 4 (fun r (h : Hw) => h.armRegion r) h)⟩) ∧
  (∀ e : Nat, e < 0xFFFF → epochAfter e = e + 1) ∧ epochAfter 0xFFFF = 1

/-- POWER_ON, an edge on WAKE to the active level that WAKE_EDGE selects and a CAN wake-up pattern that is enabled leave standby with
their source; during a shutdown they are remembered. At supply-good the dies start: they wait for the clock, or run the stages of
a start; stage 7 without flash leaves the load machine WAITING as a slave, with a bitstream it checks it. A supply that dips and a
low VSUP take chip fault 0x05 and, where the save completes, store the seconds and the marker. AON_RESET leaves keep memory, the
key store and the reset values of the always-on domain. A die that fails authentication is refused, a leg die's region fenced.
Nothing else changes. (R16, R48, R49, R51, R52, R53, R61, R68, R69, R93, R514) -/
def Obligations.SuppliesAndStart : Prop :=
  (∀ s : State, s.hw.power = .off →
    exec .powerOn s = s.to (({ s.hw with power := .waitSupply, inh := true }.wr START_STATUS.WAKE_SRC 0).wr START_STATUS.WAKE_CAN 0)) ∧
  (∀ s : State, s.hw.power = .standby → s.hw.on WAKE_CFG.WAKE_EDGE = s.hw.wakePin →
    exec .wakePinEdge s = s.to (({ { s.hw with wakePin := !s.hw.wakePin } with power := .waitSupply, inh := true }.wr START_STATUS.WAKE_SRC 1).wr START_STATUS.WAKE_CAN 0)) ∧
  (∀ s : State, s.hw.power = .shutPending ∨ s.hw.power = .shutStopping ∨ s.hw.power = .shutDischarge →
    s.hw.on WAKE_CFG.WAKE_EDGE = s.hw.wakePin →
    exec .wakePinEdge s = s.to { s.hw with wakePin := !s.hw.wakePin, wakeShut := true }) ∧
  (∀ s : State, s.hw.on WAKE_CFG.WAKE_EDGE = !s.hw.wakePin →
    exec .wakePinEdge s = s.to { s.hw with wakePin := !s.hw.wakePin }) ∧
  (∀ (s : State) (n : ChanId), s.hw.power = .shutPending ∨ s.hw.power = .shutStopping ∨ s.hw.power = .shutDischarge →
    s.hw.bit WAKE_CFG.CAN_WAKE_EN n = true →
    exec (.canWakeUpPattern n) s = s.to { s.hw with wakeShut := true, wakeCan := s.hw.wakeCan ||| 2 ^ n.val }) ∧
  (∀ (s : State) (n : ChanId), s.hw.power = .standby → s.hw.bit WAKE_CFG.CAN_WAKE_EN n = true →
    exec (.canWakeUpPattern n) s = s.to (({ s.hw with power := .waitSupply, inh := true }.wr START_STATUS.WAKE_SRC 2).wr START_STATUS.WAKE_CAN (2 ^ n.val))) ∧
  (∀ (s : State) (env : StartEnv), s.hw.power = .waitSupply → env.rootValid = false →
    exec (.coldStart env) s = s.toMach s.mem.keepOnly
      { (({ s.hw.chipReset false with power := .waitPll }).setReg SUPPLY_STATUS 31) with power := .waitPll, env := some env }) ∧
  (∀ (s : State) (env : StartEnv), s.hw.power = .waitSupply → env.rootValid = true →
    exec (.coldStart env) s =
      (let m := (Mach.mk s.mem.keepOnly ({ s.hw.chipReset false with power := .waitPll }.setReg SUPPLY_STATUS 31)).startStages env
       s.toMach m.mem m.hw)) ∧
  (∀ (s : State) (env : StartEnv), s.hw.power = .starting → s.hw.env = none →
    exec (.coldStart env) s =
      (let m := (Mach.mk s.mem s.hw).startStages env
       s.toMach m.mem m.hw)) ∧
  (∀ (m : Mach) (env : StartEnv), m.startStages env =
      (let warm := m.hw.rd START_STATUS.START_KIND == 1
       let h := { m.hw with power := .starting, env := some env, stepCount := 0, phase := 0, opRun := m.hw.opRun || !warm }
       let h := ((h.wrB CLK_STATUS.XTAL_OK true).wrB CLK_STATUS.PLL_LOCK true).wrB MEAS_REF_STATUS.INT_REF_OK true
       let h := (((h.wrB SAFE_PIN_STATUS.STO_A env.stoA).wrB SAFE_PIN_STATUS.STO_B env.stoB).syncSto).thermStart env.temps
       let n := if warm then Mach.mk m.mem h else (Mach.mk m.mem h).stage3
       let h := Num.forEach 16 (fun p (h : Hw) => h.creditInit p) n.hw
       let h := { (h.stage4 (h.authFails env.auth)).stage5 env.groupFail with fresh := h.fresh + 1 }
       ⟨n.mem, (if warm || h.on START_STATUS.CREDIT_USED then h else h.longTest env).startGoesOn⟩)) ∧
  (∀ (s : State) (env : StartEnv), s.hw.power = .waitPll → s.hw.env = some env →
    exec .pllLock s = s.toMach ((Mach.mk s.mem s.hw).startStages env).mem ((Mach.mk s.mem s.hw).startStages env).hw) ∧
  (∀ (h : Hw) (env : StartEnv), env.flash = none → h.serial.queue = [] → h.serial.waits = [] → h.rd SPI_FRAME_STATUS.STATE ≠ 1 →
    (h.stage7 env).power = .running ∧ (h.stage7 env).bsState = 1 ∧ (h.stage7 env).spiSlave = true) ∧
  (∀ (h : Hw) (env : StartEnv) (b : List Byte), env.flash = some b → bsProbe b = true →
    (h.stage7 env).power = .running ∧ (h.stage7 env).bsState = 3 ∧ (h.stage7 env).load.bytes = b.take (bsTotal b)) ∧
  (∀ (h : Hw) (r : RegionId), h.startRefused (r.val + 2) = (h.fenceRegion r 1).wr (DIE_STATE.DIE (r.val + 2)) 3) ∧
  (∀ (h : Hw) (d : DieId), d = 0 ∨ d = 1 ∨ d = 6 ∨ d = 7 → h.startRefused d = h.wr (DIE_STATE.DIE d) 3) ∧
  (∀ (s : State) (i : Fin 4) (saved : Bool), s.hw.live = true → s.hw.power ≠ .shutTest → saved = false ∨ i = 1 ∨ i = 2 →
    exec (.supplyDip i saved) s = s.to { ((s.hw.supplyLow (supplyBit i)).chipFaultSet 0x05) with power := .powerFail, opRun := false, wakeShut := false }) ∧
  (∀ (h : Hw) (f : Fld), h.supplyLow f =
      { h.wrB f false with supplyBack := h.supplyBack.filter (fun (e : Nat × Nat) => e.1 != f.lo) ++ [(f.lo, 800)] }.refreshAll) ∧
  (∀ s : State, s.hw.live = true → s.hw.power ≠ .shutTest →
    exec (.vsupLow false) s = s.to { ((s.hw.supplyLow SUPPLY_STATUS.VSUP_OK).chipFaultSet 0x05) with power := .powerFail, opRun := false, wakeShut := false }) ∧
  (∀ s : State, s.hw.live = true → s.hw.power ≠ .shutTest → s.hw.opRun = true → s.hw.keepPend = [] → s.hw.keepBlocked = [] →
    s.hw.faultStored = true → s.hw.keepOpen = true →
    exec (.vsupLow true) s = s.toMach
      ((s.mem.setBytes 0x50000000 s.hw.secondsWord).setBytes 0x50000028
        (Num.bytesLE 4 (s.hw.rd POWER_CYCLES.COUNT) ++ Num.bytesLE 4 (s.hw.rd OP_SECONDS.SECONDS))) { ((s.hw.supplyLow SUPPLY_STATUS.VSUP_OK).chipFaultSet 0x05) with power := .powerFail, opRun := false, wakeShut := false }) ∧
  (∀ s : State, s.hw.live = false →
    exec .aonReset s = s.toMach s.mem.keepOnly
      (let h := { (s.hw.setReg CHIP_FAULT 0).chipReset false with power := .off }
       let h := (((h.setReg WAKE_CFG WAKE_CFG.reset).setReg SHUTDOWN_CFG SHUTDOWN_CFG.reset).setReg START_STATUS START_STATUS.reset)
       { (h.setReg OP_SECONDS OP_SECONDS.reset).setReg POWER_CYCLES POWER_CYCLES.reset with inh := false })) ∧
  (∀ s : State, s.hw.live = true →
    exec .aonReset s =
      (let m := (Mach.mk s.mem s.hw).keepCut
       s.toMach m.mem.keepOnly
      (let h := { (m.hw.setReg CHIP_FAULT 0).chipReset false with power := .off }
       let h := (((h.setReg WAKE_CFG WAKE_CFG.reset).setReg SHUTDOWN_CFG SHUTDOWN_CFG.reset).setReg START_STATUS START_STATUS.reset)
       { (h.setReg OP_SECONDS OP_SECONDS.reset).setReg POWER_CYCLES POWER_CYCLES.reset with inh := false }))) ∧
  (∀ (h : Hw), h.chipFault = false → (h.chipReset false).cells = [] ∧ (h.chipReset false).parts = [] ∧ (h.chipReset false).threads = [] ∧
    (h.chipReset false).p0Key = h.p0Key ∧ (h.chipReset false).slotKeys = h.slotKeys)

/-- SHUTDOWN while the device runs, and the end of OFF_DELAY with AUTO_SHUTDOWN set, begin a shutdown. RESTART outside a chip fault
and a shutdown resets the dies and runs a start with what they show. Once every trio is below its threshold, or the time limit has
passed, the discharge starts where it is configured; else the seconds and the record are stored and the shutdown test runs. Its
end stores the result; the part then enters standby with only keep memory left. A partition whose conditions hold activates.
Nothing else changes. (R47, R65, R66, R67, R72, R75, R567) -/
def Obligations.ShutdownsAndRestarts : Prop :=
  (∀ (s : State) (q : Requester), s.admits q POWER_CMD 0x5A170001#32 → s.hw.power = .running →
    exec (.shutdown q) s = s.wrote POWER_CMD { s.hw with power := .shutPending, wakeShut := false, wakeCan := 0 }) ∧
  (∀ s : State, s.hw.power = .running → s.hw.on WAKE_CFG.AUTO_SHUTDOWN = true → s.hw.wakePin = s.hw.on WAKE_CFG.WAKE_EDGE →
    exec .autoShutdown s = s.to { s.hw with power := .shutPending, wakeShut := false, wakeCan := 0 }) ∧
  (∀ (s : State) (q : Requester) (env : StartEnv), s.admits q POWER_CMD 0x5A170002#32 → s.hw.chipFault = false → s.hw.shutting = false →
    (s.hw.die 0).clockBad = false → (s.hw.die 1).clockBad = false →
    exec (.restart q env) s =
      (let m := (Mach.mk s.mem s.hw).warmRestart false
       let m := (Mach.mk m.mem ((m.hw.ramWritten POWER_CMD.addr).answer .ok 0)).startStages env
       s.toMach m.mem m.hw)) ∧
  (∀ m : Mach, (m.hw.die 0).clockBad = false → (m.hw.die 1).clockBad = false → (m.warmRestart false).mem = m.mem ∧
    (m.warmRestart false).hw.power = .starting ∧ (m.warmRestart false).hw.rd START_STATUS.START_KIND = 1 ∧
    (m.warmRestart false).hw.stepCount = 0) ∧
  (∀ s : State, s.hw.power = .shutStopping → s.hw.allStopped = true → s.hw.on SHUTDOWN_CFG.DISCHARGE = true →
    exec .shutdownStopped s = s.to { s.hw.startDischarge with power := .shutDischarge }) ∧
  (∀ s : State, s.hw.power = .shutStopping → s.hw.on SHUTDOWN_CFG.DISCHARGE = true →
    exec .stopTimeout s = s.to { s.hw.startDischarge with power := .shutDischarge }) ∧
  (∀ s : State, s.hw.power = .shutStopping → s.hw.allStopped = true → s.hw.on SHUTDOWN_CFG.DISCHARGE = false →
    (∀ p < 16, (s.hw.recorder p).base = 0) → s.hw.keepPend = [] → s.hw.keepBlocked = [] → s.hw.keepOpen = true →
    s.hw.on ST_CFG.SHUTDOWN_EN = true → s.hw.wakeShut = false → s.hw.chipFault = false →
    exec .shutdownStopped s = s.toMach ((s.mem.setBytes 0x50000000 s.hw.secondsWord).setBytes 0x50000010
      (Num.bytesLE 4 (s.hw.rd POWER_CYCLES.COUNT) ++ Num.bytesLE 4 (s.hw.rd OP_SECONDS.SECONDS))) { s.hw.sealStore with power := .shutTest }) ∧
  (∀ (s : State) (passed : Bool), s.hw.power = .shutTest → s.hw.keepPend = [] → s.hw.keepBlocked = [] → s.hw.keepOpen = true →
    s.hw.chipFault = false →
    exec (.shutdownTestEnd passed) s = s.toMach ((s.mem.setBytes 0x50000018
      (Num.bytesLE 4 (s.hw.rd POWER_CYCLES.COUNT) ++ Num.bytesLE 4 (s.hw.rd OP_SECONDS.SECONDS))).setBytes 0x50000020
        [if passed then 1 else 2, 0, 0, 0, 0, 0, 0, 0]) { s.hw.wrB KS_STATE.SEALED false with power := .shutDone }) ∧
  (∀ s : State, s.hw.power = .shutDone →
    exec .enterStandby s = s.toMach s.mem.keepOnly { s.hw.chipReset false with power := .standby, inh := false }) ∧
  (∀ (m : Memory) (a : Nat), m.keepOnly.byte a = if 0x50000000 ≤ a ∧ a < 0x51000000 then m.byte a else 0) ∧
  (∀ (s : State) (p : PartId), s.hw.live = true → s.hw.rd (PART_RUN.STATE p) = 0 → s.hw.canActivate p = true →
    exec (.partitionActivate p) s =
      s.toMach ((Mach.mk s.mem s.hw).activate p false).mem ((Mach.mk s.mem s.hw).activate p false).hw) ∧
  (∀ (m : Mach) (p : PartId) (back : Bool), m.activate p back =
      (let areas := (((m.hw.part p).cfg).getD {}).areasOf
       let n := areas.foldl (fun (n : Mach) a => n.claimArea p a) (m.autoResume p)
       let n := (Mach.mk n.mem (n.hw.activatePart p back m.hw.ownershipMap)).recActivate p
       ⟨n.mem, n.hw.d6Depends p⟩))

/-- A step boundary counts the step, shows its place in the frame, gives each unit its boundary in the order written out, and the keep
engine its own. A die without a good slot on a link counts one more bad step. The sample latch takes its samples, runs the checks
they feed and starts the lane programs at their first word, but for blocks whose lanes do not run. A COMMIT is counted and
captured for each active partition that requested it, and a block whose lane program still runs is fenced with cause 0x0C. A frame
boundary acts where the frame is due, in the order written out, and else not: differing maps set chip fault 0x08, and credit is
refilled up to its depth. A deadlocked partition in its terminal state has its blocks fenced. (R26, R27, R28, R58, R109, R113,
R134, R139, R154, R161, R545) -/
def Obligations.StepAndFrame : Prop :=
  (∀ s : State, s.hw.live = true →
    exec .stepBoundary s =
      (let h := { s.hw with stepCount := s.hw.stepCount + 1, phase := 0, tick := 0 }
       let h := h.wr RM_STATUS.STEP_IN_FRAME ((s.hw.stepCount + 1) % max (s.hw.rd FRAME_CFG.FRAME_STEPS) 1)
       let h := (if s.hw.chipFault then h.carouselReset else h).suppliesBack.dischargeTime
       let ran := (List.range 8).filter (fun k => !h.halted k)
       let h := Num.forEach 48 (fun c (h : Hw) => (h.pwmBoundary c).slotBoundary c) h.debugHalts
       let h := h.safeBoundary.applyHolds.thermBoundary.startGoesOn
       let h := (Num.forEach 8 (fun k (h : Hw) => h.stepWakes k) h).paceMoves
       let h := Num.forEach 48 (fun c (h : Hw) => h.senseBoundary c) (ran.foldl (fun (h : Hw) k => h.injBoundary k) h)
       let h := Num.forEach 16 (fun t (h : Hw) =>
         if h.halted (t / 2) || (h.trioCells t).isEmpty then h else h.motionBoundary t) h.posBoundary.canBoundary
       let h := Num.forEach 8 (fun d (h : Hw) => h.linkBoundary d) h
       let h := (Num.forEach 4 (fun r (h : Hw) => h.setRegion r { h.region r with sampleLost := 0 }) h).flagsKept.debugResumes
       let m := (Mach.mk s.mem h).keepBoundary
       s.toMach m.mem m.hw)) ∧
  (∀ (h : Hw) (d : DieId), ((h.linkBoundary d).die d).bad0 = (if (h.die d).good0 then 0 else (h.die d).bad0 + 1) ∧
    ((h.linkBoundary d).die d).bad1 = (if (h.die d).good1 then 0 else (h.die d).bad1 + 1) ∧ ((h.linkBoundary d).die d).good0 = false) ∧
  (∀ (h : Hw) (c : CellId), h.slotBoundary c = h.setCell c { h.cell c with repeated := (h.cell c).slotLost, slotLost := false }) ∧
  (∀ (h : Hw) (k : BlockId), h.flagsKept.block k = { h.block k with capFlags := (h.reg (BLK_SEQ_FLAGS k)).toNat }) ∧
  (∀ (m : Mach) (p : PartId), m.hw.rd (PART_KEEP_STATUS.STATE p) = 1 → m.hw.keepOpen = true → m.hw.rd (PART_KEEP_STATUS.OP p) = 2 →
    m.keepBegin p = ⟨m.mem, (((m.hw.wr (PART_KEEP_STATUS.STATE p) 2).keepShow).setHeader (keepSector (m.hw.rd (PART_KEEP_ADDR.ADDR p))) 1)⟩) ∧
  (∀ (s : State) (i : LatchInputs), s.hw.live = true →
    exec (.sampleLatch i) s = s.to
      (let h := s.hw.atPhase 20
       let missing (c : Nat) : Bool := (h.region (regionOf c)).sampleLost.testBit (c % 12 / 4)
       let gone (r : Nat) : Bool := i.regionLost.testBit r || (h.region r).sampleLost.testBit 3
       let regions := (List.range 4).foldl (fun m r => if gone r then m + 2 ^ r else m) 0
       let cell (c : Nat) : CellSample := i.cells.getD c { sar0 := [], sar1 := [], discard := true }
       let h := Num.forEach 48 (fun c (h : Hw) => h.sampleCell c (cell c)) h
       let h := (h.sampleVdc { i with regionLost := regions }).fastVolts i.fast (i.vdcBLost || (h.die 6).readLost)
       let h := Num.forEach 16 (fun t (h : Hw) => if (h.trioCells t).isEmpty then h else h.latchFences t)
         (Num.forEach 8 (fun k (h : Hw) => h.safetyLatch k) h)
       let h := Num.forEach 8 (fun k (h : Hw) => if h.blockEntered k && !h.halted k then h.chanLatches k else h) h
       let h := Num.forEach 16 (fun t (h : Hw) => if (h.trioCells t).isEmpty then h else h.monitorLatch t (i.tmDiffer.testBit t)) h
       (Num.forEach 8 (fun k (a : Hw) => a.laneStart k (fun c => (cell c).discard || missing c) (fun r => regions.testBit r)) h).histLatch)) ∧
  (∀ (h : Hw) (k : BlockId) (a b : Nat → Bool), h.lanesRun k = false →
    h.laneStart k a b = h.setBlock k { h.block k with laneRuns := false }) ∧
  (∀ (h : Hw) (k : BlockId) (a b : Nat → Bool), h.lanesRun k = true →
    ((h.laneStart k a b).block k).laneRuns = true ∧ ((h.laneStart k a b).block k).lanePc = 0) ∧
  (∀ s : State, s.hw.live = true →
    exec .commitSample s = s.to
      (((List.range 8).filter (fun k => (s.hw.block k).laneRuns)).foldl (fun (h : Hw) k => h.fenceBlock k 0x0C)
        (Num.forEach 16 (fun p (h : Hw) =>
          if h.active p = true ∧ (h.part p).commitReq = true then
            let h := ((h.setPart p { h.part p with commitReq := false }).inc (RM_COMMIT_COUNT.COUNT p)).captureSets p
            (h.blocksOf p).foldl (fun (h : Hw) k => (h.captureLaws k).captureTorque k) h
          else h.setPart p { h.part p with commitReq := false }) s.hw))) ∧
  (∀ (h : Hw) (p : PartId), (h.commitParts.part p).commitReq = false) ∧
  (∀ (s : State) (same : Bool), s.hw.live = true → s.hw.frameDue = false →
    exec (.frameBoundary same) s = s.to s.hw) ∧
  (∀ (s : State) (same : Bool), s.hw.live = true → s.hw.frameDue = true →
    exec (.frameBoundary same) s =
      (let m := (Mach.mk s.mem ((s.hw.compareMaps same).deadlocks.switchStart)).reloadBack
       let h := Num.forEach 8 (fun k (h : Hw) => h.returnBlock k) (Num.forEach 16 (fun p (h : Hw) => h.startPartition p) m.hw)
       let h := Num.forEach 16 (fun p (h : Hw) => if h.active p then h.frameLegs p else h) h
       let h := (Num.forEach 16 (fun p (h : Hw) => h.envelopes p) h).releases
       let h := Num.forEach 8 (fun k (h : Hw) => h.frameWakes k) (Num.forEach 16 (fun p (h : Hw) => h.creditRefill p) h)
       s.toMach m.mem h.measFrame.canFrame.shutStage1)) ∧
  (∀ h : Hw, h.compareMaps true = h.incTop TS_MAP_STATUS.FRAMES ∧
    h.compareMaps false = ((h.incTop TS_MAP_STATUS.FRAMES).incTop TS_MAP_STATUS.MISMATCHES).chipFaultSet 0x08) ∧
  (∀ (h : Hw) (p : PartId), h.creditRefill p = h.wr (PART_CREDIT.AVAILABLE p)
    (min (h.rd (PART_CREDIT_CFG.DEPTH p)) (h.rd (PART_CREDIT.AVAILABLE p) + h.rd (PART_CREDIT_CFG.REFILL p)))) ∧
  (∀ (s : State) (p : PartId), s.hw.live = true → (s.hw.part p).deadlock = true → s.hw.terminalReached p = true →
    exec (.deadlockFence p) s = s.to ((s.hw.blocksOf p).foldl (fun (h : Hw) k => h.fenceBlockOnly k) s.hw))

/-- A good slot of a link is noted; a bad one is counted, and from a leg die its samples are missing. A lost link sets chip fault
0x04, D7's 0x03. Equal command records give every cell of the region's unfenced blocks its command; differing ones fence their
blocks with cause 0x02, as the command watchdog fences its region. A request for the return of a block whose region's causes have
cleared starts its checks; when they end without a failure its cells wait to return. A good exchange ends the retries and clears a
leg region's cause 0x01, a bad one starts them; after the third a leg die's region is fenced with cause 0x01, and another control
die sets chip fault 0x07. Nothing else changes. (R27, R28, R29, R30, R42, R43, R120) -/
def Obligations.LinksAndReturns : Prop :=
  (∀ (s : State) (d : DieId) (toDie : Bool) (slot : Fin 125), s.hw.live = true → 2 ≤ d.val →
    exec (.linkSlotReceived d false toDie slot true) s = s.to (s.hw.setDie d { s.hw.die d with good0 := true })) ∧
  (∀ (s : State) (d : DieId) (toDie : Bool) (slot : Fin 125), s.hw.live = true → 2 ≤ d.val →
    exec (.linkSlotReceived d true toDie slot true) s = s.to (s.hw.setDie d { s.hw.die d with good1 := true })) ∧
  (∀ (s : State) (r : RegionId) (d : DieId) (slot : Fin 125), s.hw.live = true → d.val = r.val + 2 → slot.val ≤ 3 →
    exec (.linkSlotReceived d false false slot false) s = s.to
      (let h := s.hw.incTop (LINK_ERR.D0_COUNT r)
       h.setRegion r { h.region r with sampleLost := Num.setBit (h.region r).sampleLost slot true })) ∧
  (∀ (s : State) (d : DieId), s.hw.live = true → 2 ≤ d.val → (s.hw.die d).lost = true ∨ 4 ≤ (s.hw.die d).bad0 ∨ 4 ≤ (s.hw.die d).bad1 →
    exec (.linkLoss d) s = s.to (s.hw.chipFaultSet (if d = 7 then 0x03 else 0x04))) ∧
  (∀ (s : State) (r : RegionId) (differ : Nat), s.hw.live = true → (∃ i < 6, differ.testBit i = true) →
    (∃ i < 6, differ.testBit (6 + i) = true) →
    exec (.commandRecordReceived r differ) s = s.to
      (let h := (s.hw.fenceBlock (2 * r.val) 0x02).fenceBlock (2 * r.val + 1) 0x02
       h.setRegion r { h.region r with matching := 0 })) ∧
  (∀ (s : State) (r : RegionId) (differ : Nat), s.hw.live = true → (∀ i < 12, differ.testBit i = false) →
    (∀ j < 2, s.hw.blockFenced (2 * r.val + j) = false) → s.hw.bit FENCE_UNIT.REGION r = false → s.hw.chipFault = false →
    exec (.commandRecordReceived r differ) s = s.to
      (((cellsOf (2 * r.val + 1)).foldl (fun (h : Hw) c => h.takeCommand c) ((cellsOf (2 * r.val)).foldl (fun (h : Hw) c => h.takeCommand c) s.hw)).countMatching r
        ((List.range 12).all (fun i => !(s.hw.cell (12 * r.val + i)).slotLost)))) ∧
  (∀ (h : Hw) (r : RegionId), h.countMatching r false = h.setRegion r { h.region r with matching := 0 }) ∧
  (∀ (h : Hw) (c : CellId), (h.cell c).slotLost = false → (h.cell c).capNew = none →
    h.takeCommand c = h.setCell c { h.cell c with
      dutyIn := some (h.cell c).outCmd, vectorNew := (h.cell c).outVec, thrNewA := some (h.cell c).outThrA, thrNewB := some (h.cell c).outThrB }) ∧
  (∀ (s : State) (r : RegionId), s.hw.live = true →
    exec (.commandWatchdog r) s = s.to (s.hw.fenceRegion r 0x02)) ∧
  (∀ (s : State) (q : Requester) (k : BlockId) (r : RegionId) (j : Fin 2), s.admits q (REGION_RETURN r) (BitVec.ofNat 32 (2 ^ j.val)) →
    k.val = 2 * r.val + j.val → s.hw.bit FENCE_UNIT.REGION r = true → s.hw.regionHolds k = true → s.hw.blockActive k = true →
    s.hw.on (REGION_RETURN.CLEARED r) = true → s.hw.rd (returnState k) = 1 →
    exec (.regionReturnRequest q r j) s = s.wrote (REGION_RETURN r)
      ((cellsOf k).foldl (fun (h : Hw) c =>
          if (h.cell c).diagStage ≠ 0 ∨ (h.cell c).preCharge ≠ 0 then h
          else if h.on (LEG_GD_STATUS.BST_OK c) = true then h.startDiag c 3
          else (h.setCell c { h.cell c with preCharge := 3, testing := true }).applyHold c)
        ((s.hw.wr (returnState k) 2).wrB (returnRequest k) true))) ∧
  (∀ (s : State) (k : BlockId) (r : RegionId) (j : Fin 2), s.hw.live = true → k.val = 2 * r.val + j.val → s.hw.rd (returnState k) = 2 →
    (∀ i < 6, (s.hw.cell (6 * k.val + i)).diagStage = 0 ∧ (s.hw.cell (6 * k.val + i)).preCharge = 0 ∧
    s.hw.rd (LEG_DIAG_RESULT.STATE (6 * k.val + i)) ≠ 3) →
    exec (.regionReturnChecksDone r j []) s = s.to
      ((((List.range 6).foldl (fun (h : Hw) i => h.setCell (6 * k.val + i) { h.cell (6 * k.val + i) with retWait := true }) s.hw).wr
        (returnState k) 3).syncFences)) ∧
  (∀ (s : State) (d : DieId) (answers : List DieAnswer), s.hw.live = true → s.hw.dieAuthentic d answers = true → d.val < 2 ∨ 5 < d.val →
    exec (.dieReauthentication d answers) s = s.to { s.hw.setDie d { s.hw.die d with retries := 0, retrying := false } with fresh := s.hw.fresh + 1 }) ∧
  (∀ (s : State) (r : RegionId) (d : DieId) (answers : List DieAnswer), s.hw.live = true → s.hw.dieAuthentic d answers = true →
    d.val = r.val + 2 →
    exec (.dieReauthentication d answers) s = s.to
      (let h := s.hw.setDie d { s.hw.die d with retries := 0, retrying := false }
       { (if h.rd (DIE_STATE.DIE d) = 3 then h.wr (DIE_STATE.DIE d) 2 else h).clearRegionCause r 0x01 with fresh := s.hw.fresh + 1 })) ∧
  (∀ (s : State) (r : RegionId) (d : DieId) (answers : List DieAnswer), s.hw.live = true → s.hw.dieAuthentic d answers = true →
    d.val = r.val + 2 → (s.hw.die d).retrying = true →
    exec (.dieReauthRetry d answers) s = s.to
      (let h := s.hw.setDie d { s.hw.die d with retries := 0, retrying := false }
       { (if h.rd (DIE_STATE.DIE d) = 3 then h.wr (DIE_STATE.DIE d) 2 else h).clearRegionCause r 0x01 with fresh := s.hw.fresh + 1 })) ∧
  (∀ (s : State) (d : DieId) (answers : List DieAnswer), s.hw.live = true → s.hw.dieAuthentic d answers = false →
    exec (.dieReauthentication d answers) s = s.to { s.hw.setDie d { s.hw.die d with retries := 0, retrying := true } with fresh := s.hw.fresh + 1 }) ∧
  (∀ (s : State) (d : DieId) (answers : List DieAnswer), s.hw.live = true → s.hw.dieAuthentic d answers = false →
    (s.hw.die d).retrying = true → (s.hw.die d).retries < 2 →
    exec (.dieReauthRetry d answers) s = s.to { s.hw.setDie d { s.hw.die d with retries := (s.hw.die d).retries + 1 } with fresh := s.hw.fresh + 1 }) ∧
  (∀ (s : State) (r : RegionId) (d : DieId) (answers : List DieAnswer), s.hw.live = true → s.hw.dieAuthentic d answers = false →
    d.val = r.val + 2 → (s.hw.die d).retrying = true → 2 ≤ (s.hw.die d).retries →
    exec (.dieReauthRetry d answers) s = s.to
      { (s.hw.setDie d { s.hw.die d with retries := 0, retrying := false }).fenceRegion r 0x01 with fresh := s.hw.fresh + 1 }) ∧
  (∀ (s : State) (d : DieId) (answers : List DieAnswer), s.hw.live = true → s.hw.dieAuthentic d answers = false → d = 0 ∨ d = 1 ∨ d = 7 →
    (s.hw.die d).retrying = true → 2 ≤ (s.hw.die d).retries →
    exec (.dieReauthRetry d answers) s = s.to
      { ((s.hw.setDie d { s.hw.die d with retries := 0, retrying := false }).wr (DIE_STATE.DIE d) 4).chipFaultSet 0x07 with fresh := s.hw.fresh + 1 })
end

