-- ==== Sys2Proof/Laws/Bits.lean ====
section
/-!
SUPPORT. Laws of bit fields: a field that is set reads back, and its disjoint neighbours stand.
-/
namespace Sys2Proof.Machine

theorem Bits.get_eq_extract (w : Word) (hi lo : Nat) : Bits.get w hi lo = ((w.toNat >>> lo) % 2 ^ (hi + 1 - lo)) := rfl

theorem Bits.testBit_get (w : Word) (hi lo i : Nat) : (Bits.get w hi lo).testBit i = (decide (i < hi + 1 - lo) && w.getLsbD (lo + i)) := by
  simp [Bits.get, Nat.testBit_mod_two_pow, Nat.testBit_shiftRight, BitVec.getLsbD]

theorem Bits.getLsbD_mask (hi lo i : Nat) : (Bits.mask hi lo).getLsbD i = (decide (i < 32) && decide (lo ≤ i) && decide (i < hi + 1)) := by
  rw [Bits.mask, BitVec.getLsbD_shiftLeft, BitVec.getLsbD_ofNat, Nat.testBit_two_pow_sub_one, Bool.eq_iff_iff]
  simp
  omega

theorem Bits.getLsbD_set (w : Word) (hi lo v i : Nat) :
    (Bits.set w hi lo v).getLsbD i =
      if lo ≤ i ∧ i ≤ hi then decide (i < 32) && v.testBit (i - lo) else w.getLsbD i := by
  simp only [Bits.set, BitVec.getLsbD_or, BitVec.getLsbD_and, BitVec.getLsbD_not, Bits.getLsbD_mask, BitVec.getLsbD_shiftLeft,
    BitVec.getLsbD_ofNat]
  by_cases h1 : i < 32
  · by_cases h2 : lo ≤ i
    · by_cases h3 : i < hi + 1
      · have h4 : i ≤ hi := by omega
        have h5 : ¬ i < lo := by omega
        have h6 : i - lo < 32 := by omega
        simp [h1, h2, h3, h4, h5, h6]
      · have h4 : ¬ i ≤ hi := by omega
        simp [h1, h2, h3, h4]
    · simp [h1, h2]
  · have h0 : w.getLsbD i = false := BitVec.getLsbD_of_ge w i (by omega)
    simp [h1, h0]

/-- A field that is set reads back modulo its width. -/
theorem Bits.get_set_same (w : Word) (hi lo v : Nat) (h : hi < 32) : Bits.get (Bits.set w hi lo v) hi lo = v % 2 ^ (hi + 1 - lo) := by
  apply Nat.eq_of_testBit_eq
  intro i
  rw [Bits.testBit_get, Bits.getLsbD_set, Nat.testBit_mod_two_pow]
  by_cases hi2 : i < hi + 1 - lo
  · have h1 : lo ≤ lo + i := by omega
    have h2 : lo + i ≤ hi := by omega
    have h3 : lo + i < 32 := by omega
    simp [hi2, h2, h3]
  · simp [hi2]

/-- Setting a field leaves the fields beside it. -/
theorem Bits.get_set_ne (w : Word) (hi lo v hi' lo' : Nat) (h : hi' < lo ∨ hi < lo') :
    Bits.get (Bits.set w hi lo v) hi' lo' = Bits.get w hi' lo' := by
  apply Nat.eq_of_testBit_eq
  intro i
  rw [Bits.testBit_get, Bits.testBit_get, Bits.getLsbD_set]
  by_cases hi2 : i < hi' + 1 - lo'
  · have : ¬ (lo ≤ lo' + i ∧ lo' + i ≤ hi) := by omega
    simp [this]
  · simp [hi2]

/-- A field's value is below its size. -/
theorem Bits.get_lt (w : Word) (hi lo : Nat) : Bits.get w hi lo < 2 ^ (hi + 1 - lo) := Nat.mod_lt _ (Nat.two_pow_pos _)

end Sys2Proof.Machine
end

