-- ==== Sys2Proof/Laws/Table.lean ====
section
/-!
SUPPORT. Laws of sparse tables: reading an entry back, leaving the others, and the canonical form that `Tab.put` keeps.
-/
namespace Sys2Proof.Machine

theorem Tab.get_del_same {α : Type} (t : List (Nat × α)) (k : Nat) (d : α) : Tab.get (Tab.del t k) k d = d := by
  induction t with
  | nil => rfl
  | cons e r ih =>
    obtain ⟨k', v⟩ := e
    by_cases h : k' = k <;> simp [Tab.del, Tab.get, h, ih]

theorem Tab.get_del_ne {α : Type} (t : List (Nat × α)) (k j : Nat) (d : α) (hj : j ≠ k) :
    Tab.get (Tab.del t k) j d = Tab.get t j d := by
  induction t with
  | nil => rfl
  | cons e r ih =>
    obtain ⟨k', v⟩ := e
    by_cases h : k' = k
    · have h3 : ¬ k = j := fun e => hj e.symm
      simp [Tab.del, Tab.get, ih, h, h3]
    · rw [Tab.del, if_neg h, Tab.get, Tab.get, ih]

theorem Tab.get_ins_same {α : Type} (t : List (Nat × α)) (k : Nat) (v d : α) (hk : ∀ e ∈ t, e.1 ≠ k) :
    Tab.get (Tab.ins t k v) k d = v := by
  induction t with
  | nil => simp [Tab.ins, Tab.get]
  | cons e r ih =>
    obtain ⟨k', w⟩ := e
    have h1 : k' ≠ k := hk (k', w) (by simp)
    have h2 : ∀ e ∈ r, e.1 ≠ k := fun e he => hk e (by simp [he])
    by_cases h : k < k' <;> simp [Tab.ins, Tab.get, h, h1, ih h2]

theorem Tab.get_ins_ne {α : Type} (t : List (Nat × α)) (k j : Nat) (v d : α) (hj : j ≠ k) :
    Tab.get (Tab.ins t k v) j d = Tab.get t j d := by
  induction t with
  | nil =>
    have h3 : ¬ k = j := fun e => hj e.symm
    simp [Tab.ins, Tab.get, h3]
  | cons e r ih =>
    obtain ⟨k', w⟩ := e
    have h3 : ¬ k = j := fun e => hj e.symm
    by_cases h : k < k'
    · simp [Tab.ins, Tab.get, h, h3]
    · rw [Tab.ins, if_neg h, Tab.get, Tab.get, ih]

theorem Tab.del_ne {α : Type} (t : List (Nat × α)) (k : Nat) : ∀ e ∈ Tab.del t k, e.1 ≠ k := by
  induction t with
  | nil => simp [Tab.del]
  | cons e r ih =>
    obtain ⟨k', v⟩ := e
    by_cases h : k' = k
    · simpa [Tab.del, h] using ih
    · intro e he
      simp only [Tab.del, h, if_false, List.mem_cons] at he
      rcases he with rfl | he
      · exact h
      · exact ih e he

/-- An entry that is put reads back. -/
theorem Tab.get_put_same {α : Type} [DecidableEq α] (t : List (Nat × α)) (k : Nat) (v d : α) : Tab.get (Tab.put t k v d) k d = v := by
  unfold Tab.put
  split
  · rename_i h; rw [Tab.get_del_same, h]
  · exact Tab.get_ins_same _ _ _ _ (Tab.del_ne t k)

/-- Putting an entry leaves every other key. -/
theorem Tab.get_put_ne {α : Type} [DecidableEq α] (t : List (Nat × α)) (k j : Nat) (v d e : α) (hj : j ≠ k) :
    Tab.get (Tab.put t k v d) j e = Tab.get t j e := by
  unfold Tab.put
  split
  · exact Tab.get_del_ne t k j e hj
  · rw [Tab.get_ins_ne _ _ _ _ _ hj, Tab.get_del_ne t k j e hj]

/-- Reading an entry after a put, in one equation. -/
theorem Tab.get_put {α : Type} [DecidableEq α] (t : List (Nat × α)) (k j : Nat) (v d : α) :
    Tab.get (Tab.put t k v d) j d = if j = k then v else Tab.get t j d := by
  split
  · rename_i h; subst h; exact Tab.get_put_same t j v d
  · rename_i h; exact Tab.get_put_ne t k j v d d h

/-- Dropping a key after its entry was put in. -/
theorem Tab.del_ins {α : Type} (t : List (Nat × α)) (k : Nat) (v : α) : Tab.del (Tab.ins t k v) k = Tab.del t k := by
  induction t with
  | nil => simp [Tab.ins, Tab.del]
  | cons e r ih =>
    obtain ⟨k', w⟩ := e
    by_cases h : k < k'
    · simp [Tab.ins, Tab.del, h]
    · by_cases h2 : k' = k <;> simp [Tab.ins, Tab.del, h, h2, ih]

theorem Tab.del_del {α : Type} (t : List (Nat × α)) (k : Nat) : Tab.del (Tab.del t k) k = Tab.del t k := by
  induction t with
  | nil => rfl
  | cons e r ih =>
    obtain ⟨k', w⟩ := e
    by_cases h : k' = k <;> simp [Tab.del, h, ih]

/-- The last entry put for a key is the one that counts. -/
theorem Tab.put_put {α : Type} [DecidableEq α] (t : List (Nat × α)) (k : Nat) (a b d : α) :
    Tab.put (Tab.put t k a d) k b d = Tab.put t k b d := by
  have h : Tab.del (Tab.put t k a d) k = Tab.del t k := by
    unfold Tab.put
    split
    · exact Tab.del_del t k
    · rw [Tab.del_ins, Tab.del_del]
  change (if b = d then Tab.del (Tab.put t k a d) k else Tab.ins (Tab.del (Tab.put t k a d) k) k b) = _
  rw [h]
  rfl

end Sys2Proof.Machine
end

