-- ==== Sys2Proof/Laws/State.lean ====
section
/-!
SUPPORT. One lemma per update and per read of the state: an update of one table or register leaves every other, and a table's entry that is set
reads back. The reads of registers after register updates are in Laws/Regs.lean.
-/
namespace Sys2Proof.Machine

/-- `setCell` reads back. -/
@[simp] theorem Hw.setCell_cell (h : Hw) (c : Nat) (x : Cell) : (h.setCell c x).cell c = x := Tab.get_put_same _ _ _ _

@[simp] theorem Hw.setCell_setCell (h : Hw) (c : Nat) (x : Cell) (y : Cell) : (h.setCell c x).setCell c y = h.setCell c y := by simp [Hw.setCell, Tab.put_put]

theorem Hw.setCell_cell_ne (h : Hw) (c : Nat) (x : Cell) (j : Nat) (hj : j ≠ c) : (h.setCell c x).cell j = h.cell j := Tab.get_put_ne _ _ _ _ _ _ hj

/-- `setBlock` reads back. -/
@[simp] theorem Hw.setBlock_block (h : Hw) (k : Nat) (x : Block) : (h.setBlock k x).block k = x := Tab.get_put_same _ _ _ _

@[simp] theorem Hw.setBlock_setBlock (h : Hw) (k : Nat) (x : Block) (y : Block) : (h.setBlock k x).setBlock k y = h.setBlock k y := by simp [Hw.setBlock, Tab.put_put]

theorem Hw.setBlock_block_ne (h : Hw) (k : Nat) (x : Block) (j : Nat) (hj : j ≠ k) : (h.setBlock k x).block j = h.block j := Tab.get_put_ne _ _ _ _ _ _ hj

/-- `setThread` reads back. -/
@[simp] theorem Hw.setThread_thread (h : Hw) (k t : Nat) (x : Thread) : (h.setThread k t x).thread k t = x := Tab.get_put_same _ _ _ _

@[simp] theorem Hw.setThread_setThread (h : Hw) (k t : Nat) (x : Thread) (y : Thread) : (h.setThread k t x).setThread k t y = h.setThread k t y := by simp [Hw.setThread, Tab.put_put]

/-- `setLaw` reads back. -/
@[simp] theorem Hw.setLaw_law (h : Hw) (k l : Nat) (x : Law) : (h.setLaw k l x).law k l = x := Tab.get_put_same _ _ _ _

@[simp] theorem Hw.setLaw_setLaw (h : Hw) (k l : Nat) (x : Law) (y : Law) : (h.setLaw k l x).setLaw k l y = h.setLaw k l y := by simp [Hw.setLaw, Tab.put_put]

/-- `setPacer` reads back. -/
@[simp] theorem Hw.setPacer_pacer (h : Hw) (k n : Nat) (x : Pacer) : (h.setPacer k n x).pacer k n = x := Tab.get_put_same _ _ _ _

@[simp] theorem Hw.setPacer_setPacer (h : Hw) (k n : Nat) (x : Pacer) (y : Pacer) : (h.setPacer k n x).setPacer k n y = h.setPacer k n y := by simp [Hw.setPacer, Tab.put_put]

/-- `setPart` reads back. -/
@[simp] theorem Hw.setPart_part (h : Hw) (p : Nat) (x : Part) : (h.setPart p x).part p = x := Tab.get_put_same _ _ _ _

@[simp] theorem Hw.setPart_setPart (h : Hw) (p : Nat) (x : Part) (y : Part) : (h.setPart p x).setPart p y = h.setPart p y := by simp [Hw.setPart, Tab.put_put]

theorem Hw.setPart_part_ne (h : Hw) (p : Nat) (x : Part) (j : Nat) (hj : j ≠ p) : (h.setPart p x).part j = h.part j := Tab.get_put_ne _ _ _ _ _ _ hj

/-- `setRecorder` reads back. -/
@[simp] theorem Hw.setRecorder_recorder (h : Hw) (p : Nat) (x : Recorder) : (h.setRecorder p x).recorder p = x := Tab.get_put_same _ _ _ _

@[simp] theorem Hw.setRecorder_setRecorder (h : Hw) (p : Nat) (x : Recorder) (y : Recorder) : (h.setRecorder p x).setRecorder p y = h.setRecorder p y := by simp [Hw.setRecorder, Tab.put_put]

theorem Hw.setRecorder_recorder_ne (h : Hw) (p : Nat) (x : Recorder) (j : Nat) (hj : j ≠ p) : (h.setRecorder p x).recorder j = h.recorder j := Tab.get_put_ne _ _ _ _ _ _ hj

/-- `setRegion` reads back. -/
@[simp] theorem Hw.setRegion_region (h : Hw) (r : Nat) (x : Region) : (h.setRegion r x).region r = x := Tab.get_put_same _ _ _ _

@[simp] theorem Hw.setRegion_setRegion (h : Hw) (r : Nat) (x : Region) (y : Region) : (h.setRegion r x).setRegion r y = h.setRegion r y := by simp [Hw.setRegion, Tab.put_put]

theorem Hw.setRegion_region_ne (h : Hw) (r : Nat) (x : Region) (j : Nat) (hj : j ≠ r) : (h.setRegion r x).region j = h.region j := Tab.get_put_ne _ _ _ _ _ _ hj

/-- `setDie` reads back. -/
@[simp] theorem Hw.setDie_die (h : Hw) (d : Nat) (x : Die) : (h.setDie d x).die d = x := Tab.get_put_same _ _ _ _

@[simp] theorem Hw.setDie_setDie (h : Hw) (d : Nat) (x : Die) (y : Die) : (h.setDie d x).setDie d y = h.setDie d y := by simp [Hw.setDie, Tab.put_put]

theorem Hw.setDie_die_ne (h : Hw) (d : Nat) (x : Die) (j : Nat) (hj : j ≠ d) : (h.setDie d x).die j = h.die j := Tab.get_put_ne _ _ _ _ _ _ hj

/-- `setTrio` reads back. -/
@[simp] theorem Hw.setTrio_trio (h : Hw) (t : Nat) (x : Trio) : (h.setTrio t x).trio t = x := Tab.get_put_same _ _ _ _

@[simp] theorem Hw.setTrio_setTrio (h : Hw) (t : Nat) (x : Trio) (y : Trio) : (h.setTrio t x).setTrio t y = h.setTrio t y := by simp [Hw.setTrio, Tab.put_put]

theorem Hw.setTrio_trio_ne (h : Hw) (t : Nat) (x : Trio) (j : Nat) (hj : j ≠ t) : (h.setTrio t x).trio j = h.trio j := Tab.get_put_ne _ _ _ _ _ _ hj

/-- `setConv` reads back. -/
@[simp] theorem Hw.setConv_conv (h : Hw) (n : Nat) (x : Conv) : (h.setConv n x).conv n = x := Tab.get_put_same _ _ _ _

@[simp] theorem Hw.setConv_setConv (h : Hw) (n : Nat) (x : Conv) (y : Conv) : (h.setConv n x).setConv n y = h.setConv n y := by simp [Hw.setConv, Tab.put_put]

theorem Hw.setConv_conv_ne (h : Hw) (n : Nat) (x : Conv) (j : Nat) (hj : j ≠ n) : (h.setConv n x).conv j = h.conv j := Tab.get_put_ne _ _ _ _ _ _ hj

/-- `setArea` reads back. -/
@[simp] theorem Hw.setArea_area (h : Hw) (a : Nat) (x : CapArea) : (h.setArea a x).area a = x := Tab.get_put_same _ _ _ _

@[simp] theorem Hw.setArea_setArea (h : Hw) (a : Nat) (x : CapArea) (y : CapArea) : (h.setArea a x).setArea a y = h.setArea a y := by simp [Hw.setArea, Tab.put_put]

theorem Hw.setArea_area_ne (h : Hw) (a : Nat) (x : CapArea) (j : Nat) (hj : j ≠ a) : (h.setArea a x).area j = h.area j := Tab.get_put_ne _ _ _ _ _ _ hj

/-- `setPosUnit` reads back. -/
@[simp] theorem Hw.setPosUnit_posUnit (h : Hw) (u : Nat) (x : PosUnit) : (h.setPosUnit u x).posUnit u = x := Tab.get_put_same _ _ _ _

@[simp] theorem Hw.setPosUnit_setPosUnit (h : Hw) (u : Nat) (x : PosUnit) (y : PosUnit) : (h.setPosUnit u x).setPosUnit u y = h.setPosUnit u y := by simp [Hw.setPosUnit, Tab.put_put]

theorem Hw.setPosUnit_posUnit_ne (h : Hw) (u : Nat) (x : PosUnit) (j : Nat) (hj : j ≠ u) : (h.setPosUnit u x).posUnit j = h.posUnit j := Tab.get_put_ne _ _ _ _ _ _ hj

/-- `setCmp` reads back. -/
@[simp] theorem Hw.setCmp_cmp (h : Hw) (k m : Nat) (x : CmpCh) : (h.setCmp k m x).cmp k m = x := Tab.get_put_same _ _ _ _

@[simp] theorem Hw.setCmp_setCmp (h : Hw) (k m : Nat) (x : CmpCh) (y : CmpCh) : (h.setCmp k m x).setCmp k m y = h.setCmp k m y := by simp [Hw.setCmp, Tab.put_put]

/-- `setChan` reads back. -/
@[simp] theorem Hw.setChan_chan (h : Hw) (n : Nat) (x : CanCh) : (h.setChan n x).chan n = x := Tab.get_put_same _ _ _ _

@[simp] theorem Hw.setChan_setChan (h : Hw) (n : Nat) (x : CanCh) (y : CanCh) : (h.setChan n x).setChan n y = h.setChan n y := by simp [Hw.setChan, Tab.put_put]

theorem Hw.setChan_chan_ne (h : Hw) (n : Nat) (x : CanCh) (j : Nat) (hj : j ≠ n) : (h.setChan n x).chan j = h.chan j := Tab.get_put_ne _ _ _ _ _ _ hj

/-- `setObj` reads back. -/
@[simp] theorem Hw.setObj_obj (h : Hw) (o : Nat) (x : Obj) : (h.setObj o x).obj o = x := Tab.get_put_same _ _ _ _

@[simp] theorem Hw.setObj_setObj (h : Hw) (o : Nat) (x : Obj) (y : Obj) : (h.setObj o x).setObj o y = h.setObj o y := by simp [Hw.setObj, Tab.put_put]

theorem Hw.setObj_obj_ne (h : Hw) (o : Nat) (x : Obj) (j : Nat) (hj : j ≠ o) : (h.setObj o x).obj j = h.obj j := Tab.get_put_ne _ _ _ _ _ _ hj

-- `setCell`
@[simp] theorem Hw.setCell_block (h : Hw) (c : Nat) (x : Cell) (y : Nat) : (h.setCell c x).block y = h.block y := rfl
@[simp] theorem Hw.setCell_thread (h : Hw) (c : Nat) (x : Cell) (y z : Nat) : (h.setCell c x).thread y z = h.thread y z := rfl
@[simp] theorem Hw.setCell_law (h : Hw) (c : Nat) (x : Cell) (y z : Nat) : (h.setCell c x).law y z = h.law y z := rfl
@[simp] theorem Hw.setCell_pacer (h : Hw) (c : Nat) (x : Cell) (y z : Nat) : (h.setCell c x).pacer y z = h.pacer y z := rfl
@[simp] theorem Hw.setCell_part (h : Hw) (c : Nat) (x : Cell) (y : Nat) : (h.setCell c x).part y = h.part y := rfl
@[simp] theorem Hw.setCell_recorder (h : Hw) (c : Nat) (x : Cell) (y : Nat) : (h.setCell c x).recorder y = h.recorder y := rfl
@[simp] theorem Hw.setCell_region (h : Hw) (c : Nat) (x : Cell) (y : Nat) : (h.setCell c x).region y = h.region y := rfl
@[simp] theorem Hw.setCell_die (h : Hw) (c : Nat) (x : Cell) (y : Nat) : (h.setCell c x).die y = h.die y := rfl
@[simp] theorem Hw.setCell_trio (h : Hw) (c : Nat) (x : Cell) (y : Nat) : (h.setCell c x).trio y = h.trio y := rfl
@[simp] theorem Hw.setCell_conv (h : Hw) (c : Nat) (x : Cell) (y : Nat) : (h.setCell c x).conv y = h.conv y := rfl
@[simp] theorem Hw.setCell_area (h : Hw) (c : Nat) (x : Cell) (y : Nat) : (h.setCell c x).area y = h.area y := rfl
@[simp] theorem Hw.setCell_posUnit (h : Hw) (c : Nat) (x : Cell) (y : Nat) : (h.setCell c x).posUnit y = h.posUnit y := rfl
@[simp] theorem Hw.setCell_cmp (h : Hw) (c : Nat) (x : Cell) (y z : Nat) : (h.setCell c x).cmp y z = h.cmp y z := rfl
@[simp] theorem Hw.setCell_chan (h : Hw) (c : Nat) (x : Cell) (y : Nat) : (h.setCell c x).chan y = h.chan y := rfl
@[simp] theorem Hw.setCell_obj (h : Hw) (c : Nat) (x : Cell) (y : Nat) : (h.setCell c x).obj y = h.obj y := rfl
@[simp] theorem Hw.setCell_reg (h : Hw) (c : Nat) (x : Cell) (y : RegId) : (h.setCell c x).reg y = h.reg y := rfl
@[simp] theorem Hw.setCell_rd (h : Hw) (c : Nat) (x : Cell) (y : Fld) : (h.setCell c x).rd y = h.rd y := rfl
@[simp] theorem Hw.setCell_rdI (h : Hw) (c : Nat) (x : Cell) (y : Fld) : (h.setCell c x).rdI y = h.rdI y := rfl
@[simp] theorem Hw.setCell_on (h : Hw) (c : Nat) (x : Cell) (y : Fld) : (h.setCell c x).on y = h.on y := rfl
@[simp] theorem Hw.setCell_bit (h : Hw) (c : Nat) (x : Cell) (y : Fld) (z : Nat) : (h.setCell c x).bit y z = h.bit y z := rfl
@[simp] theorem Hw.setCell_stepCount (h : Hw) (c : Nat) (x : Cell) : (h.setCell c x).stepCount = h.stepCount := rfl
@[simp] theorem Hw.setCell_phase (h : Hw) (c : Nat) (x : Cell) : (h.setCell c x).phase = h.phase := rfl
@[simp] theorem Hw.setCell_power (h : Hw) (c : Nat) (x : Cell) : (h.setCell c x).power = h.power := rfl
@[simp] theorem Hw.setCell_fresh (h : Hw) (c : Nat) (x : Cell) : (h.setCell c x).fresh = h.fresh := rfl
@[simp] theorem Hw.setCell_faultLog (h : Hw) (c : Nat) (x : Cell) : (h.setCell c x).faultLog = h.faultLog := rfl
@[simp] theorem Hw.setCell_lastStatus (h : Hw) (c : Nat) (x : Cell) : (h.setCell c x).lastStatus = h.lastStatus := rfl
@[simp] theorem Hw.setCell_lastData (h : Hw) (c : Nat) (x : Cell) : (h.setCell c x).lastData = h.lastData := rfl
@[simp] theorem Hw.setCell_load (h : Hw) (c : Nat) (x : Cell) : (h.setCell c x).load = h.load := rfl
@[simp] theorem Hw.setCell_dbgSt (h : Hw) (c : Nat) (x : Cell) : (h.setCell c x).dbgSt = h.dbgSt := rfl
@[simp] theorem Hw.setCell_serial (h : Hw) (c : Nat) (x : Cell) : (h.setCell c x).serial = h.serial := rfl
@[simp] theorem Hw.setCell_service (h : Hw) (c : Nat) (x : Cell) : (h.setCell c x).service = h.service := rfl
@[simp] theorem Hw.setCell_discharge (h : Hw) (c : Nat) (x : Cell) : (h.setCell c x).discharge = h.discharge := rfl
@[simp] theorem Hw.setCell_live (h : Hw) (c : Nat) (x : Cell) : (h.setCell c x).live = h.live := rfl

-- `setBlock`
@[simp] theorem Hw.setBlock_cell (h : Hw) (k : Nat) (x : Block) (y : Nat) : (h.setBlock k x).cell y = h.cell y := rfl
@[simp] theorem Hw.setBlock_thread (h : Hw) (k : Nat) (x : Block) (y z : Nat) : (h.setBlock k x).thread y z = h.thread y z := rfl
@[simp] theorem Hw.setBlock_law (h : Hw) (k : Nat) (x : Block) (y z : Nat) : (h.setBlock k x).law y z = h.law y z := rfl
@[simp] theorem Hw.setBlock_pacer (h : Hw) (k : Nat) (x : Block) (y z : Nat) : (h.setBlock k x).pacer y z = h.pacer y z := rfl
@[simp] theorem Hw.setBlock_part (h : Hw) (k : Nat) (x : Block) (y : Nat) : (h.setBlock k x).part y = h.part y := rfl
@[simp] theorem Hw.setBlock_recorder (h : Hw) (k : Nat) (x : Block) (y : Nat) : (h.setBlock k x).recorder y = h.recorder y := rfl
@[simp] theorem Hw.setBlock_region (h : Hw) (k : Nat) (x : Block) (y : Nat) : (h.setBlock k x).region y = h.region y := rfl
@[simp] theorem Hw.setBlock_die (h : Hw) (k : Nat) (x : Block) (y : Nat) : (h.setBlock k x).die y = h.die y := rfl
@[simp] theorem Hw.setBlock_trio (h : Hw) (k : Nat) (x : Block) (y : Nat) : (h.setBlock k x).trio y = h.trio y := rfl
@[simp] theorem Hw.setBlock_conv (h : Hw) (k : Nat) (x : Block) (y : Nat) : (h.setBlock k x).conv y = h.conv y := rfl
@[simp] theorem Hw.setBlock_area (h : Hw) (k : Nat) (x : Block) (y : Nat) : (h.setBlock k x).area y = h.area y := rfl
@[simp] theorem Hw.setBlock_posUnit (h : Hw) (k : Nat) (x : Block) (y : Nat) : (h.setBlock k x).posUnit y = h.posUnit y := rfl
@[simp] theorem Hw.setBlock_cmp (h : Hw) (k : Nat) (x : Block) (y z : Nat) : (h.setBlock k x).cmp y z = h.cmp y z := rfl
@[simp] theorem Hw.setBlock_chan (h : Hw) (k : Nat) (x : Block) (y : Nat) : (h.setBlock k x).chan y = h.chan y := rfl
@[simp] theorem Hw.setBlock_obj (h : Hw) (k : Nat) (x : Block) (y : Nat) : (h.setBlock k x).obj y = h.obj y := rfl
@[simp] theorem Hw.setBlock_reg (h : Hw) (k : Nat) (x : Block) (y : RegId) : (h.setBlock k x).reg y = h.reg y := rfl
@[simp] theorem Hw.setBlock_rd (h : Hw) (k : Nat) (x : Block) (y : Fld) : (h.setBlock k x).rd y = h.rd y := rfl
@[simp] theorem Hw.setBlock_rdI (h : Hw) (k : Nat) (x : Block) (y : Fld) : (h.setBlock k x).rdI y = h.rdI y := rfl
@[simp] theorem Hw.setBlock_on (h : Hw) (k : Nat) (x : Block) (y : Fld) : (h.setBlock k x).on y = h.on y := rfl
@[simp] theorem Hw.setBlock_bit (h : Hw) (k : Nat) (x : Block) (y : Fld) (z : Nat) : (h.setBlock k x).bit y z = h.bit y z := rfl
@[simp] theorem Hw.setBlock_stepCount (h : Hw) (k : Nat) (x : Block) : (h.setBlock k x).stepCount = h.stepCount := rfl
@[simp] theorem Hw.setBlock_phase (h : Hw) (k : Nat) (x : Block) : (h.setBlock k x).phase = h.phase := rfl
@[simp] theorem Hw.setBlock_power (h : Hw) (k : Nat) (x : Block) : (h.setBlock k x).power = h.power := rfl
@[simp] theorem Hw.setBlock_fresh (h : Hw) (k : Nat) (x : Block) : (h.setBlock k x).fresh = h.fresh := rfl
@[simp] theorem Hw.setBlock_faultLog (h : Hw) (k : Nat) (x : Block) : (h.setBlock k x).faultLog = h.faultLog := rfl
@[simp] theorem Hw.setBlock_lastStatus (h : Hw) (k : Nat) (x : Block) : (h.setBlock k x).lastStatus = h.lastStatus := rfl
@[simp] theorem Hw.setBlock_lastData (h : Hw) (k : Nat) (x : Block) : (h.setBlock k x).lastData = h.lastData := rfl
@[simp] theorem Hw.setBlock_load (h : Hw) (k : Nat) (x : Block) : (h.setBlock k x).load = h.load := rfl
@[simp] theorem Hw.setBlock_dbgSt (h : Hw) (k : Nat) (x : Block) : (h.setBlock k x).dbgSt = h.dbgSt := rfl
@[simp] theorem Hw.setBlock_serial (h : Hw) (k : Nat) (x : Block) : (h.setBlock k x).serial = h.serial := rfl
@[simp] theorem Hw.setBlock_service (h : Hw) (k : Nat) (x : Block) : (h.setBlock k x).service = h.service := rfl
@[simp] theorem Hw.setBlock_discharge (h : Hw) (k : Nat) (x : Block) : (h.setBlock k x).discharge = h.discharge := rfl
@[simp] theorem Hw.setBlock_live (h : Hw) (k : Nat) (x : Block) : (h.setBlock k x).live = h.live := rfl

-- `setThread`
@[simp] theorem Hw.setThread_cell (h : Hw) (k t : Nat) (x : Thread) (y : Nat) : (h.setThread k t x).cell y = h.cell y := rfl
@[simp] theorem Hw.setThread_block (h : Hw) (k t : Nat) (x : Thread) (y : Nat) : (h.setThread k t x).block y = h.block y := rfl
@[simp] theorem Hw.setThread_law (h : Hw) (k t : Nat) (x : Thread) (y z : Nat) : (h.setThread k t x).law y z = h.law y z := rfl
@[simp] theorem Hw.setThread_pacer (h : Hw) (k t : Nat) (x : Thread) (y z : Nat) : (h.setThread k t x).pacer y z = h.pacer y z := rfl
@[simp] theorem Hw.setThread_part (h : Hw) (k t : Nat) (x : Thread) (y : Nat) : (h.setThread k t x).part y = h.part y := rfl
@[simp] theorem Hw.setThread_recorder (h : Hw) (k t : Nat) (x : Thread) (y : Nat) : (h.setThread k t x).recorder y = h.recorder y := rfl
@[simp] theorem Hw.setThread_region (h : Hw) (k t : Nat) (x : Thread) (y : Nat) : (h.setThread k t x).region y = h.region y := rfl
@[simp] theorem Hw.setThread_die (h : Hw) (k t : Nat) (x : Thread) (y : Nat) : (h.setThread k t x).die y = h.die y := rfl
@[simp] theorem Hw.setThread_trio (h : Hw) (k t : Nat) (x : Thread) (y : Nat) : (h.setThread k t x).trio y = h.trio y := rfl
@[simp] theorem Hw.setThread_conv (h : Hw) (k t : Nat) (x : Thread) (y : Nat) : (h.setThread k t x).conv y = h.conv y := rfl
@[simp] theorem Hw.setThread_area (h : Hw) (k t : Nat) (x : Thread) (y : Nat) : (h.setThread k t x).area y = h.area y := rfl
@[simp] theorem Hw.setThread_posUnit (h : Hw) (k t : Nat) (x : Thread) (y : Nat) : (h.setThread k t x).posUnit y = h.posUnit y := rfl
@[simp] theorem Hw.setThread_cmp (h : Hw) (k t : Nat) (x : Thread) (y z : Nat) : (h.setThread k t x).cmp y z = h.cmp y z := rfl
@[simp] theorem Hw.setThread_chan (h : Hw) (k t : Nat) (x : Thread) (y : Nat) : (h.setThread k t x).chan y = h.chan y := rfl
@[simp] theorem Hw.setThread_obj (h : Hw) (k t : Nat) (x : Thread) (y : Nat) : (h.setThread k t x).obj y = h.obj y := rfl
@[simp] theorem Hw.setThread_reg (h : Hw) (k t : Nat) (x : Thread) (y : RegId) : (h.setThread k t x).reg y = h.reg y := rfl
@[simp] theorem Hw.setThread_rd (h : Hw) (k t : Nat) (x : Thread) (y : Fld) : (h.setThread k t x).rd y = h.rd y := rfl
@[simp] theorem Hw.setThread_rdI (h : Hw) (k t : Nat) (x : Thread) (y : Fld) : (h.setThread k t x).rdI y = h.rdI y := rfl
@[simp] theorem Hw.setThread_on (h : Hw) (k t : Nat) (x : Thread) (y : Fld) : (h.setThread k t x).on y = h.on y := rfl
@[simp] theorem Hw.setThread_bit (h : Hw) (k t : Nat) (x : Thread) (y : Fld) (z : Nat) : (h.setThread k t x).bit y z = h.bit y z := rfl
@[simp] theorem Hw.setThread_stepCount (h : Hw) (k t : Nat) (x : Thread) : (h.setThread k t x).stepCount = h.stepCount := rfl
@[simp] theorem Hw.setThread_phase (h : Hw) (k t : Nat) (x : Thread) : (h.setThread k t x).phase = h.phase := rfl
@[simp] theorem Hw.setThread_power (h : Hw) (k t : Nat) (x : Thread) : (h.setThread k t x).power = h.power := rfl
@[simp] theorem Hw.setThread_fresh (h : Hw) (k t : Nat) (x : Thread) : (h.setThread k t x).fresh = h.fresh := rfl
@[simp] theorem Hw.setThread_faultLog (h : Hw) (k t : Nat) (x : Thread) : (h.setThread k t x).faultLog = h.faultLog := rfl
@[simp] theorem Hw.setThread_lastStatus (h : Hw) (k t : Nat) (x : Thread) : (h.setThread k t x).lastStatus = h.lastStatus := rfl
@[simp] theorem Hw.setThread_lastData (h : Hw) (k t : Nat) (x : Thread) : (h.setThread k t x).lastData = h.lastData := rfl
@[simp] theorem Hw.setThread_load (h : Hw) (k t : Nat) (x : Thread) : (h.setThread k t x).load = h.load := rfl
@[simp] theorem Hw.setThread_dbgSt (h : Hw) (k t : Nat) (x : Thread) : (h.setThread k t x).dbgSt = h.dbgSt := rfl
@[simp] theorem Hw.setThread_serial (h : Hw) (k t : Nat) (x : Thread) : (h.setThread k t x).serial = h.serial := rfl
@[simp] theorem Hw.setThread_service (h : Hw) (k t : Nat) (x : Thread) : (h.setThread k t x).service = h.service := rfl
@[simp] theorem Hw.setThread_discharge (h : Hw) (k t : Nat) (x : Thread) : (h.setThread k t x).discharge = h.discharge := rfl
@[simp] theorem Hw.setThread_live (h : Hw) (k t : Nat) (x : Thread) : (h.setThread k t x).live = h.live := rfl

-- `setLaw`
@[simp] theorem Hw.setLaw_cell (h : Hw) (k l : Nat) (x : Law) (y : Nat) : (h.setLaw k l x).cell y = h.cell y := rfl
@[simp] theorem Hw.setLaw_block (h : Hw) (k l : Nat) (x : Law) (y : Nat) : (h.setLaw k l x).block y = h.block y := rfl
@[simp] theorem Hw.setLaw_thread (h : Hw) (k l : Nat) (x : Law) (y z : Nat) : (h.setLaw k l x).thread y z = h.thread y z := rfl
@[simp] theorem Hw.setLaw_pacer (h : Hw) (k l : Nat) (x : Law) (y z : Nat) : (h.setLaw k l x).pacer y z = h.pacer y z := rfl
@[simp] theorem Hw.setLaw_part (h : Hw) (k l : Nat) (x : Law) (y : Nat) : (h.setLaw k l x).part y = h.part y := rfl
@[simp] theorem Hw.setLaw_recorder (h : Hw) (k l : Nat) (x : Law) (y : Nat) : (h.setLaw k l x).recorder y = h.recorder y := rfl
@[simp] theorem Hw.setLaw_region (h : Hw) (k l : Nat) (x : Law) (y : Nat) : (h.setLaw k l x).region y = h.region y := rfl
@[simp] theorem Hw.setLaw_die (h : Hw) (k l : Nat) (x : Law) (y : Nat) : (h.setLaw k l x).die y = h.die y := rfl
@[simp] theorem Hw.setLaw_trio (h : Hw) (k l : Nat) (x : Law) (y : Nat) : (h.setLaw k l x).trio y = h.trio y := rfl
@[simp] theorem Hw.setLaw_conv (h : Hw) (k l : Nat) (x : Law) (y : Nat) : (h.setLaw k l x).conv y = h.conv y := rfl
@[simp] theorem Hw.setLaw_area (h : Hw) (k l : Nat) (x : Law) (y : Nat) : (h.setLaw k l x).area y = h.area y := rfl
@[simp] theorem Hw.setLaw_posUnit (h : Hw) (k l : Nat) (x : Law) (y : Nat) : (h.setLaw k l x).posUnit y = h.posUnit y := rfl
@[simp] theorem Hw.setLaw_cmp (h : Hw) (k l : Nat) (x : Law) (y z : Nat) : (h.setLaw k l x).cmp y z = h.cmp y z := rfl
@[simp] theorem Hw.setLaw_chan (h : Hw) (k l : Nat) (x : Law) (y : Nat) : (h.setLaw k l x).chan y = h.chan y := rfl
@[simp] theorem Hw.setLaw_obj (h : Hw) (k l : Nat) (x : Law) (y : Nat) : (h.setLaw k l x).obj y = h.obj y := rfl
@[simp] theorem Hw.setLaw_reg (h : Hw) (k l : Nat) (x : Law) (y : RegId) : (h.setLaw k l x).reg y = h.reg y := rfl
@[simp] theorem Hw.setLaw_rd (h : Hw) (k l : Nat) (x : Law) (y : Fld) : (h.setLaw k l x).rd y = h.rd y := rfl
@[simp] theorem Hw.setLaw_rdI (h : Hw) (k l : Nat) (x : Law) (y : Fld) : (h.setLaw k l x).rdI y = h.rdI y := rfl
@[simp] theorem Hw.setLaw_on (h : Hw) (k l : Nat) (x : Law) (y : Fld) : (h.setLaw k l x).on y = h.on y := rfl
@[simp] theorem Hw.setLaw_bit (h : Hw) (k l : Nat) (x : Law) (y : Fld) (z : Nat) : (h.setLaw k l x).bit y z = h.bit y z := rfl
@[simp] theorem Hw.setLaw_stepCount (h : Hw) (k l : Nat) (x : Law) : (h.setLaw k l x).stepCount = h.stepCount := rfl
@[simp] theorem Hw.setLaw_phase (h : Hw) (k l : Nat) (x : Law) : (h.setLaw k l x).phase = h.phase := rfl
@[simp] theorem Hw.setLaw_power (h : Hw) (k l : Nat) (x : Law) : (h.setLaw k l x).power = h.power := rfl
@[simp] theorem Hw.setLaw_fresh (h : Hw) (k l : Nat) (x : Law) : (h.setLaw k l x).fresh = h.fresh := rfl
@[simp] theorem Hw.setLaw_faultLog (h : Hw) (k l : Nat) (x : Law) : (h.setLaw k l x).faultLog = h.faultLog := rfl
@[simp] theorem Hw.setLaw_lastStatus (h : Hw) (k l : Nat) (x : Law) : (h.setLaw k l x).lastStatus = h.lastStatus := rfl
@[simp] theorem Hw.setLaw_lastData (h : Hw) (k l : Nat) (x : Law) : (h.setLaw k l x).lastData = h.lastData := rfl
@[simp] theorem Hw.setLaw_load (h : Hw) (k l : Nat) (x : Law) : (h.setLaw k l x).load = h.load := rfl
@[simp] theorem Hw.setLaw_dbgSt (h : Hw) (k l : Nat) (x : Law) : (h.setLaw k l x).dbgSt = h.dbgSt := rfl
@[simp] theorem Hw.setLaw_serial (h : Hw) (k l : Nat) (x : Law) : (h.setLaw k l x).serial = h.serial := rfl
@[simp] theorem Hw.setLaw_service (h : Hw) (k l : Nat) (x : Law) : (h.setLaw k l x).service = h.service := rfl
@[simp] theorem Hw.setLaw_discharge (h : Hw) (k l : Nat) (x : Law) : (h.setLaw k l x).discharge = h.discharge := rfl
@[simp] theorem Hw.setLaw_live (h : Hw) (k l : Nat) (x : Law) : (h.setLaw k l x).live = h.live := rfl

-- `setPacer`
@[simp] theorem Hw.setPacer_cell (h : Hw) (k n : Nat) (x : Pacer) (y : Nat) : (h.setPacer k n x).cell y = h.cell y := rfl
@[simp] theorem Hw.setPacer_block (h : Hw) (k n : Nat) (x : Pacer) (y : Nat) : (h.setPacer k n x).block y = h.block y := rfl
@[simp] theorem Hw.setPacer_thread (h : Hw) (k n : Nat) (x : Pacer) (y z : Nat) : (h.setPacer k n x).thread y z = h.thread y z := rfl
@[simp] theorem Hw.setPacer_law (h : Hw) (k n : Nat) (x : Pacer) (y z : Nat) : (h.setPacer k n x).law y z = h.law y z := rfl
@[simp] theorem Hw.setPacer_part (h : Hw) (k n : Nat) (x : Pacer) (y : Nat) : (h.setPacer k n x).part y = h.part y := rfl
@[simp] theorem Hw.setPacer_recorder (h : Hw) (k n : Nat) (x : Pacer) (y : Nat) : (h.setPacer k n x).recorder y = h.recorder y := rfl
@[simp] theorem Hw.setPacer_region (h : Hw) (k n : Nat) (x : Pacer) (y : Nat) : (h.setPacer k n x).region y = h.region y := rfl
@[simp] theorem Hw.setPacer_die (h : Hw) (k n : Nat) (x : Pacer) (y : Nat) : (h.setPacer k n x).die y = h.die y := rfl
@[simp] theorem Hw.setPacer_trio (h : Hw) (k n : Nat) (x : Pacer) (y : Nat) : (h.setPacer k n x).trio y = h.trio y := rfl
@[simp] theorem Hw.setPacer_conv (h : Hw) (k n : Nat) (x : Pacer) (y : Nat) : (h.setPacer k n x).conv y = h.conv y := rfl
@[simp] theorem Hw.setPacer_area (h : Hw) (k n : Nat) (x : Pacer) (y : Nat) : (h.setPacer k n x).area y = h.area y := rfl
@[simp] theorem Hw.setPacer_posUnit (h : Hw) (k n : Nat) (x : Pacer) (y : Nat) : (h.setPacer k n x).posUnit y = h.posUnit y := rfl
@[simp] theorem Hw.setPacer_cmp (h : Hw) (k n : Nat) (x : Pacer) (y z : Nat) : (h.setPacer k n x).cmp y z = h.cmp y z := rfl
@[simp] theorem Hw.setPacer_chan (h : Hw) (k n : Nat) (x : Pacer) (y : Nat) : (h.setPacer k n x).chan y = h.chan y := rfl
@[simp] theorem Hw.setPacer_obj (h : Hw) (k n : Nat) (x : Pacer) (y : Nat) : (h.setPacer k n x).obj y = h.obj y := rfl
@[simp] theorem Hw.setPacer_reg (h : Hw) (k n : Nat) (x : Pacer) (y : RegId) : (h.setPacer k n x).reg y = h.reg y := rfl
@[simp] theorem Hw.setPacer_rd (h : Hw) (k n : Nat) (x : Pacer) (y : Fld) : (h.setPacer k n x).rd y = h.rd y := rfl
@[simp] theorem Hw.setPacer_rdI (h : Hw) (k n : Nat) (x : Pacer) (y : Fld) : (h.setPacer k n x).rdI y = h.rdI y := rfl
@[simp] theorem Hw.setPacer_on (h : Hw) (k n : Nat) (x : Pacer) (y : Fld) : (h.setPacer k n x).on y = h.on y := rfl
@[simp] theorem Hw.setPacer_bit (h : Hw) (k n : Nat) (x : Pacer) (y : Fld) (z : Nat) : (h.setPacer k n x).bit y z = h.bit y z := rfl
@[simp] theorem Hw.setPacer_stepCount (h : Hw) (k n : Nat) (x : Pacer) : (h.setPacer k n x).stepCount = h.stepCount := rfl
@[simp] theorem Hw.setPacer_phase (h : Hw) (k n : Nat) (x : Pacer) : (h.setPacer k n x).phase = h.phase := rfl
@[simp] theorem Hw.setPacer_power (h : Hw) (k n : Nat) (x : Pacer) : (h.setPacer k n x).power = h.power := rfl
@[simp] theorem Hw.setPacer_fresh (h : Hw) (k n : Nat) (x : Pacer) : (h.setPacer k n x).fresh = h.fresh := rfl
@[simp] theorem Hw.setPacer_faultLog (h : Hw) (k n : Nat) (x : Pacer) : (h.setPacer k n x).faultLog = h.faultLog := rfl
@[simp] theorem Hw.setPacer_lastStatus (h : Hw) (k n : Nat) (x : Pacer) : (h.setPacer k n x).lastStatus = h.lastStatus := rfl
@[simp] theorem Hw.setPacer_lastData (h : Hw) (k n : Nat) (x : Pacer) : (h.setPacer k n x).lastData = h.lastData := rfl
@[simp] theorem Hw.setPacer_load (h : Hw) (k n : Nat) (x : Pacer) : (h.setPacer k n x).load = h.load := rfl
@[simp] theorem Hw.setPacer_dbgSt (h : Hw) (k n : Nat) (x : Pacer) : (h.setPacer k n x).dbgSt = h.dbgSt := rfl
@[simp] theorem Hw.setPacer_serial (h : Hw) (k n : Nat) (x : Pacer) : (h.setPacer k n x).serial = h.serial := rfl
@[simp] theorem Hw.setPacer_service (h : Hw) (k n : Nat) (x : Pacer) : (h.setPacer k n x).service = h.service := rfl
@[simp] theorem Hw.setPacer_discharge (h : Hw) (k n : Nat) (x : Pacer) : (h.setPacer k n x).discharge = h.discharge := rfl
@[simp] theorem Hw.setPacer_live (h : Hw) (k n : Nat) (x : Pacer) : (h.setPacer k n x).live = h.live := rfl

-- `setPart`
@[simp] theorem Hw.setPart_cell (h : Hw) (p : Nat) (x : Part) (y : Nat) : (h.setPart p x).cell y = h.cell y := rfl
@[simp] theorem Hw.setPart_block (h : Hw) (p : Nat) (x : Part) (y : Nat) : (h.setPart p x).block y = h.block y := rfl
@[simp] theorem Hw.setPart_thread (h : Hw) (p : Nat) (x : Part) (y z : Nat) : (h.setPart p x).thread y z = h.thread y z := rfl
@[simp] theorem Hw.setPart_law (h : Hw) (p : Nat) (x : Part) (y z : Nat) : (h.setPart p x).law y z = h.law y z := rfl
@[simp] theorem Hw.setPart_pacer (h : Hw) (p : Nat) (x : Part) (y z : Nat) : (h.setPart p x).pacer y z = h.pacer y z := rfl
@[simp] theorem Hw.setPart_recorder (h : Hw) (p : Nat) (x : Part) (y : Nat) : (h.setPart p x).recorder y = h.recorder y := rfl
@[simp] theorem Hw.setPart_region (h : Hw) (p : Nat) (x : Part) (y : Nat) : (h.setPart p x).region y = h.region y := rfl
@[simp] theorem Hw.setPart_die (h : Hw) (p : Nat) (x : Part) (y : Nat) : (h.setPart p x).die y = h.die y := rfl
@[simp] theorem Hw.setPart_trio (h : Hw) (p : Nat) (x : Part) (y : Nat) : (h.setPart p x).trio y = h.trio y := rfl
@[simp] theorem Hw.setPart_conv (h : Hw) (p : Nat) (x : Part) (y : Nat) : (h.setPart p x).conv y = h.conv y := rfl
@[simp] theorem Hw.setPart_area (h : Hw) (p : Nat) (x : Part) (y : Nat) : (h.setPart p x).area y = h.area y := rfl
@[simp] theorem Hw.setPart_posUnit (h : Hw) (p : Nat) (x : Part) (y : Nat) : (h.setPart p x).posUnit y = h.posUnit y := rfl
@[simp] theorem Hw.setPart_cmp (h : Hw) (p : Nat) (x : Part) (y z : Nat) : (h.setPart p x).cmp y z = h.cmp y z := rfl
@[simp] theorem Hw.setPart_chan (h : Hw) (p : Nat) (x : Part) (y : Nat) : (h.setPart p x).chan y = h.chan y := rfl
@[simp] theorem Hw.setPart_obj (h : Hw) (p : Nat) (x : Part) (y : Nat) : (h.setPart p x).obj y = h.obj y := rfl
@[simp] theorem Hw.setPart_reg (h : Hw) (p : Nat) (x : Part) (y : RegId) : (h.setPart p x).reg y = h.reg y := rfl
@[simp] theorem Hw.setPart_rd (h : Hw) (p : Nat) (x : Part) (y : Fld) : (h.setPart p x).rd y = h.rd y := rfl
@[simp] theorem Hw.setPart_rdI (h : Hw) (p : Nat) (x : Part) (y : Fld) : (h.setPart p x).rdI y = h.rdI y := rfl
@[simp] theorem Hw.setPart_on (h : Hw) (p : Nat) (x : Part) (y : Fld) : (h.setPart p x).on y = h.on y := rfl
@[simp] theorem Hw.setPart_bit (h : Hw) (p : Nat) (x : Part) (y : Fld) (z : Nat) : (h.setPart p x).bit y z = h.bit y z := rfl
@[simp] theorem Hw.setPart_stepCount (h : Hw) (p : Nat) (x : Part) : (h.setPart p x).stepCount = h.stepCount := rfl
@[simp] theorem Hw.setPart_phase (h : Hw) (p : Nat) (x : Part) : (h.setPart p x).phase = h.phase := rfl
@[simp] theorem Hw.setPart_power (h : Hw) (p : Nat) (x : Part) : (h.setPart p x).power = h.power := rfl
@[simp] theorem Hw.setPart_fresh (h : Hw) (p : Nat) (x : Part) : (h.setPart p x).fresh = h.fresh := rfl
@[simp] theorem Hw.setPart_faultLog (h : Hw) (p : Nat) (x : Part) : (h.setPart p x).faultLog = h.faultLog := rfl
@[simp] theorem Hw.setPart_lastStatus (h : Hw) (p : Nat) (x : Part) : (h.setPart p x).lastStatus = h.lastStatus := rfl
@[simp] theorem Hw.setPart_lastData (h : Hw) (p : Nat) (x : Part) : (h.setPart p x).lastData = h.lastData := rfl
@[simp] theorem Hw.setPart_load (h : Hw) (p : Nat) (x : Part) : (h.setPart p x).load = h.load := rfl
@[simp] theorem Hw.setPart_dbgSt (h : Hw) (p : Nat) (x : Part) : (h.setPart p x).dbgSt = h.dbgSt := rfl
@[simp] theorem Hw.setPart_serial (h : Hw) (p : Nat) (x : Part) : (h.setPart p x).serial = h.serial := rfl
@[simp] theorem Hw.setPart_service (h : Hw) (p : Nat) (x : Part) : (h.setPart p x).service = h.service := rfl
@[simp] theorem Hw.setPart_discharge (h : Hw) (p : Nat) (x : Part) : (h.setPart p x).discharge = h.discharge := rfl
@[simp] theorem Hw.setPart_live (h : Hw) (p : Nat) (x : Part) : (h.setPart p x).live = h.live := rfl

-- `setRecorder`
@[simp] theorem Hw.setRecorder_cell (h : Hw) (p : Nat) (x : Recorder) (y : Nat) : (h.setRecorder p x).cell y = h.cell y := rfl
@[simp] theorem Hw.setRecorder_block (h : Hw) (p : Nat) (x : Recorder) (y : Nat) : (h.setRecorder p x).block y = h.block y := rfl
@[simp] theorem Hw.setRecorder_thread (h : Hw) (p : Nat) (x : Recorder) (y z : Nat) : (h.setRecorder p x).thread y z = h.thread y z := rfl
@[simp] theorem Hw.setRecorder_law (h : Hw) (p : Nat) (x : Recorder) (y z : Nat) : (h.setRecorder p x).law y z = h.law y z := rfl
@[simp] theorem Hw.setRecorder_pacer (h : Hw) (p : Nat) (x : Recorder) (y z : Nat) : (h.setRecorder p x).pacer y z = h.pacer y z := rfl
@[simp] theorem Hw.setRecorder_part (h : Hw) (p : Nat) (x : Recorder) (y : Nat) : (h.setRecorder p x).part y = h.part y := rfl
@[simp] theorem Hw.setRecorder_region (h : Hw) (p : Nat) (x : Recorder) (y : Nat) : (h.setRecorder p x).region y = h.region y := rfl
@[simp] theorem Hw.setRecorder_die (h : Hw) (p : Nat) (x : Recorder) (y : Nat) : (h.setRecorder p x).die y = h.die y := rfl
@[simp] theorem Hw.setRecorder_trio (h : Hw) (p : Nat) (x : Recorder) (y : Nat) : (h.setRecorder p x).trio y = h.trio y := rfl
@[simp] theorem Hw.setRecorder_conv (h : Hw) (p : Nat) (x : Recorder) (y : Nat) : (h.setRecorder p x).conv y = h.conv y := rfl
@[simp] theorem Hw.setRecorder_area (h : Hw) (p : Nat) (x : Recorder) (y : Nat) : (h.setRecorder p x).area y = h.area y := rfl
@[simp] theorem Hw.setRecorder_posUnit (h : Hw) (p : Nat) (x : Recorder) (y : Nat) : (h.setRecorder p x).posUnit y = h.posUnit y := rfl
@[simp] theorem Hw.setRecorder_cmp (h : Hw) (p : Nat) (x : Recorder) (y z : Nat) : (h.setRecorder p x).cmp y z = h.cmp y z := rfl
@[simp] theorem Hw.setRecorder_chan (h : Hw) (p : Nat) (x : Recorder) (y : Nat) : (h.setRecorder p x).chan y = h.chan y := rfl
@[simp] theorem Hw.setRecorder_obj (h : Hw) (p : Nat) (x : Recorder) (y : Nat) : (h.setRecorder p x).obj y = h.obj y := rfl
@[simp] theorem Hw.setRecorder_reg (h : Hw) (p : Nat) (x : Recorder) (y : RegId) : (h.setRecorder p x).reg y = h.reg y := rfl
@[simp] theorem Hw.setRecorder_rd (h : Hw) (p : Nat) (x : Recorder) (y : Fld) : (h.setRecorder p x).rd y = h.rd y := rfl
@[simp] theorem Hw.setRecorder_rdI (h : Hw) (p : Nat) (x : Recorder) (y : Fld) : (h.setRecorder p x).rdI y = h.rdI y := rfl
@[simp] theorem Hw.setRecorder_on (h : Hw) (p : Nat) (x : Recorder) (y : Fld) : (h.setRecorder p x).on y = h.on y := rfl
@[simp] theorem Hw.setRecorder_bit (h : Hw) (p : Nat) (x : Recorder) (y : Fld) (z : Nat) : (h.setRecorder p x).bit y z = h.bit y z := rfl
@[simp] theorem Hw.setRecorder_stepCount (h : Hw) (p : Nat) (x : Recorder) : (h.setRecorder p x).stepCount = h.stepCount := rfl
@[simp] theorem Hw.setRecorder_phase (h : Hw) (p : Nat) (x : Recorder) : (h.setRecorder p x).phase = h.phase := rfl
@[simp] theorem Hw.setRecorder_power (h : Hw) (p : Nat) (x : Recorder) : (h.setRecorder p x).power = h.power := rfl
@[simp] theorem Hw.setRecorder_fresh (h : Hw) (p : Nat) (x : Recorder) : (h.setRecorder p x).fresh = h.fresh := rfl
@[simp] theorem Hw.setRecorder_faultLog (h : Hw) (p : Nat) (x : Recorder) : (h.setRecorder p x).faultLog = h.faultLog := rfl
@[simp] theorem Hw.setRecorder_lastStatus (h : Hw) (p : Nat) (x : Recorder) : (h.setRecorder p x).lastStatus = h.lastStatus := rfl
@[simp] theorem Hw.setRecorder_lastData (h : Hw) (p : Nat) (x : Recorder) : (h.setRecorder p x).lastData = h.lastData := rfl
@[simp] theorem Hw.setRecorder_load (h : Hw) (p : Nat) (x : Recorder) : (h.setRecorder p x).load = h.load := rfl
@[simp] theorem Hw.setRecorder_dbgSt (h : Hw) (p : Nat) (x : Recorder) : (h.setRecorder p x).dbgSt = h.dbgSt := rfl
@[simp] theorem Hw.setRecorder_serial (h : Hw) (p : Nat) (x : Recorder) : (h.setRecorder p x).serial = h.serial := rfl
@[simp] theorem Hw.setRecorder_service (h : Hw) (p : Nat) (x : Recorder) : (h.setRecorder p x).service = h.service := rfl
@[simp] theorem Hw.setRecorder_discharge (h : Hw) (p : Nat) (x : Recorder) : (h.setRecorder p x).discharge = h.discharge := rfl
@[simp] theorem Hw.setRecorder_live (h : Hw) (p : Nat) (x : Recorder) : (h.setRecorder p x).live = h.live := rfl

-- `setRegion`
@[simp] theorem Hw.setRegion_cell (h : Hw) (r : Nat) (x : Region) (y : Nat) : (h.setRegion r x).cell y = h.cell y := rfl
@[simp] theorem Hw.setRegion_block (h : Hw) (r : Nat) (x : Region) (y : Nat) : (h.setRegion r x).block y = h.block y := rfl
@[simp] theorem Hw.setRegion_thread (h : Hw) (r : Nat) (x : Region) (y z : Nat) : (h.setRegion r x).thread y z = h.thread y z := rfl
@[simp] theorem Hw.setRegion_law (h : Hw) (r : Nat) (x : Region) (y z : Nat) : (h.setRegion r x).law y z = h.law y z := rfl
@[simp] theorem Hw.setRegion_pacer (h : Hw) (r : Nat) (x : Region) (y z : Nat) : (h.setRegion r x).pacer y z = h.pacer y z := rfl
@[simp] theorem Hw.setRegion_part (h : Hw) (r : Nat) (x : Region) (y : Nat) : (h.setRegion r x).part y = h.part y := rfl
@[simp] theorem Hw.setRegion_recorder (h : Hw) (r : Nat) (x : Region) (y : Nat) : (h.setRegion r x).recorder y = h.recorder y := rfl
@[simp] theorem Hw.setRegion_die (h : Hw) (r : Nat) (x : Region) (y : Nat) : (h.setRegion r x).die y = h.die y := rfl
@[simp] theorem Hw.setRegion_trio (h : Hw) (r : Nat) (x : Region) (y : Nat) : (h.setRegion r x).trio y = h.trio y := rfl
@[simp] theorem Hw.setRegion_conv (h : Hw) (r : Nat) (x : Region) (y : Nat) : (h.setRegion r x).conv y = h.conv y := rfl
@[simp] theorem Hw.setRegion_area (h : Hw) (r : Nat) (x : Region) (y : Nat) : (h.setRegion r x).area y = h.area y := rfl
@[simp] theorem Hw.setRegion_posUnit (h : Hw) (r : Nat) (x : Region) (y : Nat) : (h.setRegion r x).posUnit y = h.posUnit y := rfl
@[simp] theorem Hw.setRegion_cmp (h : Hw) (r : Nat) (x : Region) (y z : Nat) : (h.setRegion r x).cmp y z = h.cmp y z := rfl
@[simp] theorem Hw.setRegion_chan (h : Hw) (r : Nat) (x : Region) (y : Nat) : (h.setRegion r x).chan y = h.chan y := rfl
@[simp] theorem Hw.setRegion_obj (h : Hw) (r : Nat) (x : Region) (y : Nat) : (h.setRegion r x).obj y = h.obj y := rfl
@[simp] theorem Hw.setRegion_reg (h : Hw) (r : Nat) (x : Region) (y : RegId) : (h.setRegion r x).reg y = h.reg y := rfl
@[simp] theorem Hw.setRegion_rd (h : Hw) (r : Nat) (x : Region) (y : Fld) : (h.setRegion r x).rd y = h.rd y := rfl
@[simp] theorem Hw.setRegion_rdI (h : Hw) (r : Nat) (x : Region) (y : Fld) : (h.setRegion r x).rdI y = h.rdI y := rfl
@[simp] theorem Hw.setRegion_on (h : Hw) (r : Nat) (x : Region) (y : Fld) : (h.setRegion r x).on y = h.on y := rfl
@[simp] theorem Hw.setRegion_bit (h : Hw) (r : Nat) (x : Region) (y : Fld) (z : Nat) : (h.setRegion r x).bit y z = h.bit y z := rfl
@[simp] theorem Hw.setRegion_stepCount (h : Hw) (r : Nat) (x : Region) : (h.setRegion r x).stepCount = h.stepCount := rfl
@[simp] theorem Hw.setRegion_phase (h : Hw) (r : Nat) (x : Region) : (h.setRegion r x).phase = h.phase := rfl
@[simp] theorem Hw.setRegion_power (h : Hw) (r : Nat) (x : Region) : (h.setRegion r x).power = h.power := rfl
@[simp] theorem Hw.setRegion_fresh (h : Hw) (r : Nat) (x : Region) : (h.setRegion r x).fresh = h.fresh := rfl
@[simp] theorem Hw.setRegion_faultLog (h : Hw) (r : Nat) (x : Region) : (h.setRegion r x).faultLog = h.faultLog := rfl
@[simp] theorem Hw.setRegion_lastStatus (h : Hw) (r : Nat) (x : Region) : (h.setRegion r x).lastStatus = h.lastStatus := rfl
@[simp] theorem Hw.setRegion_lastData (h : Hw) (r : Nat) (x : Region) : (h.setRegion r x).lastData = h.lastData := rfl
@[simp] theorem Hw.setRegion_load (h : Hw) (r : Nat) (x : Region) : (h.setRegion r x).load = h.load := rfl
@[simp] theorem Hw.setRegion_dbgSt (h : Hw) (r : Nat) (x : Region) : (h.setRegion r x).dbgSt = h.dbgSt := rfl
@[simp] theorem Hw.setRegion_serial (h : Hw) (r : Nat) (x : Region) : (h.setRegion r x).serial = h.serial := rfl
@[simp] theorem Hw.setRegion_service (h : Hw) (r : Nat) (x : Region) : (h.setRegion r x).service = h.service := rfl
@[simp] theorem Hw.setRegion_discharge (h : Hw) (r : Nat) (x : Region) : (h.setRegion r x).discharge = h.discharge := rfl
@[simp] theorem Hw.setRegion_live (h : Hw) (r : Nat) (x : Region) : (h.setRegion r x).live = h.live := rfl

-- `setDie`
@[simp] theorem Hw.setDie_cell (h : Hw) (d : Nat) (x : Die) (y : Nat) : (h.setDie d x).cell y = h.cell y := rfl
@[simp] theorem Hw.setDie_block (h : Hw) (d : Nat) (x : Die) (y : Nat) : (h.setDie d x).block y = h.block y := rfl
@[simp] theorem Hw.setDie_thread (h : Hw) (d : Nat) (x : Die) (y z : Nat) : (h.setDie d x).thread y z = h.thread y z := rfl
@[simp] theorem Hw.setDie_law (h : Hw) (d : Nat) (x : Die) (y z : Nat) : (h.setDie d x).law y z = h.law y z := rfl
@[simp] theorem Hw.setDie_pacer (h : Hw) (d : Nat) (x : Die) (y z : Nat) : (h.setDie d x).pacer y z = h.pacer y z := rfl
@[simp] theorem Hw.setDie_part (h : Hw) (d : Nat) (x : Die) (y : Nat) : (h.setDie d x).part y = h.part y := rfl
@[simp] theorem Hw.setDie_recorder (h : Hw) (d : Nat) (x : Die) (y : Nat) : (h.setDie d x).recorder y = h.recorder y := rfl
@[simp] theorem Hw.setDie_region (h : Hw) (d : Nat) (x : Die) (y : Nat) : (h.setDie d x).region y = h.region y := rfl
@[simp] theorem Hw.setDie_trio (h : Hw) (d : Nat) (x : Die) (y : Nat) : (h.setDie d x).trio y = h.trio y := rfl
@[simp] theorem Hw.setDie_conv (h : Hw) (d : Nat) (x : Die) (y : Nat) : (h.setDie d x).conv y = h.conv y := rfl
@[simp] theorem Hw.setDie_area (h : Hw) (d : Nat) (x : Die) (y : Nat) : (h.setDie d x).area y = h.area y := rfl
@[simp] theorem Hw.setDie_posUnit (h : Hw) (d : Nat) (x : Die) (y : Nat) : (h.setDie d x).posUnit y = h.posUnit y := rfl
@[simp] theorem Hw.setDie_cmp (h : Hw) (d : Nat) (x : Die) (y z : Nat) : (h.setDie d x).cmp y z = h.cmp y z := rfl
@[simp] theorem Hw.setDie_chan (h : Hw) (d : Nat) (x : Die) (y : Nat) : (h.setDie d x).chan y = h.chan y := rfl
@[simp] theorem Hw.setDie_obj (h : Hw) (d : Nat) (x : Die) (y : Nat) : (h.setDie d x).obj y = h.obj y := rfl
@[simp] theorem Hw.setDie_reg (h : Hw) (d : Nat) (x : Die) (y : RegId) : (h.setDie d x).reg y = h.reg y := rfl
@[simp] theorem Hw.setDie_rd (h : Hw) (d : Nat) (x : Die) (y : Fld) : (h.setDie d x).rd y = h.rd y := rfl
@[simp] theorem Hw.setDie_rdI (h : Hw) (d : Nat) (x : Die) (y : Fld) : (h.setDie d x).rdI y = h.rdI y := rfl
@[simp] theorem Hw.setDie_on (h : Hw) (d : Nat) (x : Die) (y : Fld) : (h.setDie d x).on y = h.on y := rfl
@[simp] theorem Hw.setDie_bit (h : Hw) (d : Nat) (x : Die) (y : Fld) (z : Nat) : (h.setDie d x).bit y z = h.bit y z := rfl
@[simp] theorem Hw.setDie_stepCount (h : Hw) (d : Nat) (x : Die) : (h.setDie d x).stepCount = h.stepCount := rfl
@[simp] theorem Hw.setDie_phase (h : Hw) (d : Nat) (x : Die) : (h.setDie d x).phase = h.phase := rfl
@[simp] theorem Hw.setDie_power (h : Hw) (d : Nat) (x : Die) : (h.setDie d x).power = h.power := rfl
@[simp] theorem Hw.setDie_fresh (h : Hw) (d : Nat) (x : Die) : (h.setDie d x).fresh = h.fresh := rfl
@[simp] theorem Hw.setDie_faultLog (h : Hw) (d : Nat) (x : Die) : (h.setDie d x).faultLog = h.faultLog := rfl
@[simp] theorem Hw.setDie_lastStatus (h : Hw) (d : Nat) (x : Die) : (h.setDie d x).lastStatus = h.lastStatus := rfl
@[simp] theorem Hw.setDie_lastData (h : Hw) (d : Nat) (x : Die) : (h.setDie d x).lastData = h.lastData := rfl
@[simp] theorem Hw.setDie_load (h : Hw) (d : Nat) (x : Die) : (h.setDie d x).load = h.load := rfl
@[simp] theorem Hw.setDie_dbgSt (h : Hw) (d : Nat) (x : Die) : (h.setDie d x).dbgSt = h.dbgSt := rfl
@[simp] theorem Hw.setDie_serial (h : Hw) (d : Nat) (x : Die) : (h.setDie d x).serial = h.serial := rfl
@[simp] theorem Hw.setDie_service (h : Hw) (d : Nat) (x : Die) : (h.setDie d x).service = h.service := rfl
@[simp] theorem Hw.setDie_discharge (h : Hw) (d : Nat) (x : Die) : (h.setDie d x).discharge = h.discharge := rfl
@[simp] theorem Hw.setDie_live (h : Hw) (d : Nat) (x : Die) : (h.setDie d x).live = h.live := rfl

-- `setTrio`
@[simp] theorem Hw.setTrio_cell (h : Hw) (t : Nat) (x : Trio) (y : Nat) : (h.setTrio t x).cell y = h.cell y := rfl
@[simp] theorem Hw.setTrio_block (h : Hw) (t : Nat) (x : Trio) (y : Nat) : (h.setTrio t x).block y = h.block y := rfl
@[simp] theorem Hw.setTrio_thread (h : Hw) (t : Nat) (x : Trio) (y z : Nat) : (h.setTrio t x).thread y z = h.thread y z := rfl
@[simp] theorem Hw.setTrio_law (h : Hw) (t : Nat) (x : Trio) (y z : Nat) : (h.setTrio t x).law y z = h.law y z := rfl
@[simp] theorem Hw.setTrio_pacer (h : Hw) (t : Nat) (x : Trio) (y z : Nat) : (h.setTrio t x).pacer y z = h.pacer y z := rfl
@[simp] theorem Hw.setTrio_part (h : Hw) (t : Nat) (x : Trio) (y : Nat) : (h.setTrio t x).part y = h.part y := rfl
@[simp] theorem Hw.setTrio_recorder (h : Hw) (t : Nat) (x : Trio) (y : Nat) : (h.setTrio t x).recorder y = h.recorder y := rfl
@[simp] theorem Hw.setTrio_region (h : Hw) (t : Nat) (x : Trio) (y : Nat) : (h.setTrio t x).region y = h.region y := rfl
@[simp] theorem Hw.setTrio_die (h : Hw) (t : Nat) (x : Trio) (y : Nat) : (h.setTrio t x).die y = h.die y := rfl
@[simp] theorem Hw.setTrio_conv (h : Hw) (t : Nat) (x : Trio) (y : Nat) : (h.setTrio t x).conv y = h.conv y := rfl
@[simp] theorem Hw.setTrio_area (h : Hw) (t : Nat) (x : Trio) (y : Nat) : (h.setTrio t x).area y = h.area y := rfl
@[simp] theorem Hw.setTrio_posUnit (h : Hw) (t : Nat) (x : Trio) (y : Nat) : (h.setTrio t x).posUnit y = h.posUnit y := rfl
@[simp] theorem Hw.setTrio_cmp (h : Hw) (t : Nat) (x : Trio) (y z : Nat) : (h.setTrio t x).cmp y z = h.cmp y z := rfl
@[simp] theorem Hw.setTrio_chan (h : Hw) (t : Nat) (x : Trio) (y : Nat) : (h.setTrio t x).chan y = h.chan y := rfl
@[simp] theorem Hw.setTrio_obj (h : Hw) (t : Nat) (x : Trio) (y : Nat) : (h.setTrio t x).obj y = h.obj y := rfl
@[simp] theorem Hw.setTrio_reg (h : Hw) (t : Nat) (x : Trio) (y : RegId) : (h.setTrio t x).reg y = h.reg y := rfl
@[simp] theorem Hw.setTrio_rd (h : Hw) (t : Nat) (x : Trio) (y : Fld) : (h.setTrio t x).rd y = h.rd y := rfl
@[simp] theorem Hw.setTrio_rdI (h : Hw) (t : Nat) (x : Trio) (y : Fld) : (h.setTrio t x).rdI y = h.rdI y := rfl
@[simp] theorem Hw.setTrio_on (h : Hw) (t : Nat) (x : Trio) (y : Fld) : (h.setTrio t x).on y = h.on y := rfl
@[simp] theorem Hw.setTrio_bit (h : Hw) (t : Nat) (x : Trio) (y : Fld) (z : Nat) : (h.setTrio t x).bit y z = h.bit y z := rfl
@[simp] theorem Hw.setTrio_stepCount (h : Hw) (t : Nat) (x : Trio) : (h.setTrio t x).stepCount = h.stepCount := rfl
@[simp] theorem Hw.setTrio_phase (h : Hw) (t : Nat) (x : Trio) : (h.setTrio t x).phase = h.phase := rfl
@[simp] theorem Hw.setTrio_power (h : Hw) (t : Nat) (x : Trio) : (h.setTrio t x).power = h.power := rfl
@[simp] theorem Hw.setTrio_fresh (h : Hw) (t : Nat) (x : Trio) : (h.setTrio t x).fresh = h.fresh := rfl
@[simp] theorem Hw.setTrio_faultLog (h : Hw) (t : Nat) (x : Trio) : (h.setTrio t x).faultLog = h.faultLog := rfl
@[simp] theorem Hw.setTrio_lastStatus (h : Hw) (t : Nat) (x : Trio) : (h.setTrio t x).lastStatus = h.lastStatus := rfl
@[simp] theorem Hw.setTrio_lastData (h : Hw) (t : Nat) (x : Trio) : (h.setTrio t x).lastData = h.lastData := rfl
@[simp] theorem Hw.setTrio_load (h : Hw) (t : Nat) (x : Trio) : (h.setTrio t x).load = h.load := rfl
@[simp] theorem Hw.setTrio_dbgSt (h : Hw) (t : Nat) (x : Trio) : (h.setTrio t x).dbgSt = h.dbgSt := rfl
@[simp] theorem Hw.setTrio_serial (h : Hw) (t : Nat) (x : Trio) : (h.setTrio t x).serial = h.serial := rfl
@[simp] theorem Hw.setTrio_service (h : Hw) (t : Nat) (x : Trio) : (h.setTrio t x).service = h.service := rfl
@[simp] theorem Hw.setTrio_discharge (h : Hw) (t : Nat) (x : Trio) : (h.setTrio t x).discharge = h.discharge := rfl
@[simp] theorem Hw.setTrio_live (h : Hw) (t : Nat) (x : Trio) : (h.setTrio t x).live = h.live := rfl

-- `setConv`
@[simp] theorem Hw.setConv_cell (h : Hw) (n : Nat) (x : Conv) (y : Nat) : (h.setConv n x).cell y = h.cell y := rfl
@[simp] theorem Hw.setConv_block (h : Hw) (n : Nat) (x : Conv) (y : Nat) : (h.setConv n x).block y = h.block y := rfl
@[simp] theorem Hw.setConv_thread (h : Hw) (n : Nat) (x : Conv) (y z : Nat) : (h.setConv n x).thread y z = h.thread y z := rfl
@[simp] theorem Hw.setConv_law (h : Hw) (n : Nat) (x : Conv) (y z : Nat) : (h.setConv n x).law y z = h.law y z := rfl
@[simp] theorem Hw.setConv_pacer (h : Hw) (n : Nat) (x : Conv) (y z : Nat) : (h.setConv n x).pacer y z = h.pacer y z := rfl
@[simp] theorem Hw.setConv_part (h : Hw) (n : Nat) (x : Conv) (y : Nat) : (h.setConv n x).part y = h.part y := rfl
@[simp] theorem Hw.setConv_recorder (h : Hw) (n : Nat) (x : Conv) (y : Nat) : (h.setConv n x).recorder y = h.recorder y := rfl
@[simp] theorem Hw.setConv_region (h : Hw) (n : Nat) (x : Conv) (y : Nat) : (h.setConv n x).region y = h.region y := rfl
@[simp] theorem Hw.setConv_die (h : Hw) (n : Nat) (x : Conv) (y : Nat) : (h.setConv n x).die y = h.die y := rfl
@[simp] theorem Hw.setConv_trio (h : Hw) (n : Nat) (x : Conv) (y : Nat) : (h.setConv n x).trio y = h.trio y := rfl
@[simp] theorem Hw.setConv_area (h : Hw) (n : Nat) (x : Conv) (y : Nat) : (h.setConv n x).area y = h.area y := rfl
@[simp] theorem Hw.setConv_posUnit (h : Hw) (n : Nat) (x : Conv) (y : Nat) : (h.setConv n x).posUnit y = h.posUnit y := rfl
@[simp] theorem Hw.setConv_cmp (h : Hw) (n : Nat) (x : Conv) (y z : Nat) : (h.setConv n x).cmp y z = h.cmp y z := rfl
@[simp] theorem Hw.setConv_chan (h : Hw) (n : Nat) (x : Conv) (y : Nat) : (h.setConv n x).chan y = h.chan y := rfl
@[simp] theorem Hw.setConv_obj (h : Hw) (n : Nat) (x : Conv) (y : Nat) : (h.setConv n x).obj y = h.obj y := rfl
@[simp] theorem Hw.setConv_reg (h : Hw) (n : Nat) (x : Conv) (y : RegId) : (h.setConv n x).reg y = h.reg y := rfl
@[simp] theorem Hw.setConv_rd (h : Hw) (n : Nat) (x : Conv) (y : Fld) : (h.setConv n x).rd y = h.rd y := rfl
@[simp] theorem Hw.setConv_rdI (h : Hw) (n : Nat) (x : Conv) (y : Fld) : (h.setConv n x).rdI y = h.rdI y := rfl
@[simp] theorem Hw.setConv_on (h : Hw) (n : Nat) (x : Conv) (y : Fld) : (h.setConv n x).on y = h.on y := rfl
@[simp] theorem Hw.setConv_bit (h : Hw) (n : Nat) (x : Conv) (y : Fld) (z : Nat) : (h.setConv n x).bit y z = h.bit y z := rfl
@[simp] theorem Hw.setConv_stepCount (h : Hw) (n : Nat) (x : Conv) : (h.setConv n x).stepCount = h.stepCount := rfl
@[simp] theorem Hw.setConv_phase (h : Hw) (n : Nat) (x : Conv) : (h.setConv n x).phase = h.phase := rfl
@[simp] theorem Hw.setConv_power (h : Hw) (n : Nat) (x : Conv) : (h.setConv n x).power = h.power := rfl
@[simp] theorem Hw.setConv_fresh (h : Hw) (n : Nat) (x : Conv) : (h.setConv n x).fresh = h.fresh := rfl
@[simp] theorem Hw.setConv_faultLog (h : Hw) (n : Nat) (x : Conv) : (h.setConv n x).faultLog = h.faultLog := rfl
@[simp] theorem Hw.setConv_lastStatus (h : Hw) (n : Nat) (x : Conv) : (h.setConv n x).lastStatus = h.lastStatus := rfl
@[simp] theorem Hw.setConv_lastData (h : Hw) (n : Nat) (x : Conv) : (h.setConv n x).lastData = h.lastData := rfl
@[simp] theorem Hw.setConv_load (h : Hw) (n : Nat) (x : Conv) : (h.setConv n x).load = h.load := rfl
@[simp] theorem Hw.setConv_dbgSt (h : Hw) (n : Nat) (x : Conv) : (h.setConv n x).dbgSt = h.dbgSt := rfl
@[simp] theorem Hw.setConv_serial (h : Hw) (n : Nat) (x : Conv) : (h.setConv n x).serial = h.serial := rfl
@[simp] theorem Hw.setConv_service (h : Hw) (n : Nat) (x : Conv) : (h.setConv n x).service = h.service := rfl
@[simp] theorem Hw.setConv_discharge (h : Hw) (n : Nat) (x : Conv) : (h.setConv n x).discharge = h.discharge := rfl
@[simp] theorem Hw.setConv_live (h : Hw) (n : Nat) (x : Conv) : (h.setConv n x).live = h.live := rfl

-- `setArea`
@[simp] theorem Hw.setArea_cell (h : Hw) (a : Nat) (x : CapArea) (y : Nat) : (h.setArea a x).cell y = h.cell y := rfl
@[simp] theorem Hw.setArea_block (h : Hw) (a : Nat) (x : CapArea) (y : Nat) : (h.setArea a x).block y = h.block y := rfl
@[simp] theorem Hw.setArea_thread (h : Hw) (a : Nat) (x : CapArea) (y z : Nat) : (h.setArea a x).thread y z = h.thread y z := rfl
@[simp] theorem Hw.setArea_law (h : Hw) (a : Nat) (x : CapArea) (y z : Nat) : (h.setArea a x).law y z = h.law y z := rfl
@[simp] theorem Hw.setArea_pacer (h : Hw) (a : Nat) (x : CapArea) (y z : Nat) : (h.setArea a x).pacer y z = h.pacer y z := rfl
@[simp] theorem Hw.setArea_part (h : Hw) (a : Nat) (x : CapArea) (y : Nat) : (h.setArea a x).part y = h.part y := rfl
@[simp] theorem Hw.setArea_recorder (h : Hw) (a : Nat) (x : CapArea) (y : Nat) : (h.setArea a x).recorder y = h.recorder y := rfl
@[simp] theorem Hw.setArea_region (h : Hw) (a : Nat) (x : CapArea) (y : Nat) : (h.setArea a x).region y = h.region y := rfl
@[simp] theorem Hw.setArea_die (h : Hw) (a : Nat) (x : CapArea) (y : Nat) : (h.setArea a x).die y = h.die y := rfl
@[simp] theorem Hw.setArea_trio (h : Hw) (a : Nat) (x : CapArea) (y : Nat) : (h.setArea a x).trio y = h.trio y := rfl
@[simp] theorem Hw.setArea_conv (h : Hw) (a : Nat) (x : CapArea) (y : Nat) : (h.setArea a x).conv y = h.conv y := rfl
@[simp] theorem Hw.setArea_posUnit (h : Hw) (a : Nat) (x : CapArea) (y : Nat) : (h.setArea a x).posUnit y = h.posUnit y := rfl
@[simp] theorem Hw.setArea_cmp (h : Hw) (a : Nat) (x : CapArea) (y z : Nat) : (h.setArea a x).cmp y z = h.cmp y z := rfl
@[simp] theorem Hw.setArea_chan (h : Hw) (a : Nat) (x : CapArea) (y : Nat) : (h.setArea a x).chan y = h.chan y := rfl
@[simp] theorem Hw.setArea_obj (h : Hw) (a : Nat) (x : CapArea) (y : Nat) : (h.setArea a x).obj y = h.obj y := rfl
@[simp] theorem Hw.setArea_reg (h : Hw) (a : Nat) (x : CapArea) (y : RegId) : (h.setArea a x).reg y = h.reg y := rfl
@[simp] theorem Hw.setArea_rd (h : Hw) (a : Nat) (x : CapArea) (y : Fld) : (h.setArea a x).rd y = h.rd y := rfl
@[simp] theorem Hw.setArea_rdI (h : Hw) (a : Nat) (x : CapArea) (y : Fld) : (h.setArea a x).rdI y = h.rdI y := rfl
@[simp] theorem Hw.setArea_on (h : Hw) (a : Nat) (x : CapArea) (y : Fld) : (h.setArea a x).on y = h.on y := rfl
@[simp] theorem Hw.setArea_bit (h : Hw) (a : Nat) (x : CapArea) (y : Fld) (z : Nat) : (h.setArea a x).bit y z = h.bit y z := rfl
@[simp] theorem Hw.setArea_stepCount (h : Hw) (a : Nat) (x : CapArea) : (h.setArea a x).stepCount = h.stepCount := rfl
@[simp] theorem Hw.setArea_phase (h : Hw) (a : Nat) (x : CapArea) : (h.setArea a x).phase = h.phase := rfl
@[simp] theorem Hw.setArea_power (h : Hw) (a : Nat) (x : CapArea) : (h.setArea a x).power = h.power := rfl
@[simp] theorem Hw.setArea_fresh (h : Hw) (a : Nat) (x : CapArea) : (h.setArea a x).fresh = h.fresh := rfl
@[simp] theorem Hw.setArea_faultLog (h : Hw) (a : Nat) (x : CapArea) : (h.setArea a x).faultLog = h.faultLog := rfl
@[simp] theorem Hw.setArea_lastStatus (h : Hw) (a : Nat) (x : CapArea) : (h.setArea a x).lastStatus = h.lastStatus := rfl
@[simp] theorem Hw.setArea_lastData (h : Hw) (a : Nat) (x : CapArea) : (h.setArea a x).lastData = h.lastData := rfl
@[simp] theorem Hw.setArea_load (h : Hw) (a : Nat) (x : CapArea) : (h.setArea a x).load = h.load := rfl
@[simp] theorem Hw.setArea_dbgSt (h : Hw) (a : Nat) (x : CapArea) : (h.setArea a x).dbgSt = h.dbgSt := rfl
@[simp] theorem Hw.setArea_serial (h : Hw) (a : Nat) (x : CapArea) : (h.setArea a x).serial = h.serial := rfl
@[simp] theorem Hw.setArea_service (h : Hw) (a : Nat) (x : CapArea) : (h.setArea a x).service = h.service := rfl
@[simp] theorem Hw.setArea_discharge (h : Hw) (a : Nat) (x : CapArea) : (h.setArea a x).discharge = h.discharge := rfl
@[simp] theorem Hw.setArea_live (h : Hw) (a : Nat) (x : CapArea) : (h.setArea a x).live = h.live := rfl

-- `setPosUnit`
@[simp] theorem Hw.setPosUnit_cell (h : Hw) (u : Nat) (x : PosUnit) (y : Nat) : (h.setPosUnit u x).cell y = h.cell y := rfl
@[simp] theorem Hw.setPosUnit_block (h : Hw) (u : Nat) (x : PosUnit) (y : Nat) : (h.setPosUnit u x).block y = h.block y := rfl
@[simp] theorem Hw.setPosUnit_thread (h : Hw) (u : Nat) (x : PosUnit) (y z : Nat) : (h.setPosUnit u x).thread y z = h.thread y z := rfl
@[simp] theorem Hw.setPosUnit_law (h : Hw) (u : Nat) (x : PosUnit) (y z : Nat) : (h.setPosUnit u x).law y z = h.law y z := rfl
@[simp] theorem Hw.setPosUnit_pacer (h : Hw) (u : Nat) (x : PosUnit) (y z : Nat) : (h.setPosUnit u x).pacer y z = h.pacer y z := rfl
@[simp] theorem Hw.setPosUnit_part (h : Hw) (u : Nat) (x : PosUnit) (y : Nat) : (h.setPosUnit u x).part y = h.part y := rfl
@[simp] theorem Hw.setPosUnit_recorder (h : Hw) (u : Nat) (x : PosUnit) (y : Nat) : (h.setPosUnit u x).recorder y = h.recorder y := rfl
@[simp] theorem Hw.setPosUnit_region (h : Hw) (u : Nat) (x : PosUnit) (y : Nat) : (h.setPosUnit u x).region y = h.region y := rfl
@[simp] theorem Hw.setPosUnit_die (h : Hw) (u : Nat) (x : PosUnit) (y : Nat) : (h.setPosUnit u x).die y = h.die y := rfl
@[simp] theorem Hw.setPosUnit_trio (h : Hw) (u : Nat) (x : PosUnit) (y : Nat) : (h.setPosUnit u x).trio y = h.trio y := rfl
@[simp] theorem Hw.setPosUnit_conv (h : Hw) (u : Nat) (x : PosUnit) (y : Nat) : (h.setPosUnit u x).conv y = h.conv y := rfl
@[simp] theorem Hw.setPosUnit_area (h : Hw) (u : Nat) (x : PosUnit) (y : Nat) : (h.setPosUnit u x).area y = h.area y := rfl
@[simp] theorem Hw.setPosUnit_cmp (h : Hw) (u : Nat) (x : PosUnit) (y z : Nat) : (h.setPosUnit u x).cmp y z = h.cmp y z := rfl
@[simp] theorem Hw.setPosUnit_chan (h : Hw) (u : Nat) (x : PosUnit) (y : Nat) : (h.setPosUnit u x).chan y = h.chan y := rfl
@[simp] theorem Hw.setPosUnit_obj (h : Hw) (u : Nat) (x : PosUnit) (y : Nat) : (h.setPosUnit u x).obj y = h.obj y := rfl
@[simp] theorem Hw.setPosUnit_reg (h : Hw) (u : Nat) (x : PosUnit) (y : RegId) : (h.setPosUnit u x).reg y = h.reg y := rfl
@[simp] theorem Hw.setPosUnit_rd (h : Hw) (u : Nat) (x : PosUnit) (y : Fld) : (h.setPosUnit u x).rd y = h.rd y := rfl
@[simp] theorem Hw.setPosUnit_rdI (h : Hw) (u : Nat) (x : PosUnit) (y : Fld) : (h.setPosUnit u x).rdI y = h.rdI y := rfl
@[simp] theorem Hw.setPosUnit_on (h : Hw) (u : Nat) (x : PosUnit) (y : Fld) : (h.setPosUnit u x).on y = h.on y := rfl
@[simp] theorem Hw.setPosUnit_bit (h : Hw) (u : Nat) (x : PosUnit) (y : Fld) (z : Nat) : (h.setPosUnit u x).bit y z = h.bit y z := rfl
@[simp] theorem Hw.setPosUnit_stepCount (h : Hw) (u : Nat) (x : PosUnit) : (h.setPosUnit u x).stepCount = h.stepCount := rfl
@[simp] theorem Hw.setPosUnit_phase (h : Hw) (u : Nat) (x : PosUnit) : (h.setPosUnit u x).phase = h.phase := rfl
@[simp] theorem Hw.setPosUnit_power (h : Hw) (u : Nat) (x : PosUnit) : (h.setPosUnit u x).power = h.power := rfl
@[simp] theorem Hw.setPosUnit_fresh (h : Hw) (u : Nat) (x : PosUnit) : (h.setPosUnit u x).fresh = h.fresh := rfl
@[simp] theorem Hw.setPosUnit_faultLog (h : Hw) (u : Nat) (x : PosUnit) : (h.setPosUnit u x).faultLog = h.faultLog := rfl
@[simp] theorem Hw.setPosUnit_lastStatus (h : Hw) (u : Nat) (x : PosUnit) : (h.setPosUnit u x).lastStatus = h.lastStatus := rfl
@[simp] theorem Hw.setPosUnit_lastData (h : Hw) (u : Nat) (x : PosUnit) : (h.setPosUnit u x).lastData = h.lastData := rfl
@[simp] theorem Hw.setPosUnit_load (h : Hw) (u : Nat) (x : PosUnit) : (h.setPosUnit u x).load = h.load := rfl
@[simp] theorem Hw.setPosUnit_dbgSt (h : Hw) (u : Nat) (x : PosUnit) : (h.setPosUnit u x).dbgSt = h.dbgSt := rfl
@[simp] theorem Hw.setPosUnit_serial (h : Hw) (u : Nat) (x : PosUnit) : (h.setPosUnit u x).serial = h.serial := rfl
@[simp] theorem Hw.setPosUnit_service (h : Hw) (u : Nat) (x : PosUnit) : (h.setPosUnit u x).service = h.service := rfl
@[simp] theorem Hw.setPosUnit_discharge (h : Hw) (u : Nat) (x : PosUnit) : (h.setPosUnit u x).discharge = h.discharge := rfl
@[simp] theorem Hw.setPosUnit_live (h : Hw) (u : Nat) (x : PosUnit) : (h.setPosUnit u x).live = h.live := rfl

-- `setCmp`
@[simp] theorem Hw.setCmp_cell (h : Hw) (k m : Nat) (x : CmpCh) (y : Nat) : (h.setCmp k m x).cell y = h.cell y := rfl
@[simp] theorem Hw.setCmp_block (h : Hw) (k m : Nat) (x : CmpCh) (y : Nat) : (h.setCmp k m x).block y = h.block y := rfl
@[simp] theorem Hw.setCmp_thread (h : Hw) (k m : Nat) (x : CmpCh) (y z : Nat) : (h.setCmp k m x).thread y z = h.thread y z := rfl
@[simp] theorem Hw.setCmp_law (h : Hw) (k m : Nat) (x : CmpCh) (y z : Nat) : (h.setCmp k m x).law y z = h.law y z := rfl
@[simp] theorem Hw.setCmp_pacer (h : Hw) (k m : Nat) (x : CmpCh) (y z : Nat) : (h.setCmp k m x).pacer y z = h.pacer y z := rfl
@[simp] theorem Hw.setCmp_part (h : Hw) (k m : Nat) (x : CmpCh) (y : Nat) : (h.setCmp k m x).part y = h.part y := rfl
@[simp] theorem Hw.setCmp_recorder (h : Hw) (k m : Nat) (x : CmpCh) (y : Nat) : (h.setCmp k m x).recorder y = h.recorder y := rfl
@[simp] theorem Hw.setCmp_region (h : Hw) (k m : Nat) (x : CmpCh) (y : Nat) : (h.setCmp k m x).region y = h.region y := rfl
@[simp] theorem Hw.setCmp_die (h : Hw) (k m : Nat) (x : CmpCh) (y : Nat) : (h.setCmp k m x).die y = h.die y := rfl
@[simp] theorem Hw.setCmp_trio (h : Hw) (k m : Nat) (x : CmpCh) (y : Nat) : (h.setCmp k m x).trio y = h.trio y := rfl
@[simp] theorem Hw.setCmp_conv (h : Hw) (k m : Nat) (x : CmpCh) (y : Nat) : (h.setCmp k m x).conv y = h.conv y := rfl
@[simp] theorem Hw.setCmp_area (h : Hw) (k m : Nat) (x : CmpCh) (y : Nat) : (h.setCmp k m x).area y = h.area y := rfl
@[simp] theorem Hw.setCmp_posUnit (h : Hw) (k m : Nat) (x : CmpCh) (y : Nat) : (h.setCmp k m x).posUnit y = h.posUnit y := rfl
@[simp] theorem Hw.setCmp_chan (h : Hw) (k m : Nat) (x : CmpCh) (y : Nat) : (h.setCmp k m x).chan y = h.chan y := rfl
@[simp] theorem Hw.setCmp_obj (h : Hw) (k m : Nat) (x : CmpCh) (y : Nat) : (h.setCmp k m x).obj y = h.obj y := rfl
@[simp] theorem Hw.setCmp_reg (h : Hw) (k m : Nat) (x : CmpCh) (y : RegId) : (h.setCmp k m x).reg y = h.reg y := rfl
@[simp] theorem Hw.setCmp_rd (h : Hw) (k m : Nat) (x : CmpCh) (y : Fld) : (h.setCmp k m x).rd y = h.rd y := rfl
@[simp] theorem Hw.setCmp_rdI (h : Hw) (k m : Nat) (x : CmpCh) (y : Fld) : (h.setCmp k m x).rdI y = h.rdI y := rfl
@[simp] theorem Hw.setCmp_on (h : Hw) (k m : Nat) (x : CmpCh) (y : Fld) : (h.setCmp k m x).on y = h.on y := rfl
@[simp] theorem Hw.setCmp_bit (h : Hw) (k m : Nat) (x : CmpCh) (y : Fld) (z : Nat) : (h.setCmp k m x).bit y z = h.bit y z := rfl
@[simp] theorem Hw.setCmp_stepCount (h : Hw) (k m : Nat) (x : CmpCh) : (h.setCmp k m x).stepCount = h.stepCount := rfl
@[simp] theorem Hw.setCmp_phase (h : Hw) (k m : Nat) (x : CmpCh) : (h.setCmp k m x).phase = h.phase := rfl
@[simp] theorem Hw.setCmp_power (h : Hw) (k m : Nat) (x : CmpCh) : (h.setCmp k m x).power = h.power := rfl
@[simp] theorem Hw.setCmp_fresh (h : Hw) (k m : Nat) (x : CmpCh) : (h.setCmp k m x).fresh = h.fresh := rfl
@[simp] theorem Hw.setCmp_faultLog (h : Hw) (k m : Nat) (x : CmpCh) : (h.setCmp k m x).faultLog = h.faultLog := rfl
@[simp] theorem Hw.setCmp_lastStatus (h : Hw) (k m : Nat) (x : CmpCh) : (h.setCmp k m x).lastStatus = h.lastStatus := rfl
@[simp] theorem Hw.setCmp_lastData (h : Hw) (k m : Nat) (x : CmpCh) : (h.setCmp k m x).lastData = h.lastData := rfl
@[simp] theorem Hw.setCmp_load (h : Hw) (k m : Nat) (x : CmpCh) : (h.setCmp k m x).load = h.load := rfl
@[simp] theorem Hw.setCmp_dbgSt (h : Hw) (k m : Nat) (x : CmpCh) : (h.setCmp k m x).dbgSt = h.dbgSt := rfl
@[simp] theorem Hw.setCmp_serial (h : Hw) (k m : Nat) (x : CmpCh) : (h.setCmp k m x).serial = h.serial := rfl
@[simp] theorem Hw.setCmp_service (h : Hw) (k m : Nat) (x : CmpCh) : (h.setCmp k m x).service = h.service := rfl
@[simp] theorem Hw.setCmp_discharge (h : Hw) (k m : Nat) (x : CmpCh) : (h.setCmp k m x).discharge = h.discharge := rfl
@[simp] theorem Hw.setCmp_live (h : Hw) (k m : Nat) (x : CmpCh) : (h.setCmp k m x).live = h.live := rfl

-- `setChan`
@[simp] theorem Hw.setChan_cell (h : Hw) (n : Nat) (x : CanCh) (y : Nat) : (h.setChan n x).cell y = h.cell y := rfl
@[simp] theorem Hw.setChan_block (h : Hw) (n : Nat) (x : CanCh) (y : Nat) : (h.setChan n x).block y = h.block y := rfl
@[simp] theorem Hw.setChan_thread (h : Hw) (n : Nat) (x : CanCh) (y z : Nat) : (h.setChan n x).thread y z = h.thread y z := rfl
@[simp] theorem Hw.setChan_law (h : Hw) (n : Nat) (x : CanCh) (y z : Nat) : (h.setChan n x).law y z = h.law y z := rfl
@[simp] theorem Hw.setChan_pacer (h : Hw) (n : Nat) (x : CanCh) (y z : Nat) : (h.setChan n x).pacer y z = h.pacer y z := rfl
@[simp] theorem Hw.setChan_part (h : Hw) (n : Nat) (x : CanCh) (y : Nat) : (h.setChan n x).part y = h.part y := rfl
@[simp] theorem Hw.setChan_recorder (h : Hw) (n : Nat) (x : CanCh) (y : Nat) : (h.setChan n x).recorder y = h.recorder y := rfl
@[simp] theorem Hw.setChan_region (h : Hw) (n : Nat) (x : CanCh) (y : Nat) : (h.setChan n x).region y = h.region y := rfl
@[simp] theorem Hw.setChan_die (h : Hw) (n : Nat) (x : CanCh) (y : Nat) : (h.setChan n x).die y = h.die y := rfl
@[simp] theorem Hw.setChan_trio (h : Hw) (n : Nat) (x : CanCh) (y : Nat) : (h.setChan n x).trio y = h.trio y := rfl
@[simp] theorem Hw.setChan_conv (h : Hw) (n : Nat) (x : CanCh) (y : Nat) : (h.setChan n x).conv y = h.conv y := rfl
@[simp] theorem Hw.setChan_area (h : Hw) (n : Nat) (x : CanCh) (y : Nat) : (h.setChan n x).area y = h.area y := rfl
@[simp] theorem Hw.setChan_posUnit (h : Hw) (n : Nat) (x : CanCh) (y : Nat) : (h.setChan n x).posUnit y = h.posUnit y := rfl
@[simp] theorem Hw.setChan_cmp (h : Hw) (n : Nat) (x : CanCh) (y z : Nat) : (h.setChan n x).cmp y z = h.cmp y z := rfl
@[simp] theorem Hw.setChan_obj (h : Hw) (n : Nat) (x : CanCh) (y : Nat) : (h.setChan n x).obj y = h.obj y := rfl
@[simp] theorem Hw.setChan_reg (h : Hw) (n : Nat) (x : CanCh) (y : RegId) : (h.setChan n x).reg y = h.reg y := rfl
@[simp] theorem Hw.setChan_rd (h : Hw) (n : Nat) (x : CanCh) (y : Fld) : (h.setChan n x).rd y = h.rd y := rfl
@[simp] theorem Hw.setChan_rdI (h : Hw) (n : Nat) (x : CanCh) (y : Fld) : (h.setChan n x).rdI y = h.rdI y := rfl
@[simp] theorem Hw.setChan_on (h : Hw) (n : Nat) (x : CanCh) (y : Fld) : (h.setChan n x).on y = h.on y := rfl
@[simp] theorem Hw.setChan_bit (h : Hw) (n : Nat) (x : CanCh) (y : Fld) (z : Nat) : (h.setChan n x).bit y z = h.bit y z := rfl
@[simp] theorem Hw.setChan_stepCount (h : Hw) (n : Nat) (x : CanCh) : (h.setChan n x).stepCount = h.stepCount := rfl
@[simp] theorem Hw.setChan_phase (h : Hw) (n : Nat) (x : CanCh) : (h.setChan n x).phase = h.phase := rfl
@[simp] theorem Hw.setChan_power (h : Hw) (n : Nat) (x : CanCh) : (h.setChan n x).power = h.power := rfl
@[simp] theorem Hw.setChan_fresh (h : Hw) (n : Nat) (x : CanCh) : (h.setChan n x).fresh = h.fresh := rfl
@[simp] theorem Hw.setChan_faultLog (h : Hw) (n : Nat) (x : CanCh) : (h.setChan n x).faultLog = h.faultLog := rfl
@[simp] theorem Hw.setChan_lastStatus (h : Hw) (n : Nat) (x : CanCh) : (h.setChan n x).lastStatus = h.lastStatus := rfl
@[simp] theorem Hw.setChan_lastData (h : Hw) (n : Nat) (x : CanCh) : (h.setChan n x).lastData = h.lastData := rfl
@[simp] theorem Hw.setChan_load (h : Hw) (n : Nat) (x : CanCh) : (h.setChan n x).load = h.load := rfl
@[simp] theorem Hw.setChan_dbgSt (h : Hw) (n : Nat) (x : CanCh) : (h.setChan n x).dbgSt = h.dbgSt := rfl
@[simp] theorem Hw.setChan_serial (h : Hw) (n : Nat) (x : CanCh) : (h.setChan n x).serial = h.serial := rfl
@[simp] theorem Hw.setChan_service (h : Hw) (n : Nat) (x : CanCh) : (h.setChan n x).service = h.service := rfl
@[simp] theorem Hw.setChan_discharge (h : Hw) (n : Nat) (x : CanCh) : (h.setChan n x).discharge = h.discharge := rfl
@[simp] theorem Hw.setChan_live (h : Hw) (n : Nat) (x : CanCh) : (h.setChan n x).live = h.live := rfl

-- `setObj`
@[simp] theorem Hw.setObj_cell (h : Hw) (o : Nat) (x : Obj) (y : Nat) : (h.setObj o x).cell y = h.cell y := rfl
@[simp] theorem Hw.setObj_block (h : Hw) (o : Nat) (x : Obj) (y : Nat) : (h.setObj o x).block y = h.block y := rfl
@[simp] theorem Hw.setObj_thread (h : Hw) (o : Nat) (x : Obj) (y z : Nat) : (h.setObj o x).thread y z = h.thread y z := rfl
@[simp] theorem Hw.setObj_law (h : Hw) (o : Nat) (x : Obj) (y z : Nat) : (h.setObj o x).law y z = h.law y z := rfl
@[simp] theorem Hw.setObj_pacer (h : Hw) (o : Nat) (x : Obj) (y z : Nat) : (h.setObj o x).pacer y z = h.pacer y z := rfl
@[simp] theorem Hw.setObj_part (h : Hw) (o : Nat) (x : Obj) (y : Nat) : (h.setObj o x).part y = h.part y := rfl
@[simp] theorem Hw.setObj_recorder (h : Hw) (o : Nat) (x : Obj) (y : Nat) : (h.setObj o x).recorder y = h.recorder y := rfl
@[simp] theorem Hw.setObj_region (h : Hw) (o : Nat) (x : Obj) (y : Nat) : (h.setObj o x).region y = h.region y := rfl
@[simp] theorem Hw.setObj_die (h : Hw) (o : Nat) (x : Obj) (y : Nat) : (h.setObj o x).die y = h.die y := rfl
@[simp] theorem Hw.setObj_trio (h : Hw) (o : Nat) (x : Obj) (y : Nat) : (h.setObj o x).trio y = h.trio y := rfl
@[simp] theorem Hw.setObj_conv (h : Hw) (o : Nat) (x : Obj) (y : Nat) : (h.setObj o x).conv y = h.conv y := rfl
@[simp] theorem Hw.setObj_area (h : Hw) (o : Nat) (x : Obj) (y : Nat) : (h.setObj o x).area y = h.area y := rfl
@[simp] theorem Hw.setObj_posUnit (h : Hw) (o : Nat) (x : Obj) (y : Nat) : (h.setObj o x).posUnit y = h.posUnit y := rfl
@[simp] theorem Hw.setObj_cmp (h : Hw) (o : Nat) (x : Obj) (y z : Nat) : (h.setObj o x).cmp y z = h.cmp y z := rfl
@[simp] theorem Hw.setObj_chan (h : Hw) (o : Nat) (x : Obj) (y : Nat) : (h.setObj o x).chan y = h.chan y := rfl
@[simp] theorem Hw.setObj_reg (h : Hw) (o : Nat) (x : Obj) (y : RegId) : (h.setObj o x).reg y = h.reg y := rfl
@[simp] theorem Hw.setObj_rd (h : Hw) (o : Nat) (x : Obj) (y : Fld) : (h.setObj o x).rd y = h.rd y := rfl
@[simp] theorem Hw.setObj_rdI (h : Hw) (o : Nat) (x : Obj) (y : Fld) : (h.setObj o x).rdI y = h.rdI y := rfl
@[simp] theorem Hw.setObj_on (h : Hw) (o : Nat) (x : Obj) (y : Fld) : (h.setObj o x).on y = h.on y := rfl
@[simp] theorem Hw.setObj_bit (h : Hw) (o : Nat) (x : Obj) (y : Fld) (z : Nat) : (h.setObj o x).bit y z = h.bit y z := rfl
@[simp] theorem Hw.setObj_stepCount (h : Hw) (o : Nat) (x : Obj) : (h.setObj o x).stepCount = h.stepCount := rfl
@[simp] theorem Hw.setObj_phase (h : Hw) (o : Nat) (x : Obj) : (h.setObj o x).phase = h.phase := rfl
@[simp] theorem Hw.setObj_power (h : Hw) (o : Nat) (x : Obj) : (h.setObj o x).power = h.power := rfl
@[simp] theorem Hw.setObj_fresh (h : Hw) (o : Nat) (x : Obj) : (h.setObj o x).fresh = h.fresh := rfl
@[simp] theorem Hw.setObj_faultLog (h : Hw) (o : Nat) (x : Obj) : (h.setObj o x).faultLog = h.faultLog := rfl
@[simp] theorem Hw.setObj_lastStatus (h : Hw) (o : Nat) (x : Obj) : (h.setObj o x).lastStatus = h.lastStatus := rfl
@[simp] theorem Hw.setObj_lastData (h : Hw) (o : Nat) (x : Obj) : (h.setObj o x).lastData = h.lastData := rfl
@[simp] theorem Hw.setObj_load (h : Hw) (o : Nat) (x : Obj) : (h.setObj o x).load = h.load := rfl
@[simp] theorem Hw.setObj_dbgSt (h : Hw) (o : Nat) (x : Obj) : (h.setObj o x).dbgSt = h.dbgSt := rfl
@[simp] theorem Hw.setObj_serial (h : Hw) (o : Nat) (x : Obj) : (h.setObj o x).serial = h.serial := rfl
@[simp] theorem Hw.setObj_service (h : Hw) (o : Nat) (x : Obj) : (h.setObj o x).service = h.service := rfl
@[simp] theorem Hw.setObj_discharge (h : Hw) (o : Nat) (x : Obj) : (h.setObj o x).discharge = h.discharge := rfl
@[simp] theorem Hw.setObj_live (h : Hw) (o : Nat) (x : Obj) : (h.setObj o x).live = h.live := rfl

-- `setReg`
@[simp] theorem Hw.setReg_cell (h : Hw) (r : RegId) (w : Word) (y : Nat) : (h.setReg r w).cell y = h.cell y := rfl
@[simp] theorem Hw.setReg_block (h : Hw) (r : RegId) (w : Word) (y : Nat) : (h.setReg r w).block y = h.block y := rfl
@[simp] theorem Hw.setReg_thread (h : Hw) (r : RegId) (w : Word) (y z : Nat) : (h.setReg r w).thread y z = h.thread y z := rfl
@[simp] theorem Hw.setReg_law (h : Hw) (r : RegId) (w : Word) (y z : Nat) : (h.setReg r w).law y z = h.law y z := rfl
@[simp] theorem Hw.setReg_pacer (h : Hw) (r : RegId) (w : Word) (y z : Nat) : (h.setReg r w).pacer y z = h.pacer y z := rfl
@[simp] theorem Hw.setReg_part (h : Hw) (r : RegId) (w : Word) (y : Nat) : (h.setReg r w).part y = h.part y := rfl
@[simp] theorem Hw.setReg_recorder (h : Hw) (r : RegId) (w : Word) (y : Nat) : (h.setReg r w).recorder y = h.recorder y := rfl
@[simp] theorem Hw.setReg_region (h : Hw) (r : RegId) (w : Word) (y : Nat) : (h.setReg r w).region y = h.region y := rfl
@[simp] theorem Hw.setReg_die (h : Hw) (r : RegId) (w : Word) (y : Nat) : (h.setReg r w).die y = h.die y := rfl
@[simp] theorem Hw.setReg_trio (h : Hw) (r : RegId) (w : Word) (y : Nat) : (h.setReg r w).trio y = h.trio y := rfl
@[simp] theorem Hw.setReg_conv (h : Hw) (r : RegId) (w : Word) (y : Nat) : (h.setReg r w).conv y = h.conv y := rfl
@[simp] theorem Hw.setReg_area (h : Hw) (r : RegId) (w : Word) (y : Nat) : (h.setReg r w).area y = h.area y := rfl
@[simp] theorem Hw.setReg_posUnit (h : Hw) (r : RegId) (w : Word) (y : Nat) : (h.setReg r w).posUnit y = h.posUnit y := rfl
@[simp] theorem Hw.setReg_cmp (h : Hw) (r : RegId) (w : Word) (y z : Nat) : (h.setReg r w).cmp y z = h.cmp y z := rfl
@[simp] theorem Hw.setReg_chan (h : Hw) (r : RegId) (w : Word) (y : Nat) : (h.setReg r w).chan y = h.chan y := rfl
@[simp] theorem Hw.setReg_obj (h : Hw) (r : RegId) (w : Word) (y : Nat) : (h.setReg r w).obj y = h.obj y := rfl
@[simp] theorem Hw.setReg_stepCount (h : Hw) (r : RegId) (w : Word) : (h.setReg r w).stepCount = h.stepCount := rfl
@[simp] theorem Hw.setReg_phase (h : Hw) (r : RegId) (w : Word) : (h.setReg r w).phase = h.phase := rfl
@[simp] theorem Hw.setReg_power (h : Hw) (r : RegId) (w : Word) : (h.setReg r w).power = h.power := rfl
@[simp] theorem Hw.setReg_fresh (h : Hw) (r : RegId) (w : Word) : (h.setReg r w).fresh = h.fresh := rfl
@[simp] theorem Hw.setReg_faultLog (h : Hw) (r : RegId) (w : Word) : (h.setReg r w).faultLog = h.faultLog := rfl
@[simp] theorem Hw.setReg_lastStatus (h : Hw) (r : RegId) (w : Word) : (h.setReg r w).lastStatus = h.lastStatus := rfl
@[simp] theorem Hw.setReg_lastData (h : Hw) (r : RegId) (w : Word) : (h.setReg r w).lastData = h.lastData := rfl
@[simp] theorem Hw.setReg_load (h : Hw) (r : RegId) (w : Word) : (h.setReg r w).load = h.load := rfl
@[simp] theorem Hw.setReg_dbgSt (h : Hw) (r : RegId) (w : Word) : (h.setReg r w).dbgSt = h.dbgSt := rfl
@[simp] theorem Hw.setReg_serial (h : Hw) (r : RegId) (w : Word) : (h.setReg r w).serial = h.serial := rfl
@[simp] theorem Hw.setReg_service (h : Hw) (r : RegId) (w : Word) : (h.setReg r w).service = h.service := rfl
@[simp] theorem Hw.setReg_discharge (h : Hw) (r : RegId) (w : Word) : (h.setReg r w).discharge = h.discharge := rfl
@[simp] theorem Hw.setReg_live (h : Hw) (r : RegId) (w : Word) : (h.setReg r w).live = h.live := rfl

-- `wr`
@[simp] theorem Hw.wr_cell (h : Hw) (f : Fld) (v : Nat) (y : Nat) : (h.wr f v).cell y = h.cell y := rfl
@[simp] theorem Hw.wr_block (h : Hw) (f : Fld) (v : Nat) (y : Nat) : (h.wr f v).block y = h.block y := rfl
@[simp] theorem Hw.wr_thread (h : Hw) (f : Fld) (v : Nat) (y z : Nat) : (h.wr f v).thread y z = h.thread y z := rfl
@[simp] theorem Hw.wr_law (h : Hw) (f : Fld) (v : Nat) (y z : Nat) : (h.wr f v).law y z = h.law y z := rfl
@[simp] theorem Hw.wr_pacer (h : Hw) (f : Fld) (v : Nat) (y z : Nat) : (h.wr f v).pacer y z = h.pacer y z := rfl
@[simp] theorem Hw.wr_part (h : Hw) (f : Fld) (v : Nat) (y : Nat) : (h.wr f v).part y = h.part y := rfl
@[simp] theorem Hw.wr_recorder (h : Hw) (f : Fld) (v : Nat) (y : Nat) : (h.wr f v).recorder y = h.recorder y := rfl
@[simp] theorem Hw.wr_region (h : Hw) (f : Fld) (v : Nat) (y : Nat) : (h.wr f v).region y = h.region y := rfl
@[simp] theorem Hw.wr_die (h : Hw) (f : Fld) (v : Nat) (y : Nat) : (h.wr f v).die y = h.die y := rfl
@[simp] theorem Hw.wr_trio (h : Hw) (f : Fld) (v : Nat) (y : Nat) : (h.wr f v).trio y = h.trio y := rfl
@[simp] theorem Hw.wr_conv (h : Hw) (f : Fld) (v : Nat) (y : Nat) : (h.wr f v).conv y = h.conv y := rfl
@[simp] theorem Hw.wr_area (h : Hw) (f : Fld) (v : Nat) (y : Nat) : (h.wr f v).area y = h.area y := rfl
@[simp] theorem Hw.wr_posUnit (h : Hw) (f : Fld) (v : Nat) (y : Nat) : (h.wr f v).posUnit y = h.posUnit y := rfl
@[simp] theorem Hw.wr_cmp (h : Hw) (f : Fld) (v : Nat) (y z : Nat) : (h.wr f v).cmp y z = h.cmp y z := rfl
@[simp] theorem Hw.wr_chan (h : Hw) (f : Fld) (v : Nat) (y : Nat) : (h.wr f v).chan y = h.chan y := rfl
@[simp] theorem Hw.wr_obj (h : Hw) (f : Fld) (v : Nat) (y : Nat) : (h.wr f v).obj y = h.obj y := rfl
@[simp] theorem Hw.wr_stepCount (h : Hw) (f : Fld) (v : Nat) : (h.wr f v).stepCount = h.stepCount := rfl
@[simp] theorem Hw.wr_phase (h : Hw) (f : Fld) (v : Nat) : (h.wr f v).phase = h.phase := rfl
@[simp] theorem Hw.wr_power (h : Hw) (f : Fld) (v : Nat) : (h.wr f v).power = h.power := rfl
@[simp] theorem Hw.wr_fresh (h : Hw) (f : Fld) (v : Nat) : (h.wr f v).fresh = h.fresh := rfl
@[simp] theorem Hw.wr_faultLog (h : Hw) (f : Fld) (v : Nat) : (h.wr f v).faultLog = h.faultLog := rfl
@[simp] theorem Hw.wr_lastStatus (h : Hw) (f : Fld) (v : Nat) : (h.wr f v).lastStatus = h.lastStatus := rfl
@[simp] theorem Hw.wr_lastData (h : Hw) (f : Fld) (v : Nat) : (h.wr f v).lastData = h.lastData := rfl
@[simp] theorem Hw.wr_load (h : Hw) (f : Fld) (v : Nat) : (h.wr f v).load = h.load := rfl
@[simp] theorem Hw.wr_dbgSt (h : Hw) (f : Fld) (v : Nat) : (h.wr f v).dbgSt = h.dbgSt := rfl
@[simp] theorem Hw.wr_serial (h : Hw) (f : Fld) (v : Nat) : (h.wr f v).serial = h.serial := rfl
@[simp] theorem Hw.wr_service (h : Hw) (f : Fld) (v : Nat) : (h.wr f v).service = h.service := rfl
@[simp] theorem Hw.wr_discharge (h : Hw) (f : Fld) (v : Nat) : (h.wr f v).discharge = h.discharge := rfl
@[simp] theorem Hw.wr_live (h : Hw) (f : Fld) (v : Nat) : (h.wr f v).live = h.live := rfl

-- `wrI`
@[simp] theorem Hw.wrI_cell (h : Hw) (f : Fld) (i : Int) (y : Nat) : (h.wrI f i).cell y = h.cell y := rfl
@[simp] theorem Hw.wrI_block (h : Hw) (f : Fld) (i : Int) (y : Nat) : (h.wrI f i).block y = h.block y := rfl
@[simp] theorem Hw.wrI_thread (h : Hw) (f : Fld) (i : Int) (y z : Nat) : (h.wrI f i).thread y z = h.thread y z := rfl
@[simp] theorem Hw.wrI_law (h : Hw) (f : Fld) (i : Int) (y z : Nat) : (h.wrI f i).law y z = h.law y z := rfl
@[simp] theorem Hw.wrI_pacer (h : Hw) (f : Fld) (i : Int) (y z : Nat) : (h.wrI f i).pacer y z = h.pacer y z := rfl
@[simp] theorem Hw.wrI_part (h : Hw) (f : Fld) (i : Int) (y : Nat) : (h.wrI f i).part y = h.part y := rfl
@[simp] theorem Hw.wrI_recorder (h : Hw) (f : Fld) (i : Int) (y : Nat) : (h.wrI f i).recorder y = h.recorder y := rfl
@[simp] theorem Hw.wrI_region (h : Hw) (f : Fld) (i : Int) (y : Nat) : (h.wrI f i).region y = h.region y := rfl
@[simp] theorem Hw.wrI_die (h : Hw) (f : Fld) (i : Int) (y : Nat) : (h.wrI f i).die y = h.die y := rfl
@[simp] theorem Hw.wrI_trio (h : Hw) (f : Fld) (i : Int) (y : Nat) : (h.wrI f i).trio y = h.trio y := rfl
@[simp] theorem Hw.wrI_conv (h : Hw) (f : Fld) (i : Int) (y : Nat) : (h.wrI f i).conv y = h.conv y := rfl
@[simp] theorem Hw.wrI_area (h : Hw) (f : Fld) (i : Int) (y : Nat) : (h.wrI f i).area y = h.area y := rfl
@[simp] theorem Hw.wrI_posUnit (h : Hw) (f : Fld) (i : Int) (y : Nat) : (h.wrI f i).posUnit y = h.posUnit y := rfl
@[simp] theorem Hw.wrI_cmp (h : Hw) (f : Fld) (i : Int) (y z : Nat) : (h.wrI f i).cmp y z = h.cmp y z := rfl
@[simp] theorem Hw.wrI_chan (h : Hw) (f : Fld) (i : Int) (y : Nat) : (h.wrI f i).chan y = h.chan y := rfl
@[simp] theorem Hw.wrI_obj (h : Hw) (f : Fld) (i : Int) (y : Nat) : (h.wrI f i).obj y = h.obj y := rfl
@[simp] theorem Hw.wrI_stepCount (h : Hw) (f : Fld) (i : Int) : (h.wrI f i).stepCount = h.stepCount := rfl
@[simp] theorem Hw.wrI_phase (h : Hw) (f : Fld) (i : Int) : (h.wrI f i).phase = h.phase := rfl
@[simp] theorem Hw.wrI_power (h : Hw) (f : Fld) (i : Int) : (h.wrI f i).power = h.power := rfl
@[simp] theorem Hw.wrI_fresh (h : Hw) (f : Fld) (i : Int) : (h.wrI f i).fresh = h.fresh := rfl
@[simp] theorem Hw.wrI_faultLog (h : Hw) (f : Fld) (i : Int) : (h.wrI f i).faultLog = h.faultLog := rfl
@[simp] theorem Hw.wrI_lastStatus (h : Hw) (f : Fld) (i : Int) : (h.wrI f i).lastStatus = h.lastStatus := rfl
@[simp] theorem Hw.wrI_lastData (h : Hw) (f : Fld) (i : Int) : (h.wrI f i).lastData = h.lastData := rfl
@[simp] theorem Hw.wrI_load (h : Hw) (f : Fld) (i : Int) : (h.wrI f i).load = h.load := rfl
@[simp] theorem Hw.wrI_dbgSt (h : Hw) (f : Fld) (i : Int) : (h.wrI f i).dbgSt = h.dbgSt := rfl
@[simp] theorem Hw.wrI_serial (h : Hw) (f : Fld) (i : Int) : (h.wrI f i).serial = h.serial := rfl
@[simp] theorem Hw.wrI_service (h : Hw) (f : Fld) (i : Int) : (h.wrI f i).service = h.service := rfl
@[simp] theorem Hw.wrI_discharge (h : Hw) (f : Fld) (i : Int) : (h.wrI f i).discharge = h.discharge := rfl
@[simp] theorem Hw.wrI_live (h : Hw) (f : Fld) (i : Int) : (h.wrI f i).live = h.live := rfl

-- `wrB`
@[simp] theorem Hw.wrB_cell (h : Hw) (f : Fld) (b : Bool) (y : Nat) : (h.wrB f b).cell y = h.cell y := rfl
@[simp] theorem Hw.wrB_block (h : Hw) (f : Fld) (b : Bool) (y : Nat) : (h.wrB f b).block y = h.block y := rfl
@[simp] theorem Hw.wrB_thread (h : Hw) (f : Fld) (b : Bool) (y z : Nat) : (h.wrB f b).thread y z = h.thread y z := rfl
@[simp] theorem Hw.wrB_law (h : Hw) (f : Fld) (b : Bool) (y z : Nat) : (h.wrB f b).law y z = h.law y z := rfl
@[simp] theorem Hw.wrB_pacer (h : Hw) (f : Fld) (b : Bool) (y z : Nat) : (h.wrB f b).pacer y z = h.pacer y z := rfl
@[simp] theorem Hw.wrB_part (h : Hw) (f : Fld) (b : Bool) (y : Nat) : (h.wrB f b).part y = h.part y := rfl
@[simp] theorem Hw.wrB_recorder (h : Hw) (f : Fld) (b : Bool) (y : Nat) : (h.wrB f b).recorder y = h.recorder y := rfl
@[simp] theorem Hw.wrB_region (h : Hw) (f : Fld) (b : Bool) (y : Nat) : (h.wrB f b).region y = h.region y := rfl
@[simp] theorem Hw.wrB_die (h : Hw) (f : Fld) (b : Bool) (y : Nat) : (h.wrB f b).die y = h.die y := rfl
@[simp] theorem Hw.wrB_trio (h : Hw) (f : Fld) (b : Bool) (y : Nat) : (h.wrB f b).trio y = h.trio y := rfl
@[simp] theorem Hw.wrB_conv (h : Hw) (f : Fld) (b : Bool) (y : Nat) : (h.wrB f b).conv y = h.conv y := rfl
@[simp] theorem Hw.wrB_area (h : Hw) (f : Fld) (b : Bool) (y : Nat) : (h.wrB f b).area y = h.area y := rfl
@[simp] theorem Hw.wrB_posUnit (h : Hw) (f : Fld) (b : Bool) (y : Nat) : (h.wrB f b).posUnit y = h.posUnit y := rfl
@[simp] theorem Hw.wrB_cmp (h : Hw) (f : Fld) (b : Bool) (y z : Nat) : (h.wrB f b).cmp y z = h.cmp y z := rfl
@[simp] theorem Hw.wrB_chan (h : Hw) (f : Fld) (b : Bool) (y : Nat) : (h.wrB f b).chan y = h.chan y := rfl
@[simp] theorem Hw.wrB_obj (h : Hw) (f : Fld) (b : Bool) (y : Nat) : (h.wrB f b).obj y = h.obj y := rfl
@[simp] theorem Hw.wrB_stepCount (h : Hw) (f : Fld) (b : Bool) : (h.wrB f b).stepCount = h.stepCount := rfl
@[simp] theorem Hw.wrB_phase (h : Hw) (f : Fld) (b : Bool) : (h.wrB f b).phase = h.phase := rfl
@[simp] theorem Hw.wrB_power (h : Hw) (f : Fld) (b : Bool) : (h.wrB f b).power = h.power := rfl
@[simp] theorem Hw.wrB_fresh (h : Hw) (f : Fld) (b : Bool) : (h.wrB f b).fresh = h.fresh := rfl
@[simp] theorem Hw.wrB_faultLog (h : Hw) (f : Fld) (b : Bool) : (h.wrB f b).faultLog = h.faultLog := rfl
@[simp] theorem Hw.wrB_lastStatus (h : Hw) (f : Fld) (b : Bool) : (h.wrB f b).lastStatus = h.lastStatus := rfl
@[simp] theorem Hw.wrB_lastData (h : Hw) (f : Fld) (b : Bool) : (h.wrB f b).lastData = h.lastData := rfl
@[simp] theorem Hw.wrB_load (h : Hw) (f : Fld) (b : Bool) : (h.wrB f b).load = h.load := rfl
@[simp] theorem Hw.wrB_dbgSt (h : Hw) (f : Fld) (b : Bool) : (h.wrB f b).dbgSt = h.dbgSt := rfl
@[simp] theorem Hw.wrB_serial (h : Hw) (f : Fld) (b : Bool) : (h.wrB f b).serial = h.serial := rfl
@[simp] theorem Hw.wrB_service (h : Hw) (f : Fld) (b : Bool) : (h.wrB f b).service = h.service := rfl
@[simp] theorem Hw.wrB_discharge (h : Hw) (f : Fld) (b : Bool) : (h.wrB f b).discharge = h.discharge := rfl
@[simp] theorem Hw.wrB_live (h : Hw) (f : Fld) (b : Bool) : (h.wrB f b).live = h.live := rfl

-- `wrBit`
@[simp] theorem Hw.wrBit_cell (h : Hw) (f : Fld) (i : Nat) (b : Bool) (y : Nat) : (h.wrBit f i b).cell y = h.cell y := rfl
@[simp] theorem Hw.wrBit_block (h : Hw) (f : Fld) (i : Nat) (b : Bool) (y : Nat) : (h.wrBit f i b).block y = h.block y := rfl
@[simp] theorem Hw.wrBit_thread (h : Hw) (f : Fld) (i : Nat) (b : Bool) (y z : Nat) : (h.wrBit f i b).thread y z = h.thread y z := rfl
@[simp] theorem Hw.wrBit_law (h : Hw) (f : Fld) (i : Nat) (b : Bool) (y z : Nat) : (h.wrBit f i b).law y z = h.law y z := rfl
@[simp] theorem Hw.wrBit_pacer (h : Hw) (f : Fld) (i : Nat) (b : Bool) (y z : Nat) : (h.wrBit f i b).pacer y z = h.pacer y z := rfl
@[simp] theorem Hw.wrBit_part (h : Hw) (f : Fld) (i : Nat) (b : Bool) (y : Nat) : (h.wrBit f i b).part y = h.part y := rfl
@[simp] theorem Hw.wrBit_recorder (h : Hw) (f : Fld) (i : Nat) (b : Bool) (y : Nat) : (h.wrBit f i b).recorder y = h.recorder y := rfl
@[simp] theorem Hw.wrBit_region (h : Hw) (f : Fld) (i : Nat) (b : Bool) (y : Nat) : (h.wrBit f i b).region y = h.region y := rfl
@[simp] theorem Hw.wrBit_die (h : Hw) (f : Fld) (i : Nat) (b : Bool) (y : Nat) : (h.wrBit f i b).die y = h.die y := rfl
@[simp] theorem Hw.wrBit_trio (h : Hw) (f : Fld) (i : Nat) (b : Bool) (y : Nat) : (h.wrBit f i b).trio y = h.trio y := rfl
@[simp] theorem Hw.wrBit_conv (h : Hw) (f : Fld) (i : Nat) (b : Bool) (y : Nat) : (h.wrBit f i b).conv y = h.conv y := rfl
@[simp] theorem Hw.wrBit_area (h : Hw) (f : Fld) (i : Nat) (b : Bool) (y : Nat) : (h.wrBit f i b).area y = h.area y := rfl
@[simp] theorem Hw.wrBit_posUnit (h : Hw) (f : Fld) (i : Nat) (b : Bool) (y : Nat) : (h.wrBit f i b).posUnit y = h.posUnit y := rfl
@[simp] theorem Hw.wrBit_cmp (h : Hw) (f : Fld) (i : Nat) (b : Bool) (y z : Nat) : (h.wrBit f i b).cmp y z = h.cmp y z := rfl
@[simp] theorem Hw.wrBit_chan (h : Hw) (f : Fld) (i : Nat) (b : Bool) (y : Nat) : (h.wrBit f i b).chan y = h.chan y := rfl
@[simp] theorem Hw.wrBit_obj (h : Hw) (f : Fld) (i : Nat) (b : Bool) (y : Nat) : (h.wrBit f i b).obj y = h.obj y := rfl
@[simp] theorem Hw.wrBit_stepCount (h : Hw) (f : Fld) (i : Nat) (b : Bool) : (h.wrBit f i b).stepCount = h.stepCount := rfl
@[simp] theorem Hw.wrBit_phase (h : Hw) (f : Fld) (i : Nat) (b : Bool) : (h.wrBit f i b).phase = h.phase := rfl
@[simp] theorem Hw.wrBit_power (h : Hw) (f : Fld) (i : Nat) (b : Bool) : (h.wrBit f i b).power = h.power := rfl
@[simp] theorem Hw.wrBit_fresh (h : Hw) (f : Fld) (i : Nat) (b : Bool) : (h.wrBit f i b).fresh = h.fresh := rfl
@[simp] theorem Hw.wrBit_faultLog (h : Hw) (f : Fld) (i : Nat) (b : Bool) : (h.wrBit f i b).faultLog = h.faultLog := rfl
@[simp] theorem Hw.wrBit_lastStatus (h : Hw) (f : Fld) (i : Nat) (b : Bool) : (h.wrBit f i b).lastStatus = h.lastStatus := rfl
@[simp] theorem Hw.wrBit_lastData (h : Hw) (f : Fld) (i : Nat) (b : Bool) : (h.wrBit f i b).lastData = h.lastData := rfl
@[simp] theorem Hw.wrBit_load (h : Hw) (f : Fld) (i : Nat) (b : Bool) : (h.wrBit f i b).load = h.load := rfl
@[simp] theorem Hw.wrBit_dbgSt (h : Hw) (f : Fld) (i : Nat) (b : Bool) : (h.wrBit f i b).dbgSt = h.dbgSt := rfl
@[simp] theorem Hw.wrBit_serial (h : Hw) (f : Fld) (i : Nat) (b : Bool) : (h.wrBit f i b).serial = h.serial := rfl
@[simp] theorem Hw.wrBit_service (h : Hw) (f : Fld) (i : Nat) (b : Bool) : (h.wrBit f i b).service = h.service := rfl
@[simp] theorem Hw.wrBit_discharge (h : Hw) (f : Fld) (i : Nat) (b : Bool) : (h.wrBit f i b).discharge = h.discharge := rfl
@[simp] theorem Hw.wrBit_live (h : Hw) (f : Fld) (i : Nat) (b : Bool) : (h.wrBit f i b).live = h.live := rfl

-- `inc`
@[simp] theorem Hw.inc_cell (h : Hw) (f : Fld) (y : Nat) : (h.inc f).cell y = h.cell y := rfl
@[simp] theorem Hw.inc_block (h : Hw) (f : Fld) (y : Nat) : (h.inc f).block y = h.block y := rfl
@[simp] theorem Hw.inc_thread (h : Hw) (f : Fld) (y z : Nat) : (h.inc f).thread y z = h.thread y z := rfl
@[simp] theorem Hw.inc_law (h : Hw) (f : Fld) (y z : Nat) : (h.inc f).law y z = h.law y z := rfl
@[simp] theorem Hw.inc_pacer (h : Hw) (f : Fld) (y z : Nat) : (h.inc f).pacer y z = h.pacer y z := rfl
@[simp] theorem Hw.inc_part (h : Hw) (f : Fld) (y : Nat) : (h.inc f).part y = h.part y := rfl
@[simp] theorem Hw.inc_recorder (h : Hw) (f : Fld) (y : Nat) : (h.inc f).recorder y = h.recorder y := rfl
@[simp] theorem Hw.inc_region (h : Hw) (f : Fld) (y : Nat) : (h.inc f).region y = h.region y := rfl
@[simp] theorem Hw.inc_die (h : Hw) (f : Fld) (y : Nat) : (h.inc f).die y = h.die y := rfl
@[simp] theorem Hw.inc_trio (h : Hw) (f : Fld) (y : Nat) : (h.inc f).trio y = h.trio y := rfl
@[simp] theorem Hw.inc_conv (h : Hw) (f : Fld) (y : Nat) : (h.inc f).conv y = h.conv y := rfl
@[simp] theorem Hw.inc_area (h : Hw) (f : Fld) (y : Nat) : (h.inc f).area y = h.area y := rfl
@[simp] theorem Hw.inc_posUnit (h : Hw) (f : Fld) (y : Nat) : (h.inc f).posUnit y = h.posUnit y := rfl
@[simp] theorem Hw.inc_cmp (h : Hw) (f : Fld) (y z : Nat) : (h.inc f).cmp y z = h.cmp y z := rfl
@[simp] theorem Hw.inc_chan (h : Hw) (f : Fld) (y : Nat) : (h.inc f).chan y = h.chan y := rfl
@[simp] theorem Hw.inc_obj (h : Hw) (f : Fld) (y : Nat) : (h.inc f).obj y = h.obj y := rfl
@[simp] theorem Hw.inc_stepCount (h : Hw) (f : Fld) : (h.inc f).stepCount = h.stepCount := rfl
@[simp] theorem Hw.inc_phase (h : Hw) (f : Fld) : (h.inc f).phase = h.phase := rfl
@[simp] theorem Hw.inc_power (h : Hw) (f : Fld) : (h.inc f).power = h.power := rfl
@[simp] theorem Hw.inc_fresh (h : Hw) (f : Fld) : (h.inc f).fresh = h.fresh := rfl
@[simp] theorem Hw.inc_faultLog (h : Hw) (f : Fld) : (h.inc f).faultLog = h.faultLog := rfl
@[simp] theorem Hw.inc_lastStatus (h : Hw) (f : Fld) : (h.inc f).lastStatus = h.lastStatus := rfl
@[simp] theorem Hw.inc_lastData (h : Hw) (f : Fld) : (h.inc f).lastData = h.lastData := rfl
@[simp] theorem Hw.inc_load (h : Hw) (f : Fld) : (h.inc f).load = h.load := rfl
@[simp] theorem Hw.inc_dbgSt (h : Hw) (f : Fld) : (h.inc f).dbgSt = h.dbgSt := rfl
@[simp] theorem Hw.inc_serial (h : Hw) (f : Fld) : (h.inc f).serial = h.serial := rfl
@[simp] theorem Hw.inc_service (h : Hw) (f : Fld) : (h.inc f).service = h.service := rfl
@[simp] theorem Hw.inc_discharge (h : Hw) (f : Fld) : (h.inc f).discharge = h.discharge := rfl
@[simp] theorem Hw.inc_live (h : Hw) (f : Fld) : (h.inc f).live = h.live := rfl

-- `incTop`
@[simp] theorem Hw.incTop_cell (h : Hw) (f : Fld) (y : Nat) : (h.incTop f).cell y = h.cell y := rfl
@[simp] theorem Hw.incTop_block (h : Hw) (f : Fld) (y : Nat) : (h.incTop f).block y = h.block y := rfl
@[simp] theorem Hw.incTop_thread (h : Hw) (f : Fld) (y z : Nat) : (h.incTop f).thread y z = h.thread y z := rfl
@[simp] theorem Hw.incTop_law (h : Hw) (f : Fld) (y z : Nat) : (h.incTop f).law y z = h.law y z := rfl
@[simp] theorem Hw.incTop_pacer (h : Hw) (f : Fld) (y z : Nat) : (h.incTop f).pacer y z = h.pacer y z := rfl
@[simp] theorem Hw.incTop_part (h : Hw) (f : Fld) (y : Nat) : (h.incTop f).part y = h.part y := rfl
@[simp] theorem Hw.incTop_recorder (h : Hw) (f : Fld) (y : Nat) : (h.incTop f).recorder y = h.recorder y := rfl
@[simp] theorem Hw.incTop_region (h : Hw) (f : Fld) (y : Nat) : (h.incTop f).region y = h.region y := rfl
@[simp] theorem Hw.incTop_die (h : Hw) (f : Fld) (y : Nat) : (h.incTop f).die y = h.die y := rfl
@[simp] theorem Hw.incTop_trio (h : Hw) (f : Fld) (y : Nat) : (h.incTop f).trio y = h.trio y := rfl
@[simp] theorem Hw.incTop_conv (h : Hw) (f : Fld) (y : Nat) : (h.incTop f).conv y = h.conv y := rfl
@[simp] theorem Hw.incTop_area (h : Hw) (f : Fld) (y : Nat) : (h.incTop f).area y = h.area y := rfl
@[simp] theorem Hw.incTop_posUnit (h : Hw) (f : Fld) (y : Nat) : (h.incTop f).posUnit y = h.posUnit y := rfl
@[simp] theorem Hw.incTop_cmp (h : Hw) (f : Fld) (y z : Nat) : (h.incTop f).cmp y z = h.cmp y z := rfl
@[simp] theorem Hw.incTop_chan (h : Hw) (f : Fld) (y : Nat) : (h.incTop f).chan y = h.chan y := rfl
@[simp] theorem Hw.incTop_obj (h : Hw) (f : Fld) (y : Nat) : (h.incTop f).obj y = h.obj y := rfl
@[simp] theorem Hw.incTop_stepCount (h : Hw) (f : Fld) : (h.incTop f).stepCount = h.stepCount := rfl
@[simp] theorem Hw.incTop_phase (h : Hw) (f : Fld) : (h.incTop f).phase = h.phase := rfl
@[simp] theorem Hw.incTop_power (h : Hw) (f : Fld) : (h.incTop f).power = h.power := rfl
@[simp] theorem Hw.incTop_fresh (h : Hw) (f : Fld) : (h.incTop f).fresh = h.fresh := rfl
@[simp] theorem Hw.incTop_faultLog (h : Hw) (f : Fld) : (h.incTop f).faultLog = h.faultLog := rfl
@[simp] theorem Hw.incTop_lastStatus (h : Hw) (f : Fld) : (h.incTop f).lastStatus = h.lastStatus := rfl
@[simp] theorem Hw.incTop_lastData (h : Hw) (f : Fld) : (h.incTop f).lastData = h.lastData := rfl
@[simp] theorem Hw.incTop_load (h : Hw) (f : Fld) : (h.incTop f).load = h.load := rfl
@[simp] theorem Hw.incTop_dbgSt (h : Hw) (f : Fld) : (h.incTop f).dbgSt = h.dbgSt := rfl
@[simp] theorem Hw.incTop_serial (h : Hw) (f : Fld) : (h.incTop f).serial = h.serial := rfl
@[simp] theorem Hw.incTop_service (h : Hw) (f : Fld) : (h.incTop f).service = h.service := rfl
@[simp] theorem Hw.incTop_discharge (h : Hw) (f : Fld) : (h.incTop f).discharge = h.discharge := rfl
@[simp] theorem Hw.incTop_live (h : Hw) (f : Fld) : (h.incTop f).live = h.live := rfl

-- `updSerial`
@[simp] theorem Hw.updSerial_cell (h : Hw) (g : Serial → Serial) (y : Nat) : (h.updSerial g).cell y = h.cell y := rfl
@[simp] theorem Hw.updSerial_block (h : Hw) (g : Serial → Serial) (y : Nat) : (h.updSerial g).block y = h.block y := rfl
@[simp] theorem Hw.updSerial_thread (h : Hw) (g : Serial → Serial) (y z : Nat) : (h.updSerial g).thread y z = h.thread y z := rfl
@[simp] theorem Hw.updSerial_law (h : Hw) (g : Serial → Serial) (y z : Nat) : (h.updSerial g).law y z = h.law y z := rfl
@[simp] theorem Hw.updSerial_pacer (h : Hw) (g : Serial → Serial) (y z : Nat) : (h.updSerial g).pacer y z = h.pacer y z := rfl
@[simp] theorem Hw.updSerial_part (h : Hw) (g : Serial → Serial) (y : Nat) : (h.updSerial g).part y = h.part y := rfl
@[simp] theorem Hw.updSerial_recorder (h : Hw) (g : Serial → Serial) (y : Nat) : (h.updSerial g).recorder y = h.recorder y := rfl
@[simp] theorem Hw.updSerial_region (h : Hw) (g : Serial → Serial) (y : Nat) : (h.updSerial g).region y = h.region y := rfl
@[simp] theorem Hw.updSerial_die (h : Hw) (g : Serial → Serial) (y : Nat) : (h.updSerial g).die y = h.die y := rfl
@[simp] theorem Hw.updSerial_trio (h : Hw) (g : Serial → Serial) (y : Nat) : (h.updSerial g).trio y = h.trio y := rfl
@[simp] theorem Hw.updSerial_conv (h : Hw) (g : Serial → Serial) (y : Nat) : (h.updSerial g).conv y = h.conv y := rfl
@[simp] theorem Hw.updSerial_area (h : Hw) (g : Serial → Serial) (y : Nat) : (h.updSerial g).area y = h.area y := rfl
@[simp] theorem Hw.updSerial_posUnit (h : Hw) (g : Serial → Serial) (y : Nat) : (h.updSerial g).posUnit y = h.posUnit y := rfl
@[simp] theorem Hw.updSerial_cmp (h : Hw) (g : Serial → Serial) (y z : Nat) : (h.updSerial g).cmp y z = h.cmp y z := rfl
@[simp] theorem Hw.updSerial_chan (h : Hw) (g : Serial → Serial) (y : Nat) : (h.updSerial g).chan y = h.chan y := rfl
@[simp] theorem Hw.updSerial_obj (h : Hw) (g : Serial → Serial) (y : Nat) : (h.updSerial g).obj y = h.obj y := rfl
@[simp] theorem Hw.updSerial_reg (h : Hw) (g : Serial → Serial) (y : RegId) : (h.updSerial g).reg y = h.reg y := rfl
@[simp] theorem Hw.updSerial_rd (h : Hw) (g : Serial → Serial) (y : Fld) : (h.updSerial g).rd y = h.rd y := rfl
@[simp] theorem Hw.updSerial_rdI (h : Hw) (g : Serial → Serial) (y : Fld) : (h.updSerial g).rdI y = h.rdI y := rfl
@[simp] theorem Hw.updSerial_on (h : Hw) (g : Serial → Serial) (y : Fld) : (h.updSerial g).on y = h.on y := rfl
@[simp] theorem Hw.updSerial_bit (h : Hw) (g : Serial → Serial) (y : Fld) (z : Nat) : (h.updSerial g).bit y z = h.bit y z := rfl
@[simp] theorem Hw.updSerial_stepCount (h : Hw) (g : Serial → Serial) : (h.updSerial g).stepCount = h.stepCount := rfl
@[simp] theorem Hw.updSerial_phase (h : Hw) (g : Serial → Serial) : (h.updSerial g).phase = h.phase := rfl
@[simp] theorem Hw.updSerial_power (h : Hw) (g : Serial → Serial) : (h.updSerial g).power = h.power := rfl
@[simp] theorem Hw.updSerial_fresh (h : Hw) (g : Serial → Serial) : (h.updSerial g).fresh = h.fresh := rfl
@[simp] theorem Hw.updSerial_faultLog (h : Hw) (g : Serial → Serial) : (h.updSerial g).faultLog = h.faultLog := rfl
@[simp] theorem Hw.updSerial_lastStatus (h : Hw) (g : Serial → Serial) : (h.updSerial g).lastStatus = h.lastStatus := rfl
@[simp] theorem Hw.updSerial_lastData (h : Hw) (g : Serial → Serial) : (h.updSerial g).lastData = h.lastData := rfl
@[simp] theorem Hw.updSerial_load (h : Hw) (g : Serial → Serial) : (h.updSerial g).load = h.load := rfl
@[simp] theorem Hw.updSerial_dbgSt (h : Hw) (g : Serial → Serial) : (h.updSerial g).dbgSt = h.dbgSt := rfl
@[simp] theorem Hw.updSerial_service (h : Hw) (g : Serial → Serial) : (h.updSerial g).service = h.service := rfl
@[simp] theorem Hw.updSerial_discharge (h : Hw) (g : Serial → Serial) : (h.updSerial g).discharge = h.discharge := rfl
@[simp] theorem Hw.updSerial_live (h : Hw) (g : Serial → Serial) : (h.updSerial g).live = h.live := rfl

end Sys2Proof.Machine
end

