-- ==== Sys2Proof/Laws/Regs.lean ====
section
/-!
SUPPORT. Reading a register or a field after an update of a register or a field.
-/
namespace Sys2Proof.Machine

@[simp] theorem Hw.reg_setReg (h : Hw) (r : RegId) (w : Word) : (h.setReg r w).reg r = w := Tab.get_put_same _ _ _ _

@[simp] theorem Hw.setReg_setReg (h : Hw) (r : RegId) (a b : Word) : (h.setReg r a).setReg r b = h.setReg r b := by
  simp [Hw.setReg, Tab.put_put]

theorem Hw.reg_setReg_ne (h : Hw) (r r' : RegId) (w : Word) (hr : r'.addr ≠ r.addr) : (h.setReg r w).reg r' = h.reg r' :=
  Tab.get_put_ne _ _ _ _ _ _ hr

@[simp] theorem Hw.reg_wr (h : Hw) (f : Fld) (v : Nat) : (h.wr f v).reg f.reg = Bits.set (h.reg f.reg) f.hi f.lo v := by
  simp [Hw.wr]

theorem Hw.reg_wr_ne (h : Hw) (f : Fld) (v : Nat) (r : RegId) (hr : r.addr ≠ f.reg.addr) : (h.wr f v).reg r = h.reg r :=
  Hw.reg_setReg_ne h f.reg r _ hr

/-- A field that is written reads back modulo its width. -/
theorem Hw.rd_wr (h : Hw) (f : Fld) (v : Nat) (hf : f.hi < 32) : (h.wr f v).rd f = v % 2 ^ (f.hi + 1 - f.lo) := by
  simp [Hw.rd, Bits.get_set_same _ _ _ _ hf]

/-- A field of another register stands. -/
theorem Hw.rd_wr_ne (h : Hw) (f g : Fld) (v : Nat) (hr : g.reg.addr ≠ f.reg.addr) : (h.wr f v).rd g = h.rd g := by
  simp [Hw.rd, Hw.reg_wr_ne h f v g.reg hr]

/-- A field beside the one written, in the same register, stands. -/
theorem Hw.rd_wr_beside (h : Hw) (f g : Fld) (v : Nat) (hr : g.reg = f.reg) (hb : g.hi < f.lo ∨ f.hi < g.lo) :
    (h.wr f v).rd g = h.rd g := by
  simp [Hw.rd, hr, Bits.get_set_ne _ _ _ _ _ _ hb]

theorem Hw.rd_setReg (h : Hw) (r : RegId) (w : Word) (f : Fld) (hr : f.reg = r) : (h.setReg r w).rd f = Bits.get w f.hi f.lo := by
  subst hr; simp [Hw.rd]

theorem Hw.rd_setReg_ne (h : Hw) (r : RegId) (w : Word) (f : Fld) (hr : f.reg.addr ≠ r.addr) : (h.setReg r w).rd f = h.rd f := by
  simp [Hw.rd, Hw.reg_setReg_ne h r f.reg w hr]

/-- A one-bit field that is set reads back. -/
theorem Hw.on_wrB (h : Hw) (f : Fld) (b : Bool) (hf : f.hi < 32) (h1 : f.hi = f.lo) : (h.wrB f b).on f = b := by
  have h2 : f.hi + 1 - f.lo = 1 := by omega
  simp only [Hw.on, Hw.wrB, Hw.rd_wr h f _ hf, h2]
  cases b <;> rfl

theorem Hw.on_wrB_ne (h : Hw) (f g : Fld) (b : Bool) (hr : g.reg.addr ≠ f.reg.addr) : (h.wrB f b).on g = h.on g := by
  simp [Hw.on, Hw.wrB, Hw.rd_wr_ne h f g _ hr]

theorem Hw.rd_wrB (h : Hw) (f : Fld) (b : Bool) (hf : f.hi < 32) (h1 : f.hi = f.lo) : (h.wrB f b).rd f = Num.ofBool b := by
  have h2 : f.hi + 1 - f.lo = 1 := by omega
  simp only [Hw.wrB, Hw.rd_wr h f _ hf, h2]
  cases b <;> rfl

theorem Hw.rd_wrB_ne (h : Hw) (f g : Fld) (b : Bool) (hr : g.reg.addr ≠ f.reg.addr) : (h.wrB f b).rd g = h.rd g :=
  Hw.rd_wr_ne h f g _ hr

theorem Hw.reg_wrB_ne (h : Hw) (f : Fld) (b : Bool) (r : RegId) (hr : r.addr ≠ f.reg.addr) : (h.wrB f b).reg r = h.reg r :=
  Hw.reg_wr_ne h f _ r hr

theorem Hw.rd_wrBit_ne (h : Hw) (f g : Fld) (i : Nat) (b : Bool) (hr : g.reg.addr ≠ f.reg.addr) : (h.wrBit f i b).rd g = h.rd g :=
  Hw.rd_wr_ne h f g _ hr

theorem Hw.reg_wrBit_ne (h : Hw) (f : Fld) (i : Nat) (b : Bool) (r : RegId) (hr : r.addr ≠ f.reg.addr) : (h.wrBit f i b).reg r = h.reg r :=
  Hw.reg_wr_ne h f _ r hr

/-- A field is below its size. -/
theorem Hw.rd_lt (h : Hw) (f : Fld) : h.rd f < 2 ^ (f.hi + 1 - f.lo) := Bits.get_lt _ _ _

theorem Num.testBit_addBit (i : Nat) : ∀ (v j : Nat), v.testBit i = false →
    (v + 2 ^ i).testBit j = (if j = i then true else v.testBit j) := by
  induction i with
  | zero =>
    intro v j hv
    have h0 : v % 2 = 0 := by simpa [Nat.testBit_zero] using hv
    cases j with
    | zero => simp [Nat.testBit_zero]; omega
    | succ j =>
      have h1 : (v + 1) / 2 = v / 2 := by omega
      simp [Nat.testBit_succ, h1]
  | succ i ih =>
    intro v j hv
    have h1 : (v + 2 ^ (i + 1)) / 2 = v / 2 + 2 ^ i := by rw [Nat.pow_succ]; omega
    have h2 : (v + 2 ^ (i + 1)) % 2 = v % 2 := by rw [Nat.pow_succ]; omega
    have h3 : (v / 2).testBit i = false := by simpa [Nat.testBit_succ] using hv
    cases j with
    | zero => simp [Nat.testBit_zero, h2]
    | succ j => simp [Nat.testBit_succ, h1, ih (v / 2) j h3]

/-- A bit that is set reads back, and every other bit stands. -/
theorem Num.testBit_setBit (v i j : Nat) (b : Bool) : (Num.setBit v i b).testBit j = if j = i then b else v.testBit j := by
  unfold Num.setBit
  by_cases h : v.testBit i = b
  · by_cases hj : j = i
    · subst hj; simp [h]
    · simp [h, hj]
  · cases b with
    | true =>
      have hv : v.testBit i = false := by simpa using h
      simp [hv, Num.testBit_addBit i v j hv]
    | false =>
      have hv : v.testBit i = true := by simpa using h
      have hge : 2 ^ i ≤ v := Nat.ge_two_pow_of_testBit hv
      have hlow : (v - 2 ^ i).testBit i = false := by
        rw [Nat.testBit_eq_decide_div_mod_eq] at hv ⊢
        have e : (v - 2 ^ i) / 2 ^ i = v / 2 ^ i - 1 := by
          have := Nat.sub_mul_div v (2 ^ i) 1
          simpa using this
        have h1 : 1 ≤ v / 2 ^ i := (Nat.one_le_div_iff (Nat.two_pow_pos i)).2 hge
        rw [e]
        simp at hv ⊢
        omega
      have key := Num.testBit_addBit i (v - 2 ^ i) j hlow
      have hs : v - 2 ^ i + 2 ^ i = v := by omega
      rw [hs] at key
      by_cases hj : j = i
      · subst hj; simp [hv, hlow]
      · simp [hv, hj] at key ⊢
        exact key.symm

end Sys2Proof.Machine
end

