-- ==== Sys2Proof/Laws/Access.lean ====
section
/-!
SUPPORT. What a command that is one register write does, once the checks ahead of the unit let it pass.
-/
namespace Sys2Proof.Machine

/-- While the control dies run, an event acts on the part. -/
theorem State.onLive_live (s : State) (f : Hw → Hw) (hl : s.hw.live = true) : s.onLive f = s.to (f s.hw) := by
  simp [State.onLive, State.to, hl]

/-- While the control dies run, an event acts on the part and its memory. -/
theorem State.onMach_live (s : State) (f : Mach → Mach) (hl : s.hw.live = true) :
    s.onMach f = s.toMach (f ⟨s.mem, s.hw⟩).mem (f ⟨s.mem, s.hw⟩).hw := by
  simp [State.onMach, State.toMach, hl]

/-- While the control dies run, a requester's access reaches the part. -/
theorem State.onBus_live (s : State) (q : Requester) (f : Mach → Mach) (hl : s.hw.live = true) :
    s.onBus q f = .next { s with mem := (f ⟨s.mem, s.hw⟩).mem, hw := (f ⟨s.mem, s.hw⟩).hw } := by
  unfold State.onBus
  split
  · next h => simp [Hw.live, h] at hl
  · next h => simp [Hw.live, h] at hl
  · simp [State.onMach, hl]

/-- A write that the checks let pass, and that its unit accepts, is answered OK. -/
theorem State.regWrite_unit (s : State) (q : Requester) (r : RegId) (v : Word) (x : RegHit) (m : Mach)
    (ha : s.admits q r v) (h4 : r.addr / 4 * 4 = r.addr) (hx : regHit r.addr = some x)
    (hu : (Mach.mk s.mem s.hw).unitStore q x r.addr v = (.ok, m)) :
    s.regWrite q r v = s.toMach m.mem ((m.hw.ramWritten r.addr).answer .ok 0) := by
  obtain ⟨hl, hp⟩ := ha
  simp only [State.regWrite, State.onBus_live _ _ _ hl, Mach.write, Mach.busWrite, h4, hx, hu, hp, State.toMach, Mach.onHw]
  simp

/-- The same for a register whose write acts on the dies' registers alone. -/
theorem State.regWrite_reg (s : State) (q : Requester) (r : RegId) (v : Word) (x : RegHit) (h : Hw)
    (ha : s.admits q r v) (h4 : r.addr / 4 * 4 = r.addr) (hx : regHit r.addr = some x)
    (hk : x.row.hook ∉ [.bsCtrl, .bsPort, .powerCmd, .keepCtrl, .dschCtrl])
    (hu : s.hw.registerWrite q x r.addr v = (.ok, h)) :
    s.regWrite q r v = s.wrote r h := by
  rw [State.regWrite_unit s q r v x ⟨s.mem, h⟩ ha h4 hx]
  · rfl
  · unfold Mach.unitStore
    split <;> simp_all

/-- Whether none of a row's fields is a setting (RW or RWL). -/
def RegRow.noSettings (r : RegRow) : Bool := r.fields.all (fun f => f.acc != .rw && f.acc != .rwl)

/-- A register without settings has no range conditions to meet. -/
theorem Hw.registerWrite_noSettings (h : Hw) (q : Requester) (x : RegHit) (a : Nat) (v : Word) (hn : x.row.noSettings = true) :
    h.registerWrite q x a v = h.unitWrite q x a (x.row.next (h.reg (x.id a)) v) v := by
  have hc : x.row.changesSetting (h.reg (x.id a)) v = false := by
    simp only [RegRow.changesSetting, List.any_eq_false, RegRow.noSettings, List.all_eq_true] at hn ⊢
    intro f hf hcon
    have := hn f hf
    simp_all
  simp [Hw.registerWrite, hc]

/-- Whether the register map has at r a register with hook `hk` and indices `idx` and no settings. -/
def isCommandReg (r : RegId) (hk : RegHook) (idx : List Nat) : Bool :=
  decide (r.addr / 4 * 4 = r.addr) && match regHit r.addr with
    | some x => x.row.hook == hk && x.idx == idx && x.row.noSettings
    | none => false

/-- A write of a command register acts as its unit says. -/
theorem State.regWrite_command (s : State) (q : Requester) (r : RegId) (v : Word) (hk : RegHook) (idx : List Nat) (h : Hw)
    (hc : isCommandReg r hk idx = true) (hs : hk ∉ [.bsCtrl, .bsPort, .powerCmd, .keepCtrl, .dschCtrl])
    (hu : ∀ (x : RegHit) (w : Word), x.row.hook = hk → x.idx = idx → s.hw.unitWrite q x r.addr w v = (.ok, h)) (ha : s.admits q r v) :
    s.regWrite q r v = s.wrote r h := by
  unfold isCommandReg at hc
  split at hc
  · next x hx =>
    simp only [Bool.and_eq_true, beq_iff_eq, decide_eq_true_eq] at hc
    obtain ⟨h4, ⟨hh, hi⟩, hf⟩ := hc
    refine State.regWrite_reg s q r v x h ha h4 hx (hh ▸ hs) ?_
    rw [Hw.registerWrite_noSettings _ _ _ _ _ hf]
    exact hu x _ hh hi
  · simp at hc

end Sys2Proof.Machine
end

