-- ==== Sys2Proof/Laws/Each.lean ====
section
/-!
SUPPORT. Applying a function to each index of a range.
-/
namespace Sys2Proof.Machine

/-- A loop in which only one index acts. -/
theorem Num.forEach_one {σ : Type} (n t : Nat) (f : Nat → σ → σ) (s : σ) (ht : t < n) (hf : ∀ i x, i ≠ t → f i x = x) :
    Num.forEach n f s = f t s := by
  have none : ∀ (l : List Nat) (x : σ), t ∉ l → l.foldl (fun acc i => f i acc) x = x := by
    intro l
    induction l with
    | nil => intro x _; rfl
    | cons a l ih =>
      intro x hm
      simp only [List.mem_cons, not_or] at hm
      simp only [List.foldl_cons, hf a x (Ne.symm hm.1)]
      exact ih x hm.2
  have one : ∀ (l : List Nat) (x : σ), l.Nodup → t ∈ l → l.foldl (fun acc i => f i acc) x = f t x := by
    intro l
    induction l with
    | nil => intro x _ hm; simp at hm
    | cons a l ih =>
      intro x hn hm
      simp only [List.nodup_cons] at hn
      by_cases ha : a = t
      · subst ha
        simp only [List.foldl_cons]
        exact none l _ hn.1
      · simp only [List.foldl_cons, hf a x ha]
        exact ih x hn.2 (by simpa [Ne.symm ha] using hm)
  exact one _ s List.nodup_range (List.mem_range.2 ht)

/-- A property that each step of a loop keeps. -/
theorem Num.forEach_keeps {σ : Type} (P : σ → Prop) (n : Nat) (f : Nat → σ → σ) (s : σ) (h0 : P s) (hf : ∀ i x, P x → P (f i x)) :
    P (Num.forEach n f s) := by
  unfold Num.forEach
  generalize List.range n = l
  induction l generalizing s with
  | nil => exact h0
  | cons a l ih => exact ih _ (hf a s h0)

end Sys2Proof.Machine
end

