-- ==== Sys2Proof/Laws/Memory.lean ====
section
/-!
SUPPORT. Addressed memory: every memory operation keeps the canonical form, and a byte that is written reads back while every other byte
stands.
-/
namespace Sys2Proof.Machine

theorem Memory.rising_iff (lo : Option Nat) (m : Memory) :
    Memory.rising lo m = true ↔ (∀ l, lo = some l → ∀ e ∈ m, l < e.1) ∧ m.Pairwise (fun a b => a.1 < b.1) := by
  induction m generalizing lo with
  | nil => simp [Memory.rising]
  | cons e r ih =>
    obtain ⟨k, v⟩ := e
    simp only [Memory.rising, Bool.and_eq_true, ih, List.pairwise_cons]
    constructor
    · rintro ⟨h1, h2, h3⟩
      have h4 : ∀ e ∈ r, k < e.1 := h2 k rfl
      refine ⟨?_, h4, h3⟩
      rintro l rfl e he
      have h5 : l < k := by simpa using h1
      rcases List.mem_cons.1 he with rfl | he
      · exact h5
      · exact Nat.lt_trans h5 (h4 e he)
    · rintro ⟨h1, h2, h3⟩
      refine ⟨?_, ?_, h3⟩
      · cases lo with
        | none => rfl
        | some l => simpa using h1 l rfl (k, v) (by simp)
      · rintro l hl e he
        cases hl
        exact h2 e he

/-- The canonical form in words: addresses rise strictly, and no entry holds what an unwritten byte reads as. -/
theorem Memory.wf_iff (m : Memory) :
    Memory.wf m = true ↔ m.Pairwise (fun a b => a.1 < b.1) ∧ ∀ e ∈ m, e.2 ≠ Memory.unwritten := by
  simp [Memory.wf, Memory.rising_iff]

theorem Memory.wf_nil : Memory.wf [] = true := rfl

theorem Memory.wf_filter (m : Memory) (p : Host.Cell → Bool) (h : Memory.wf m = true) : Memory.wf (m.filter p) = true := by
  rw [Memory.wf_iff] at *
  exact ⟨h.1.filter p, fun e he => h.2 e (List.mem_filter.1 he).1⟩

theorem Tab.mem_del {α : Type} (t : List (Nat × α)) (k : Nat) (e : Nat × α) : e ∈ Tab.del t k ↔ e ∈ t ∧ e.1 ≠ k := by
  induction t with
  | nil => simp [Tab.del]
  | cons x r ih =>
    obtain ⟨k', v⟩ := x
    by_cases hk : k' = k
    · subst hk
      simp only [Tab.del, if_true, ih, List.mem_cons]
      constructor
      · rintro ⟨h1, h2⟩; exact ⟨.inr h1, h2⟩
      · rintro ⟨rfl | h1, h2⟩
        · exact absurd rfl h2
        · exact ⟨h1, h2⟩
    · simp only [Tab.del, hk, if_false, List.mem_cons, ih]
      constructor
      · rintro (rfl | ⟨h1, h2⟩)
        · exact ⟨.inl rfl, hk⟩
        · exact ⟨.inr h1, h2⟩
      · rintro ⟨rfl | h1, h2⟩
        · exact .inl rfl
        · exact .inr ⟨h1, h2⟩

theorem Tab.mem_ins {α : Type} (t : List (Nat × α)) (k : Nat) (v : α) (e : Nat × α) : e ∈ Tab.ins t k v ↔ e = (k, v) ∨ e ∈ t := by
  induction t with
  | nil => simp [Tab.ins]
  | cons x r ih =>
    obtain ⟨k', w⟩ := x
    by_cases hk : k < k'
    · simp [Tab.ins, hk]
    · simp only [Tab.ins, hk, if_false, List.mem_cons, ih]
      tauto

theorem Tab.rising_del {α : Type} (t : List (Nat × α)) (k : Nat) (h : t.Pairwise (fun a b => a.1 < b.1)) :
    (Tab.del t k).Pairwise (fun a b => a.1 < b.1) := by
  induction t with
  | nil => simp [Tab.del]
  | cons x r ih =>
    obtain ⟨k', v⟩ := x
    rw [List.pairwise_cons] at h
    by_cases hk : k' = k
    · simpa [Tab.del, hk] using ih h.2
    · simp only [Tab.del, hk, if_false, List.pairwise_cons]
      exact ⟨fun e he => h.1 e ((Tab.mem_del r k e).1 he).1, ih h.2⟩

theorem Tab.rising_ins {α : Type} (t : List (Nat × α)) (k : Nat) (v : α) (h : t.Pairwise (fun a b => a.1 < b.1))
    (hk : ∀ e ∈ t, e.1 ≠ k) : (Tab.ins t k v).Pairwise (fun a b => a.1 < b.1) := by
  induction t with
  | nil => simp [Tab.ins]
  | cons x r ih =>
    obtain ⟨k', w⟩ := x
    rw [List.pairwise_cons] at h
    have hne : k' ≠ k := hk (k', w) (by simp)
    by_cases hlt : k < k'
    · simp only [Tab.ins, hlt, if_true, List.pairwise_cons]
      refine ⟨?_, h.1, h.2⟩
      intro e he
      rcases List.mem_cons.1 he with rfl | he
      · exact hlt
      · exact Nat.lt_trans hlt (h.1 e he)
    · simp only [Tab.ins, hlt, if_false, List.pairwise_cons]
      refine ⟨?_, ih h.2 (fun e he => hk e (by simp [he]))⟩
      intro e he
      rcases (Tab.mem_ins r k v e).1 he with rfl | he
      · show k' < k; omega
      · exact h.1 e he

/-- A written byte keeps the canonical form. -/
theorem Memory.wf_setByte (m : Memory) (a : Nat) (b : Byte) (h : Memory.wf m = true) : Memory.wf (m.setByte a b) = true := by
  rw [Memory.wf_iff] at *
  unfold Memory.setByte Tab.put
  split
  · exact ⟨Tab.rising_del m a h.1, fun e he => h.2 e ((Tab.mem_del m a e).1 he).1⟩
  · rename_i hb
    refine ⟨Tab.rising_ins _ a b (Tab.rising_del m a h.1) (Tab.del_ne m a), ?_⟩
    intro e he
    rcases (Tab.mem_ins _ a b e).1 he with rfl | he
    · exact hb
    · exact h.2 e ((Tab.mem_del m a e).1 he).1

theorem Memory.wf_setBytes (bs : List Byte) : ∀ (m : Memory) (a : Nat), Memory.wf m = true → Memory.wf (m.setBytes a bs) = true := by
  induction bs with
  | nil => intro m a h; exact h
  | cons b r ih => intro m a h; exact ih _ _ (Memory.wf_setByte m a b h)

theorem Memory.wf_setWord (m : Memory) (a : Nat) (w : Word) (h : Memory.wf m = true) : Memory.wf (m.setWord a w) = true :=
  Memory.wf_setBytes _ _ _ h

theorem Memory.run_spec (bs : List Byte) : ∀ a : Nat, (Memory.run a bs).Pairwise (fun x y => x.1 < y.1) ∧
    ∀ e ∈ Memory.run a bs, a ≤ e.1 ∧ e.1 < a + bs.length ∧ e.2 ≠ Memory.unwritten := by
  induction bs with
  | nil => intro a; simp [Memory.run]
  | cons b r ih =>
    intro a
    obtain ⟨h1, h2⟩ := ih (a + 1)
    have h3 : ∀ e ∈ Memory.run (a + 1) r, a < e.1 := fun e he => by have := (h2 e he).1; omega
    unfold Memory.run
    split
    · refine ⟨h1, fun e he => ?_⟩
      have := h2 e he
      simp only [List.length_cons]
      exact ⟨by omega, by omega, this.2.2⟩
    · rename_i hb
      refine ⟨List.pairwise_cons.2 ⟨h3, h1⟩, fun e he => ?_⟩
      rcases List.mem_cons.1 he with rfl | he
      · exact ⟨Nat.le_refl _, by simp, hb⟩
      · have := h2 e he
        simp only [List.length_cons]
        exact ⟨by omega, by omega, this.2.2⟩

/-- A whole run that is replaced keeps the canonical form. -/
theorem Memory.wf_putRange (m : Memory) (a : Nat) (bs : List Byte) (h : Memory.wf m = true) : Memory.wf (m.putRange a bs) = true := by
  rw [Memory.wf_iff] at *
  obtain ⟨r1, r2⟩ := Memory.run_spec bs a
  refine ⟨?_, ?_⟩
  · unfold Memory.putRange
    rw [List.pairwise_append, List.pairwise_append]
    refine ⟨⟨h.1.filter _, r1, ?_⟩, h.1.filter _, ?_⟩
    · intro x hx y hy
      have := (List.mem_filter.1 hx).2
      have := (r2 y hy).1
      simp at *; omega
    · intro x hx y hy
      have h1 := (List.mem_filter.1 hy).2
      rcases List.mem_append.1 hx with hx | hx
      · have := (List.mem_filter.1 hx).2
        simp at *; omega
      · have := (r2 x hx).2.1
        simp at *; omega
  · intro e he
    rcases List.mem_append.1 he with he | he
    · rcases List.mem_append.1 he with he | he
      · exact h.2 e (List.mem_filter.1 he).1
      · exact (r2 e he).2.2
    · exact h.2 e (List.mem_filter.1 he).1

theorem Memory.wf_fill (m : Memory) (a n : Nat) (b : Byte) (h : Memory.wf m = true) : Memory.wf (m.fill a n b) = true :=
  Memory.wf_putRange m a _ h

/-- A byte that is written reads back. -/
@[simp] theorem Memory.byte_setByte (m : Memory) (a : Nat) (b : Byte) : (m.setByte a b).byte a = b := Tab.get_put_same _ _ _ _

/-- Every other byte stands. -/
theorem Memory.byte_setByte_ne (m : Memory) (a j : Nat) (b : Byte) (h : j ≠ a) : (m.setByte a b).byte j = m.byte j :=
  Tab.get_put_ne _ _ _ _ _ _ h

/-- Bytes outside a run that is written stand. -/
theorem Memory.byte_setBytes_outside (bs : List Byte) : ∀ (m : Memory) (a j : Nat), j < a ∨ a + bs.length ≤ j →
    (m.setBytes a bs).byte j = m.byte j := by
  induction bs with
  | nil => intros; rfl
  | cons b r ih =>
    intro m a j h
    simp only [List.length_cons] at h
    rw [Memory.setBytes, ih _ _ _ (by omega), Memory.byte_setByte_ne _ _ _ _ (by omega)]

/-- The bytes of a run that is written read back. -/
theorem Memory.byte_setBytes (bs : List Byte) : ∀ (m : Memory) (a i : Nat) (hi : i < bs.length),
    (m.setBytes a bs).byte (a + i) = bs[i] := by
  induction bs with
  | nil => intro m a i hi; simp at hi
  | cons b r ih =>
    intro m a i hi
    cases i with
    | zero => rw [Memory.setBytes, Nat.add_zero, Memory.byte_setBytes_outside _ _ _ _ (by omega)]; simp
    | succ i =>
      have := ih (m.setByte a b) (a + 1) i (by simpa using hi)
      rw [Memory.setBytes, show a + (i + 1) = a + 1 + i by omega, this]
      simp

/-- Bytes outside a word that is written stand. -/
theorem Memory.byte_setWord_outside (m : Memory) (a j : Nat) (w : Word) (h : j < a ∨ a + 4 ≤ j) : (m.setWord a w).byte j = m.byte j :=
  Memory.byte_setBytes_outside _ m a j (by simpa [Num.bytesLE] using h)

theorem Num.ofBytesLE_bytesLE4 (v : Nat) (h : v < 2 ^ 32) : Num.ofBytesLE (Num.bytesLE 4 v) = v := by
  simp [Num.bytesLE, Num.ofBytesLE, List.range_succ, Nat.shiftRight_eq_div_pow]
  omega

/-- A word that is written reads back. -/
theorem Memory.word_setWord (m : Memory) (a : Nat) (w : Word) : (m.setWord a w).word a = w := by
  have hb : (m.setWord a w).bytes a 4 = Num.bytesLE 4 w.toNat := by
    unfold Memory.bytes
    apply List.ext_getElem
    · simp [Num.bytesLE]
    · intro i h1 h2
      simp only [List.getElem_map, List.getElem_range]
      exact Memory.byte_setBytes _ m a i h2
  rw [Memory.word, hb, Num.ofBytesLE_bytesLE4 _ w.isLt]
  simp

end Sys2Proof.Machine
end

