-- ==== Sys2Proof/Laws/Power.lean ====
section
/-!
SUPPORT. What leaves the power phase as it is.
-/
namespace Sys2Proof.Machine

@[simp] theorem Hw.power_setReg (h : Hw) (r : RegId) (w : Word) : (h.setReg r w).power = h.power := rfl
@[simp] theorem Hw.power_wr (h : Hw) (f : Fld) (v : Nat) : (h.wr f v).power = h.power := rfl
@[simp] theorem Hw.power_wrB (h : Hw) (f : Fld) (b : Bool) : (h.wrB f b).power = h.power := rfl
@[simp] theorem Hw.power_wrBit (h : Hw) (f : Fld) (i : Nat) (b : Bool) : (h.wrBit f i b).power = h.power := rfl

/-- A fold whose steps keep a value keeps it. -/
theorem foldl_keeps {α β σ : Type} (g : σ → β) (l : List α) (f : σ → α → σ) (s : σ) (hf : ∀ x a, g (f x a) = g x) :
    g (l.foldl f s) = g s := by
  induction l generalizing s with
  | nil => rfl
  | cons a l ih => exact (ih _).trans (hf s a)

/-- A loop whose steps keep a value keeps it. -/
theorem Num.forEach_eq {β σ : Type} (g : σ → β) (n : Nat) (f : Nat → σ → σ) (s : σ) (hf : ∀ i x, g (f i x) = g x) :
    g (Num.forEach n f s) = g s := foldl_keeps g _ _ _ (fun x a => hf a x)

@[simp] theorem Hw.power_refreshTrips (h : Hw) (k : Nat) : (h.refreshTrips k).power = h.power := by
  refine Num.forEach_eq Hw.power _ _ _ (fun i x => ?_)
  dsimp only
  rw [Num.forEach_eq Hw.power]
  · rfl
  · intro _ _; rfl

@[simp] theorem Hw.power_setHurdle (h : Hw) (k ch : Nat) (o : Bool) : (h.setHurdle k ch o).power = h.power :=
  (Hw.power_refreshTrips _ _).trans rfl

@[simp] theorem Hw.power_edgeSeen (h : Hw) (c mask : Nat) : (h.edgeSeen c mask).power = h.power := by
  refine Num.forEach_eq Hw.power _ _ _ (fun i x => ?_)
  dsimp only
  split
  · exact Hw.power_setHurdle _ _ _ _
  · rfl

@[simp] theorem Hw.power_setCmds (h : Hw) (c : Nat) (a b : Bool) : (h.setCmds c a b).power = h.power := by
  unfold Hw.setCmds
  dsimp only
  generalize (if (a && !h.on (LEG_PWM_STATUS.HS_CMD c)) = true then 1 else 0) + _ + _ + _ = m
  split
  · rfl
  · exact (Hw.power_edgeSeen _ _ _).trans rfl

@[simp] theorem Hw.power_countFault (h : Hw) (p code : Nat) : (h.countFault p code).power = h.power := by
  unfold Hw.countFault
  dsimp only
  split
  · rfl
  · split
    · rfl
    · split <;> rfl

@[simp] theorem Hw.power_record (h : Hw) (code : Nat) : (h.record code).power = h.power :=
  (foldl_keeps Hw.power _ _ _ (fun x a => Hw.power_countFault x a code)).trans rfl

@[simp] theorem Hw.power_fallbackOff (h : Hw) (t : Nat) : (h.fallbackOff t).power = h.power :=
  foldl_keeps Hw.power _ _ _ (fun x a => Hw.power_setCmds x a false false)

@[simp] theorem Hw.power_endDischarge (h : Hw) (st : Nat) : (h.endDischarge st).power = h.power :=
  (foldl_keeps Hw.power h.discharge.dirs (fun (acc : Hw) (e : Nat × Bool) => acc.fallbackOff e.1) h (fun x a => Hw.power_fallbackOff x a.1))

end Sys2Proof.Machine
end

