-- ==== Sys2Proof/Laws/Thread.lean ====
section
/-!
SUPPORT. What issuing an instruction does, and what a thread's registers read after the updates of an instruction.
-/
namespace Sys2Proof.Machine

@[simp] theorem Hw.issued_gen (h : Hw) (k t j u g : Nat) : (h.issued k t).gen j u g = h.gen j u g := rfl
@[simp] theorem Hw.issued_reg (h : Hw) (k t : Nat) (r : RegId) : (h.issued k t).reg r = h.reg r := rfl
@[simp] theorem Hw.issued_threadPc (h : Hw) (k t j u : Nat) : (h.issued k t).threadPc j u = h.threadPc j u := rfl
@[simp] theorem Hw.issued_thread (h : Hw) (k t j u : Nat) : (h.issued k t).thread j u = h.thread j u := rfl
@[simp] theorem Hw.setThread_threadPc (h : Hw) (k t j u : Nat) (x : Thread) : (h.setThread k t x).threadPc j u = h.threadPc j u := rfl
@[simp] theorem Hw.setThread_threadState (h : Hw) (k t j u : Nat) (x : Thread) :
    (h.setThread k t x).threadState j u = h.threadState j u := rfl
@[simp] theorem Hw.setPart_threadPc (h : Hw) (p j u : Nat) (x : Part) : (h.setPart p x).threadPc j u = h.threadPc j u := rfl

@[simp] theorem Hw.setGen_threadPc (h : Hw) (k : BlockId) (t : ThreadId) (d : Nat) (v : Word) :
    (h.setGen k t d v).threadPc k t = h.threadPc k t := by
  unfold Hw.setGen
  split
  · rfl
  · simp only [Hw.threadPc]
    rw [Hw.reg_setReg_ne]
    have := k.isLt
    have := t.isLt
    simp only [BLK_SEQ_PC, BLK_SEQ_DBG_G]
    omega

@[simp] theorem Hw.setGen_threadState (h : Hw) (k : BlockId) (t : ThreadId) (d : Nat) (v : Word) :
    (h.setGen k t d v).threadState k t = h.threadState k t := by
  unfold Hw.setGen
  split
  · rfl
  · refine Hw.rd_setReg_ne _ _ _ _ ?_
    have := k.isLt
    have := t.isLt
    simp only [BLK_SEQ_STATE.THREAD, BLK_SEQ_STATE, BLK_SEQ_DBG_G]
    omega

@[simp] theorem Hw.setGen_thread (h : Hw) (k t d j u : Nat) (v : Word) : (h.setGen k t d v).thread j u = h.thread j u := by
  unfold Hw.setGen
  split <;> rfl

@[simp] theorem Hw.setFlags_threadPc_reg (h : Hw) (k j u : Nat) (w : Word) (_ : k < 8) (_ : j < 8) (_ : u < 8) :
    (h.setReg (BLK_SEQ_FLAGS k) w).threadPc j u = h.threadPc j u := by
  simp only [Hw.threadPc]
  rw [Hw.reg_setReg_ne]
  simp only [BLK_SEQ_PC, BLK_SEQ_FLAGS]
  omega

/-- A thread that issues a word of an opcode has that opcode's effect on the part in which it issued last. -/
theorem State.issue_eq (s : State) (k : BlockId) (t : ThreadId) (op : Nat) (w : Word) (hi : s.issuing k t op w) (f : Word → Hw → Hw) :
    s.onLive (fun h => h.issue k t op f) = s.to (f w (s.hw.issued k t)) := by
  obtain ⟨hl, ha, hp, hr, hw, hv, ho⟩ := hi
  simp [State.onLive, hl, Hw.issue, Hw.issues, ha, hp, hr, hw, hv, ho, State.to, Hw.updBlock, Hw.issued]

theorem State.result_eq (s : State) (k : BlockId) (t : ThreadId) (d : Nat) (v : Word) :
    s.to ((s.hw.issued k t).result k t d v) = s.resulting k t d v := by
  simp [Hw.result, Hw.advance, State.resulting]

end Sys2Proof.Machine
end

