-- ==== Sys2Proof/Tests/Slice0.lean ====
section
/-!
SUPPORT. The model's own tests: worked examples of the spec, ill-formed commands that WellFormed refuses, and for every statement with
hypotheses a state and operands that meet them, clause by clause.
-/
open Sys2Proof Sys2Proof.Machine
set_option Elab.async false

namespace Sys2Proof.Machine

/-- Thread t of block k is READY at a word w in the block's code area. -/
def Hw.runs (h : Hw) (k t : Nat) (w : Word) : Hw :=
  ((h.setBlock k { h.block k with seq := some { block := k, code := [w] } }).setReg (BLK_SEQ_PC k t) (BitVec.ofNat 32 (codeBase k))).wr
    (BLK_SEQ_STATE.THREAD k t) 1

/-- The word w is due in block k's lane program. -/
def Hw.lane (h : Hw) (k : Nat) (w : Word) : Hw :=
  h.setBlock k { h.block k with sec := some { block := k, mode := 1, trioCount := 2, trios := [[], [0, 1, 2, 0]], lanes := [w] }, laneRuns := true }

/-- The cells of block k are channels. -/
def Hw.channels (h : Hw) (k : Nat) : Hw := h.setBlock k { h.block k with sec := some { block := k, mode := 3 } }

/-- Channel n serves roll calls and hears the bus. -/
def Hw.listens (h : Hw) (n : Nat) : Hw := (h.wr (CAN_STATUS.STATE n) 3).wrBit CAN_SERVICE_CFG.SERVICE n true

end Sys2Proof.Machine

namespace Sys2Proof.Tests

/-- The claims of a partition that owns every block, converter, sensor and message object, and eight keep sectors. -/
def claims : PartSec :=
  { blocks := 0xFF, measClaim := 2 ^ 64 - 1, tempClaim := 2 ^ 64 - 1, msgCount := 2048, keepBase := 1, keepSectors := 8 }

/-- A part in operation, whose partition 0 is active with those claims. -/
def base : Hw :=
  (({ power := .running, parts := [(0, { map := some claims, cfg := some { part := claims } })] } : Hw).wr (PART_RUN.STATE 0) 1)

/-- A state of that part, changed by `f`. -/
abbrev st (f : Hw → Hw) : State := { hw := f base }

/-- The same without a queue. -/
def mach (f : Hw → Hw) : Mach := ⟨[], f base⟩

def frame : CanFrame := { extended := false, fd := true, brs := false, ident := 0, data := [] }

def reading : DiagReading := ⟨[], [], [], 0, [], 0, []⟩

def startEnv : StartEnv := ⟨true, [], none, 0, 0, [], true, List.replicate 78 none, true, true, none, 0⟩

def latch : LatchInputs := ⟨[], [], false, 0, [], 0⟩

/-- A CAN slot of partition 0. -/
def slotOf (x : SlotRec) (h : Hw) : Hw := h.setPart 0 { h.part 0 with cfg := some { part := claims, slots := [x] } }

/-- Two bytes of sequence number, two of data and the check bytes of a safe pair with identifier 0. -/
def pairData : List Byte := [1, 0, 2, 0] ++ pairCrc 0 [1, 0, 2, 0, 0, 0, 0, 0]

/-- A read of one word that a host asks for. -/
def request : HostReq := { count := 1, addr := FENCE_UNIT.addr }

-- ## Worked examples of the spec, and other results that it states

theorem test_reset_idles : step State.reset = .next State.reset := rfl

/-- Spec: 00_scope.md and 01_architecture.md, the worked examples of fault codes. -/
theorem test_fault_codes : faultCode 0 37 5 = 0x0945 ∧ faultCode 1 5 2 = 0x1142 ∧ faultCode 2 2 2 = 0x2082 := by decide

/-- Spec: 01_architecture.md, the worked example of cell 37's register window. -/
theorem test_cell_window : blockOf 37 = 6 ∧ localOf 37 = 1 ∧ regionOf 37 = 3 ∧ (LEG_PWM_CFG 37).addr / 0x10000 = 0x1351 := by decide

/-- Spec: 03_bitstream.md (R79) and 16_safety_functions.md, the check values over the bytes "123456789". -/
theorem test_crc : crc32 ((List.range 9).map (fun i => BitVec.ofNat 8 (0x31 + i))) = 0xCBF43926#32 ∧
    crcPair ((List.range 9).map (fun i => BitVec.ofNat 8 (0x31 + i))) = 0x1697D06A#32 := by decide +kernel

/-- The part after a command. -/
def after (c : Instr) (s : State) : Hw :=
  match exec c s with
  | .next t => t.hw
  | .fault _ | .refused _ => {}

/-- Spec: 05_ringmaster_sequencers.md, the worked example of MOVHI: G_1 becomes the base of cell 37. -/
theorem test_movhi : (after (.movhi 7 7) (st (fun h => h.runs 7 7 0x08401351#32))).gen 7 7 1 = 0x13510000#32 := by decide +kernel

/-- Spec: 05_ringmaster_sequencers.md, the worked example of WAIT: its fields, and the thread that waits. -/
theorem test_wait_word : seqValid 0x58990320#32 = true ∧ seqOp 0x58990320#32 = 0x16 ∧ seqD 0x58990320#32 = 2 ∧
    seqSources 0x58990320#32 = 0x19 ∧ seqImm 0x58990320#32 = 800 := by decide

/-- Spec: 07_pwm.md, the worked example of a lane duty of 0x2666 on an UP_DOWN carrier of 8 steps. -/
theorem test_lane_duty :
    let a : PwmSet := { cfg := 0x419#32 }
    a.ticks = 32000 ∧ a.top = 16000 ∧ a.laneOff 0x2666 = 4799 ∧ a.raw 1 0x2666 0 4798 .hs = true ∧ a.raw 1 0x2666 0 4799 .hs = false ∧
      a.raw 1 0x2666 0 27201 .hs = false ∧ a.raw 1 0x2666 0 27202 .hs = true ∧ a.raw 1 0x2666 0 4799 .ls = true := by decide

/-- Spec: 08_fast_sensing_comparators.md, the worked example of a base threshold: code 716. -/
theorem test_lane_threshold : laneThreshold 13107 0 = 716 := by decide

/-- Spec: 09_precision_converters.md, the worked example of a calibration, whose sums are those of 20 windows. -/
theorem test_calibration : calFactors (20 * 6711300) (20 * (-6710870)) = some (215, 0x3FFF83A1) := by decide

/-- Spec: 15_thermal.md, the worked example of a throttled zone: 148.0 degrees give F = 26,214. -/
theorem test_zone_factor :
    (((base.wr (THERM_STATUS.LEVEL 3) 2).wr (THERM_STATUS.TEMP 3) 1480).zoneFactor 3) = 26214 := by decide +kernel

/-- Spec: 20_keep_memory_recorder.md: 25 trips in one second under RATE 10 add 10 to COUNT and 15 to SUPPRESSED. -/
theorem test_suppressed :
    ((List.range 25).foldl (fun es _ => Recorder.bump es 0x0945 10 7) [({ code := 0x0945 } : RecEntry)]).map
      (fun e => (e.count, e.suppressed, e.last)) = [(10, 15, 7)] := by decide

/-- R105, Table 4-2: a write of an address that names nothing is refused with RANGE. -/
theorem test_unmapped_write : (after (.registerWrite (.host 0) 0x7FFFFFFC#32 0#32) (st id)).lastStatus = .range := by decide +kernel

-- ## Ill-formed commands

theorem test_wf_frame : ((Instr.canFrameReceived 0 { frame with ident := 0x800 } 0).wf) = false ∧
    ((Instr.canFrameReceived 0 { frame with brs := true, fd := false } 0).wf) = false ∧
    ((Instr.canFrameReceived 0 { frame with data := List.replicate 9 0 } 0).wf) = false ∧
    ((Instr.canFrameReceived 0 { frame with ident := 0x7FF, data := List.replicate 64 0 } 0).wf) = true := by decide +kernel

def goodCell : CellSample := ⟨List.replicate 16 0, List.replicate 16 0, false⟩

def goodLatch : LatchInputs := ⟨List.replicate 48 goodCell, [0], false, 0, List.replicate 48 none, 0⟩

theorem test_wf_latch : (Instr.sampleLatch goodLatch).wf = true ∧ (Instr.sampleLatch { goodLatch with cells := [goodCell] }).wf = false ∧
    (Instr.sampleLatch { goodLatch with cells := List.replicate 48 { goodCell with sar0 := [] } }).wf = false ∧
    (Instr.sampleLatch { goodLatch with vdcB := [32768] }).wf = false ∧ (Instr.sampleLatch { goodLatch with fast := [] }).wf = false ∧
    (Instr.sampleLatch { goodLatch with regionLost := 16 }).wf = false ∧
    (Instr.sampleLatch { goodLatch with tmDiffer := 0x10000 }).wf = false := by decide +kernel

theorem test_wf_start : (Instr.coldStart startEnv).wf = true ∧ (Instr.coldStart { startEnv with groupFail := some 30 }).wf = false ∧ (Instr.coldStart { startEnv with temps := [] }).wf = false := by
  decide +kernel

theorem test_wf_numbers : (Instr.commandRecordReceived 0 4096).wf = false ∧ (Instr.rawCommandEdge 0 .hs 4000).wf = false ∧
    (Instr.windowEnd 0 16777217 0 false false 0).wf = false ∧ (Instr.windowEnd 0 0 (-16777217) false false 0).wf = false ∧
    (Instr.scmpTick 0 [0]).wf = false ∧ (Instr.thermalReading 0 (List.replicate 15 none)).wf = false ∧ (Instr.safePairCopy 0 false (List.replicate 65 0)).wf = false ∧
    (Instr.dbgResponse []).wf = false ∧ (Instr.masterFrameDone (List.replicate 4097 0)).wf = false := by decide +kernel

theorem test_wf_addresses : (Instr.xipWindowRead (.host 0) 0x64000000#32).wf = false ∧
    (Instr.keepLowerWrite (.host 0) 0x50000004#32 0#32).wf = false ∧ (Instr.keepUpperWrite (.host 0) 0x50000008#32 0#32).wf = false ∧
    (Instr.keepLowerRead (.host 0) 0x51000000#32 0).wf = false ∧ (Instr.canLoadPiece 0x10000 0 (List.replicate 60 0)).wf = false ∧
    (Instr.canLoadPiece 0 0 []).wf = false ∧ (Instr.canLoadStatusRequest 0x10000).wf = false ∧
    (Instr.regionReturnChecksDone 0 0 [64, 0, 0, 0, 0, 0]).wf = false := by decide +kernel


-- ## The hypotheses of the statements can be met

theorem meets_StepRunsFront :
    (∃ (s : State) (c : Instr) (rest : List Instr), s.pending = c :: rest) ∧
    (∃ (s : State), s.pending = []) :=
  ⟨⟨{ pending := [.pllLock] }, .pllLock, [], by decide +kernel⟩,
    ⟨st id, by decide +kernel⟩⟩

theorem meets_EveryStepSound :
    ∃ (s t : State), s.sound ∧ step s = .next t :=
  ⟨State.reset, State.reset, by unfold State.sound; decide +kernel, rfl⟩

theorem meets_EveryCommandAnswers :
    ∃ (c : Instr), c.mayStore = false :=
  ⟨.movi 7 7, by decide +kernel⟩

theorem meets_ThreadArithmetic :
    (∃ (s : State) (k : BlockId) (t : ThreadId) (w : Word), s.issuing k t 0x01 w) ∧
    (∃ (s : State) (k : BlockId) (t : ThreadId) (w : Word), s.issuing k t 0x02 w) ∧
    (∃ (s : State) (k : BlockId) (t : ThreadId) (w : Word), s.issuing k t 0x03 w) ∧
    (∃ (s : State) (k : BlockId) (t : ThreadId) (w : Word), s.issuing k t 0x04 w) ∧
    (∃ (s : State) (k : BlockId) (t : ThreadId) (w : Word), s.issuing k t 0x05 w) ∧
    (∃ (s : State) (k : BlockId) (t : ThreadId) (w : Word), s.issuing k t 0x06 w) ∧
    (∃ (s : State) (k : BlockId) (t : ThreadId) (w : Word), s.issuing k t 0x07 w) ∧
    (∃ (s : State) (k : BlockId) (t : ThreadId) (w : Word), s.issuing k t 0x08 w) ∧
    (∃ (s : State) (k : BlockId) (t : ThreadId) (w : Word), s.issuing k t 0x09 w) :=
  ⟨⟨st (fun h => h.runs (7 : BlockId) (7 : ThreadId) (0x04000000#32 : Word)), 7, 7, 0x04000000#32, by unfold State.issuing; decide +kernel⟩,
    ⟨st (fun h => h.runs (7 : BlockId) (7 : ThreadId) (0x08000000#32 : Word)), 7, 7, 0x08000000#32, by unfold State.issuing; decide +kernel⟩,
    ⟨st (fun h => h.runs (7 : BlockId) (7 : ThreadId) (0x0C000000#32 : Word)), 7, 7, 0x0C000000#32, by unfold State.issuing; decide +kernel⟩,
    ⟨st (fun h => h.runs (7 : BlockId) (7 : ThreadId) (0x10000000#32 : Word)), 7, 7, 0x10000000#32, by unfold State.issuing; decide +kernel⟩,
    ⟨st (fun h => h.runs (7 : BlockId) (7 : ThreadId) (0x14000000#32 : Word)), 7, 7, 0x14000000#32, by unfold State.issuing; decide +kernel⟩,
    ⟨st (fun h => h.runs (7 : BlockId) (7 : ThreadId) (0x18000000#32 : Word)), 7, 7, 0x18000000#32, by unfold State.issuing; decide +kernel⟩,
    ⟨st (fun h => h.runs (7 : BlockId) (7 : ThreadId) (0x1C000000#32 : Word)), 7, 7, 0x1C000000#32, by unfold State.issuing; decide +kernel⟩,
    ⟨st (fun h => h.runs (7 : BlockId) (7 : ThreadId) (0x20000000#32 : Word)), 7, 7, 0x20000000#32, by unfold State.issuing; decide +kernel⟩,
    ⟨st (fun h => h.runs (7 : BlockId) (7 : ThreadId) (0x24000000#32 : Word)), 7, 7, 0x24000000#32, by unfold State.issuing; decide +kernel⟩⟩

theorem meets_ThreadBranches :
    (∃ (s : State) (k : BlockId) (t : ThreadId) (w : Word), s.issuing k t 0x0A w) ∧
    (∃ (s : State) (k : BlockId) (t : ThreadId) (w : Word), s.issuing k t 0x0B w) ∧
    (∃ (s : State) (k : BlockId) (t : ThreadId) (w : Word), s.issuing k t 0x0C w) ∧
    (∃ (s : State) (k : BlockId) (t : ThreadId) (w : Word), s.issuing k t 0x0D w) ∧
    (∃ (s : State) (k : BlockId) (t : ThreadId) (w : Word), s.issuing k t 0x0E w) ∧
    (∃ (s : State) (k : BlockId) (t : ThreadId) (w : Word), s.issuing k t 0x0F w) ∧
    (∃ (s : State) (k : BlockId) (t : ThreadId) (w : Word) (a : Nat) (r : List Nat), s.issuing k t 0x10 w ∧
       (s.hw.thread k t).stack = a :: r) ∧
    (∃ (s : State) (k : BlockId) (t : ThreadId) (w : Word), s.issuing k t 0x10 w ∧ (s.hw.thread k t).stack = []) :=
  ⟨⟨st (fun h => h.runs (7 : BlockId) (7 : ThreadId) (0x28000000#32 : Word)), 7, 7, 0x28000000#32, by unfold State.issuing; decide +kernel⟩,
    ⟨st (fun h => h.runs (7 : BlockId) (7 : ThreadId) (0x2C000000#32 : Word)), 7, 7, 0x2C000000#32, by unfold State.issuing; decide +kernel⟩,
    ⟨st (fun h => h.runs (7 : BlockId) (7 : ThreadId) (0x30000000#32 : Word)), 7, 7, 0x30000000#32, by unfold State.issuing; decide +kernel⟩,
    ⟨st (fun h => h.runs (7 : BlockId) (7 : ThreadId) (0x34000000#32 : Word)), 7, 7, 0x34000000#32, by unfold State.issuing; decide +kernel⟩,
    ⟨st (fun h => h.runs (7 : BlockId) (7 : ThreadId) (0x38000000#32 : Word)), 7, 7, 0x38000000#32, by unfold State.issuing; decide +kernel⟩,
    ⟨st (fun h => h.runs (7 : BlockId) (7 : ThreadId) (0x3C000000#32 : Word)), 7, 7, 0x3C000000#32, by unfold State.issuing; decide +kernel⟩,
    ⟨st (fun h => let h := h.runs (7 : BlockId) (7 : ThreadId) (0x40000000#32 : Word);
      h.setThread (7 : BlockId) (7 : ThreadId) { h.thread (7 : BlockId) (7 : ThreadId) with stack := 0 :: ([] : List Nat) }), 7, 7, 0x40000000#32, 0, [], by unfold State.issuing; decide +kernel, by decide +kernel⟩,
    ⟨st (fun h => let h := h.runs (7 : BlockId) (7 : ThreadId) (0x40000000#32 : Word);
      h.setThread (7 : BlockId) (7 : ThreadId) { h.thread (7 : BlockId) (7 : ThreadId) with stack := [] }), 7, 7, 0x40000000#32, by unfold State.issuing; decide +kernel, by decide +kernel⟩⟩

theorem meets_ThreadGoesOn :
    (∃ (k : BlockId) (a : Nat), a % 4 = 0 ∧ 0x21000000 + k.val * 0x1000 ≤ a ∧ a < 0x21000000 + k.val * 0x1000 + 0x1000) ∧
    (∃ (h : Hw) (a : Nat), a % 4 = 0 ∧ 0x60000000 ≤ a ∧ a < 0x64000000 ∧ h.spiSlave = false ∧ h.xipReaches (a - 0x60000000) = true) ∧
    (∃ (h : Hw) (a : Nat), a % 4 = 0 ∧ 0x60000000 ≤ a ∧ a < 0x64000000 ∧ h.spiSlave = true) ∧
    (∃ (k : BlockId) (a : Nat), (a % 4 ≠ 0 ∨ a < 0x21000000 + k.val * 0x1000 ∨ (0x21000000 + k.val * 0x1000 + 0x1000 ≤ a ∧
       a < 0x60000000) ∨ 0x64000000 ≤ a)) :=
  ⟨⟨7, 0x21007FFC, by decide +kernel⟩,
    ⟨((fun h => h.wrB SPI_STATUS.ROLE false) base), 0x60FFFFFC, by decide +kernel⟩,
    ⟨((fun h => h.wrB SPI_STATUS.ROLE true) base), 0x63FFFFFC, by decide +kernel⟩,
    ⟨7, 0x21007FFE, by decide +kernel⟩⟩

theorem meets_ThreadAccesses :
    (∃ (s : State) (k : BlockId) (t : ThreadId) (w : Word), s.issuing k t 0x11 w) ∧
    (∃ (s : State) (k : BlockId) (t : ThreadId) (w : Word), s.issuing k t 0x12 w) ∧
    (∃ (s : State) (k : BlockId) (t : ThreadId) (w : Word), s.issuing k t 0x18 w) ∧
    (∃ (s : State) (k : BlockId) (t : ThreadId) (d a : Nat), s.hw.live = true ∧ s.hw.threadState k t = 3 ∧
       (s.hw.thread k t).stall = .load d a) ∧
    (∃ (s : State) (k : BlockId) (t : ThreadId) (a : Nat) (v : Word), s.hw.live = true ∧ s.hw.threadState k t = 3 ∧
       (s.hw.thread k t).stall = .store a v) ∧
    (∃ (s : State) (k : BlockId) (t : ThreadId) (n target rate : Nat), s.hw.live = true ∧ s.hw.threadState k t = 3 ∧
       (s.hw.thread k t).stall = .pace n target rate) ∧
    (∃ (h : Hw) (k : BlockId) (t : ThreadId), h.threadState k t = 3 ∧ (h.thread k t).stopReq = false) ∧
    (∃ (h : Hw) (k : BlockId) (t : ThreadId), h.threadState k t = 3 ∧ (h.thread k t).stopReq = true ∧
       pcFits k (h.threadPc k t + 4) = true) :=
  ⟨⟨st (fun h => h.runs (7 : BlockId) (7 : ThreadId) (0x44000000#32 : Word)), 7, 7, 0x44000000#32, by unfold State.issuing; decide +kernel⟩,
    ⟨st (fun h => h.runs (7 : BlockId) (7 : ThreadId) (0x48000000#32 : Word)), 7, 7, 0x48000000#32, by unfold State.issuing; decide +kernel⟩,
    ⟨st (fun h => h.runs (7 : BlockId) (7 : ThreadId) (0x60000000#32 : Word)), 7, 7, 0x60000000#32, by unfold State.issuing; decide +kernel⟩,
    ⟨st (fun h => let h := h.wr (BLK_SEQ_STATE.THREAD (7 : BlockId) (7 : ThreadId)) 3;
      h.setThread (7 : BlockId) (7 : ThreadId) { h.thread (7 : BlockId) (7 : ThreadId) with stall := .load 14 FENCE_UNIT.addr }), 7, 7, 14, FENCE_UNIT.addr, by decide +kernel⟩,
    ⟨st (fun h => let h := h.wr (BLK_SEQ_STATE.THREAD (7 : BlockId) (7 : ThreadId)) 3;
      h.setThread (7 : BlockId) (7 : ThreadId) { h.thread (7 : BlockId) (7 : ThreadId) with stall := .store 0 (0#32 : Word) }), 7, 7, 0, 0#32, by decide +kernel⟩,
    ⟨st (fun h => let h := h.wr (BLK_SEQ_STATE.THREAD (7 : BlockId) (7 : ThreadId)) 3;
      let h := h.setThread (7 : BlockId) (7 : ThreadId) { h.thread (7 : BlockId) (7 : ThreadId) with stall := .pace 119 1 1 };
      h.setBlock 7 { h.block 7 with sec := some { block := 7, mode := 3, writers := [{ input := 119, kind := 2, source := 7 }] } }), 7, 7, 119, 1, 1, by decide +kernel⟩,
    ⟨((fun h => let h := h.wr (BLK_SEQ_STATE.THREAD (7 : BlockId) (7 : ThreadId)) 3;
      h.setThread (7 : BlockId) (7 : ThreadId) { h.thread (7 : BlockId) (7 : ThreadId) with stopReq := false }) base), 7, 7, by decide +kernel⟩,
    ⟨((fun h => let h := h.wr (BLK_SEQ_STATE.THREAD (7 : BlockId) (7 : ThreadId)) 3;
      let h := h.setThread (7 : BlockId) (7 : ThreadId) { h.thread (7 : BlockId) (7 : ThreadId) with stopReq := true };
      h.setReg (BLK_SEQ_PC 7 7) 0x21007000#32) base), 7, 7, by decide +kernel⟩⟩

theorem meets_ThreadFlagsAndWaits :
    (∃ (s : State) (k : BlockId) (t : ThreadId) (w : Word), s.issuing k t 0x13 w) ∧
    (∃ (s : State) (k : BlockId) (t : ThreadId) (w : Word), s.issuing k t 0x14 w) ∧
    (∃ (s : State) (k : BlockId) (t : ThreadId) (w : Word), s.issuing k t 0x15 w ∧ s.hw.owner (seqImm w / 256 % 8) = s.hw.owner k ∧
       s.hw.blockFenced (seqImm w / 256 % 8) = false ∧ s.hw.regionHolds (seqImm w / 256 % 8) = false) ∧
    (∃ (s : State) (k : BlockId) (t : ThreadId) (w : Word), s.issuing k t 0x16 w ∧
       s.hw.reg (BLK_SEQ_FLAGS k) &&& s.hw.gen k t (seqD w) ≠ 0 ∧ seqSources w % 4 ≠ 0) ∧
    (∃ (s : State) (k : BlockId) (t : ThreadId) (w : Word), s.issuing k t 0x16 w ∧
       (s.hw.reg (BLK_SEQ_FLAGS k) &&& s.hw.gen k t (seqD w) = 0 ∨ seqSources w % 4 = 0)) ∧
    (∃ (s : State) (k : BlockId) (t : ThreadId), s.hw.live = true ∧ s.hw.threadState k t = 2 ∧
       (s.hw.thread k t).sources.testBit 4 = true ∧ (s.hw.thread k t).timeout ≤ s.hw.stepCount ∧ s.hw.paused k = false) ∧
    (∃ (s : State) (k : BlockId) (t : ThreadId) (p : PartId) (w : Word), s.issuing k t 0x17 w ∧ s.hw.owner k = some p.val) ∧
    (∃ (s : State) (k : BlockId) (t : ThreadId) (w : Word), s.issuing k t 0x19 w) ∧
    (∃ (s : State) (k : BlockId) (t : ThreadId) (w : Word), s.hw.live = true ∧ s.hw.issues k t = some w ∧ seqValid w = false) :=
  ⟨⟨st (fun h => h.runs (7 : BlockId) (7 : ThreadId) (0x4C000000#32 : Word)), 7, 7, 0x4C000000#32, by unfold State.issuing; decide +kernel⟩,
    ⟨st (fun h => h.runs (7 : BlockId) (7 : ThreadId) (0x50000000#32 : Word)), 7, 7, 0x50000000#32, by unfold State.issuing; decide +kernel⟩,
    ⟨st (fun h => h.runs (7 : BlockId) (7 : ThreadId) (0x54000000#32 : Word)), 7, 7, 0x54000000#32, by unfold State.issuing; decide +kernel, by decide +kernel, by decide +kernel, by decide +kernel⟩,
    ⟨st (fun h => let h := h.runs (7 : BlockId) (7 : ThreadId) (0x58410000#32 : Word);
      let h := h.setReg (BLK_SEQ_FLAGS 7) 0xFFFFFFFF#32; h.setGen 7 7 1 1#32), 7, 7, 0x58410000#32, by unfold State.issuing; decide +kernel, by decide +kernel, by decide +kernel⟩,
    ⟨st (fun h => h.runs 7 7 0x58010000#32), 7, 7, 0x58010000#32, by unfold State.issuing; decide +kernel, by decide +kernel⟩,
    ⟨st (fun h => let h := h.wr (BLK_SEQ_STATE.THREAD (7 : BlockId) (7 : ThreadId)) 2;
      h.setThread 7 7 { h.thread 7 7 with sources := 16 }), 7, 7, by decide +kernel⟩,
    ⟨st (fun h => h.runs (7 : BlockId) (7 : ThreadId) (0x5C000000#32 : Word)), 7, 7, 0, 0x5C000000#32, by unfold State.issuing; decide +kernel, by decide +kernel⟩,
    ⟨st (fun h => h.runs (7 : BlockId) (7 : ThreadId) (0x64000000#32 : Word)), 7, 7, 0x64000000#32, by unfold State.issuing; decide +kernel⟩,
    ⟨st (fun h => h.runs 7 7 0#32), 7, 7, 0#32, by decide +kernel⟩⟩

theorem meets_ThreadFetches :
    (∃ (s : State) (k : BlockId) (t : ThreadId) (word : Word) (a : Nat) (x : XipWait), s.hw.live = true ∧ s.hw.threadState k t = 3 ∧
       (s.hw.thread k t).stall = .fetch a ∧ s.hw.xipWait (whoFetch k t) (a - 0x60000000) = some x ∧ x.word = some word) ∧
    (∃ (s : State) (k : BlockId) (t : ThreadId) (a : Nat), s.hw.live = true ∧ s.hw.threadState k t = 3 ∧
       (s.hw.thread k t).stall = .fetch a) :=
  ⟨⟨st (fun h => let h := h.wr (BLK_SEQ_STATE.THREAD (7 : BlockId) (7 : ThreadId)) 3;
      let h := h.setThread (7 : BlockId) (7 : ThreadId) { h.thread (7 : BlockId) (7 : ThreadId) with stall := .fetch 0x63FFFFFC };
      { h with serial := { h.serial with waits := [{ who := 191, off := 0x3FFFFFC, word := some 5#32 }] } }), 7, 7, 5#32, 0x63FFFFFC, { who := 191, off := 0x3FFFFFC, word := some 5#32 }, by decide +kernel⟩,
    ⟨st (fun h => let h := h.wr (BLK_SEQ_STATE.THREAD (7 : BlockId) (7 : ThreadId)) 3;
      h.setThread (7 : BlockId) (7 : ThreadId) { h.thread (7 : BlockId) (7 : ThreadId) with stall := .fetch 0x63FFFFFC }), 7, 7, 0x63FFFFFC, by decide +kernel⟩⟩

theorem meets_ThreadControls :
    (∃ (s : State) (q : Requester) (k : BlockId) (t : ThreadId), s.admits q (BLK_SEQ_CTRL k) (BitVec.ofNat 32 (2 ^ t.val))) ∧
    (∃ (s : State) (q : Requester) (k : BlockId) (t : ThreadId), s.admits q (BLK_SEQ_CTRL k) (BitVec.ofNat 32 (256 * 2 ^ t.val))) ∧
    (∃ (s : State) (q : Requester) (k : BlockId) (flags : Word), s.admits q (BLK_SEQ_FLAGS k) flags) ∧
    (∃ (s : State) (q : Requester) (k : BlockId) (flags : Word), s.admits q (BLK_SEQ_FLAGS_CLR k) flags) ∧
    (∃ (s : State) (q : Requester) (k : BlockId) (p : PartId), s.admits q (BLK_SEQ_COMMIT k) 1#32 ∧
       s.hw.requesterPart q = some p.val ∧ s.hw.active p = true) :=
  ⟨⟨st id, .host 0, 7, 7, by unfold State.admits; decide +kernel⟩,
    ⟨st id, .host 0, 7, 7, by unfold State.admits; decide +kernel⟩,
    ⟨st id, .host 0, 7, 0#32, by unfold State.admits; decide +kernel⟩,
    ⟨st id, .host 0, 7, 0#32, by unfold State.admits; decide +kernel⟩,
    ⟨st id, .host 0, 7, 0, by unfold State.admits; decide +kernel, by decide +kernel, by decide +kernel⟩⟩

theorem meets_GateEdges :
    (∃ (s : State) (c : CellId) (sw : Switch), s.hw.live = true ∧ s.hw.on (gateCmd c sw) = true ∧
       s.hw.on (gateCmd c (otherSwitch sw)) = false ∧
       (s.hw.rd (gatePhase c sw) = 0 ∨ s.hw.rd (gatePhase c sw) = 4 ∨ s.hw.rd (gatePhase c sw) = 5) ∧
       ((s.hw.cell c).sw sw).waiting = false ∧ ((s.hw.cell c).sw (otherSwitch sw)).low = true) ∧
    (∃ (s : State) (c : CellId) (sw : Switch), s.hw.on (gateCmd c sw) = false ∧ 1 ≤ s.hw.rd (gatePhase c sw) ∧
       s.hw.rd (gatePhase c sw) ≤ 3) ∧
    (∃ (s : State) (c : CellId) (sw : Switch), s.hw.rd (gatePhase c sw) = 1) ∧
    (∃ (s : State) (c : CellId) (sw : Switch), s.hw.rd (gatePhase c sw) = 4) ∧
    (∃ (s : State) (c : CellId) (sw : Switch), s.hw.rd (gatePhase c sw) = 2) ∧
    (∃ (s : State) (c : CellId) (sw : Switch), s.hw.rd (gatePhase c sw) = 5) ∧
    (∃ (s : State) (c : CellId) (sw : Switch), s.hw.rd (gatePhase c sw) = 6 ∧ ((s.hw.cell c).sw sw).softWeak = true) :=
  ⟨⟨st (fun h => let h := h.wrB (gateCmd (47 : CellId) .ls) true; let h := h.wrB (gateCmd (47 : CellId) (otherSwitch .ls)) false;
      let h := h.wr (gatePhase (47 : CellId) .ls) 0; let h := h.updSw (47 : CellId) .ls (fun y => { y with waiting := false });
      h.updSw (47 : CellId) (otherSwitch .ls) (fun y => { y with low := true })), 47, .ls, by decide +kernel⟩,
    ⟨st (fun h => let h := h.wrB (gateCmd (47 : CellId) .ls) false; h.wr (gatePhase (47 : CellId) .ls) 1), 47, .ls, by decide +kernel⟩,
    ⟨st (fun h => h.wr (gatePhase (47 : CellId) .ls) 1), 47, .ls, by decide +kernel⟩,
    ⟨st (fun h => h.wr (gatePhase (47 : CellId) .ls) 4), 47, .ls, by decide +kernel⟩,
    ⟨st (fun h => h.wr (gatePhase (47 : CellId) .ls) 2), 47, .ls, by decide +kernel⟩,
    ⟨st (fun h => h.wr (gatePhase (47 : CellId) .ls) 5), 47, .ls, by decide +kernel⟩,
    ⟨st (fun h => let h := h.wr (gatePhase (47 : CellId) .ls) 6;
      h.updSw (47 : CellId) .ls (fun y => { y with softWeak := true })), 47, .ls, by decide +kernel⟩⟩

theorem meets_GateInterlock :
    (∃ (s : State) (c : CellId) (sw : Switch), s.hw.live = true ∧ s.hw.on (gateCmd c sw) = true ∧
       s.hw.on (gateCmd c (otherSwitch sw)) = false ∧
       (s.hw.rd (gatePhase c sw) = 0 ∨ s.hw.rd (gatePhase c sw) = 4 ∨ s.hw.rd (gatePhase c sw) = 5) ∧
       ((s.hw.cell c).sw sw).waiting = false ∧ ((s.hw.cell c).sw (otherSwitch sw)).low = false) ∧
    (∃ (s : State) (c : CellId) (sw : Switch), s.hw.gateOn c (otherSwitch sw) = false ∧ ((s.hw.cell c).sw sw).waiting = true ∧
       s.hw.on (gateCmd c sw) = true) ∧
    (∃ (s : State) (c : CellId) (sw : Switch), s.hw.live = true ∧ ((s.hw.cell c).sw sw).waiting = true ∧
       ((s.hw.cell c).hold = .none ∨ (s.hw.cell c).hold = .frozen) ∧
       (s.hw.on (gateCmd c .hs) = false ∨ s.hw.on (gateCmd c .ls) = false)) ∧
    (∃ (s : State) (c : CellId), s.hw.live = true ∧ s.hw.on (gateCmd c .hs) = true ∧ s.hw.on (gateCmd c .ls) = true) :=
  ⟨⟨st (fun h => let h := h.wrB (gateCmd (47 : CellId) .ls) true; let h := h.wrB (gateCmd (47 : CellId) (otherSwitch .ls)) false;
      let h := h.wr (gatePhase (47 : CellId) .ls) 0; let h := h.updSw (47 : CellId) .ls (fun y => { y with waiting := false });
      h.updSw (47 : CellId) (otherSwitch .ls) (fun y => { y with low := false })), 47, .ls, by decide +kernel⟩,
    ⟨st (fun h => let h := h.updSw (47 : CellId) .ls (fun y => { y with waiting := true });
      h.wrB (gateCmd (47 : CellId) .ls) true), 47, .ls, by decide +kernel⟩,
    ⟨st (fun h => let h := h.updSw (47 : CellId) .ls (fun y => { y with waiting := true });
      let h := h.setCell (47 : CellId) { h.cell (47 : CellId) with hold := .none };
      h.wrB (gateCmd (47 : CellId) .hs) false), 47, .ls, by decide +kernel⟩,
    ⟨st (fun h => let h := h.wrB (gateCmd (47 : CellId) .hs) true; h.wrB (gateCmd (47 : CellId) .ls) true), 47, by decide +kernel⟩⟩

theorem meets_GateSupplies :
    (∃ (s : State) (c : CellId), s.hw.live = true ∧ (s.hw.cell c).preCharge = 0) ∧
    (∃ (s : State) (c : CellId), s.hw.live = true ∧ (s.hw.cell c).preCharge ≠ 0) ∧
    (∃ (s : State) (c : CellId), s.hw.live = true ∧ (s.hw.cell c).preCharge = 0 ∧ s.hw.vdrvOk (c.val / 12) = true ∧
       s.hw.on (LEG_GD_STATUS.BST_OK c) = false) ∧
    (∃ (s : State) (c : CellId), s.hw.live = true ∧ s.hw.on (LEG_GD_STATUS.BST_OK c) = true) ∧
    (∃ (s : State) (r : RegionId), s.hw.live = true ∧ s.hw.vdrvOk r = true) ∧
    (∃ (s : State), s.hw.live = true) :=
  ⟨⟨st (fun h => h.setCell (47 : CellId) { h.cell (47 : CellId) with preCharge := 0 }), 47, by decide +kernel⟩,
    ⟨st (fun h => h.setCell 47 { h.cell 47 with preCharge := 1 }), 47, by decide +kernel⟩,
    ⟨st (fun h => let h := h.setCell (47 : CellId) { h.cell (47 : CellId) with preCharge := 0 };
      let h := h.wrBit SUPPLY_STATUS.VDRV_OK ((47 : CellId).val / 12) true; h.wrB (LEG_GD_STATUS.BST_OK (47 : CellId)) false), 47, by decide +kernel⟩,
    ⟨st (fun h => h.wrB (LEG_GD_STATUS.BST_OK (47 : CellId)) true), 47, by decide +kernel⟩,
    ⟨st (fun h => h.wrBit SUPPLY_STATUS.VDRV_OK (3 : RegionId) true), 3, by decide +kernel⟩,
    ⟨st id, by decide +kernel⟩⟩

theorem meets_ShortCircuit :
    (∃ (s : State) (c : CellId) (sw : Switch), s.hw.gateOn c sw = true ∧ ((s.hw.cell c).sw sw).blank = false ∧
       (sw = .hs ∨ (s.hw.cell c).hold ≠ .terminal ∨ s.hw.terminalLow c = false)) ∧
    (∃ (s : State) (c : CellId), s.hw.gateOn c .ls = true ∧ (s.hw.cell c).ls.blank = false ∧ (s.hw.cell c).hold = .terminal ∧
       s.hw.terminalLow c = true) ∧
    (∃ (s : State) (c : CellId) (sw : Switch), s.hw.rd (gatePhase c sw) = 6 ∧ s.hw.rd (gatePhase c (otherSwitch sw)) ≠ 6) :=
  ⟨⟨st (fun h => let h := h.wr (gatePhase (47 : CellId) .ls) 3;
      h.updSw (47 : CellId) .ls (fun y => { y with blank := false })), 47, .ls, by decide +kernel⟩,
    ⟨st (fun h => let h := h.wr (gatePhase (47 : CellId) .ls) 3;
      let h := h.updSw (47 : CellId) .ls (fun y => { y with blank := false });
      let h := h.setCell (47 : CellId) { h.cell (47 : CellId) with hold := .terminal };
      let h := h.setCell 47 { h.cell 47 with safeLow := true }; h.wrBit SUPPLY_STATUS.VDRV_OK 3 true), 47, by decide +kernel⟩,
    ⟨st (fun h => h.wr (gatePhase (47 : CellId) .ls) 6), 47, .ls, by decide +kernel⟩⟩

theorem meets_Diagnostics :
    (∃ (s : State) (q : Requester) (c : CellId), s.admits q (LEG_DIAG_CTRL c) 1#32 ∧ s.hw.cellFenced c = true ∧
       (s.hw.cell c).diagStage = 0 ∧ (s.hw.cell c).testing = false ∧ s.hw.rd (LEG_REENTRY_STATUS.STATE c) ≠ 1) ∧
    (∃ (s : State) (c : CellId), s.hw.live = true ∧ (s.hw.cell c).diagStage = 1) ∧
    (∃ (s : State) (c : CellId), s.hw.live = true ∧ (s.hw.cell c).diagStage = 2) ∧
    (∃ (s : State) (c : CellId), s.hw.live = true ∧ (s.hw.cell c).diagStage = 3) ∧
    (∃ (s : State) (c : CellId), s.hw.live = true ∧ (s.hw.cell c).diagStage = 4) ∧
    (∃ (s : State) (c : CellId), s.hw.live = true ∧ (s.hw.cell c).diagStage = 5) ∧
    (∃ (s : State) (c : CellId), s.hw.live = true ∧ (s.hw.cell c).diagStage = 6) ∧
    (∃ (s : State) (c : CellId), s.hw.live = true ∧ (s.hw.cell c).diagStage = 7) :=
  ⟨⟨st (fun h => let h := h.setCell (47 : CellId) { h.cell (47 : CellId) with fenced := true };
      let h := h.setCell (47 : CellId) { h.cell (47 : CellId) with diagStage := 0 };
      h.setCell (47 : CellId) { h.cell (47 : CellId) with testing := false }), .host 0, 47, by unfold State.admits; decide +kernel, by decide +kernel, by decide +kernel, by decide +kernel, by decide +kernel⟩,
    ⟨st (fun h => h.setCell (47 : CellId) { h.cell (47 : CellId) with diagStage := 1 }), 47, by decide +kernel⟩,
    ⟨st (fun h => h.setCell (47 : CellId) { h.cell (47 : CellId) with diagStage := 2 }), 47, by decide +kernel⟩,
    ⟨st (fun h => h.setCell (47 : CellId) { h.cell (47 : CellId) with diagStage := 3 }), 47, by decide +kernel⟩,
    ⟨st (fun h => h.setCell (47 : CellId) { h.cell (47 : CellId) with diagStage := 4 }), 47, by decide +kernel⟩,
    ⟨st (fun h => h.setCell (47 : CellId) { h.cell (47 : CellId) with diagStage := 5 }), 47, by decide +kernel⟩,
    ⟨st (fun h => h.setCell (47 : CellId) { h.cell (47 : CellId) with diagStage := 6 }), 47, by decide +kernel⟩,
    ⟨st (fun h => h.setCell (47 : CellId) { h.cell (47 : CellId) with diagStage := 7 }), 47, by decide +kernel⟩⟩

theorem meets_LinkDischarge :
    (∃ (s : State) (q : Requester), s.admits q DSCH_CTRL 0x2E710001#32 ∧ s.hw.power = .running ∧ s.hw.powerActive = false ∧
       s.hw.discharging = false) ∧
    (∃ (s : State) (q : Requester), s.admits q DSCH_CTRL 0x2E710002#32 ∧ s.hw.power = .running ∧ s.hw.discharging = true) ∧
    (∃ (s : State), s.hw.live = true ∧ s.hw.rd DSCH_STATUS.STATE = 1 ∧ s.hw.on DSCH_CFG.FALLBACK_EN = true ∧
       s.hw.chipFault = false ∧ ((s.hw.on DSCH_CFG.PIN_0_EN = false ∧
       s.hw.on DSCH_CFG.PIN_1_EN = false) ∨ (s.hw.discharge.startV : Int) * 9 < s.hw.linkMax * 10)) ∧
    (∃ (h : Hw) (t : TrioId) (a b : Nat) (back : Bool), a = (h.trioCells t).getD (if back then 1 else 0) 0 ∧
       b = (h.trioCells t).getD (if back then 0 else 1) 0) ∧
    (∃ (h : Hw), h.rd DSCH_STATUS.STATE ≠ 0) ∧
    (∃ (s : State) (t : TrioId), s.hw.live = true ∧ s.hw.discharge.dirs.any (fun e => e.1 == t.val) = true) ∧
    (∃ (s : State) (t : TrioId) (back : Bool), s.hw.live = true ∧ s.hw.discharge.dirs.find? (fun e => e.1 == t.val) = some (t.val,
       back) ∧ s.hw.mayPulse t = true) ∧
    (∃ (s : State), s.hw.live = true ∧ s.hw.power = .running ∧ s.hw.discharging = true ∧
       s.hw.linkMax * 128 ≤ (s.hw.rd DSCH_CFG.TARGET : Int) * 32768) ∧
    (∃ (s : State), s.hw.live = true ∧ s.hw.power = .running ∧ s.hw.discharging = true) :=
  ⟨⟨st (fun h => { h with power := .running }), .host 0, by unfold State.admits; decide +kernel, by decide +kernel, by decide +kernel, by decide +kernel⟩,
    ⟨st (fun h => let h := { h with power := .running }; h.wr DSCH_STATUS.STATE 1), .host 0, by unfold State.admits; decide +kernel, by decide +kernel, by decide +kernel⟩,
    ⟨st (fun h => let h := h.wr DSCH_STATUS.STATE 1; let h := h.wrB DSCH_CFG.FALLBACK_EN true;
      let h := h.wrB DSCH_CFG.PIN_0_EN false; h.wrB DSCH_CFG.PIN_1_EN false), by decide +kernel⟩,
    ⟨base, 15, 0, 0, true, by decide +kernel⟩,
    ⟨((fun h => h.wr DSCH_STATUS.STATE 1) base), by decide +kernel⟩,
    ⟨st (fun h => { h with discharge := { h.discharge with dirs := [(15, true)] } }), 15, by decide +kernel⟩,
    ⟨st (fun h => let h := { h with discharge := { h.discharge with dirs := [(15, true)] } };
      let h := h.setBlock 7 { h.block 7 with sec := some { block := 7, mode := 2, trioCount := 2, trios := [[], [0, 1, 2, 0]] } };
      let h := h.wrBit SUPPLY_STATUS.VDRV_OK 3 true; let h := h.wr (BLK_TRIO_MOTION_CFG.SPEED_SRC 7 1) 1;
      h.wr (BLK_TRIO_SPEED_CFG.STOP_HZ 7 1) 1), 15, true, by decide +kernel⟩,
    ⟨st (fun h => let h := { h with power := .running }; h.wr DSCH_STATUS.STATE 1), by decide +kernel⟩,
    ⟨st (fun h => let h := { h with power := .running }; h.wr DSCH_STATUS.STATE 1), by decide +kernel⟩⟩

theorem meets_CarrierAndReload :
    (∃ (s : State) (c : CellId), s.hw.live = true ∧ (s.hw.cell c).wantStart = true ∧ (s.hw.cell c).startFrom ≤ s.hw.stepCount ∧
       (s.hw.cell c).active.aligned s.hw.stepCount = true ∧ s.hw.halted (c.val / 6) = false) ∧
    (∃ (s : State) (c : CellId) (t p : Nat), s.hw.live = true ∧ s.hw.reloadTick c = some (t, p) ∧ (s.hw.cell c).hold ≠ .frozen ∧
       s.hw.on (LEG_PWM_STATUS.HALTED c) = false ∧ s.hw.cellFenced c = true) ∧
    (∃ (s : State) (c : CellId) (t p : Nat) (a : PwmSet), s.hw.live = true ∧ s.hw.reloadTick c = some (t, p) ∧
       (s.hw.cell c).hold ≠ .frozen ∧ s.hw.on (LEG_PWM_STATUS.HALTED c) = false ∧ s.hw.cellFenced c = false ∧
       (s.hw.cell c).captured = some a ∧ (s.hw.cell c).pendingSet = true) ∧
    (∃ (s : State) (c : CellId) (t p : Nat), s.hw.live = true ∧ s.hw.reloadTick c = some (t, p) ∧ (s.hw.cell c).hold ≠ .frozen ∧
       s.hw.on (LEG_PWM_STATUS.HALTED c) = false ∧ s.hw.cellFenced c = false ∧
       ((s.hw.cell c).captured = none ∨ (s.hw.cell c).pendingSet = false)) ∧
    (∃ (h : Hw) (c : CellId) (d : Nat), (h.cell c).dutyNew = some d) ∧
    (∃ (h : Hw) (c : CellId), (h.cell c).dutyNew = none) :=
  ⟨⟨st (fun h => let h := h.setCell (47 : CellId) { h.cell (47 : CellId) with wantStart := true };
      h.wrBit DBG_HALT.HALTED ((47 : CellId).val / 6) false), 47, by decide +kernel⟩,
    ⟨st (fun h => let h := h.wrB (LEG_PWM_STATUS.HALTED (47 : CellId)) false;
      let h := h.setCell (47 : CellId) { h.cell (47 : CellId) with fenced := true };
      h.setCell 47 { h.cell 47 with running := true, active := { cfg := 0x2821#32 } }), 47, 0, 0, by decide +kernel⟩,
    ⟨st (fun h => let h := h.wrB (LEG_PWM_STATUS.HALTED (47 : CellId)) false;
      let h := h.setCell (47 : CellId) { h.cell (47 : CellId) with captured := some ({} : PwmSet) };
      let h := h.setCell (47 : CellId) { h.cell (47 : CellId) with pendingSet := true };
      h.setCell 47 { h.cell 47 with running := true }), 47, 0, 0, {}, by decide +kernel⟩,
    ⟨st (fun h => let h := h.wrB (LEG_PWM_STATUS.HALTED (47 : CellId)) false;
      let h := h.setCell (47 : CellId) { h.cell (47 : CellId) with captured := none };
      h.setCell 47 { h.cell 47 with running := true }), 47, 0, 0, by decide +kernel⟩,
    ⟨((fun h => h.setCell (47 : CellId) { h.cell (47 : CellId) with dutyNew := some 0 }) base), 47, 0, by decide +kernel⟩,
    ⟨((fun h => h.setCell (47 : CellId) { h.cell (47 : CellId) with dutyNew := none }) base), 47, by decide +kernel⟩⟩

theorem meets_EffectiveCommands :
    (∃ (s : State) (c : CellId) (p : Nat), s.hw.live = true ∧ (s.hw.cell c).running = true ∧ (s.hw.cell c).active.mode = 1 ∧
       p < (s.hw.cell c).active.ticks ∧ s.hw.on (LEG_PWM_STATUS.HALTED c) = false) ∧
    (∃ (s : State) (c : CellId) (sw : Switch), s.hw.live = true ∧ ((s.hw.cell c).sw sw).deadWait = true ∧ s.hw.wantsOn c sw = true ∧
       s.hw.on (gateCmd c (otherSwitch sw)) = false) ∧
    (∃ (s : State) (c : CellId) (sw : Switch), s.hw.live = true ∧ ((s.hw.cell c).sw sw).deadWait = true ∧ s.hw.wantsOn c sw = true ∧
       s.hw.on (gateCmd c (otherSwitch sw)) = true ∧ ((s.hw.cell c).sw sw).raw = true ∧
       ((s.hw.cell c).sw (otherSwitch sw)).raw = true ∧ ((s.hw.cell c).sw (otherSwitch sw)).rawAt = ((s.hw.cell c).sw sw).rawAt) ∧
    (∃ (s : State) (c : CellId) (sw : Switch), s.hw.live = true ∧ ((s.hw.cell c).sw sw).extended = true ∧
       (s.hw.cell c).hold = .none ∧ (s.hw.cell c).running = true ∧ s.hw.wantsOn c sw = false) ∧
    (∃ (s : State) (c : CellId) (sw : Switch), s.hw.live = true ∧ ((s.hw.cell c).sw sw).extended = false) :=
  ⟨⟨st (fun h => h.setCell 47 { h.cell 47 with running := true, active := { cfg := 0x2821#32 } }), 47, 319999, by decide +kernel⟩,
    ⟨st (fun h => let h := h.updSw (47 : CellId) .ls (fun y => { y with deadWait := true });
      let h := h.wrB (gateCmd (47 : CellId) (otherSwitch .ls)) false;
      let h := h.setCell 47 { h.cell 47 with running := true, active := { cfg := 0x2821#32 } };
      h.updSw 47 .ls (fun y => { y with raw := true })), 47, .ls, by decide +kernel⟩,
    ⟨st (fun h => let h := h.updSw (47 : CellId) .ls (fun y => { y with deadWait := true });
      let h := h.wrB (gateCmd (47 : CellId) (otherSwitch .ls)) true;
      let h := h.updSw (47 : CellId) .ls (fun y => { y with raw := true });
      let h := h.updSw (47 : CellId) (otherSwitch .ls) (fun y => { y with raw := true });
      let h := h.updSw (47 : CellId) (otherSwitch .ls) (fun y => { y with rawAt := ((h.cell (47 : CellId)).sw .ls).rawAt });
      let h := h.setCell 47 { h.cell 47 with running := true, active := { cfg := 0x2821#32 } };
      h.updSw 47 .ls (fun y => { y with raw := true })), 47, .ls, by decide +kernel⟩,
    ⟨st (fun h => let h := h.updSw (47 : CellId) .ls (fun y => { y with extended := true });
      let h := h.setCell (47 : CellId) { h.cell (47 : CellId) with hold := .none };
      h.setCell (47 : CellId) { h.cell (47 : CellId) with running := true }), 47, .ls, by decide +kernel⟩,
    ⟨st (fun h => h.updSw (47 : CellId) .ls (fun y => { y with extended := false })), 47, .ls, by decide +kernel⟩⟩

theorem meets_Trips :
    (∃ (s : State) (c : CellId) (n : Fin 4), s.hw.live = true ∧ s.hw.bit (LEG_TRIP_STATUS.ACTIVE c) n = true ∧
       s.hw.bit (LEG_TRIP_STATUS.BLANKED c) n = false ∧ s.hw.bit (LEG_TRIP_STATUS.LATCHED c) n = false ∧ (s.hw.cell c).hold = .none ∧
       (s.hw.cell c).running = true ∧ s.hw.rd (BLK_CELL_TRIP.ACTION (c.val / 6) (c.val % 6) n) = 0) ∧
    (∃ (s : State) (c : CellId) (n : Fin 4), s.hw.live = true ∧ s.hw.bit (LEG_TRIP_STATUS.ACTIVE c) n = true ∧
       s.hw.bit (LEG_TRIP_STATUS.BLANKED c) n = false ∧ s.hw.bit (LEG_TRIP_STATUS.LATCHED c) n = false ∧ (s.hw.cell c).hold = .none ∧
       (s.hw.cell c).running = true ∧ s.hw.rd (BLK_CELL_TRIP.ACTION (c.val / 6) (c.val % 6) n) = 1) ∧
    (∃ (s : State) (c : CellId) (n : Fin 4), s.hw.live = true ∧ s.hw.bit (LEG_TRIP_STATUS.ACTIVE c) n = true ∧
       s.hw.bit (LEG_TRIP_STATUS.BLANKED c) n = false ∧ s.hw.bit (LEG_TRIP_STATUS.LATCHED c) n = false ∧ (s.hw.cell c).hold = .none ∧
       (s.hw.cell c).running = true ∧ s.hw.rd (BLK_CELL_TRIP.ACTION (c.val / 6) (c.val % 6) n) = 2) ∧
    (∃ (s : State) (c : CellId) (n : Fin 4), s.hw.live = true ∧ s.hw.bit (LEG_TRIP_STATUS.ACTIVE c) n = true ∧
       s.hw.bit (LEG_TRIP_STATUS.BLANKED c) n = false ∧ s.hw.bit (LEG_TRIP_STATUS.LATCHED c) n = false ∧
       (s.hw.cell c).hold ≠ .frozen ∧ ((s.hw.cell c).hold ≠ .none ∨ (s.hw.cell c).running = false) ∧
       s.hw.rd (BLK_CELL_TRIP.ACTION (c.val / 6) (c.val % 6) n) = 0) ∧
    (∃ (s : State) (c : CellId) (n : Fin 4), s.hw.live = true ∧ s.hw.bit (LEG_TRIP_STATUS.ACTIVE c) n = true ∧
       s.hw.bit (LEG_TRIP_STATUS.BLANKED c) n = false ∧ s.hw.bit (LEG_TRIP_STATUS.LATCHED c) n = false ∧
       (s.hw.cell c).hold ≠ .frozen ∧ ((s.hw.cell c).hold ≠ .none ∨ (s.hw.cell c).running = false) ∧
       s.hw.rd (BLK_CELL_TRIP.ACTION (c.val / 6) (c.val % 6) n) = 1) ∧
    (∃ (s : State) (c : CellId) (n : Fin 4), s.hw.live = true ∧ s.hw.bit (LEG_TRIP_STATUS.ACTIVE c) n = true ∧
       s.hw.bit (LEG_TRIP_STATUS.BLANKED c) n = false ∧ s.hw.bit (LEG_TRIP_STATUS.LATCHED c) n = false ∧
       (s.hw.cell c).hold ≠ .frozen ∧ ((s.hw.cell c).hold ≠ .none ∨ (s.hw.cell c).running = false) ∧
       s.hw.rd (BLK_CELL_TRIP.ACTION (c.val / 6) (c.val % 6) n) = 2) ∧
    (∃ (s : State) (c : CellId) (n : Fin 4), s.hw.live = true ∧ s.hw.bit (LEG_TRIP_STATUS.ACTIVE c) n = true ∧
       s.hw.bit (LEG_TRIP_STATUS.BLANKED c) n = false ∧ s.hw.bit (LEG_TRIP_STATUS.LATCHED c) n = false ∧
       (s.hw.cell c).hold = .frozen ∧ s.hw.rd (BLK_CELL_TRIP.ACTION (c.val / 6) (c.val % 6) n) = 0) ∧
    (∃ (s : State) (c : CellId) (n : Fin 4), s.hw.live = true ∧ s.hw.bit (LEG_TRIP_STATUS.ACTIVE c) n = true ∧
       s.hw.bit (LEG_TRIP_STATUS.BLANKED c) n = false ∧ s.hw.bit (LEG_TRIP_STATUS.LATCHED c) n = false ∧
       (s.hw.cell c).hold = .frozen ∧ s.hw.rd (BLK_CELL_TRIP.ACTION (c.val / 6) (c.val % 6) n) ≠ 0) ∧
    (∃ (s : State) (q : Requester) (c : CellId) (mask : Fin 16), s.admits q (LEG_TRIP_STATUS c) (BitVec.ofNat 32 mask.val)) ∧
    (∃ (s : State) (k : BlockId) (n : Fin 12), s.hw.live = true ∧ s.hw.rd (BLK_HURDLE_CFG.MODE k n) = 1) ∧
    (∃ (s : State) (k : BlockId) (n : Fin 12), s.hw.live = true ∧ s.hw.rd (BLK_HURDLE_CFG.MODE k n) = 2 ∧
       (s.hw.block k).hurdleOpen.testBit n = true) ∧
    (∃ (s : State) (k : BlockId) (n : Fin 12), s.hw.live = true ∧ s.hw.rd (BLK_HURDLE_CFG.MODE k n) = 2 ∧
       (s.hw.block k).hurdleOpen.testBit n = false ∧ s.hw.rd (BLK_HURDLE_START.START k n) < s.hw.rd (BLK_HURDLE_END.END k n) ∧
       (s.hw.cell (6 * k.val + n.val / 2)).running = true) :=
  ⟨⟨st (fun h => let h := h.wrBit (LEG_TRIP_STATUS.ACTIVE (47 : CellId)) (3 : Fin 4) true;
      let h := h.wrBit (LEG_TRIP_STATUS.BLANKED (47 : CellId)) (3 : Fin 4) false;
      let h := h.wrBit (LEG_TRIP_STATUS.LATCHED (47 : CellId)) (3 : Fin 4) false;
      let h := h.setCell (47 : CellId) { h.cell (47 : CellId) with hold := .none };
      let h := h.setCell (47 : CellId) { h.cell (47 : CellId) with running := true };
      h.wr (BLK_CELL_TRIP.ACTION ((47 : CellId).val / 6) ((47 : CellId).val % 6) (3 : Fin 4)) 0), 47, 3, by decide +kernel⟩,
    ⟨st (fun h => let h := h.wrBit (LEG_TRIP_STATUS.ACTIVE (47 : CellId)) (3 : Fin 4) true;
      let h := h.wrBit (LEG_TRIP_STATUS.BLANKED (47 : CellId)) (3 : Fin 4) false;
      let h := h.wrBit (LEG_TRIP_STATUS.LATCHED (47 : CellId)) (3 : Fin 4) false;
      let h := h.setCell (47 : CellId) { h.cell (47 : CellId) with hold := .none };
      let h := h.setCell (47 : CellId) { h.cell (47 : CellId) with running := true };
      h.wr (BLK_CELL_TRIP.ACTION ((47 : CellId).val / 6) ((47 : CellId).val % 6) (3 : Fin 4)) 1), 47, 3, by decide +kernel⟩,
    ⟨st (fun h => let h := h.wrBit (LEG_TRIP_STATUS.ACTIVE (47 : CellId)) (3 : Fin 4) true;
      let h := h.wrBit (LEG_TRIP_STATUS.BLANKED (47 : CellId)) (3 : Fin 4) false;
      let h := h.wrBit (LEG_TRIP_STATUS.LATCHED (47 : CellId)) (3 : Fin 4) false;
      let h := h.setCell (47 : CellId) { h.cell (47 : CellId) with hold := .none };
      let h := h.setCell (47 : CellId) { h.cell (47 : CellId) with running := true };
      h.wr (BLK_CELL_TRIP.ACTION ((47 : CellId).val / 6) ((47 : CellId).val % 6) (3 : Fin 4)) 2), 47, 3, by decide +kernel⟩,
    ⟨st (fun h => let h := h.wrBit (LEG_TRIP_STATUS.ACTIVE (47 : CellId)) (3 : Fin 4) true;
      let h := h.wrBit (LEG_TRIP_STATUS.BLANKED (47 : CellId)) (3 : Fin 4) false;
      let h := h.wrBit (LEG_TRIP_STATUS.LATCHED (47 : CellId)) (3 : Fin 4) false;
      h.wr (BLK_CELL_TRIP.ACTION ((47 : CellId).val / 6) ((47 : CellId).val % 6) (3 : Fin 4)) 0), 47, 3, by decide +kernel⟩,
    ⟨st (fun h => let h := h.wrBit (LEG_TRIP_STATUS.ACTIVE (47 : CellId)) (3 : Fin 4) true;
      let h := h.wrBit (LEG_TRIP_STATUS.BLANKED (47 : CellId)) (3 : Fin 4) false;
      let h := h.wrBit (LEG_TRIP_STATUS.LATCHED (47 : CellId)) (3 : Fin 4) false;
      h.wr (BLK_CELL_TRIP.ACTION ((47 : CellId).val / 6) ((47 : CellId).val % 6) (3 : Fin 4)) 1), 47, 3, by decide +kernel⟩,
    ⟨st (fun h => let h := h.wrBit (LEG_TRIP_STATUS.ACTIVE (47 : CellId)) (3 : Fin 4) true;
      let h := h.wrBit (LEG_TRIP_STATUS.BLANKED (47 : CellId)) (3 : Fin 4) false;
      let h := h.wrBit (LEG_TRIP_STATUS.LATCHED (47 : CellId)) (3 : Fin 4) false;
      h.wr (BLK_CELL_TRIP.ACTION ((47 : CellId).val / 6) ((47 : CellId).val % 6) (3 : Fin 4)) 2), 47, 3, by decide +kernel⟩,
    ⟨st (fun h => let h := h.wrBit (LEG_TRIP_STATUS.ACTIVE (47 : CellId)) (3 : Fin 4) true;
      let h := h.wrBit (LEG_TRIP_STATUS.BLANKED (47 : CellId)) (3 : Fin 4) false;
      let h := h.wrBit (LEG_TRIP_STATUS.LATCHED (47 : CellId)) (3 : Fin 4) false;
      let h := h.setCell (47 : CellId) { h.cell (47 : CellId) with hold := .frozen };
      h.wr (BLK_CELL_TRIP.ACTION ((47 : CellId).val / 6) ((47 : CellId).val % 6) (3 : Fin 4)) 0), 47, 3, by decide +kernel⟩,
    ⟨st (fun h => let h := h.wrBit (LEG_TRIP_STATUS.ACTIVE (47 : CellId)) (3 : Fin 4) true;
      let h := h.wrBit (LEG_TRIP_STATUS.BLANKED (47 : CellId)) (3 : Fin 4) false;
      let h := h.wrBit (LEG_TRIP_STATUS.LATCHED (47 : CellId)) (3 : Fin 4) false;
      let h := h.setCell (47 : CellId) { h.cell (47 : CellId) with hold := .frozen };
      h.wr (BLK_CELL_TRIP.ACTION ((47 : CellId).val / 6) ((47 : CellId).val % 6) (3 : Fin 4)) 1), 47, 3, by decide +kernel⟩,
    ⟨st id, .host 0, 47, 15, by unfold State.admits; decide +kernel⟩,
    ⟨st (fun h => h.wr (BLK_HURDLE_CFG.MODE (7 : BlockId) (11 : Fin 12)) 1), 7, 11, by decide +kernel⟩,
    ⟨st (fun h => let h := h.wr (BLK_HURDLE_CFG.MODE (7 : BlockId) (11 : Fin 12)) 2;
      h.setBlock 7 { h.block 7 with hurdleOpen := 0x800 }), 7, 11, by decide +kernel⟩,
    ⟨st (fun h => let h := h.wr (BLK_HURDLE_CFG.MODE (7 : BlockId) (11 : Fin 12)) 2;
      let h := h.setCell (6 * (7 : BlockId).val + (11 : Fin 12).val / 2) { h.cell (6 * (7 : BlockId).val + (11 : Fin 12).val / 2) with running := true };
      h.wr (BLK_HURDLE_END.END 7 11) 1), 7, 11, by decide +kernel⟩⟩

theorem meets_SensingFaults :
    (∃ (s : State) (c : CellId), s.hw.live = true ∧ s.hw.blockActive (c.val / 6) = true ∧ (s.hw.cell c).disRaised = false ∧
       s.hw.rd (LEG_XCHK_CFG.STEPS c) ≤ s.hw.rd (LEG_XCHK_STATUS.COUNT c) ∧ s.hw.rd (LEG_XCHK_STATUS.COUNT c) ≠ 0) ∧
    (∃ (s : State) (c : CellId), s.hw.live = true ∧ s.hw.blockActive (c.val / 6) = true ∧ (s.hw.cell c).satRaised = false ∧
       8 ≤ s.hw.rd (LEG_XCHK_STATUS.SAT_COUNT c)) ∧
    (∃ (s : State), s.hw.live = true ∧ s.hw.vdcEpisode = false ∧ s.hw.rd VDC_XCHK_CFG.STEPS ≤ s.hw.rd VDC_STATUS.COUNT ∧
       s.hw.rd VDC_STATUS.COUNT ≠ 0) :=
  ⟨⟨st (fun h => let h := h.setCell (47 : CellId) { h.cell (47 : CellId) with disRaised := false };
      let h := h.wr (LEG_XCHK_STATUS.COUNT (47 : CellId)) 1; h.wr (LEG_XCHK_STATUS.COUNT 47) 0xFF), 47, by decide +kernel⟩,
    ⟨st (fun h => let h := h.setCell (47 : CellId) { h.cell (47 : CellId) with satRaised := false };
      h.wr (LEG_XCHK_STATUS.SAT_COUNT (47 : CellId)) 8), 47, by decide +kernel⟩,
    ⟨st (fun h => let h := { h with vdcEpisode := false }; let h := h.wr VDC_STATUS.COUNT 1; h.wr VDC_STATUS.COUNT 0xFF), by decide +kernel⟩⟩

theorem meets_ComparatorLevels :
    (∃ (s : State), s.hw.live = true) ∧
    (∃ (s : State) (m : Fin 16) (inputs : List Nat) (v : Bool), s.hw.live = true ∧ (s.hw.die 6).clockBad = false ∧
       ((v = true ↔ s.hw.rd (SCMP_CFG.INPUT m) ≠ 0 ∧
       (if s.hw.on (SCMP_CFG.POLARITY m) then 1024 * inputs.getD (s.hw.rd (SCMP_CFG.INPUT m) - 1) 0 < 2500000 * s.hw.rd (SCMP_CFG.THRESHOLD m) else 2500000 * s.hw.rd (SCMP_CFG.THRESHOLD m) < 1024 * inputs.getD (s.hw.rd (SCMP_CFG.INPUT m) - 1) 0))) ∧
       v ≠ s.hw.bit SCMP_STATUS.CONFIRMED m) ∧
    (∃ (s : State) (m : Fin 16) (inputs : List Nat) (v : Bool), s.hw.live = true ∧ (s.hw.die 6).clockBad = false ∧
       ((v = true ↔ s.hw.rd (SCMP_CFG.INPUT m) ≠ 0 ∧
       (if s.hw.on (SCMP_CFG.POLARITY m) then 1024 * inputs.getD (s.hw.rd (SCMP_CFG.INPUT m) - 1) 0 < 2500000 * s.hw.rd (SCMP_CFG.THRESHOLD m) else 2500000 * s.hw.rd (SCMP_CFG.THRESHOLD m) < 1024 * inputs.getD (s.hw.rd (SCMP_CFG.INPUT m) - 1) 0))) ∧
       v = s.hw.bit SCMP_STATUS.CONFIRMED m) ∧
    (∃ (s : State) (m : Fin 16), s.hw.live = true ∧ s.hw.rd (SCMP_CFG.CONFIRM m) + 1 ≤ Tab.get s.hw.scmpRun m 0) :=
  ⟨⟨st id, by decide +kernel⟩,
    ⟨st (fun h => let h := h.setDie 6 { h.die 6 with clockBad := false }; let h := h.wr (SCMP_CFG.INPUT 15) 1;
      let h := h.wr (SCMP_CFG.THRESHOLD 15) 0; h.wrB (SCMP_CFG.POLARITY 15) false), 15, [1], true, by decide +kernel⟩,
    ⟨st (fun h => let h := h.setDie 6 { h.die 6 with clockBad := false }; h.wr (SCMP_CFG.INPUT 15) 1), 15, [0], false, by decide +kernel⟩,
    ⟨st (fun h => { h with scmpRun := [(15, 10000)] }), 15, by decide +kernel⟩⟩

theorem meets_CopyingReads :
    (∃ (s : State) (q : Requester) (phase : Fin 500), s.hw.power = .running ∧
       (s.hw.atPhase phase.val).turnstile q TB_STEP_LO.addr false 0 = (none, none)) ∧
    (∃ (s : State) (q : Requester) (c : CellId), s.readable q (LEG_SAMPLE_I c)) ∧
    (∃ (s : State) (q : Requester) (n : CellId), s.readable q (MEAS_CH_V n)) ∧
    (∃ (s : State) (q : Requester) (u : UnitId), s.readable q (POS_POSITION u)) ∧
    (∃ (s : State) (q : Requester) (c : CellId), s.readable q (LEG_ACC_CHARGE_LO c)) :=
  ⟨⟨st (fun h => { h with power := .running }), .host 0, 499, by decide +kernel⟩,
    ⟨st id, .host 0, 47, by unfold State.readable; decide +kernel⟩,
    ⟨st id, .host 0, 47, by unfold State.readable; decide +kernel⟩,
    ⟨st id, .host 0, 10, by unfold State.readable; decide +kernel⟩,
    ⟨st id, .host 0, 47, by unfold State.readable; decide +kernel⟩⟩

theorem meets_MeasControl :
    (∃ (s : State) (q : Requester) (n : ConvId), s.admits q (measCtrlReg n) 1#32 ∧ s.hw.rd (measMode n) ≠ 0 ∧
       s.hw.rd (measState n) = 0 ∧ (s.hw.die 6).clockBad = false) ∧
    (∃ (s : State) (q : Requester) (n : ConvId), s.admits q (measCtrlReg n) 2#32 ∧ s.hw.convTest ≠ n.val ∧
       s.hw.measHeld n 2#32 = false ∧ (s.hw.rd (measState n) = 1 ∨ s.hw.rd (measState n) = 2)) ∧
    (∃ (s : State) (q : Requester) (n : ConvId), s.admits q (measCtrlReg n) 2#32 ∧ s.hw.convTest ≠ n.val ∧
       s.hw.measHeld n 2#32 = false ∧ s.hw.rd (measState n) = 3 ∧ (s.hw.conv n).isOpen = true) ∧
    (∃ (s : State) (q : Requester) (n : ConvId), s.admits q (measCtrlReg n) 2#32 ∧ s.hw.convTest ≠ n.val ∧
       s.hw.measHeld n 2#32 = false ∧ s.hw.rd (measState n) = 4) ∧
    (∃ (s : State) (q : Requester) (n : ConvId) (range : Bool),
       s.admits q (measCtrlReg n) (BitVec.ofNat 32 (4 + 8 * Num.ofBool range)) ∧ s.hw.convTest ≠ n.val ∧
       s.hw.measHeld n 4#32 = false ∧ s.hw.rd (measMode n) ≠ 0 ∧ s.hw.rd (measState n) = 0 ∧ (s.hw.die 6).clockBad = false) ∧
    (∃ (s : State) (q : Requester) (n : ConvId) (range : Bool),
       s.admits q (measCtrlReg n) (BitVec.ofNat 32 (4 + 8 * Num.ofBool range)) ∧ s.hw.convTest ≠ n.val ∧
       s.hw.measHeld n 4#32 = false ∧ s.hw.rd (measMode n) ≠ 0 ∧ s.hw.rd (measState n) = 3 ∧ (s.hw.conv n).calPend = false) ∧
    (∃ (s : State) (q : Requester) (a : AreaId), s.admits q (MEAS_CAP_CTRL a) 1#32 ∧ s.hw.rd (MEAS_CAP_CFG.MODE a) ≠ 0 ∧
       s.hw.rd (MEAS_CAP_STATUS.STATE a) ≠ 1) ∧
    (∃ (s : State) (q : Requester) (a : AreaId), s.admits q (MEAS_CAP_CTRL a) 2#32 ∧ s.hw.rd (MEAS_CAP_STATUS.STATE a) = 1) :=
  ⟨⟨st (fun h => let h := h.wr (measMode (63 : ConvId)) 1; let h := h.wr (measState (63 : ConvId)) 0;
      h.setDie 6 { h.die 6 with clockBad := false }), .host 0, 63, by unfold State.admits; decide +kernel, by decide +kernel, by decide +kernel, by decide +kernel⟩,
    ⟨st (fun h => h.wr (measState (63 : ConvId)) 1), .host 0, 63, by unfold State.admits; decide +kernel, by decide +kernel, by decide +kernel, by decide +kernel⟩,
    ⟨st (fun h => let h := h.wr (measState (63 : ConvId)) 3;
      h.setConv (63 : ConvId) { h.conv (63 : ConvId) with isOpen := true }), .host 0, 63, by unfold State.admits; decide +kernel, by decide +kernel, by decide +kernel, by decide +kernel, by decide +kernel⟩,
    ⟨st (fun h => h.wr (measState (63 : ConvId)) 4), .host 0, 63, by unfold State.admits; decide +kernel, by decide +kernel, by decide +kernel, by decide +kernel⟩,
    ⟨st (fun h => let h := h.wr (measMode (63 : ConvId)) 1; let h := h.wr (measState (63 : ConvId)) 0;
      h.setDie 6 { h.die 6 with clockBad := false }), .host 0, 63, true, by unfold State.admits; decide +kernel, by decide +kernel, by decide +kernel, by decide +kernel, by decide +kernel, by decide +kernel⟩,
    ⟨st (fun h => let h := h.wr (measMode (63 : ConvId)) 1; let h := h.wr (measState (63 : ConvId)) 3;
      h.setConv (63 : ConvId) { h.conv (63 : ConvId) with calPend := false }), .host 0, 63, true, by unfold State.admits; decide +kernel, by decide +kernel, by decide +kernel, by decide +kernel, by decide +kernel, by decide +kernel⟩,
    ⟨st (fun h => let h := h.wr (MEAS_CAP_CFG.MODE (31 : AreaId)) 1; h.setArea 31 { h.area 31 with owner := 0 }), .host 0, 31, by unfold State.admits; decide +kernel, by decide +kernel, by decide +kernel⟩,
    ⟨st (fun h => let h := h.wr (MEAS_CAP_STATUS.STATE (31 : AreaId)) 1; h.setArea 31 { h.area 31 with owner := 0 }), .host 0, 31, by unfold State.admits; decide +kernel, by decide +kernel⟩⟩

theorem meets_MeasWindows :
    (∃ (s : State) (n : ConvId), s.hw.live = true ∧ s.hw.rd (measState n) = 2 ∧ (s.hw.conv n).frameSeen = true ∧
       s.hw.stepCount % 2 = 0 ∧ (s.hw.conv n).cal = true) ∧
    (∃ (s : State) (n : ConvId), s.hw.live = true ∧ s.hw.rd (measState n) = 2 ∧ (s.hw.conv n).frameSeen = true ∧
       s.hw.stepCount % 2 = 0 ∧ (s.hw.conv n).cal = false ∧ n.val < 48 ∧ s.hw.rd (measMode n) ≠ 0) ∧
    (∃ (s : State) (n : ConvId), s.hw.live = true ∧ 48 ≤ n.val ∧ s.hw.rd (measState n) = 3 ∧ (s.hw.conv n).isOpen = false) ∧
    (∃ (s : State) (n : ConvId), s.hw.live = true ∧ s.hw.rd (measState n) = 3 ∧ (s.hw.conv n).isOpen = true) ∧
    (∃ (n : ConvId), 48 ≤ n.val) :=
  ⟨⟨st (fun h => let h := h.wr (measState (63 : ConvId)) 2;
      let h := h.setConv (63 : ConvId) { h.conv (63 : ConvId) with frameSeen := true };
      h.setConv (63 : ConvId) { h.conv (63 : ConvId) with cal := true }), 63, by decide +kernel⟩,
    ⟨st (fun h => let h := h.wr (measState (47 : ConvId)) 2;
      let h := h.setConv (47 : ConvId) { h.conv (47 : ConvId) with frameSeen := true };
      let h := h.setConv (47 : ConvId) { h.conv (47 : ConvId) with cal := false }; h.wr (measMode (47 : ConvId)) 1), 47, by decide +kernel⟩,
    ⟨st (fun h => let h := h.wr (measState (63 : ConvId)) 3;
      h.setConv (63 : ConvId) { h.conv (63 : ConvId) with isOpen := false }), 63, by decide +kernel⟩,
    ⟨st (fun h => let h := h.wr (measState (63 : ConvId)) 3;
      h.setConv (63 : ConvId) { h.conv (63 : ConvId) with isOpen := true }), 63, by decide +kernel⟩,
    ⟨63, by decide +kernel⟩⟩

theorem meets_MeasReferences :
    (∃ (s : State) (n : ConvId), s.hw.live = true ∧ (s.hw.rd (measRefSel n) ≠ 1 ∨ s.hw.on MEAS_REF_STATUS.REFIN_OK = true) ∧
       s.hw.rd (measState n) ≠ 1) ∧
    (∃ (s : State) (n : ConvId), s.hw.live = true ∧ (s.hw.rd (measRefSel n) ≠ 1 ∨ s.hw.on MEAS_REF_STATUS.REFIN_OK = true) ∧
       s.hw.rd (measState n) = 1) ∧
    (∃ (s : State) (mv : Nat), s.hw.live = true ∧ 2000 ≤ mv ∧ mv ≤ 3000) ∧
    (∃ (s : State) (mv : Nat), s.hw.live = true ∧ (mv < 2000 ∨ 3000 < mv) ∧ ((∀ n < 64, s.hw.usesRefin n = false))) ∧
    (∃ (s : State) (mv : Nat) (n : ConvId) (p : Nat), s.hw.live = true ∧ (mv < 2000 ∨ 3000 < mv) ∧ s.hw.refinRec.testBit p = false ∧
       ((∀ j < 64, s.hw.usesRefin j = decide (j = n.val))) ∧ s.hw.rd (measRefSel n) = 1 ∧ s.hw.measOwner n = some p ∧
       (s.hw.conv n).isOpen = true ∧ s.hw.rd (measState n) = 3) ∧
    (∃ (s : State) (n : CellId) (sums : List Int) (off gain : Nat), s.hw.live = true ∧ s.hw.rd (measState n) = 4 ∧
       s.hw.on (MEAS_CH_CFG.I_EN n) = false ∧ calFactors (sums.getD 1 0) (sums.getD 2 0) = some (off, gain)) ∧
    (∃ (s : State) (n : CellId) (sums : List Int), s.hw.live = true ∧ s.hw.rd (measState n) = 4 ∧
       calFactors (sums.getD 1 0) (sums.getD 2 0) = none) ∧
    (∃ (h : Hw) (n : ConvId), (h.conv n).calResume = 0) ∧
    (∃ (s : State) (n : ConvId) (sums : List Int) (off gain : Nat), s.hw.live = true ∧ 48 ≤ n.val ∧ s.hw.rd (measState n) = 4 ∧
       calFactors (sums.getD 1 0) (sums.getD 2 0) = some (off, gain)) ∧
    (∃ (s : State) (n : ConvId) (p : Nat), s.hw.live = true ∧ s.hw.measOwner n = some p) ∧
    (∃ (s : State) (n : ConvId) (p : Nat), s.hw.live = true ∧ s.hw.tempOwner n = some p) :=
  ⟨⟨st id, 63, by decide +kernel⟩,
    ⟨st (fun h => h.wr (measState (63 : ConvId)) 1), 63, by decide +kernel⟩,
    ⟨st id, 3000, by decide +kernel⟩,
    ⟨st id, 3001, by decide +kernel⟩,
    ⟨st (fun h => let h := h.wr (measRefSel (63 : ConvId)) 1;
      let h := h.setConv (63 : ConvId) { h.conv (63 : ConvId) with isOpen := true }; h.wr (measState (63 : ConvId)) 3), 0, 63, 0, by decide +kernel⟩,
    ⟨st (fun h => let h := h.wr (measState (47 : CellId)) 4;
      h.wrB (MEAS_CH_CFG.I_EN (47 : CellId)) false), 47, [0, 134217720, -134217720], 0, 1073741824, by decide +kernel⟩,
    ⟨st (fun h => h.wr (measState (47 : CellId)) 4), 47, [], by decide +kernel⟩,
    ⟨((fun h => h.setConv (63 : ConvId) { h.conv (63 : ConvId) with calResume := 0 }) base), 63, by decide +kernel⟩,
    ⟨st (fun h => h.wr (measState (63 : ConvId)) 4), 63, [0, 134217720, -134217720], 0, 1073741824, by decide +kernel⟩,
    ⟨st id, 63, 0, by decide +kernel⟩,
    ⟨st id, 63, 0, by decide +kernel⟩⟩

theorem meets_LaneArithmetic :
    (∃ (s : State) (k : BlockId) (w : Word), s.laneAt k 1 w) ∧
    (∃ (s : State) (k : BlockId) (w : Word) (x y : Int), s.laneAt k 2 w ∧ Q15.val (s.hw.sigIn k (laneA w)) = some x ∧
       Q15.val (s.hw.sigIn k (laneB w)) = some y) ∧
    (∃ (s : State) (k : BlockId) (w : Word), s.laneAt k 2 w ∧
       (Q15.val (s.hw.sigIn k (laneA w)) = none ∨ Q15.val (s.hw.sigIn k (laneB w)) = none)) ∧
    (∃ (s : State) (k : BlockId) (w : Word) (x y : Int), s.laneAt k 3 w ∧ Q15.val (s.hw.sigIn k (laneA w)) = some x ∧
       Q15.val (s.hw.sigIn k (laneB w)) = some y) ∧
    (∃ (s : State) (k : BlockId) (w : Word), s.laneAt k 3 w ∧
       (Q15.val (s.hw.sigIn k (laneA w)) = none ∨ Q15.val (s.hw.sigIn k (laneB w)) = none)) ∧
    (∃ (s : State) (k : BlockId) (w : Word) (x y : Int), s.laneAt k 4 w ∧ Q15.val (s.hw.sigIn k (laneA w)) = some x ∧
       Q15.val (s.hw.sigIn k (laneB w)) = some y) ∧
    (∃ (s : State) (k : BlockId) (w : Word), s.laneAt k 4 w ∧
       (Q15.val (s.hw.sigIn k (laneA w)) = none ∨ Q15.val (s.hw.sigIn k (laneB w)) = none)) ∧
    (∃ (s : State) (k : BlockId) (w : Word) (x y : Int), s.laneAt k 5 w ∧ Q15.val (s.hw.sigIn k (laneA w)) = some x ∧
       Q15.val (s.hw.sigIn k (laneB w)) = some y) ∧
    (∃ (s : State) (k : BlockId) (w : Word), s.laneAt k 5 w ∧
       (Q15.val (s.hw.sigIn k (laneA w)) = none ∨ Q15.val (s.hw.sigIn k (laneB w)) = none)) :=
  ⟨⟨st (fun h => h.lane (7 : BlockId) (0x10000000#32 : Word)), 7, 0x10000000#32, by unfold State.laneAt; decide +kernel⟩,
    ⟨st (fun h => let h := h.lane (7 : BlockId) (0x20000000#32 : Word);
      let h := h.setSig (7 : BlockId) (laneA (0x20000000#32 : Word)) 0;
      h.setSig (7 : BlockId) (laneB (0x20000000#32 : Word)) 0), 7, 0x20000000#32, 0, 0, by unfold State.laneAt; decide +kernel, by decide +kernel, by decide +kernel⟩,
    ⟨st (fun h => h.lane (7 : BlockId) (0x20000000#32 : Word)), 7, 0x20000000#32, by unfold State.laneAt; decide +kernel, by decide +kernel⟩,
    ⟨st (fun h => let h := h.lane (7 : BlockId) (0x30000000#32 : Word);
      let h := h.setSig (7 : BlockId) (laneA (0x30000000#32 : Word)) 0;
      h.setSig (7 : BlockId) (laneB (0x30000000#32 : Word)) 0), 7, 0x30000000#32, 0, 0, by unfold State.laneAt; decide +kernel, by decide +kernel, by decide +kernel⟩,
    ⟨st (fun h => h.lane (7 : BlockId) (0x30000000#32 : Word)), 7, 0x30000000#32, by unfold State.laneAt; decide +kernel, by decide +kernel⟩,
    ⟨st (fun h => let h := h.lane (7 : BlockId) (0x40000000#32 : Word);
      let h := h.setSig (7 : BlockId) (laneA (0x40000000#32 : Word)) 0;
      h.setSig (7 : BlockId) (laneB (0x40000000#32 : Word)) 0), 7, 0x40000000#32, 0, 0, by unfold State.laneAt; decide +kernel, by decide +kernel, by decide +kernel⟩,
    ⟨st (fun h => h.lane (7 : BlockId) (0x40000000#32 : Word)), 7, 0x40000000#32, by unfold State.laneAt; decide +kernel, by decide +kernel⟩,
    ⟨st (fun h => let h := h.lane (7 : BlockId) (0x50000000#32 : Word);
      let h := h.setSig (7 : BlockId) (laneA (0x50000000#32 : Word)) 0;
      h.setSig (7 : BlockId) (laneB (0x50000000#32 : Word)) 0), 7, 0x50000000#32, 0, 0, by unfold State.laneAt; decide +kernel, by decide +kernel, by decide +kernel⟩,
    ⟨st (fun h => h.lane (7 : BlockId) (0x50000000#32 : Word)), 7, 0x50000000#32, by unfold State.laneAt; decide +kernel, by decide +kernel⟩⟩

theorem meets_LawsAndInputs :
    (∃ (s : State) (k : BlockId) (w : Word) (e : Int), s.laneAt k 6 w ∧ Q15.val (s.hw.sigIn k (laneA w)) = some e) ∧
    (∃ (s : State) (k : BlockId) (w : Word), s.laneAt k 6 w ∧ Q15.val (s.hw.sigIn k (laneA w)) = none) ∧
    (∃ (s : State) (q : Requester) (k : BlockId) (l : Fin 256), s.admits q (BLK_LAW_CTRL k l) 1#32 ∧ (s.hw.law k l).present = true) ∧
    (∃ (s : State) (q : Requester) (k : BlockId) (n : Fin 128) (v : Fin 65536),
       s.admits q (BLK_INPUT_VALUE k n) (BitVec.ofNat 32 v.val) ∧ s.hw.isWriter k n q = true ∧ v.val ≠ 0x8000) :=
  ⟨⟨st (fun h => let h := h.lane (7 : BlockId) (0x60000000#32 : Word);
      h.setSig (7 : BlockId) (laneA (0x60000000#32 : Word)) 0), 7, 0x60000000#32, 0, by unfold State.laneAt; decide +kernel, by decide +kernel⟩,
    ⟨st (fun h => h.lane (7 : BlockId) (0x60000000#32 : Word)), 7, 0x60000000#32, by unfold State.laneAt; decide +kernel, by decide +kernel⟩,
    ⟨st (fun h => h.setLaw (7 : BlockId) (255 : Fin 256) { h.law (7 : BlockId) (255 : Fin 256) with present := true }), .host 0, 7, 255, by unfold State.admits; decide +kernel, by decide +kernel⟩,
    ⟨st (fun h => h.setBlock 7 { h.block 7 with sec := some { block := 7, mode := 3, writers := [{ input := 119, kind := 1, source := 0 }] } }), .host 0, 7, 119, 65535, by unfold State.admits; decide +kernel, by decide +kernel, by decide +kernel⟩⟩

theorem meets_InjectorAndCapture :
    (∃ (s : State) (q : Requester) (k : BlockId), s.admits q (BLK_INJ_CTRL k) 1#32 ∧
       (s.hw.rd (BLK_INJ_CFG.WAVE k) = 3 ∨ (s.hw.rd (BLK_INJ_CFG.WAVE k) = 0 ∧
       s.hw.rd (BLK_INJ_FREQ.INC k 0) ≠ 0) ∨ (s.hw.rd (BLK_INJ_CFG.WAVE k) = 1 ∧
       s.hw.rd (BLK_INJ_SWEEP.SWEEP k) ≠ 0) ∨ (s.hw.rd (BLK_INJ_CFG.WAVE k) = 2 ∧ ∀ e,
       e ≤ s.hw.rd (BLK_INJ_CFG.ENTRIES k) → s.hw.rd (BLK_INJ_FREQ.INC k e) ≠ 0))) ∧
    (∃ (s : State) (q : Requester) (k : BlockId), s.admits q (BLK_INJ_CTRL k) 2#32) ∧
    (∃ (s : State) (k : BlockId), s.hw.live = true ∧ (s.hw.block k).injDone = true) ∧
    (∃ (s : State) (q : Requester) (k : BlockId), s.admits q (BLK_CAP_CTRL k) 1#32 ∧ s.hw.capOk k = true) ∧
    (∃ (s : State) (q : Requester) (k : BlockId), s.admits q (BLK_CAP_CTRL k) 2#32 ∧
       (s.hw.rd (BLK_CAP_STATUS.STATE k) = 1 ∨ s.hw.rd (BLK_CAP_STATUS.STATE k) = 2)) ∧
    (∃ (s : State) (k : BlockId), s.hw.live = true ∧ s.hw.rd (BLK_CAP_STATUS.STATE k) = 2 ∧
       s.hw.rd (BLK_CAP_LEN.LENGTH k) ≤ (s.hw.block k).capHave) :=
  ⟨⟨st (fun h => h.wr (BLK_INJ_CFG.WAVE (7 : BlockId)) 3), .host 0, 7, by unfold State.admits; decide +kernel, by decide +kernel⟩,
    ⟨st id, .host 0, 7, by unfold State.admits; decide +kernel⟩,
    ⟨st (fun h => h.setBlock (7 : BlockId) { h.block (7 : BlockId) with injDone := true }), 7, by decide +kernel⟩,
    ⟨st (fun h => let h := h.wr (BLK_CAP_CFG.ENABLE 7) 1; h.wr (BLK_CAP_LEN.LENGTH 7) 262144), .host 0, 7, by unfold State.admits; decide +kernel, by decide +kernel⟩,
    ⟨st (fun h => h.wr (BLK_CAP_STATUS.STATE (7 : BlockId)) 1), .host 0, 7, by unfold State.admits; decide +kernel, by decide +kernel⟩,
    ⟨st (fun h => h.wr (BLK_CAP_STATUS.STATE (7 : BlockId)) 2), 7, by decide +kernel⟩⟩

theorem meets_LaneProgramEnd :
    (∃ (s : State) (k : BlockId) (w : Word), s.laneAt k 15 w) ∧
    (∃ (h : Hw) (k : BlockId) (b : BlockSec), (h.mode k = 0 ∨ h.mode k = 2 ∨ h.mode k = 4) ∧ (h.block k).sec = some b) ∧
    (∃ (h : Hw) (k : BlockId) (t : TrioId), h.triosOf k = [t.val]) ∧
    (∃ (m : Mach) (k : BlockId), m.hw.rd (BLK_CAP_STATUS.STATE k) = 0) ∧
    (∃ (m : Mach) (k : BlockId), m.hw.rd (BLK_CAP_STATUS.STATE k) = 2 ∧ (m.hw.block k).capFrom ≤ m.hw.stepCount ∧
       m.hw.halted k = false ∧ (m.hw.block k).capDecim = 0 ∧ (m.hw.block k).capHave < m.hw.rd (BLK_CAP_LEN.LENGTH k)) :=
  ⟨⟨st (fun h => h.lane (7 : BlockId) (0xF0000000#32 : Word)), 7, 0xF0000000#32, by unfold State.laneAt; decide +kernel⟩,
    ⟨(base.setBlock 7 { base.block 7 with sec := some { block := 7, mode := 4 } }), 7, { block := 7, mode := 4 }, by decide +kernel⟩,
    ⟨((fun h => h.setBlock 7 { h.block 7 with sec := some { block := 7, mode := 1, trioCount := 2, trios := [[], [0, 1, 2, 0]] } }) base), 7, 15, by decide +kernel⟩,
    ⟨(mach (fun h => h.wr (BLK_CAP_STATUS.STATE (7 : BlockId)) 0)), 7, by decide +kernel⟩,
    ⟨(mach (fun h => let h := h.wr (BLK_CAP_STATUS.STATE (7 : BlockId)) 2; let h := h.wrBit DBG_HALT.HALTED (7 : BlockId) false;
      let h := h.setBlock (7 : BlockId) { h.block (7 : BlockId) with capDecim := 0 }; h.wr (BLK_CAP_LEN.LENGTH 7) 1)), 7, by decide +kernel⟩⟩

theorem meets_TorqueControl :
    (∃ (s : State) (k : BlockId) (w : Word) (t : TrioId) (u : Nat) (i0 i1 i2 v0 v1 v2 : Int), s.laneAt k 8 w ∧
       s.hw.fluxAngle k true = some u ∧ s.hw.triosOf k = [t.val] ∧ s.hw.trioSamples t 0 = [some i0, some i1, some i2] ∧
       s.hw.trioSamples t 1 = [some v0, some v1, some v2]) ∧
    (∃ (s : State) (c : CellId), s.hw.live = true ∧ 64 ≤ (s.hw.cell c).residCount ∧ (s.hw.cell c).residDone = false) ∧
    (∃ (s : State) (k : BlockId) (w : Word) (t : TrioId), s.laneAt k 9 w ∧ s.hw.triosOf k = [t.val] ∧ w.getLsbD (t.val % 2) = true) ∧
    (∃ (h : Hw) (t : TrioId) (p : Nat) (vdc : Int), h.owner (t.val / 2) = some p ∧ Q15.val (h.sigIn (t.val / 2) 0x118) = some vdc) ∧
    (∃ (s : State) (k : BlockId) (w : Word) (t : TrioId), s.laneAt k 10 w ∧ s.hw.triosOf k = [t.val] ∧ w.getLsbD (t.val % 2) = true) ∧
    (∃ (h : Hw) (t : TrioId) (p : Nat) (r f e m : Int), h.owner (t.val / 2) = some p ∧ h.torqueRef t = some r ∧
       (h.trio t).vetoRan = false ∧ Q15.val (h.sigIn (t.val / 2) (2 * (t.val % 2) + 1)) = some f ∧
       Q15.val (h.sigIn (t.val / 2) (0x0F0 + 8 * (t.val % 2))) = some e ∧
       Q15.val (h.sigIn (t.val / 2) (0x0F0 + 8 * (t.val % 2) + 1)) = some m ∧
       h.on (BLK_TRIO_CFG.ZERO_MIN (t.val / 2) (t.val % 2)) = false) :=
  ⟨⟨st (fun h => let h := h.lane (7 : BlockId) (0x80000000#32 : Word); let h := h.wr (BLK_DTC_CFG.ANGLE 7) 1;
      let h := [0x001, 0x10C, 0x110, 0x114, 0x10D, 0x111, 0x115].foldl (fun h x => h.setSig 7 x 0) h;
      [0x100, 0x104, 0x108, 0x101, 0x105, 0x109].foldl (fun h x => h.setSig 7 x 0) h), 7, 0x80000000#32, 15, 32768, 0, 0, 0, 0, 0, 0, by unfold State.laneAt; decide +kernel, by decide +kernel, by decide +kernel, by decide +kernel, by decide +kernel⟩,
    ⟨st (fun h => let h := h.setCell (47 : CellId) { h.cell (47 : CellId) with residDone := false };
      h.setCell 47 { h.cell 47 with residCount := 64 }), 47, by decide +kernel⟩,
    ⟨st (fun h => h.lane (7 : BlockId) (0x90000002#32 : Word)), 7, 0x90000002#32, 15, by unfold State.laneAt; decide +kernel, by decide +kernel, by decide +kernel⟩,
    ⟨((fun h => h.setSig ((15 : TrioId).val / 2) 0x118 0) base), 15, 0, 0, by decide +kernel⟩,
    ⟨st (fun h => h.lane (7 : BlockId) (0xA0000002#32 : Word)), 7, 0xA0000002#32, 15, by unfold State.laneAt; decide +kernel, by decide +kernel, by decide +kernel⟩,
    ⟨((fun h => let h := h.setTrio (15 : TrioId) { h.trio (15 : TrioId) with vetoRan := false };
      let h := h.setSig ((15 : TrioId).val / 2) (2 * ((15 : TrioId).val % 2) + 1) 0;
      let h := h.setSig ((15 : TrioId).val / 2) (0x0F0 + 8 * ((15 : TrioId).val % 2)) 0;
      let h := h.setSig ((15 : TrioId).val / 2) (0x0F0 + 8 * ((15 : TrioId).val % 2) + 1) 0;
      let h := h.wrB (BLK_TRIO_CFG.ZERO_MIN ((15 : TrioId).val / 2) ((15 : TrioId).val % 2)) false;
      h.setSig 7 2 0) base), 15, 0, 0, 0, 0, 0, by decide +kernel⟩⟩

theorem meets_SixStep :
    (∃ (s : State) (k : BlockId) (w : Word) (t : TrioId), s.laneAt k 11 w ∧ s.hw.triosOf k = [t.val] ∧ w.getLsbD (t.val % 2) = true) ∧
    (∃ (h : Hw) (t : TrioId) (d : Int), h.motion t = 6 ∧ (h.trio t).catchBack = false ∧ (h.block (t.val / 2)).ss1On = false ∧
       Q15.val (h.sigIn (t.val / 2) (2 * (t.val % 2))) = some d) ∧
    (∃ (s : State) (t : TrioId), s.hw.live = true ∧ s.hw.motion t = 4 ∧
       800 * s.hw.rd (BLK_TRIO_START_CFG.ALIGN_MS (t.val / 2) (t.val % 2)) ≤ (s.hw.trio t).timer) ∧
    (∃ (s : State) (t : TrioId), s.hw.live = true ∧ s.hw.motion t = 5 ∧ 12 ≤ (s.hw.trio t).olCount ∧ (s.hw.trio t).nextMotion = none) ∧
    (∃ (s : State) (t : TrioId), s.hw.live = true ∧ s.hw.motion t = 1 ∧ (s.hw.trio t).nextMotion = none ∧
       (s.hw.trio t).catching = false ∧ s.hw.runOf t ≠ 0 ∧
       800 * s.hw.rd (BLK_TRIO_MOTION_CFG.OBSERVE_MS (t.val / 2) (t.val % 2)) ≤ (s.hw.trio t).timer ∧ (s.hw.trio t).observed = [] ∧
       s.hw.atRest t = true) ∧
    (∃ (s : State) (t : TrioId), s.hw.live = true ∧ s.hw.motion t = 1 ∧ (s.hw.trio t).nextMotion = none ∧
       (s.hw.trio t).catching = false ∧ s.hw.runOf t ≠ 0 ∧
       800 * s.hw.rd (BLK_TRIO_MOTION_CFG.OBSERVE_MS (t.val / 2) (t.val % 2)) ≤ (s.hw.trio t).timer ∧ (s.hw.trio t).observed = [] ∧
       s.hw.atRest t = false ∧ (s.hw.trio t).dir ≠ 0 ∧ (s.hw.trio t).dir ≠ s.hw.runOf t ∧
       s.hw.rd (BLK_TRIO_MOTION_CFG.REVERSE_ACTION (t.val / 2) (t.val % 2)) = 0) ∧
    (∃ (s : State) (t : TrioId) (c : Nat), s.hw.live = true ∧ (s.hw.trio t).cPrev = some c ∧ s.hw.motion t = 6 ∧
       s.hw.sixStep t = true ∧ (s.hw.trio t).crossed = false ∧ (s.hw.trio t).nextMotion = none ∧
       c + (3 * (s.hw.trio t).interval + 1) / 2 ≤ s.hw.stepCount ∧ (s.hw.trio t).missRun = 0 ∧
       (s.hw.block (t.val / 2)).laneRuns = false) ∧
    (∃ (s : State) (t : TrioId) (c : Nat), s.hw.live = true ∧ (s.hw.trio t).cPrev = some c ∧ s.hw.motion t = 6 ∧
       s.hw.sixStep t = true ∧ (s.hw.trio t).crossed = false ∧ (s.hw.trio t).nextMotion = none ∧
       c + (3 * (s.hw.trio t).interval + 1) / 2 ≤ s.hw.stepCount ∧ 1 ≤ (s.hw.trio t).missRun) :=
  ⟨⟨st (fun h => h.lane (7 : BlockId) (0xB0000002#32 : Word)), 7, 0xB0000002#32, 15, by unfold State.laneAt; decide +kernel, by decide +kernel, by decide +kernel⟩,
    ⟨((fun h => let h := h.wr (motionF (15 : TrioId)) 6;
      let h := h.setTrio (15 : TrioId) { h.trio (15 : TrioId) with catchBack := false };
      let h := h.setBlock ((15 : TrioId).val / 2) { h.block ((15 : TrioId).val / 2) with ss1On := false };
      h.setSig ((15 : TrioId).val / 2) (2 * ((15 : TrioId).val % 2)) 0) base), 15, 0, by decide +kernel⟩,
    ⟨st (fun h => let h := h.wr (motionF (15 : TrioId)) 4; h.setTrio 15 { h.trio 15 with timer := 1000000000 }), 15, by decide +kernel⟩,
    ⟨st (fun h => let h := h.wr (motionF (15 : TrioId)) 5;
      let h := h.setTrio (15 : TrioId) { h.trio (15 : TrioId) with nextMotion := none };
      h.setTrio 15 { h.trio 15 with olCount := 12 }), 15, by decide +kernel⟩,
    ⟨st (fun h => let h := h.wr (motionF (15 : TrioId)) 1;
      let h := h.setTrio (15 : TrioId) { h.trio (15 : TrioId) with nextMotion := none };
      let h := h.setTrio (15 : TrioId) { h.trio (15 : TrioId) with catching := false };
      let h := h.setTrio (15 : TrioId) { h.trio (15 : TrioId) with observed := [] };
      let h := h.setBlock 7 { h.block 7 with sec := some { block := 7, mode := 2 } };
      let h := h.setTrio 15 { h.trio 15 with timer := 1000000000 }; let h := h.wr (BLK_TRIO_SPEED_CFG.STOP_HZ 7 1) 1;
      h.setSig 7 5 1), 15, by decide +kernel⟩,
    ⟨st (fun h => let h := h.wr (motionF (15 : TrioId)) 1;
      let h := h.setTrio (15 : TrioId) { h.trio (15 : TrioId) with nextMotion := none };
      let h := h.setTrio (15 : TrioId) { h.trio (15 : TrioId) with catching := false };
      let h := h.setTrio (15 : TrioId) { h.trio (15 : TrioId) with observed := [] };
      let h := h.wr (BLK_TRIO_MOTION_CFG.REVERSE_ACTION ((15 : TrioId).val / 2) ((15 : TrioId).val % 2)) 0;
      let h := h.setTrio 15 { h.trio 15 with timer := 1000000000, lost := true, dir := 1 }; h.setSig 7 5 0xFFFF), 15, by decide +kernel⟩,
    ⟨st (fun h => let h := h.setTrio (15 : TrioId) { h.trio (15 : TrioId) with cPrev := some 0 };
      let h := h.wr (motionF (15 : TrioId)) 6; let h := h.setTrio (15 : TrioId) { h.trio (15 : TrioId) with crossed := false };
      let h := h.setTrio (15 : TrioId) { h.trio (15 : TrioId) with nextMotion := none };
      let h := h.setTrio (15 : TrioId) { h.trio (15 : TrioId) with missRun := 0 };
      let h := h.setBlock ((15 : TrioId).val / 2) { h.block ((15 : TrioId).val / 2) with laneRuns := false };
      h.setBlock 7 { h.block 7 with sec := some { block := 7, mode := 2 } }), 15, 0, by decide +kernel⟩,
    ⟨st (fun h => let h := h.setTrio (15 : TrioId) { h.trio (15 : TrioId) with cPrev := some 0 };
      let h := h.wr (motionF (15 : TrioId)) 6; let h := h.setTrio (15 : TrioId) { h.trio (15 : TrioId) with crossed := false };
      let h := h.setTrio (15 : TrioId) { h.trio (15 : TrioId) with nextMotion := none };
      let h := h.setBlock 7 { h.block 7 with sec := some { block := 7, mode := 2 } };
      h.setTrio 15 { h.trio 15 with missRun := 1 }), 15, 0, by decide +kernel⟩⟩

theorem meets_ReturnOfCell :
    (∃ (s : State) (q : Requester) (c : CellId), s.admits q (LEG_REENTRY_CTRL c) 1#32 ∧ s.hw.blockFenced (c.val / 6) = false ∧
       s.hw.regionHolds (c.val / 6) = false ∧ s.hw.cellFenced c = true ∧ s.hw.vdrvOk (c.val / 12) = true ∧
       s.hw.rd (LEG_REENTRY_STATUS.STATE c) ≠ 1 ∧ s.hw.rd (LEG_REENTRY_STATUS.STATE c) ≠ 2 ∧ s.hw.on (LEG_GD_STATUS.BST_OK c) = true) ∧
    (∃ (s : State) (q : Requester) (c : CellId), s.admits q (LEG_REENTRY_CTRL c) 1#32 ∧ s.hw.blockFenced (c.val / 6) = false ∧
       s.hw.regionHolds (c.val / 6) = false ∧ s.hw.cellFenced c = true ∧ s.hw.vdrvOk (c.val / 12) = true ∧
       s.hw.rd (LEG_REENTRY_STATUS.STATE c) ≠ 1 ∧ s.hw.rd (LEG_REENTRY_STATUS.STATE c) ≠ 2 ∧ s.hw.on (LEG_GD_STATUS.BST_OK c) = false) ∧
    (∃ (s : State) (c : CellId), s.hw.live = true ∧ s.hw.rd (LEG_REENTRY_STATUS.STATE c) = 1 ∧ (s.hw.cell c).diagStage = 0 ∧
       (s.hw.cell c).preCharge = 0) ∧
    (∃ (s : State) (c : CellId) (cause : Fin 64), s.hw.live = true ∧ s.hw.rd (LEG_REENTRY_STATUS.STATE c) = 1 ∧ cause ≠ 0) :=
  ⟨⟨st (fun h => let h := h.setCell (47 : CellId) { h.cell (47 : CellId) with fenced := true };
      let h := h.wrBit SUPPLY_STATUS.VDRV_OK ((47 : CellId).val / 12) true;
      h.wrB (LEG_GD_STATUS.BST_OK (47 : CellId)) true), .host 0, 47, by unfold State.admits; decide +kernel, by decide +kernel, by decide +kernel, by decide +kernel, by decide +kernel, by decide +kernel, by decide +kernel, by decide +kernel⟩,
    ⟨st (fun h => let h := h.setCell (47 : CellId) { h.cell (47 : CellId) with fenced := true };
      let h := h.wrBit SUPPLY_STATUS.VDRV_OK ((47 : CellId).val / 12) true;
      h.wrB (LEG_GD_STATUS.BST_OK (47 : CellId)) false), .host 0, 47, by unfold State.admits; decide +kernel, by decide +kernel, by decide +kernel, by decide +kernel, by decide +kernel, by decide +kernel, by decide +kernel, by decide +kernel⟩,
    ⟨st (fun h => let h := h.wr (LEG_REENTRY_STATUS.STATE (47 : CellId)) 1;
      let h := h.setCell (47 : CellId) { h.cell (47 : CellId) with diagStage := 0 };
      h.setCell (47 : CellId) { h.cell (47 : CellId) with preCharge := 0 }), 47, by decide +kernel⟩,
    ⟨st (fun h => h.wr (LEG_REENTRY_STATUS.STATE (47 : CellId)) 1), 47, 63, by decide +kernel⟩⟩

theorem meets_EncoderPosition :
    (∃ (s : State) (u : UnitId) (lv : Fin 4) (fwd : Bool), s.hw.live = true ∧ u.val < 3 ∧ s.hw.on (POS_CFG.ENABLE u) = true ∧
       (s.hw.posUnit u).valid = true ∧
       (quadPlace lv.val + 4 - quadPlace (s.hw.posUnit u).level) % 4 = (if fwd = s.hw.on (POS_CFG.DIR u) then 3 else 1)) ∧
    (∃ (s : State) (u : UnitId) (lv : Fin 4), s.hw.live = true ∧ u.val < 3 ∧ s.hw.on (POS_CFG.ENABLE u) = true ∧
       (s.hw.posUnit u).valid = true ∧ (quadPlace lv.val + 4 - quadPlace (s.hw.posUnit u).level) % 4 = 2) ∧
    (∃ (s : State) (u : UnitId), s.hw.live = true ∧ u.val < 3 ∧ s.hw.on (POS_CFG.ENABLE u) = true ∧ (s.hw.posUnit u).valid = true ∧
       s.hw.on (POS_GEOM.ENC_INDEX_EN u) = true ∧ (s.hw.posUnit u).homed = false) ∧
    (∃ (s : State) (u : UnitId), s.hw.live = true ∧ u.val < 3 ∧ s.hw.on (POS_CFG.ENABLE u) = true ∧ (s.hw.posUnit u).valid = true ∧
       s.hw.on (POS_GEOM.ENC_INDEX_EN u) = true ∧ (s.hw.posUnit u).homed = true ∧
       ((s.hw.posUnit u).count - Num.roundDiv (s.hw.posUnit u).count (s.hw.encTurn u) * s.hw.encTurn u).natAbs ≤ s.hw.rd (POS_GEOM.ENC_TOL u)) ∧
    (∃ (s : State) (u : UnitId), s.hw.live = true ∧ u.val < 3 ∧ s.hw.on (POS_CFG.ENABLE u) = true ∧ (s.hw.posUnit u).valid = true ∧
       s.hw.on (POS_GEOM.ENC_INDEX_EN u) = true ∧ (s.hw.posUnit u).homed = true ∧
       s.hw.rd (POS_GEOM.ENC_TOL u) < ((s.hw.posUnit u).count - Num.roundDiv (s.hw.posUnit u).count (s.hw.encTurn u) * s.hw.encTurn u).natAbs) ∧
    (∃ (s : State) (u : UnitId), s.hw.live = true ∧ u.val < 3 ∧ s.hw.on (POS_CFG.ENABLE u) = true ∧ (s.hw.posUnit u).broken = false) ∧
    (∃ (s : State) (u : UnitId), s.hw.live = true ∧ s.hw.on (POS_CFG.ENABLE u) = true ∧ (s.hw.posUnit u).broken = true) :=
  ⟨⟨st (fun h => let h := h.wrB (POS_CFG.ENABLE (2 : UnitId)) true;
      let h := h.setPosUnit (2 : UnitId) { h.posUnit (2 : UnitId) with valid := true };
      h.setPosUnit 2 { h.posUnit 2 with level := 1 }), 2, 3, true, by decide +kernel⟩,
    ⟨st (fun h => let h := h.wrB (POS_CFG.ENABLE (2 : UnitId)) true;
      h.setPosUnit (2 : UnitId) { h.posUnit (2 : UnitId) with valid := true }), 2, 3, by decide +kernel⟩,
    ⟨st (fun h => let h := h.wrB (POS_CFG.ENABLE (2 : UnitId)) true;
      let h := h.setPosUnit (2 : UnitId) { h.posUnit (2 : UnitId) with valid := true };
      let h := h.wrB (POS_GEOM.ENC_INDEX_EN (2 : UnitId)) true;
      h.setPosUnit (2 : UnitId) { h.posUnit (2 : UnitId) with homed := false }), 2, by decide +kernel⟩,
    ⟨st (fun h => let h := h.wrB (POS_CFG.ENABLE (2 : UnitId)) true;
      let h := h.setPosUnit (2 : UnitId) { h.posUnit (2 : UnitId) with valid := true };
      let h := h.wrB (POS_GEOM.ENC_INDEX_EN (2 : UnitId)) true;
      h.setPosUnit (2 : UnitId) { h.posUnit (2 : UnitId) with homed := true }), 2, by decide +kernel⟩,
    ⟨st (fun h => let h := h.wrB (POS_CFG.ENABLE (2 : UnitId)) true;
      let h := h.setPosUnit (2 : UnitId) { h.posUnit (2 : UnitId) with valid := true };
      let h := h.wrB (POS_GEOM.ENC_INDEX_EN (2 : UnitId)) true;
      let h := h.setPosUnit (2 : UnitId) { h.posUnit (2 : UnitId) with homed := true }; let h := h.wr (POS_GEOM.ENC_LINES 2) 1000;
      h.setPosUnit 2 { h.posUnit 2 with count := 1500 }), 2, by decide +kernel⟩,
    ⟨st (fun h => let h := h.wrB (POS_CFG.ENABLE (2 : UnitId)) true;
      h.setPosUnit (2 : UnitId) { h.posUnit (2 : UnitId) with broken := false }), 2, by decide +kernel⟩,
    ⟨st (fun h => let h := h.wrB (POS_CFG.ENABLE (10 : UnitId)) true;
      h.setPosUnit (10 : UnitId) { h.posUnit (10 : UnitId) with broken := true }), 10, by decide +kernel⟩⟩

theorem meets_HallAndToothPosition :
    (∃ (s : State) (u : UnitId) (code : Fin 8), s.hw.live = true ∧ posKind u = 1 ∧ s.hw.on (POS_CFG.ENABLE u) = true ∧
       (code = 0 ∨ code = 7) ∧ (s.hw.posUnit u).hallBad = false) ∧
    (∃ (s : State) (u : UnitId) (code : Fin 8), s.hw.live = true ∧ posKind u = 1 ∧ s.hw.on (POS_CFG.ENABLE u) = true ∧ code ≠ 0 ∧
       code ≠ 7 ∧ (s.hw.posUnit u).valid = true ∧ s.hw.hallSector u code.val = (s.hw.posUnit u).sector) ∧
    (∃ (s : State) (u : UnitId) (code : Fin 8), s.hw.live = true ∧ posKind u = 1 ∧ s.hw.on (POS_CFG.ENABLE u) = true ∧ code ≠ 0 ∧
       code ≠ 7 ∧ (s.hw.posUnit u).valid = true ∧ (s.hw.hallSector u code.val + 6 - (s.hw.posUnit u).sector) % 6 = 1) ∧
    (∃ (s : State) (u : UnitId), s.hw.live = true ∧ posKind u = 1 ∧ s.hw.on (POS_CFG.ENABLE u) = true ∧
       (s.hw.posUnit u).hallBad = true ∧ (s.hw.posUnit u).hallOut = false ∧ (s.hw.posUnit u).valid = true ∧
       (s.hw.posUnit u).invSince + s.hw.rd (POS_GEOM2.HALL_INV u) ≤ s.hw.stepCount) ∧
    (∃ (s : State) (u : UnitId), s.hw.live = true ∧ posKind u = 1 ∧ s.hw.on (POS_CFG.ENABLE u) = true ∧
       (s.hw.posUnit u).hallBad = true ∧ (s.hw.posUnit u).hallOut = false ∧ (s.hw.posUnit u).valid = false ∧
       (s.hw.posUnit u).invSince + s.hw.rd (POS_GEOM2.HALL_INV u) ≤ s.hw.stepCount) ∧
    (∃ (s : State) (u : UnitId) (ph : Fin 500), s.hw.live = true ∧ posKind u = 2 ∧ s.hw.on (POS_CFG.ENABLE u) = true ∧
       (s.hw.posUnit u).valid = true ∧ (s.hw.posUnit u).missed = false ∧
       s.hw.toothGap u (s.hw.toothNext u (s.hw.posUnit u).tooth) = false ∧
       s.hw.toothP u (s.hw.toothNext u (s.hw.posUnit u).tooth) ≤ 2 * (24 * (s.hw.atPhase ph.val).fabTime - (s.hw.posUnit u).toothAt) ∧
       24 * (s.hw.atPhase ph.val).fabTime ≤ s.hw.toothUpper u) ∧
    (∃ (s : State) (u : UnitId) (ph : Fin 500), s.hw.live = true ∧ posKind u = 2 ∧ s.hw.on (POS_CFG.ENABLE u) = true ∧
       (s.hw.posUnit u).valid = true ∧ (s.hw.posUnit u).missed = false ∧
       s.hw.toothGap u (s.hw.toothNext u (s.hw.posUnit u).tooth) = false ∧
       2 * (24 * (s.hw.atPhase ph.val).fabTime - (s.hw.posUnit u).toothAt) < s.hw.toothP u (s.hw.toothNext u (s.hw.posUnit u).tooth)) ∧
    (∃ (s : State) (u : UnitId) (ph : Fin 500), s.hw.live = true ∧ posKind u = 2 ∧ (s.hw.posUnit u).valid = true ∧
       s.hw.toothUpper u ≤ 24 * (s.hw.atPhase ph.val).fabTime ∧ s.hw.rd (POS_STATUS.MISS_RUN u) = 0) ∧
    (∃ (s : State) (u : UnitId) (ph : Fin 500), s.hw.live = true ∧ posKind u = 2 ∧ (s.hw.posUnit u).valid = true ∧
       s.hw.toothUpper u ≤ 24 * (s.hw.atPhase ph.val).fabTime ∧ 1 ≤ s.hw.rd (POS_STATUS.MISS_RUN u)) :=
  ⟨⟨st (fun h => let h := h.wrB (POS_CFG.ENABLE (6 : UnitId)) true;
      h.setPosUnit (6 : UnitId) { h.posUnit (6 : UnitId) with hallBad := false }), 6, 7, by decide +kernel⟩,
    ⟨st (fun h => let h := h.wrB (POS_CFG.ENABLE (6 : UnitId)) true;
      let h := h.setPosUnit (6 : UnitId) { h.posUnit (6 : UnitId) with valid := true };
      h.setPosUnit 6 { h.posUnit 6 with sector := h.hallSector 6 6 }), 6, 6, by decide +kernel⟩,
    ⟨st (fun h => let h := h.wrB (POS_CFG.ENABLE (6 : UnitId)) true;
      let h := h.setPosUnit (6 : UnitId) { h.posUnit (6 : UnitId) with valid := true };
      h.setPosUnit 6 { h.posUnit 6 with sector := (h.hallSector 6 6 + 5) % 6 }), 6, 6, by decide +kernel⟩,
    ⟨st (fun h => let h := h.wrB (POS_CFG.ENABLE (6 : UnitId)) true;
      let h := h.setPosUnit (6 : UnitId) { h.posUnit (6 : UnitId) with hallBad := true };
      let h := h.setPosUnit (6 : UnitId) { h.posUnit (6 : UnitId) with hallOut := false };
      let h := h.setPosUnit (6 : UnitId) { h.posUnit (6 : UnitId) with valid := true }; { h with stepCount := 1000000000 }), 6, by decide +kernel⟩,
    ⟨st (fun h => let h := h.wrB (POS_CFG.ENABLE (6 : UnitId)) true;
      let h := h.setPosUnit (6 : UnitId) { h.posUnit (6 : UnitId) with hallBad := true };
      let h := h.setPosUnit (6 : UnitId) { h.posUnit (6 : UnitId) with hallOut := false };
      let h := h.setPosUnit (6 : UnitId) { h.posUnit (6 : UnitId) with valid := false }; { h with stepCount := 1000000000 }), 6, by decide +kernel⟩,
    ⟨st (fun h => let h := h.wrB (POS_CFG.ENABLE (8 : UnitId)) true;
      let h := h.setPosUnit (8 : UnitId) { h.posUnit (8 : UnitId) with valid := true };
      let h := h.setPosUnit (8 : UnitId) { h.posUnit (8 : UnitId) with missed := false }; let h := h.wr (POS_GEOM.TOOTH_TEETH 8) 60;
      h.setPosUnit 8 { h.posUnit 8 with t12 := 11976 }), 8, 499, by decide +kernel⟩,
    ⟨st (fun h => let h := h.wrB (POS_CFG.ENABLE (8 : UnitId)) true;
      let h := h.setPosUnit (8 : UnitId) { h.posUnit (8 : UnitId) with valid := true };
      let h := h.setPosUnit (8 : UnitId) { h.posUnit (8 : UnitId) with missed := false }; let h := h.wr (POS_GEOM.TOOTH_TEETH 8) 60;
      h.setPosUnit 8 { h.posUnit 8 with t12 := 11977 }), 8, 499, by decide +kernel⟩,
    ⟨st (fun h => let h := h.setPosUnit (8 : UnitId) { h.posUnit (8 : UnitId) with valid := true };
      h.wr (POS_STATUS.MISS_RUN (8 : UnitId)) 0), 8, 499, by decide +kernel⟩,
    ⟨st (fun h => let h := h.setPosUnit (8 : UnitId) { h.posUnit (8 : UnitId) with valid := true };
      h.wr (POS_STATUS.MISS_RUN (8 : UnitId)) 1), 8, 499, by decide +kernel⟩⟩

theorem meets_SerialPositionAndCompare :
    (∃ (s : State) (u : UnitId), s.hw.live = true ∧ posKind u = 3 ∧ s.hw.on (POS_CFG.ENABLE u) = true ∧
       (s.hw.posUnit u).pollAt ≤ s.hw.stepCount ∧ (s.hw.posUnit u).polling = false ∧ s.hw.spiSlave = false) ∧
    (∃ (s : State) (u : UnitId) (data : List Byte), s.hw.live = true ∧ (s.hw.posUnit u).polling = true ∧
       s.hw.serial.running = none ∧ s.hw.serial.polled = [u.val] ∧ s.hw.frameGood u data = true ∧ (s.hw.posUnit u).valid = true) ∧
    (∃ (s : State) (q : Requester) (k : BlockId) (m : Fin 2), s.admits q (BLK_CMP_CTRL k m) 2#32) ∧
    (∃ (s : State) (q : Requester) (k : BlockId) (m : Fin 2) (u : Nat), s.admits q (BLK_CMP_CTRL k m) 1#32 ∧
       s.hw.rd (BLK_POS_SLOT.UNIT k (s.hw.rd (BLK_CMP_CFG.SLOT k m))) = u + 1 ∧ s.hw.rd (BLK_CMP_CFG.MODE k m) = 2) ∧
    (∃ (s : State) (q : Requester) (k : BlockId) (m : Fin 2) (u : Nat), s.admits q (BLK_CMP_CTRL k m) 1#32 ∧
       s.hw.rd (BLK_POS_SLOT.UNIT k (s.hw.rd (BLK_CMP_CFG.SLOT k m))) = u + 1 ∧ s.hw.rd (BLK_CMP_CFG.MODE k m) = 1 ∧
       ((s.hw.bringUnit u).cmpAim k m u).unitRegular u = true) ∧
    (∃ (s : State) (k : BlockId) (m : Fin 2) (ph : Fin 500) (u : Nat), s.hw.live = true ∧
       s.hw.rd (BLK_POS_SLOT.UNIT k (s.hw.rd (BLK_CMP_CFG.SLOT k m))) = u + 1 ∧ s.hw.rd (BLK_CMP_STATUS.STATE k m) = 1 ∧
       s.hw.rd (BLK_CMP_CFG.MODE k m) = 1 ∧ s.hw.on (BLK_CMP_CFG.DIR k m) = false ∧
       ((s.hw.atPhase ph.val).bringUnit u).unitRegular u = true ∧
       (((s.hw.rd (BLK_CMP_NEXT.NEXT k m) : Int) - (((s.hw.atPhase ph.val).bringUnit u).cmp k m).seenTo - 1) % 65536 + 1 ≤ (((s.hw.atPhase ph.val).bringUnit u).posUnit u).counts - (((s.hw.atPhase ph.val).bringUnit u).cmp k m).seenTo)) ∧
    (∃ (h : Hw) (k : BlockId) (m : Fin 2), h.rd (BLK_CMP_CFG.MODE k m) = 1) :=
  ⟨⟨st (fun h => let h := h.wrB (POS_CFG.ENABLE (10 : UnitId)) true;
      let h := h.setPosUnit (10 : UnitId) { h.posUnit (10 : UnitId) with polling := false }; h.wrB SPI_STATUS.ROLE false), 10, by decide +kernel⟩,
    ⟨st (fun h => let h := h.setPosUnit (10 : UnitId) { h.posUnit (10 : UnitId) with polling := true };
      let h := { h with serial := { h.serial with running := none } };
      let h := { h with serial := { h.serial with polled := [(10 : UnitId).val] } };
      let h := h.setPosUnit (10 : UnitId) { h.posUnit (10 : UnitId) with valid := true }; let h := h.wr (POS_GEOM.SER_BYTES 10) 4;
      h.wr (POS_GEOM2.SER_POLY 10) 0), 10, [1, 2, 3, 4], by decide +kernel⟩,
    ⟨st id, .host 0, 7, 1, by unfold State.admits; decide +kernel⟩,
    ⟨st (fun h => let h := h.wr (BLK_POS_SLOT.UNIT (7 : BlockId) (h.rd (BLK_CMP_CFG.SLOT (7 : BlockId) (1 : Fin 2)))) (0 + 1);
      h.wr (BLK_CMP_CFG.MODE (7 : BlockId) (1 : Fin 2)) 2), .host 0, 7, 1, 0, by unfold State.admits; decide +kernel, by decide +kernel, by decide +kernel⟩,
    ⟨st (fun h => let h := h.wr (BLK_POS_SLOT.UNIT (7 : BlockId) (h.rd (BLK_CMP_CFG.SLOT (7 : BlockId) (1 : Fin 2)))) (0 + 1);
      let h := h.wr (BLK_CMP_CFG.MODE (7 : BlockId) (1 : Fin 2)) 1;
      h.setPosUnit 0 { h.posUnit 0 with homed := true }), .host 0, 7, 1, 0, by unfold State.admits; decide +kernel, by decide +kernel, by decide +kernel, by decide +kernel⟩,
    ⟨st (fun h => let h := h.wr (BLK_POS_SLOT.UNIT (7 : BlockId) (h.rd (BLK_CMP_CFG.SLOT (7 : BlockId) (1 : Fin 2)))) (0 + 1);
      let h := h.wr (BLK_CMP_STATUS.STATE (7 : BlockId) (1 : Fin 2)) 1; let h := h.wr (BLK_CMP_CFG.MODE (7 : BlockId) (1 : Fin 2)) 1;
      let h := h.wrB (BLK_CMP_CFG.DIR (7 : BlockId) (1 : Fin 2)) false;
      let h := h.setPosUnit 0 { h.posUnit 0 with homed := true, pos := 4294967296 }; h.wr (BLK_CMP_NEXT.NEXT 7 1) 1), 7, 1, 499, 0, by decide +kernel⟩,
    ⟨((fun h => h.wr (BLK_CMP_CFG.MODE (7 : BlockId) (1 : Fin 2)) 1) base), 7, 1, by decide +kernel⟩⟩

theorem meets_Channels :
    (∃ (s : State) (c : CellId), s.hw.live = true ∧ s.hw.isChannel c = true ∧
       (chanRuns (s.hw.rd (LEG_CHAN_STATUS.STATE c)) = true ∨ s.hw.rd (LEG_CHAN_STATUS.STATE c) = 4) ∧
       s.hw.rd (LEG_CHAN_END.PROT_STEPS c) < (s.hw.cell c).protHigh) ∧
    (∃ (s : State) (c : CellId), s.hw.live = true ∧ s.hw.isChannel c = true ∧
       (chanRuns (s.hw.rd (LEG_CHAN_STATUS.STATE c)) = true ∨ s.hw.rd (LEG_CHAN_STATUS.STATE c) = 4) ∧
       (s.hw.cell c).protHigh ≤ s.hw.rd (LEG_CHAN_END.PROT_STEPS c) ∧ s.hw.rd (LEG_CHAN_END.PROT_STEPS c) < (s.hw.cell c).protLow) ∧
    (∃ (s : State) (c : CellId), s.hw.live = true ∧ s.hw.isChannel c = true ∧
       (chanRuns (s.hw.rd (LEG_CHAN_STATUS.STATE c)) = true ∨ s.hw.rd (LEG_CHAN_STATUS.STATE c) = 4) ∧
       (s.hw.cell c).protHigh ≤ s.hw.rd (LEG_CHAN_END.PROT_STEPS c) ∧ (s.hw.cell c).protLow ≤ s.hw.rd (LEG_CHAN_END.PROT_STEPS c) ∧
       s.hw.rd (LEG_CHAN_END.PROT_STEPS c) < (s.hw.cell c).protLost) ∧
    (∃ (s : State) (c : CellId), s.hw.live = true ∧ s.hw.isChannel c = true ∧ chanRuns (s.hw.rd (LEG_CHAN_STATUS.STATE c)) = true ∧
       s.hw.rd (LEG_CHAN_TLIM.T_LIMIT c) ≠ 0 ∧ s.hw.rd (LEG_CHAN_TLIM.T_LIMIT c) ≤ s.hw.rd (LEG_CHAN_PHASE_TIME.MS c)) ∧
    (∃ (s : State) (q : Requester) (c : CellId), s.admits q (LEG_CHAN_CTRL c) 8#32 ∧ s.hw.rd (LEG_CHAN_STATUS.STATE c) = 5) ∧
    (∃ (s : State) (q : Requester) (c : CellId), s.admits q (LEG_CHAN_CTRL c) 1#32) ∧
    (∃ (s : State) (q : Requester) (c : CellId), s.admits q (LEG_CHAN_CTRL c) 2#32) ∧
    (∃ (s : State) (q : Requester) (c : CellId), s.admits q (LEG_CHAN_CTRL c) 4#32) ∧
    (∃ (st reason : Nat), st < 8 ∧ reason < 16) :=
  ⟨⟨st (fun h => let h := h.channels ((47 : CellId).val / 6); let h := h.wr (LEG_CHAN_STATUS.STATE 47) 3;
      h.setCell 47 { h.cell 47 with protHigh := 100000 }), 47, by decide +kernel⟩,
    ⟨st (fun h => let h := h.channels ((47 : CellId).val / 6); let h := h.wr (LEG_CHAN_STATUS.STATE 47) 3;
      h.setCell 47 { h.cell 47 with protLow := 100000 }), 47, by decide +kernel⟩,
    ⟨st (fun h => let h := h.channels ((47 : CellId).val / 6); let h := h.wr (LEG_CHAN_STATUS.STATE 47) 3;
      h.setCell 47 { h.cell 47 with protLost := 100000 }), 47, by decide +kernel⟩,
    ⟨st (fun h => let h := h.channels ((47 : CellId).val / 6); let h := h.wr (LEG_CHAN_TLIM.T_LIMIT (47 : CellId)) 1;
      let h := h.wr (LEG_CHAN_STATUS.STATE 47) 3; h.wr (LEG_CHAN_PHASE_TIME.MS 47) 5), 47, by decide +kernel⟩,
    ⟨st (fun h => h.wr (LEG_CHAN_STATUS.STATE (47 : CellId)) 5), .host 0, 47, by unfold State.admits; decide +kernel, by decide +kernel⟩,
    ⟨st id, .host 0, 47, by unfold State.admits; decide +kernel⟩,
    ⟨st id, .host 0, 47, by unfold State.admits; decide +kernel⟩,
    ⟨st id, .host 0, 47, by unfold State.admits; decide +kernel⟩,
    ⟨0, 0, by decide +kernel⟩⟩

theorem meets_ThermalReadings :
    (∃ (s : State) (d : DieId), s.hw.live = true ∧ d.val ≠ 7) ∧
    (∃ (s : State), s.hw.live = true) ∧
    (∃ (h : Hw) (n : Fin 78) (t : Int), h.on (THERM_SENSOR.BROKEN n) = false ∧ -550 ≤ t ∧ t ≤ 2000) ∧
    (∃ (j : Nat), j < 3) ∧
    (∃ (s : State) (n : Fin 64), s.hw.live = true ∧ s.hw.rd (TEMP_CFG.TYPE n) = 0) ∧
    (∃ (s : State) (n : Fin 64) (v : Nat), s.hw.live = true ∧ s.hw.rd (TEMP_CFG.TYPE n) ≠ 0 ∧ (v < 100 ∨ 32000 < v)) :=
  ⟨⟨st id, 6, by decide +kernel⟩,
    ⟨st id, by decide +kernel⟩,
    ⟨((fun h => h.wrB (THERM_SENSOR.BROKEN (77 : Fin 78)) false) base), 77, 0, by decide +kernel⟩,
    ⟨0, by decide +kernel⟩,
    ⟨st (fun h => h.wr (TEMP_CFG.TYPE (63 : Fin 64)) 0), 63, by decide +kernel⟩,
    ⟨st (fun h => h.wr (TEMP_CFG.TYPE (63 : Fin 64)) 1), 63, 0, by decide +kernel⟩⟩

theorem meets_SafetyFunctions :
    (∃ (s : State) (o p : PartId) (code : Fin 4), s.admits (.host o) (SAFE_CMD p) (BitVec.ofNat 32 code.val) ∧ o = p) ∧
    (∃ (s : State) (k : BlockId) (t : ThreadId) (p : PartId) (code : Fin 4),
       s.admits (.thread k t) (SAFE_CMD p) (BitVec.ofNat 32 code.val) ∧ s.hw.owner k = some p.val) ∧
    (∃ (s : State), s.hw.live = true ∧ s.hw.on SAFE_PIN_CFG.DISC_EN = true ∧
       s.hw.rd SAFE_PIN_CFG.A_REGIONS = s.hw.rd SAFE_PIN_CFG.B_REGIONS ∧ s.hw.pinsDiffer = true ∧
       s.hw.on SAFE_PIN_STATUS.DISCREPANCY = false) ∧
    (∃ (s : State), s.hw.live = true ∧ s.hw.pinsDiffer = false) ∧
    (∃ (s : State) (ks : List Nat), s.hw.live = true ∧ s.hw.shutting = false ∧ s.hw.chipFault = false ∧
       ks = (List.range 8).filter (fun k => (match s.hw.owner k with | some p => s.hw.bit SAFE_RESET_CFG.PARTS p && s.hw.stopped k && s.hw.releasable k | none => false))) ∧
    (∃ (s : State) (p : PartId) (ks : List Nat), s.hw.live = true ∧ ks ≠ [] ∧
       ks = (s.hw.blocksOf p).filter (fun k => (s.hw.block k).ss1On && !(s.hw.block k).stopEnd && decide ((s.hw.block k).ss1Start + 800 * s.hw.rd (SAFE_SS1_LIM.MAX_MS p) ≤ s.hw.stepCount))) ∧
    (∃ (s : State) (t : TrioId) (p : Nat) (fail : Bool), s.hw.live = true ∧ s.hw.owner (t.val / 2) = some p ∧
       (s.hw.trio t).tmDue = true ∧ s.hw.rd (SAFE_CFG.WINDOW p) ≤ 2 * (s.hw.trio t).tmN ∧ (s.hw.trio t).tmN ≠ 0 ∧
       fail = windowFails (s.hw.trio t).tmT (s.hw.trio t).tmE (s.hw.trio t).tmN (s.hw.rd (SAFE_TM_TOL.ABS p)) (s.hw.rd (SAFE_TM_TOL.REL p)) ∧
       (fail = false ∨ s.hw.rd (SAFE_TRIO_TM_STATUS.FAILS t) + 1 < s.hw.rd (SAFE_CFG.COUNT p))) :=
  ⟨⟨st id, 0, 0, 3, by unfold State.admits; decide +kernel, by decide +kernel⟩,
    ⟨st id, 7, 7, 0, 3, by unfold State.admits; decide +kernel, by decide +kernel⟩,
    ⟨st (fun h => let h := h.wrB SAFE_PIN_CFG.DISC_EN true; let h := h.wr SAFE_PIN_CFG.A_REGIONS (h.rd SAFE_PIN_CFG.B_REGIONS);
      let h := h.wrB SAFE_PIN_STATUS.STO_A true; h.wrB SAFE_PIN_STATUS.DISCREPANCY false), by decide +kernel⟩,
    ⟨st id, by decide +kernel⟩,
    ⟨st id, [], by decide +kernel⟩,
    ⟨st (fun h => let h := { h with stepCount := 1000000000 }; h.setBlock 7 { h.block 7 with ss1On := true }), 0, [7], by decide +kernel⟩,
    ⟨st (fun h => let h := h.setTrio (15 : TrioId) { h.trio (15 : TrioId) with tmDue := true };
      h.setTrio 15 { h.trio 15 with tmN := 100000 }), 15, 0, false, by decide +kernel⟩⟩

theorem meets_LockstepCompare :
    (∃ (s : State), s.hw.live = true) ∧
    (∃ (s : State) (g : Fin 30), s.hw.live = true ∧ 24 ≤ g.val) :=
  ⟨⟨st id, by decide +kernel⟩,
    ⟨st id, 29, by decide +kernel⟩⟩

theorem meets_DebugSession :
    (∃ (s : State) (scope : Byte), s.hw.live = true ∧ s.hw.dbgState ≠ 3 ∧ ((∀ n,
       s.hw.dbgSt.failedAt = some n → n + 800000 ≤ s.hw.stepCount)) ∧ scope.toNat < 16 ∧ s.hw.on KS_STATE.SEALED = false ∧
       s.hw.active scope.toNat = true) ∧
    (∃ (s : State), s.hw.live = true ∧ s.hw.dbgState = 1 ∧ s.hw.dbgSt.nonce = []) ∧
    (∃ (s : State), s.hw.live = true ∧ s.hw.dbgState = 1) ∧
    (∃ (s : State), s.hw.live = true ∧ s.hw.dbgState = 2) ∧
    (∃ (s : State), s.hw.live = true ∧ s.hw.dbgState = 1 ∧ s.hw.dbgSt.nonce ≠ []) ∧
    (∃ (s : State), s.hw.live = true ∧ s.hw.dbgState = 3) ∧
    (∃ (s : State), s.hw.live = true ∧ s.hw.dbgState ≠ 3) ∧
    (∃ (s : State), s.hw.live = true) ∧
    (∃ (h : Hw), h.dbgState = 3) :=
  ⟨⟨st (fun h => h.wrB KS_STATE.SEALED false), 0#8, by decide +kernel⟩,
    ⟨st (fun h => let h := h.wr DBG_SESSION.STATE 1; { h with dbgSt := { h.dbgSt with nonce := [] } }), by decide +kernel⟩,
    ⟨st (fun h => h.wr DBG_SESSION.STATE 1), by decide +kernel⟩,
    ⟨st (fun h => h.wr DBG_SESSION.STATE 2), by decide +kernel⟩,
    ⟨st (fun h => let h := h.wr DBG_SESSION.STATE 1; { h with dbgSt := { h.dbgSt with nonce := [1] } }), by decide +kernel⟩,
    ⟨st (fun h => h.wr DBG_SESSION.STATE 3), by decide +kernel⟩,
    ⟨st id, by decide +kernel⟩,
    ⟨st id, by decide +kernel⟩,
    ⟨((fun h => h.wr DBG_SESSION.STATE 3) base), by decide +kernel⟩⟩

theorem meets_DebugAccess :
    (∃ (s : State) (op : Fin 4), s.hw.live = true ∧ (op = 1 ∨ op = 2) ∧ s.hw.dbgState = 3 ∧ s.hw.dbgSt.pending = false) ∧
    (∃ (s : State), s.hw.live = true ∧ s.hw.dbgState = 3 ∧ s.hw.dbgSt.pending = true ∧ s.hw.dbgSt.op = 2) ∧
    (∃ (s : State), s.hw.live = true ∧ s.hw.dbgState = 3 ∧ s.hw.dbgSt.pending = true ∧ s.hw.dbgSt.op = 1) ∧
    (∃ (s : State) (halt resume step : Byte) (freeze : Bool), s.hw.live = true ∧
       s.hw.controlRefusal halt.toNat resume.toNat step.toNat freeze = none) ∧
    (∃ (s : State) (k : BlockId), s.hw.live = true ∧ s.hw.controlRefusal (2 ^ k.val) 0 0 true = none) ∧
    (∃ (s : State) (mask : Byte), s.hw.live = true ∧ s.hw.controlRefusal 0 mask.toNat 0 false = none) ∧
    (∃ (s : State) (mask : Byte), s.hw.live = true ∧ s.hw.controlRefusal 0 0 mask.toNat false = none) ∧
    (∃ (s : State) (k : BlockId) (t : ThreadId) (g : Fin 16) (v : Word), s.hw.dbgState = 3 ∧
       s.admits s.hw.debugger (BLK_SEQ_DBG_G k t g) v ∧ s.hw.halted k = true) ∧
    (∃ (s : State), s.hw.live = true ∧ s.hw.dbgSt.lastAt + 800000 ≤ s.hw.stepCount) :=
  ⟨⟨st (fun h => let h := h.wr DBG_SESSION.STATE 3; { h with dbgSt := { h.dbgSt with pending := false } }), 2, by decide +kernel⟩,
    ⟨st (fun h => let h := h.wr DBG_SESSION.STATE 3; let h := { h with dbgSt := { h.dbgSt with pending := true } };
      { h with dbgSt := { h.dbgSt with op := 2 } }), by decide +kernel⟩,
    ⟨st (fun h => let h := h.wr DBG_SESSION.STATE 3; let h := { h with dbgSt := { h.dbgSt with pending := true } };
      let h := { h with dbgSt := { h.dbgSt with op := 1 } }; { h with dbgSt := { h.dbgSt with addr := FENCE_UNIT.addr } }), by decide +kernel⟩,
    ⟨st (fun h => h.wr DBG_SESSION.STATE 3), 0x80, 0x40, 0x01, false, by decide +kernel⟩,
    ⟨st (fun h => let h := h.wr DBG_SESSION.STATE 3;
      h.setPart 0 { h.part 0 with cfg := some { part := { claims with flags := 1 } } }), 7, by decide +kernel⟩,
    ⟨st (fun h => h.wr DBG_SESSION.STATE 3), 0xFF, by decide +kernel⟩,
    ⟨st (fun h => h.wr DBG_SESSION.STATE 3), 0xFF, by decide +kernel⟩,
    ⟨st (fun h => let h := h.wr DBG_SESSION.STATE 3; h.wrBit DBG_HALT.HALTED (7 : BlockId) true), 7, 7, 15, 0#32, by decide +kernel, by unfold State.admits; decide +kernel, by decide +kernel⟩,
    ⟨st (fun h => { h with stepCount := 800000 }), by decide +kernel⟩⟩

theorem meets_CanObjects :
    (∃ (s : State) (q : Requester) (o : ObjId) (r : ObjRec), s.admits q (OBJ_CTRL o) 1#32 ∧ (s.hw.obj o).cfg = some r ∧
       r.transmits = true) ∧
    (∃ (s : State) (q : Requester) (o : ObjId) (r : ObjRec), s.admits q (OBJ_CTRL o) 2#32 ∧ (s.hw.obj o).cfg = some r ∧
       r.transmits = true) ∧
    (∃ (s : State) (q : Requester) (o : ObjId) (r : ObjRec), s.admits q (OBJ_CTRL o) 4#32 ∧ (s.hw.obj o).cfg = some r ∧
       r.transmits = true) ∧
    (∃ (s : State) (n : ChanId) (f : CanFrame) (o : Nat) (r : ObjRec), s.hw.live = true ∧ s.hw.canHears n = true ∧
       s.hw.objMatching n f = some o ∧ (s.hw.obj o).cfg = some r ∧ f.data.length = r.bytes ∧ s.hw.objLive o = true ∧ r.paired = false) ∧
    (∃ (s : State) (n : ChanId) (f : CanFrame) (o : Nat) (r : ObjRec), s.hw.live = true ∧ s.hw.canHears n = true ∧
       s.hw.objMatching n f = some o ∧ (s.hw.obj o).cfg = some r ∧ f.data.length ≠ r.bytes) ∧
    (∃ (s : State) (n : ChanId) (o p : Nat) (r : ObjRec), s.hw.live = true ∧ (s.hw.chan n).on = true ∧
       (s.hw.chan n).latched = false ∧ s.hw.objsWhere (fun r => r.chan == n.val && !r.transmits) = [o] ∧
       s.hw.objsWhere (fun r => r.chan == n.val && r.transmits) = [] ∧ (s.hw.obj o).cfg = some r ∧ s.hw.objOwner o = some p ∧
       s.hw.active p = true) ∧
    (∃ (s : State) (n : ChanId) (o : Nat) (r : ObjRec), s.hw.live = true ∧ (s.hw.chan n).on = true ∧ (s.hw.chan n).latched = false ∧
       s.hw.objsWhere (fun r => r.chan == n.val && !r.transmits) = [] ∧
       s.hw.objsWhere (fun r => r.chan == n.val && r.transmits) = [o] ∧ (s.hw.obj o).cfg = some r ∧ s.hw.objLive o = true) ∧
    (∃ (h : Hw) (o : ObjId) (r : ObjRec), r.paired = false ∧ (h.obj o).fresh = true) ∧
    (∃ (h : Hw) (o : ObjId) (r : ObjRec), (h.obj o).fresh = false ∧ min (h.rd (OBJ_STATUS.AGE o) + 1) 255 < r.stale) ∧
    (∃ (h : Hw) (o : ObjId), h.on (OBJ_STATUS.PENDING o) = false) :=
  ⟨⟨st (fun h => h.setObj (2047 : ObjId) { h.obj (2047 : ObjId) with cfg := some ({ obj := 2047, chan := 3, flags := 1 } : ObjRec) }), .host 0, 2047, { obj := 2047, chan := 3, flags := 1 }, by unfold State.admits; decide +kernel, by decide +kernel, by decide +kernel⟩,
    ⟨st (fun h => h.setObj (2047 : ObjId) { h.obj (2047 : ObjId) with cfg := some ({ obj := 2047, chan := 3, flags := 1 } : ObjRec) }), .host 0, 2047, { obj := 2047, chan := 3, flags := 1 }, by unfold State.admits; decide +kernel, by decide +kernel, by decide +kernel⟩,
    ⟨st (fun h => h.setObj (2047 : ObjId) { h.obj (2047 : ObjId) with cfg := some ({ obj := 2047, chan := 3, flags := 1 } : ObjRec) }), .host 0, 2047, { obj := 2047, chan := 3, flags := 1 }, by unfold State.admits; decide +kernel, by decide +kernel, by decide +kernel⟩,
    ⟨st (fun h => let h := h.wr (CAN_STATUS.STATE (3 : ChanId)) 3;
      h.setObj 2047 { h.obj 2047 with cfg := some ({ obj := 2047, chan := 3, flags := 2, bytes := 8 } : ObjRec) }), 3, { frame with data := List.replicate 8 5 }, 2047, { obj := 2047, chan := 3, flags := 2, bytes := 8 }, by decide +kernel⟩,
    ⟨st (fun h => let h := h.wr (CAN_STATUS.STATE (3 : ChanId)) 3;
      h.setObj 2047 { h.obj 2047 with cfg := some ({ obj := 2047, chan := 3, flags := 2, bytes := 8 } : ObjRec) }), 3, { frame with data := List.replicate 7 5 }, 2047, { obj := 2047, chan := 3, flags := 2, bytes := 8 }, by decide +kernel⟩,
    ⟨st (fun h => let h := h.setChan (3 : ChanId) { h.chan (3 : ChanId) with on := true };
      let h := h.setChan (3 : ChanId) { h.chan (3 : ChanId) with latched := false };
      h.setObj 2047 { h.obj 2047 with cfg := some ({ obj := 2047, chan := 3, flags := 2 } : ObjRec) }), 3, 2047, 0, { obj := 2047, chan := 3, flags := 2 }, by decide +kernel⟩,
    ⟨st (fun h => let h := h.setChan (3 : ChanId) { h.chan (3 : ChanId) with on := true };
      let h := h.setChan (3 : ChanId) { h.chan (3 : ChanId) with latched := false };
      h.setObj 2047 { h.obj 2047 with cfg := some ({ obj := 2047, chan := 3, flags := 3 } : ObjRec) }), 3, 2047, { obj := 2047, chan := 3, flags := 3 }, by decide +kernel⟩,
    ⟨((fun h => h.setObj (2047 : ObjId) { h.obj (2047 : ObjId) with fresh := true }) base), 2047, { }, by decide +kernel⟩,
    ⟨((fun h => h.setObj (2047 : ObjId) { h.obj (2047 : ObjId) with fresh := false }) base), 2047, { stale := 2 }, by decide +kernel⟩,
    ⟨((fun h => h.wrB (OBJ_STATUS.PENDING (2047 : ObjId)) false) base), 2047, by decide +kernel⟩⟩

theorem meets_SafePairs :
    (∃ (s : State) (o : ObjId) (data : List Byte) (p : Nat) (r : ObjRec), s.hw.live = true ∧ s.hw.objOwner o = some p ∧
       (s.hw.obj o).cfg = some r ∧ r.paired = true ∧ r.isPrimary = true ∧ r.transmits = false ∧ s.hw.canPart p = true ∧
       (data.length ≠ r.bytes ∨ pairCrcOk r.ident data = false)) ∧
    (∃ (s : State) (o : ObjId) (data : List Byte) (p : Nat) (r : ObjRec), s.hw.live = true ∧ s.hw.objOwner o = some p ∧
       (s.hw.obj o).cfg = some r ∧ r.paired = true ∧ r.isPrimary = true ∧ r.transmits = false ∧ s.hw.canPart p = true ∧
       data.length = r.bytes ∧ pairCrcOk r.ident data = true ∧ (s.hw.obj o).lastSeq = none ∧ (s.hw.obj o).copies = []) ∧
    (∃ (s : State) (o : ObjId) (data : List Byte) (p : Nat) (r : ObjRec) (age : Nat), s.hw.live = true ∧ s.hw.objOwner o = some p ∧
       (s.hw.obj o).cfg = some r ∧ r.paired = true ∧ r.isPrimary = true ∧ r.transmits = false ∧ s.hw.canPart p = true ∧
       data.length = r.bytes ∧ pairCrcOk r.ident data = true ∧ (s.hw.obj o).lastSeq = none ∧ age ≤ r.window ∧
       (s.hw.obj o).copies = [⟨true, (data.getD 0 0).toNat + 256 * (data.getD 1 0).toNat, age, data⟩]) ∧
    (∃ (s : State) (o : ObjId) (data other : List Byte) (p : Nat) (r : ObjRec) (age : Nat), s.hw.live = true ∧
       s.hw.objOwner o = some p ∧ (s.hw.obj o).cfg = some r ∧ r.paired = true ∧ r.isPrimary = true ∧ r.transmits = false ∧
       s.hw.canPart p = true ∧ data.length = r.bytes ∧ pairCrcOk r.ident data = true ∧ (s.hw.obj o).lastSeq = none ∧ age ≤ r.window ∧
       other ≠ data ∧ (s.hw.obj o).copies = [⟨true, (data.getD 0 0).toNat + 256 * (data.getD 1 0).toNat, age, other⟩]) ∧
    (∃ (s : State) (o : ObjId) (p : Nat) (r : ObjRec) (c : PairCopy), s.hw.live = true ∧ s.hw.objOwner o = some p ∧
       (s.hw.obj o).cfg = some r ∧ (s.hw.obj o).copies = [c] ∧ r.window < c.age) :=
  ⟨⟨st (fun h => h.setObj (2047 : ObjId) { h.obj (2047 : ObjId) with cfg := some ({ obj := 2047, flags := 18, bytes := 8, window := 3 } : ObjRec) }), 2047, List.replicate 8 0, 0, { obj := 2047, flags := 18, bytes := 8, window := 3 }, by decide +kernel⟩,
    ⟨st (fun h => let h := h.setObj (2047 : ObjId) { h.obj (2047 : ObjId) with cfg := some ({ obj := 2047, flags := 18, bytes := 8, window := 3 } : ObjRec) };
      let h := h.setObj (2047 : ObjId) { h.obj (2047 : ObjId) with lastSeq := none };
      h.setObj (2047 : ObjId) { h.obj (2047 : ObjId) with copies := [] }), 2047, pairData, 0, { obj := 2047, flags := 18, bytes := 8, window := 3 }, by decide +kernel⟩,
    ⟨st (fun h => let h := h.setObj (2047 : ObjId) { h.obj (2047 : ObjId) with cfg := some ({ obj := 2047, flags := 18, bytes := 8, window := 3 } : ObjRec) };
      let h := h.setObj (2047 : ObjId) { h.obj (2047 : ObjId) with lastSeq := none };
      h.setObj (2047 : ObjId) { h.obj (2047 : ObjId) with copies := [⟨true, ((pairData : List Byte).getD 0 0).toNat + 256 * ((pairData : List Byte).getD 1 0).toNat, 3, (pairData : List Byte)⟩] }), 2047, pairData, 0, { obj := 2047, flags := 18, bytes := 8, window := 3 }, 3, by decide +kernel⟩,
    ⟨st (fun h => let h := h.setObj (2047 : ObjId) { h.obj (2047 : ObjId) with cfg := some ({ obj := 2047, flags := 18, bytes := 8, window := 3 } : ObjRec) };
      let h := h.setObj (2047 : ObjId) { h.obj (2047 : ObjId) with lastSeq := none };
      h.setObj (2047 : ObjId) { h.obj (2047 : ObjId) with copies := [⟨true, ((pairData : List Byte).getD 0 0).toNat + 256 * ((pairData : List Byte).getD 1 0).toNat, 3, ([] : List Byte)⟩] }), 2047, pairData, [], 0, { obj := 2047, flags := 18, bytes := 8, window := 3 }, 3, by decide +kernel⟩,
    ⟨st (fun h => let h := h.setObj (2047 : ObjId) { h.obj (2047 : ObjId) with cfg := some ({ obj := 2047, flags := 18, bytes := 8, window := 3 } : ObjRec) };
      h.setObj (2047 : ObjId) { h.obj (2047 : ObjId) with copies := [(⟨true, 0, 4, []⟩ : PairCopy)] }), 2047, 0, { obj := 2047, flags := 18, bytes := 8, window := 3 }, ⟨true, 0, 4, []⟩, by decide +kernel⟩⟩

theorem meets_CanSending :
    (∃ (s : State) (n : ChanId) (col : Fin 64) (r : SlotRec) (f : CanFrame), s.hw.live = true ∧ (s.hw.chan n).on = true ∧
       (s.hw.slotsAt n (s.hw.rd (CAN_STATUS.CYCLE n)) col).find? (fun x => x.kind == 1) = some r ∧ s.hw.canRestricted n = false ∧
       s.hw.canSends n = true ∧ s.hw.objFrame r.obj = some f) ∧
    (∃ (s : State) (n : ChanId) (col : Fin 64) (r : SlotRec) (f : CanFrame), s.hw.live = true ∧ (s.hw.chan n).on = true ∧
       s.hw.slotsAt n (s.hw.rd (CAN_STATUS.CYCLE n)) col = [r] ∧ r.kind = 2 ∧ s.hw.canRestricted n = false ∧ s.hw.canSends n = true ∧
       s.hw.on (OBJ_STATUS.PENDING r.obj) = true ∧ (s.hw.obj r.obj).pend = true ∧ s.hw.objFrame r.obj = some f ∧
       (s.hw.chan n).onBus = none ∧ (s.hw.chan n).service = []) ∧
    (∃ (s : State) (n : ChanId) (col : Fin 64) (f : CanFrame) (rest : List CanFrame), s.hw.live = true ∧ (s.hw.chan n).on = true ∧
       s.hw.slotsAt n (s.hw.rd (CAN_STATUS.CYCLE n)) col = [] ∧ s.hw.canRestricted n = false ∧ s.hw.canSends n = true ∧
       (s.hw.chan n).onBus = none ∧ (s.hw.chan n).service = f :: rest) ∧
    (∃ (s : State) (n : ChanId) (o : ObjId) (f : CanFrame), s.hw.live = true ∧ (s.hw.chan n).onBus = some ⟨o.val, f, false⟩ ∧
       (s.hw.chan n).wantStop = false ∧ (s.hw.chan n).refPend = false) ∧
    (∃ (s : State) (n : ChanId), s.hw.live = true ∧ (s.hw.chan n).on = true ∧
       (s.hw.canCfg n).columns * s.hw.columnCycles n < (s.hw.stepCount + 1 - (s.hw.chan n).startStep) * 100) ∧
    (∃ (cyc : Nat), cyc < 64) ∧
    (∃ (s : State) (n : ChanId) (f : CanFrame), s.hw.live = true ∧ (s.hw.chan n).on = true ∧ n.val % 2 = 0 ∧
       s.hw.canHears n = true ∧ Bits.get (s.hw.chan n).time 14 13 = 2 ∧ f.extended = false ∧ f.fd = false ∧
       f.ident = Bits.get (s.hw.chan n).time 10 0 ∧ f.data.length = 1 ∧ 128 ≤ (f.data.getD 0 0).toNat) ∧
    (∃ (s : State) (n : ChanId) (f : CanFrame), s.hw.live = true ∧ (s.hw.chan n).on = true ∧ n.val % 2 = 0 ∧
       s.hw.canHears n = true ∧ Bits.get (s.hw.chan n).time 14 13 = 2 ∧ f.extended = false ∧ f.fd = false ∧
       f.ident = Bits.get (s.hw.chan n).time 10 0 ∧ f.data.length = 1 ∧ (f.data.getD 0 0).toNat < 128) ∧
    (∃ (s : State) (n : ChanId), s.hw.live = true ∧ (s.hw.chan n).on = true ∧ Bits.get (s.hw.chan n).time 14 13 = 2 ∧
       2 ≤ (s.hw.chan n).refMissed ∧ (s.hw.chan n).lostRec = false) :=
  ⟨⟨st (fun h => let h := h.setChan (3 : ChanId) { h.chan (3 : ChanId) with on := true };
      let h := h.wr (CAN_STATUS.STATE (3 : ChanId)) 3;
      let h := slotOf { chan := 3, cycle := 0, column := 63, kind := 1, obj := 2047 } h;
      h.setObj 2047 { h.obj 2047 with cfg := some { obj := 2047, chan := 3, flags := 3 }, snap := some [] }), 3, 63, { chan := 3, cycle := 0, column := 63, kind := 1, obj := 2047 }, frame, by decide +kernel⟩,
    ⟨st (fun h => let h := h.setChan (3 : ChanId) { h.chan (3 : ChanId) with on := true };
      let h := h.wr (CAN_STATUS.STATE (3 : ChanId)) 3;
      let h := h.wrB (OBJ_STATUS.PENDING ({ chan := 3, cycle := 0, column := 63, kind := 2, obj := 2047 } : SlotRec).obj) true;
      let h := h.setObj ({ chan := 3, cycle := 0, column := 63, kind := 2, obj := 2047 } : SlotRec).obj { h.obj ({ chan := 3, cycle := 0, column := 63, kind := 2, obj := 2047 } : SlotRec).obj with pend := true };
      let h := h.setChan (3 : ChanId) { h.chan (3 : ChanId) with onBus := none };
      let h := h.setChan (3 : ChanId) { h.chan (3 : ChanId) with service := [] };
      let h := slotOf { chan := 3, cycle := 0, column := 63, kind := 2, obj := 2047 } h;
      h.setObj 2047 { h.obj 2047 with cfg := some { obj := 2047, chan := 3, flags := 3 }, snap := some [] }), 3, 63, { chan := 3, cycle := 0, column := 63, kind := 2, obj := 2047 }, frame, by decide +kernel⟩,
    ⟨st (fun h => let h := h.setChan (3 : ChanId) { h.chan (3 : ChanId) with on := true };
      let h := h.wr (CAN_STATUS.STATE (3 : ChanId)) 3; let h := h.setChan (3 : ChanId) { h.chan (3 : ChanId) with onBus := none };
      h.setChan (3 : ChanId) { h.chan (3 : ChanId) with service := ({ frame with } : CanFrame) :: ([] : List CanFrame) }), 3, 63, { frame with }, [], by decide +kernel⟩,
    ⟨st (fun h => let h := h.setChan (3 : ChanId) { h.chan (3 : ChanId) with onBus := some ⟨(2047 : ObjId).val, ({ frame with } : CanFrame), false⟩ };
      let h := h.setChan (3 : ChanId) { h.chan (3 : ChanId) with wantStop := false };
      h.setChan (3 : ChanId) { h.chan (3 : ChanId) with refPend := false }), 3, 2047, { frame with }, by decide +kernel⟩,
    ⟨st (fun h => let h := h.setChan (3 : ChanId) { h.chan (3 : ChanId) with on := true }; { h with stepCount := 1000000000 }), 3, by decide +kernel⟩,
    ⟨0, by decide +kernel⟩,
    ⟨st (fun h => let h := h.setChan (2 : ChanId) { h.chan (2 : ChanId) with on := true };
      let h := h.wr (CAN_STATUS.STATE (2 : ChanId)) 3;
      h.setChan 2 { h.chan 2 with time := 0x47FF#32 }), 2, { frame with fd := false, ident := 0x7FF, data := [255] }, by decide +kernel⟩,
    ⟨st (fun h => let h := h.setChan (2 : ChanId) { h.chan (2 : ChanId) with on := true };
      let h := h.wr (CAN_STATUS.STATE (2 : ChanId)) 3;
      h.setChan 2 { h.chan 2 with time := 0x47FF#32 }), 2, { frame with fd := false, ident := 0x7FF, data := [5] }, by decide +kernel⟩,
    ⟨st (fun h => let h := h.setChan (3 : ChanId) { h.chan (3 : ChanId) with on := true };
      let h := h.setChan (3 : ChanId) { h.chan (3 : ChanId) with lostRec := false };
      h.setChan 3 { h.chan 3 with time := 0x4000#32, refMissed := 2 }), 3, by decide +kernel⟩⟩

theorem meets_CanControllers :
    (∃ (s : State) (n : ChanId), s.hw.live = true ∧ s.hw.canHears n = true ∧ s.hw.canRestricted n = false) ∧
    (∃ (s : State) (n : ChanId), s.hw.live = true ∧ s.hw.canHears n = true ∧ s.hw.canState n ≠ 6 ∧ 255 < s.hw.rd (CAN_ERR.TEC n)) ∧
    (∃ (s : State) (n : ChanId), s.hw.live = true ∧ s.hw.canState n = 5 ∧ (s.hw.chan n).recovering = true) ∧
    (∃ (s : State) (n : ChanId), s.hw.live = true ∧ s.hw.canSends n = true) ∧
    (∃ (s : State) (n : ChanId), s.hw.live = true ∧ s.hw.canState n = 1 ∧ (s.hw.chan n).on = true) ∧
    (∃ (s : State) (q : Requester) (n : ChanId), s.admits q (CAN_CTRL n) 0x4C2A0001#32 ∧ s.hw.canState n = 0 ∧
       (s.hw.canCfg n).flags.testBit 0 = true ∧ (s.hw.chan n).dominant = false) ∧
    (∃ (s : State) (q : Requester) (n : ChanId), s.admits q (CAN_CTRL n) 0x4C2A0002#32 ∧ (s.hw.chan n).onBus = none) ∧
    (∃ (s : State) (q : Requester) (n : ChanId), s.admits q (CAN_CTRL n) 0x4C2A0004#32 ∧ s.hw.canState n = 5 ∧ s.hw.canAuto n = false) :=
  ⟨⟨st (fun h => h.wr (CAN_STATUS.STATE (3 : ChanId)) 3), 3, by decide +kernel⟩,
    ⟨st (fun h => let h := h.wr (CAN_STATUS.STATE (3 : ChanId)) 3; h.wr (CAN_ERR.TEC 3) 256), 3, by decide +kernel⟩,
    ⟨st (fun h => let h := h.wr (CAN_STATUS.STATE (3 : ChanId)) 5;
      h.setChan (3 : ChanId) { h.chan (3 : ChanId) with recovering := true }), 3, by decide +kernel⟩,
    ⟨st (fun h => h.wr (CAN_STATUS.STATE (3 : ChanId)) 3), 3, by decide +kernel⟩,
    ⟨st (fun h => let h := h.wr (CAN_STATUS.STATE (3 : ChanId)) 1;
      h.setChan (3 : ChanId) { h.chan (3 : ChanId) with on := true }), 3, by decide +kernel⟩,
    ⟨st (fun h => let h := h.wr (CAN_STATUS.STATE (0 : ChanId)) 0;
      h.setChan (0 : ChanId) { h.chan (0 : ChanId) with dominant := false }), .host 0, 0, by unfold State.admits; decide +kernel, by decide +kernel, by decide +kernel, by decide +kernel⟩,
    ⟨st (fun h => h.setChan (3 : ChanId) { h.chan (3 : ChanId) with onBus := none }), .host 0, 3, by unfold State.admits; decide +kernel, by decide +kernel⟩,
    ⟨st (fun h => let h := h.wr (CAN_STATUS.STATE (3 : ChanId)) 5; h.wrB (CAN_TIME.AUTO_RECOVER 3) false), .host 0, 3, by unfold State.admits; decide +kernel, by decide +kernel, by decide +kernel⟩⟩

theorem meets_RollCall :
    (∃ (s : State) (n : ChanId) (f : CanFrame), s.hw.live = true ∧ s.hw.rollHears n = true ∧ rollFrame f false 4 = true ∧
       f.ident = 0x1E100000 ∧ (f.data.getD 2 0).toNat = 0 ∧ s.hw.on CAN_SERVICE_CFG.RC_LOCK = false ∧
       (s.hw.service.heardRounds = 0 ∨ s.hw.service.heardEpoch ≠ frameHalf f 0)) ∧
    (∃ (s : State) (n : ChanId) (f : CanFrame) (j : Fin 4), s.hw.live = true ∧ s.hw.rollHears n = true ∧
       rollFrame f false 8 = true ∧ f.ident = 0x1E110000 + j.val ∧ s.hw.service.participant = true ∧
       s.hw.service.epoch = frameHalf f 0 ∧ s.hw.on CAN_SERVICE_CFG.RC_LOCK = false ∧ ((∀ i < j.val, s.hw.uidChunk i = frameChunk f i))) ∧
    (∃ (s : State) (n : ChanId) (f : CanFrame), s.hw.live = true ∧ s.hw.rollHears n = true ∧ rollFrame f false 0 = true ∧
       0x1E200000 ≤ f.ident ∧ f.ident ≤ 0x1E20FFFF) ∧
    (∃ (s : State) (n : ChanId) (f : CanFrame), s.hw.live = true ∧ s.hw.rollHears n = true ∧ rollFrame f true 12 = true ∧
       f.ident = 0x1E120000 ∧ s.hw.on CAN_SERVICE_CFG.RC_LOCK = false ∧ Num.ofBytesBE (f.data.take 8) = s.hw.uid ∧
       frameHalf f 10 = s.hw.service.epoch ∧ s.hw.service.participant = true) ∧
    (∃ (s : State), s.hw.live = true ∧ s.hw.rd CAN_NODE.NODE = 0xFFFF ∧ s.hw.service.participant = false) ∧
    (∃ (s : State), s.hw.live = true ∧ s.hw.rd CAN_NODE.NODE ≠ 0xFFFF ∧ s.hw.rd CAN_SERVICE_CFG.HB_PERIOD ≠ 0) ∧
    (∃ (h : Hw) (n : ChanId), h.canRestricted n = false ∧ h.canState n ≠ 0) :=
  ⟨⟨st (fun h => let h := h.listens (3 : ChanId); let h := h.wrB CAN_SERVICE_CFG.RC_LOCK false;
      { h with service := { h.service with heardRounds := 0 } }), 3, { frame with ident := 0x1E100000, extended := true, fd := false, data := List.replicate 4 0 }, by decide +kernel⟩,
    ⟨st (fun h => let h := h.listens (3 : ChanId); let h := { h with service := { h.service with participant := true } };
      let h := { h with service := { h.service with epoch := frameHalf ({ frame with ident := 0x1E110003, extended := true, fd := false, data := List.replicate 8 0 } : CanFrame) 0 } };
      let h := h.wrB CAN_SERVICE_CFG.RC_LOCK false;
      { h with service := { h.service with epoch := 0 } }), 3, { frame with ident := 0x1E110003, extended := true, fd := false, data := List.replicate 8 0 }, 3, by decide +kernel⟩,
    ⟨st (fun h => h.listens (3 : ChanId)), 3, { frame with ident := 0x1E20FFFF, extended := true, fd := false, data := List.replicate 0 0 }, by decide +kernel⟩,
    ⟨st (fun h => let h := h.listens (3 : ChanId); let h := h.wrB CAN_SERVICE_CFG.RC_LOCK false;
      { h with service := { h.service with participant := true } }), 3, { frame with ident := 0x1E120000, extended := true, fd := true, data := List.replicate 12 0 }, by decide +kernel⟩,
    ⟨st (fun h => let h := h.wr CAN_NODE.NODE 0xFFFF; { h with service := { h.service with participant := false } }), by decide +kernel⟩,
    ⟨st (fun h => let h := h.wr CAN_SERVICE_CFG.HB_PERIOD 1; h.wr CAN_NODE.NODE 1), by decide +kernel⟩,
    ⟨((fun h => h.wr (CAN_STATUS.STATE 3) 3) base), 3, by decide +kernel⟩⟩

theorem meets_SerialMaster :
    (∃ (s : State) (q : Requester) (r : Fin 2), s.admits q SPI_CFG (Bits.set (s.hw.reg SPI_CFG) 0 0 r.val)) ∧
    (∃ (s : State), s.hw.live = true ∧ s.hw.on SPI_STATUS.PENDING_ROLE = true ∧ s.hw.serial.running = none ∧
       s.hw.serial.queue = [] ∧ s.hw.serial.waits = [] ∧ s.hw.rd SPI_FRAME_STATUS.STATE ≠ 1) ∧
    (∃ (s : State) (q : Requester), s.admits q SPI_FRAME_CTRL 1#32 ∧ s.hw.frameFits = true ∧ s.hw.spiSlave = false ∧
       s.hw.frameBusy = false) ∧
    (∃ (s : State) (j : SpiJob), s.hw.live = true ∧ s.hw.spiSlave = false ∧ s.hw.serial.running = none ∧
       s.hw.on SPI_STATUS.PENDING_ROLE = false ∧ s.hw.serial.nextJob = some j ∧ s.hw.on SPI_STATUS.CONTINUOUS = false ∧ j.cls ≠ 4) ∧
    (∃ (s : State) (j : SpiJob), s.hw.live = true ∧ s.hw.spiSlave = false ∧ s.hw.serial.running = none ∧
       s.hw.on SPI_STATUS.PENDING_ROLE = false ∧ s.hw.serial.nextJob = some j ∧ s.hw.on SPI_STATUS.CONTINUOUS = false ∧ j.cls = 4 ∧
       s.hw.on SPI_FRAME_SEL.NOSEL = true) ∧
    (∃ (s : State) (j : SpiJob), s.hw.live = true ∧ s.hw.serial.running = some j ∧ j.cls = 4 ∧ s.hw.on SPI_FRAME_CFG.DIR = false) ∧
    (∃ (s : State) (j : SpiJob) (data : List Byte), s.hw.live = true ∧ s.hw.serial.running = some j ∧ j.cls = 4 ∧
       s.hw.on SPI_FRAME_CFG.DIR = true ∧ data.length = s.hw.rd SPI_FRAME_CFG.DATA_BYTES) ∧
    (∃ (s : State) (j : SpiJob), s.hw.live = true ∧ s.hw.serial.running = some j ∧ j.cls = 2 ∧ j.void = false) ∧
    (∃ (s : State) (q : Requester) (addr : Word) (d : List Byte), s.hw.live = true ∧ s.hw.spiSlave = false ∧ ((∀ p,
       q ≠ .unauth p)) ∧ addr.toNat % 4 = 0 ∧ 0x60000000 ≤ addr.toNat ∧ addr.toNat < 0x64000000 ∧
       s.hw.xipReaches (addr.toNat - 0x60000000) = true ∧ s.hw.xipWait (whoRead q) (addr.toNat - 0x60000000) = none ∧
       s.hw.xipLine ((addr.toNat - 0x60000000) / 64) = some d) ∧
    (∃ (s : State) (q : Requester) (addr : Word), s.hw.live = true ∧ s.hw.spiSlave = false ∧ ((∀ p, q ≠ .unauth p)) ∧
       addr.toNat % 4 = 0 ∧ 0x60000000 ≤ addr.toNat ∧ addr.toNat < 0x64000000 ∧ s.hw.xipReaches (addr.toNat - 0x60000000) = true ∧
       s.hw.xipWait (whoRead q) (addr.toNat - 0x60000000) = none ∧ s.hw.xipLine ((addr.toNat - 0x60000000) / 64) = none) ∧
    (∃ (s : State) (q : Requester), s.admits q SPI_XIP_CTRL 1#32) :=
  ⟨⟨st id, .host 0, 1, by unfold State.admits; decide +kernel⟩,
    ⟨st (fun h => let h := h.wrB SPI_STATUS.PENDING_ROLE true; let h := { h with serial := { h.serial with running := none } };
      let h := { h with serial := { h.serial with queue := [] } }; { h with serial := { h.serial with waits := [] } }), by decide +kernel⟩,
    ⟨st (fun h => h.wrB SPI_STATUS.ROLE false), .host 0, by unfold State.admits; decide +kernel, by decide +kernel, by decide +kernel, by decide +kernel⟩,
    ⟨st (fun h => { h with serial := { h.serial with queue := [{ cls := 2 }] } }), { cls := 2 }, by decide +kernel⟩,
    ⟨st (fun h => let h := (h.wrB SPI_FRAME_SEL.NOSEL true);
      { h with serial := { h.serial with queue := [{ cls := 4 }] } }), { cls := 4 }, by decide +kernel⟩,
    ⟨st (fun h => let h := { h with serial := { h.serial with running := some ({ cls := 4 } : SpiJob) } };
      h.wrB SPI_FRAME_CFG.DIR false), { cls := 4 }, by decide +kernel⟩,
    ⟨st (fun h => let h := { h with serial := { h.serial with running := some ({ cls := 4 } : SpiJob) } };
      let h := h.wrB SPI_FRAME_CFG.DIR true; h.wr SPI_FRAME_CFG.DATA_BYTES 1), { cls := 4 }, [7], by decide +kernel⟩,
    ⟨st (fun h => { h with serial := { h.serial with running := some ({ cls := 2 } : SpiJob) } }), { cls := 2 }, by decide +kernel⟩,
    ⟨st (fun h => let h := h.wrB SPI_STATUS.ROLE false; let h := h.wrB SPI_XIP_CFG.ADDR4 true;
      { h with serial := { h.serial with lines := [(1048575, [])] } }), .host 0, 0x63FFFFFC#32, [], by decide +kernel⟩,
    ⟨st (fun h => let h := h.wrB SPI_STATUS.ROLE false; h.wrB SPI_XIP_CFG.ADDR4 true), .host 0, 0x63FFFFFC#32, by decide +kernel⟩,
    ⟨st id, .host 0, by unfold State.admits; decide +kernel⟩⟩

theorem meets_HostRequests :
    (∃ (s : State), s.hw.live = true ∧ s.hw.spiSlave = true ∧ s.hw.slaveState ≠ 0) ∧
    (∃ (s : State) (data : List Byte), s.hw.live = true ∧ s.hw.spiSlave = true ∧ s.hw.slaveState = 0 ∧ requestFormed data = false) ∧
    (∃ (s : State) (data : List Byte), s.hw.live = true ∧ s.hw.spiSlave = true ∧ s.hw.slaveState = 0 ∧ requestFormed data = true) ∧
    (∃ (h : Hw) (r : HostReq) (key : List Byte), r.part < 16 ∧ 4 ≤ r.via ∧ h.on KS_STATE.SEALED = false ∧
       (h.part r.part).newKey = none ∧ (h.part r.part).key = some key ∧ h.rd (PART_SER_COUNTER.COUNTER r.part) < r.counter ∧
       r.epoch = h.rd (PART_RUN.EPOCH r.part) ∧ creditCost r.count ≤ h.rd (PART_CREDIT_CFG.DEPTH r.part) ∧
       creditCost r.count ≤ h.rd (PART_CREDIT.AVAILABLE r.part) ∧
       h.rd (PART_CREDIT.QUEUED r.part) + creditCost r.count ≤ h.rd (PART_CREDIT_CFG.DEPTH r.part)) ∧
    (∃ (s : State) (n : Nat), s.hw.live = true ∧ s.hw.spiSlave = true ∧ s.hw.slaveState = 2 ∧
       s.hw.rd SPI_SLAVE_STATUS.RESP_LEN + 4 ≤ n) ∧
    (∃ (s : State) (n : Nat), s.hw.live = true ∧ s.hw.spiSlave = true ∧ s.hw.slaveState ≠ 2 ∧ 0 < n) ∧
    (∃ (s : State), s.hw.live = true ∧ s.hw.spiSlave = true) ∧
    (∃ (s : State) (r : HostReq), s.hw.live = true ∧ s.hw.slaveState = 1 ∧ s.hw.serial.req = some r) ∧
    (∃ (m : Mach) (ord i : Nat), m.hw.restarted = false ∧ m.hw.engineHas ord = true ∧ m.hw.engineNext = some i) ∧
    (∃ (m : Mach) (ord : Nat), (m.hw.restarted = true ∨ m.hw.engineHas ord = false)) ∧
    (∃ (m : Mach) (i : Nat) (r : HostReq), m.hw.engineHead i = some r) ∧
    (∃ (r : HostReq), r.status ≠ 0) ∧
    (∃ (s : State) (n : ChanId) (f : CanFrame), s.hw.live = true ∧ s.hw.serves n = true ∧ s.hw.canHears n = true ∧
       f.extended = true ∧ f.fd = true ∧ f.brs = decide ((s.hw.canCfg n).data ≠ 0) ∧ f.ident = 0x1E030000 + s.hw.rd CAN_NODE.NODE ∧
       20 ≤ f.data.length ∧ ((s.hw.canHeard n).service.queue.filter (fun r => r.via == n.val)).length < 8 ∧
       canFormed f.data (canRequest n f.data) = true) ∧
    (∃ (s : State) (p : PartId) (r : HostReq), s.hw.live = true ∧ s.hw.service.queue.find? (fun r => r.place == p.val) = some r) :=
  ⟨⟨st (fun h => let h := h.wrB SPI_STATUS.ROLE true; h.wr SPI_SLAVE_STATUS.STATE 1), by decide +kernel⟩,
    ⟨st (fun h => let h := h.wrB SPI_STATUS.ROLE true; h.wr SPI_SLAVE_STATUS.STATE 0), [], by decide +kernel⟩,
    ⟨st (fun h => let h := h.wrB SPI_STATUS.ROLE true; h.wr SPI_SLAVE_STATUS.STATE 0), [0, 1, 1] ++ List.replicate 21 0, by decide +kernel⟩,
    ⟨((fun h => let h := h.wr (PART_CREDIT_CFG.DEPTH 0) 1; let h := h.wr (PART_CREDIT.AVAILABLE 0) 1;
      h.setPart 0 { h.part 0 with key := some [9] }) base), { counter := 1 }, [9], by decide +kernel⟩,
    ⟨st (fun h => let h := h.wrB SPI_STATUS.ROLE true; h.wr SPI_SLAVE_STATUS.STATE 2), 4, by decide +kernel⟩,
    ⟨st (fun h => h.wrB SPI_STATUS.ROLE true), 1, by decide +kernel⟩,
    ⟨st (fun h => h.wrB SPI_STATUS.ROLE true), by decide +kernel⟩,
    ⟨st (fun h => let h := h.wr SPI_SLAVE_STATUS.STATE 1; { h with serial := { h.serial with req := some ({} : HostReq) } }), {}, by decide +kernel⟩,
    ⟨(mach (fun h => let h := h.wr SPI_SLAVE_STATUS.STATE 1;
      { h with serial := { h.serial with req := some { status := 1 } } })), 0, 0, by decide +kernel⟩,
    ⟨(mach id), 0, by decide +kernel⟩,
    ⟨(mach (fun h => let h := h.wr SPI_SLAVE_STATUS.STATE 1;
      { h with serial := { h.serial with req := some { status := 1 } } })), 0, { status := 1 }, by decide +kernel⟩,
    ⟨{ status := 1 }, by decide +kernel⟩,
    ⟨st (fun h => let h := h.wrBit CAN_SERVICE_CFG.SERVICE (3 : ChanId) true; let h := h.wr (CAN_STATUS.STATE (3 : ChanId)) 3;
      h.wr CAN_NODE.NODE 5), 3, { frame with ident := 0x1E030005, extended := true, data := [0, 1, 1] ++ List.replicate 17 0 }, by decide +kernel⟩,
    ⟨st (fun h => { h with service := { h.service with queue := [request] } }), 0, request, by decide +kernel⟩⟩

theorem meets_ResponseExpires :
    ∃ (s : State), s.hw.live = true ∧ s.hw.slaveState = 2 :=
  ⟨st (fun h => h.wr SPI_SLAVE_STATUS.STATE 2), by decide +kernel⟩

theorem meets_DirectWrites :
    (∃ (s : State) (q : Requester) (addr v : Word) (n : Nat), s.hw.live = true ∧ s.hw.preStatus q addr.toNat v = .ok ∧
       regHit addr.toNat = none ∧ targetOf addr.toNat = .keep n ∧ addr.toNat % 8 = 0) ∧
    (∃ (s : State) (q : Requester) (addr v : Word) (n : Nat) (w : Word), s.hw.live = true ∧ s.hw.preStatus q addr.toNat v = .ok ∧
       regHit addr.toNat = none ∧ targetOf addr.toNat = .keep n ∧ addr.toNat % 8 = 4 ∧ Tab.get s.hw.latches (s.hw.copyKey q) (0,
       0) = (addr.toNat - 4, w) ∧ s.hw.keepClearing n = false ∧ s.hw.keepOpen = true ∧ s.hw.keepHalf n = false) ∧
    (∃ (s : State) (q : Requester) (addr v : Word) (n : Nat), s.hw.live = true ∧ s.hw.preStatus q addr.toNat v = .ok ∧
       regHit addr.toNat = none ∧ targetOf addr.toNat = .keep n ∧ addr.toNat % 8 = 4 ∧ (Tab.get s.hw.latches (s.hw.copyKey q) (0,
       0)).1 + 4 ≠ addr.toNat) :=
  ⟨⟨st id, .host 0, 0x5008FFF8#32, 0#32, 8, by decide +kernel⟩,
    ⟨st (fun h => let h := h.wrB KEEP_STATE.WRITE_OK true;
      { h with latches := [(h.copyKey (.host 0), (0x5008FFF8, 7#32))] }), .host 0, 0x5008FFFC#32, 0#32, 8, 7#32, by decide +kernel⟩,
    ⟨st id, .host 0, 0x5008FFFC#32, 0#32, 8, by decide +kernel⟩⟩

theorem meets_KeepAccess :
    (∃ (s : State) (q : Requester) (addr : Word) (n : Nat), s.hw.live = true ∧ s.hw.turnstile q addr.toNat false 0 = (none, none) ∧
       regHit addr.toNat = none ∧ targetOf addr.toNat = .keep n ∧ addr.toNat % 8 = 0 ∧ s.hw.ramBad.contains addr.toNat = false ∧
       s.hw.keepClearing n = false ∧ s.hw.keepHalf n = false) ∧
    (∃ (m : Mach) (a : Nat), m.hw.pageRuns a = none) ∧
    (∃ (m : Mach) (a p : Nat), m.hw.pageRuns a = some p) ∧
    (∃ (s : State) (q : Requester) (addr : Word) (n : Nat) (w : Word), s.hw.live = true ∧
       s.hw.turnstile q addr.toNat false 0 = (none, none) ∧ regHit addr.toNat = none ∧ targetOf addr.toNat = .keep n ∧
       addr.toNat % 8 = 4 ∧ s.hw.ramBad.contains addr.toNat = false ∧ s.hw.keepClearing n = false ∧ s.hw.keepHalf n = false ∧
       Tab.get s.hw.keepCopies (s.hw.copyKey q) (0, 0) = (addr.toNat, w)) ∧
    (∃ (s : State) (q : Requester) (addr : Word) (n : Nat), s.hw.live = true ∧ s.hw.turnstile q addr.toNat false 0 = (none, none) ∧
       regHit addr.toNat = none ∧ targetOf addr.toNat = .keep n ∧ s.hw.ramBad.contains addr.toNat = false ∧
       s.hw.keepClearing n = false ∧ s.hw.keepHalf n = false) ∧
    (∃ (s : State) (q : Requester) (addr v : Word) (x : RegHit), s.hw.live = true ∧ s.hw.preStatus q addr.toNat v = .ok ∧
       addr.toNat % 4 = 0 ∧ regHit addr.toNat = some x ∧ x.row.hook = .plain ∧
       (s.hw.setReg (x.id addr.toNat) (x.row.next (s.hw.reg (x.id addr.toNat)) v)).fieldsFit (s.hw.partOf q) x addr.toNat (judgedBy (s.hw.reg (x.id addr.toNat)) v) = true ∧
       (s.hw.setReg (x.id addr.toNat) (x.row.next (s.hw.reg (x.id addr.toNat)) v)).chanTablesOk = true) ∧
    (∃ (s : State) (q : Requester) (addr v : Word), s.hw.live = true ∧ s.hw.preStatus q addr.toNat v = .auth) :=
  ⟨⟨st id, .host 0, 0x50010000#32, 1, by decide +kernel⟩,
    ⟨(mach id), 0, by decide +kernel⟩,
    ⟨(mach (fun h => let h := h.wr (PART_KEEP_STATUS.OP 0) 1; h.wr (PART_KEEP_STATUS.STATE 0) 2)), 0, 0, by decide +kernel⟩,
    ⟨st (fun h => { h with keepCopies := [(h.copyKey (.host 0), (0x5008FFFC, 7#32))] }), .host 0, 0x5008FFFC#32, 8, 7#32, by decide +kernel⟩,
    ⟨st id, .host 0, 0x5008FFFC#32, 8, by decide +kernel⟩,
    ⟨st id, .host 0, BitVec.ofNat 32 (LEG_GD_DVDT 47).addr, 0#32, (regHit (BitVec.ofNat 32 (LEG_GD_DVDT 47).addr).toNat).get (by decide +kernel), by decide +kernel, by decide +kernel, by decide +kernel, (Option.some_get _).symm, by decide +kernel, by decide +kernel, by decide +kernel⟩,
    ⟨st id, .unauth 0, 0x40#32, 0#32, by decide +kernel⟩⟩

theorem meets_KeepOperations :
    (∃ (s : State) (q : Requester) (p : PartId), s.admits q (PART_KEEP_CTRL p) 0x7E150001#32 ∧
       (s.hw.rd (PART_KEEP_ADDR.ADDR p)) % 0x100 = 0 ∧ (s.hw.keepWindow p).1 ≤ (s.hw.rd (PART_KEEP_ADDR.ADDR p)) ∧
       (s.hw.rd (PART_KEEP_ADDR.ADDR p)) + 0x100 ≤ (s.hw.keepWindow p).1 + (s.hw.keepWindow p).2 ∧
       s.hw.inRecorder p (s.hw.rd (PART_KEEP_ADDR.ADDR p)) = false ∧ s.hw.keepBusy p = false ∧ s.hw.keepOpen = true ∧
       s.hw.keepHalf (keepSector (s.hw.rd (PART_KEEP_ADDR.ADDR p))) = false) ∧
    (∃ (s : State) (q : Requester) (p : PartId), s.admits q (PART_KEEP_CTRL p) 0x7E150002#32 ∧
       (s.hw.rd (PART_KEEP_ADDR.ADDR p)) % 0x10000 = 0 ∧ (s.hw.keepWindow p).1 ≤ (s.hw.rd (PART_KEEP_ADDR.ADDR p)) ∧
       (s.hw.rd (PART_KEEP_ADDR.ADDR p)) + 0x10000 ≤ (s.hw.keepWindow p).1 + (s.hw.keepWindow p).2 ∧
       s.hw.inRecorder p (s.hw.rd (PART_KEEP_ADDR.ADDR p)) = false ∧ s.hw.keepBusy p = false ∧ s.hw.keepOpen = true) ∧
    (∃ (s : State) (q : Requester) (p : PartId), s.admits q (PART_KEEP_CTRL p) 0x7E150004#32 ∧ (s.hw.claims p).recKib ≠ 0 ∧
       s.hw.keepBusy p = false ∧ s.hw.keepOpen = true) ∧
    (∃ (s : State) (p : PartId), s.hw.live = true ∧ s.hw.rd (PART_KEEP_STATUS.OP p) = 1 ∧ s.hw.rd (PART_KEEP_STATUS.STATE p) = 2) ∧
    (∃ (s : State) (p : PartId), s.hw.live = true ∧ s.hw.rd (PART_KEEP_STATUS.OP p) = 2 ∧ s.hw.keepBusy p = true ∧
       s.hw.keepOpen = true) ∧
    (∃ (s : State), s.hw.live = true ∧ s.hw.keepOpen = true) ∧
    (∃ (s : State), s.hw.live = true ∧ s.hw.opRun = true ∧ s.hw.rd OP_SECONDS.SECONDS < 0xFFFFFFFF ∧
       (s.hw.rd OP_SECONDS.SECONDS + 1) % 60 ≠ 0 ∧ s.hw.keepPend = [] ∧ ((∀ p < 16, (s.hw.recorder p).base = 0))) ∧
    (∃ (s : State), s.hw.live = true ∧ s.hw.opRun = true ∧ s.hw.rd OP_SECONDS.SECONDS < 0xFFFFFFFF ∧
       (s.hw.rd OP_SECONDS.SECONDS + 1) % 60 = 0 ∧ s.hw.keepPend = [] ∧ s.hw.keepBlocked = [] ∧ s.hw.keepOpen = true ∧ ((∀ p < 16,
       (s.hw.recorder p).base = 0))) ∧
    (∃ (x : Hist) (v : Nat), x.source ≠ 0 ∧ v = 0x8000) :=
  ⟨⟨st (fun h => let h := h.wrB KEEP_STATE.WRITE_OK true; h.wr (PART_KEEP_ADDR.ADDR 0) 0x5008FF00), .host 0, 0, by unfold State.admits; decide +kernel, by decide +kernel, by decide +kernel, by decide +kernel, by decide +kernel, by decide +kernel, by decide +kernel, by decide +kernel⟩,
    ⟨st (fun h => let h := h.wrB KEEP_STATE.WRITE_OK true; h.wr (PART_KEEP_ADDR.ADDR 0) 0x50080000), .host 0, 0, by unfold State.admits; decide +kernel, by decide +kernel, by decide +kernel, by decide +kernel, by decide +kernel, by decide +kernel, by decide +kernel⟩,
    ⟨st (fun h => let h := h.wrB KEEP_STATE.WRITE_OK true;
      h.setPart 0 { h.part 0 with cfg := some { part := { claims with recKib := 4 } } }), .host 0, 0, by unfold State.admits; decide +kernel, by decide +kernel, by decide +kernel, by decide +kernel⟩,
    ⟨st (fun h => let h := h.wr (PART_KEEP_STATUS.OP (0 : PartId)) 1; h.wr (PART_KEEP_STATUS.STATE (0 : PartId)) 2), 0, by decide +kernel⟩,
    ⟨st (fun h => let h := h.wr (PART_KEEP_STATUS.OP (0 : PartId)) 2; let h := h.wr (PART_KEEP_STATUS.STATE (0 : PartId)) 1;
      h.wrB KEEP_STATE.WRITE_OK true), 0, by decide +kernel⟩,
    ⟨st (fun h => h.wrB KEEP_STATE.WRITE_OK true), by decide +kernel⟩,
    ⟨st (fun h => let h := { h with opRun := true }; { h with keepPend := [] }), by decide +kernel⟩,
    ⟨st (fun h => let h := { h with opRun := true }; let h := { h with keepPend := [] }; let h := { h with keepBlocked := [] };
      let h := h.wrB KEEP_STATE.WRITE_OK true; h.wr OP_SECONDS.SECONDS 59), by decide +kernel⟩,
    ⟨{ source := 1 }, 0x8000, by decide +kernel⟩⟩

theorem meets_SelfTests :
    (∃ (s : State), s.hw.live = true ∧ s.hw.power = .running ∧ s.hw.chipFault = false ∧ s.hw.on ST_CFG.CAROUSEL_EN = true ∧
       s.hw.stepCount % max (s.hw.rd ST_CFG.INTERVAL) 1 = 0 ∧ s.hw.carouselNext < 511) ∧
    (∃ (h : Hw) (k : BlockId) (l : Nat), h.blockFenced k = false ∧ h.regionHolds k = false ∧ h.on (ST_LANE.UNTESTED k) = false ∧
       (h.block k).retired.contains l = false ∧ (h.block k).underTest = none ∧ h.halted k = false) ∧
    (∃ (s : State) (d : DieId), s.hw.live = true ∧ s.hw.power = .running ∧ s.hw.chipFault = false ∧
       s.hw.on ST_CFG.CAROUSEL_EN = true ∧ s.hw.stepCount % max (s.hw.rd ST_CFG.INTERVAL) 1 = 0 ∧ (d = 6 ∨ d = 7) ∧
       2 ≤ s.hw.rd (THERM_STATUS.LEVEL (dieZone d))) ∧
    (∃ (e : ScrubFind), e.correctable = true) ∧
    (∃ (e : ScrubFind), e.correctable = false) ∧
    (∃ (s : State) (k : BlockId) (l : Nat), s.hw.live = true ∧ (s.hw.block k).underTest = some l) ∧
    (∃ (s : State) (k : BlockId) (l : Nat), s.hw.live = true ∧ (s.hw.block k).underTest = some l ∧ s.hw.rd (ST_LANE.RETIRED k) < 16) ∧
    (∃ (s : State) (k : BlockId) (l : Nat), s.hw.live = true ∧ (s.hw.block k).underTest = some l ∧ 16 ≤ s.hw.rd (ST_LANE.RETIRED k)) ∧
    (∃ (s : State) (r : RegionId), s.hw.live = true ∧ (s.hw.region r).compBusy = true) ∧
    (∃ (s : State) (n : CellId) (dev : Int), s.hw.live = true ∧ s.hw.convTest = n.val ∧ (s.hw.conv n).backNext = false ∧
       (s.hw.conv n).held = 0 ∧ (s.hw.conv n).isOpen = false ∧ -500 ≤ dev ∧ dev ≤ 500) ∧
    (∃ (s : State) (n : CellId) (dev : Int), s.hw.live = true ∧ s.hw.convTest = n.val ∧ (s.hw.conv n).backNext = false ∧
       (s.hw.conv n).isOpen = true ∧ -500 ≤ dev ∧ dev ≤ 500) ∧
    (∃ (s : State) (d : DieId), s.hw.live = true ∧ (d = 0 ∨ d = 1 ∨ d = 7)) ∧
    (∃ (s : State) (r : RegionId) (d : DieId), s.hw.live = true ∧ d.val = r.val + 2) ∧
    (∃ (s : State), s.hw.live = true) :=
  ⟨⟨st (fun h => let h := { h with power := .running }; h.wrB ST_CFG.CAROUSEL_EN true), by decide +kernel⟩,
    ⟨((fun h => let h := h.wrB (ST_LANE.UNTESTED (7 : BlockId)) false;
      let h := h.setBlock (7 : BlockId) { h.block (7 : BlockId) with underTest := none };
      h.wrBit DBG_HALT.HALTED (7 : BlockId) false) base), 7, 0, by decide +kernel⟩,
    ⟨st (fun h => let h := { h with power := .running }; let h := h.wrB ST_CFG.CAROUSEL_EN true;
      h.wr (THERM_STATUS.LEVEL (dieZone (7 : DieId))) 2), 7, by decide +kernel⟩,
    ⟨⟨0, none, true⟩, by decide +kernel⟩,
    ⟨⟨0, none, false⟩, by decide +kernel⟩,
    ⟨st (fun h => h.setBlock (7 : BlockId) { h.block (7 : BlockId) with underTest := some 0 }), 7, 0, by decide +kernel⟩,
    ⟨st (fun h => h.setBlock (7 : BlockId) { h.block (7 : BlockId) with underTest := some 0 }), 7, 0, by decide +kernel⟩,
    ⟨st (fun h => let h := h.setBlock (7 : BlockId) { h.block (7 : BlockId) with underTest := some 0 };
      h.wr (ST_LANE.RETIRED (7 : BlockId)) 16), 7, 0, by decide +kernel⟩,
    ⟨st (fun h => h.setRegion (3 : RegionId) { h.region (3 : RegionId) with compBusy := true }), 3, by decide +kernel⟩,
    ⟨st (fun h => let h := { h with convTest := (47 : CellId).val };
      let h := h.setConv (47 : CellId) { h.conv (47 : CellId) with backNext := false };
      let h := h.setConv (47 : CellId) { h.conv (47 : CellId) with held := 0 };
      h.setConv (47 : CellId) { h.conv (47 : CellId) with isOpen := false }), 47, 0, by decide +kernel⟩,
    ⟨st (fun h => let h := { h with convTest := (47 : CellId).val };
      let h := h.setConv (47 : CellId) { h.conv (47 : CellId) with backNext := false };
      h.setConv (47 : CellId) { h.conv (47 : CellId) with isOpen := true }), 47, 0, by decide +kernel⟩,
    ⟨st id, 7, by decide +kernel⟩,
    ⟨st id, 3, 5, by decide +kernel⟩,
    ⟨st id, by decide +kernel⟩⟩

theorem meets_Identity :
    (∃ (s : State) (q : Requester), s.admits q KS_KEY_CTRL 0x6B3D0001#32 ∧ s.hw.on KS_STATE.SEALED = false ∧
       s.hw.on KS_STATE.PROVISIONED = false) ∧
    (∃ (s : State) (q : Requester), s.admits q KS_KEY_CTRL 0x6B3D0002#32 ∧ s.hw.on KS_STATE.SEALED = false ∧ s.hw.keyBusy = 0 ∧
       (s.hw.ksBytes 0x100 64) ≠ s.hw.p0Key ∧ s.hw.rd KS_STATE.ROTATIONS ≠ 0xFFFF) ∧
    (∃ (s : State), s.hw.live = true ∧ s.hw.keyBusy ≠ 0) ∧
    (∃ (s : State) (p : PartId), s.admits (.host p) (HS_CTRL p) 1#32 ∧ s.hw.on KS_STATE.SEALED = false ∧
       ((s.hw.part p).hsStarts.filter (fun n => decide (s.hw.stepCount < n + 800000))).length < 4) ∧
    (∃ (s : State) (p : PartId), s.hw.live = true ∧ s.hw.on KS_STATE.SEALED = false ∧ s.hw.rd (HS_STATUS.STATE p) = 1) ∧
    (∃ (s : State) (q : Requester) (p : PartId), s.admits q (HS_CTRL p) 2#32 ∧ s.hw.on KS_STATE.SEALED = false ∧
       s.hw.rd (HS_STATUS.STATE p) = 2) ∧
    (∃ (s : State) (p : PartId), s.hw.live = true ∧ s.hw.on KS_STATE.SEALED = true ∧ s.hw.rd (HS_STATUS.STATE p) = 1) ∧
    (∃ (s : State) (p : PartId), s.hw.live = true ∧ s.hw.on KS_STATE.SEALED = true ∧ s.hw.rd (HS_STATUS.STATE p) = 3) ∧
    (∃ (s : State) (p : PartId), s.hw.live = true ∧ s.hw.on KS_STATE.SEALED = false ∧ s.hw.rd (HS_STATUS.STATE p) = 3) ∧
    (∃ (h : Hw) (p : PartId), (h.part p).key ≠ none) ∧
    (∃ (h : Hw) (p : PartId), (h.part p).key = none) ∧
    (∃ (s : State) (p : PartId), s.hw.live = true ∧ s.hw.rd (HS_STATUS.STATE p) = 2) ∧
    (∃ (s : State) (p : PartId) (k : List Byte), s.hw.live = true ∧ (s.hw.part p).newKey = some k) :=
  ⟨⟨st (fun h => let h := h.wrB KS_STATE.SEALED false; h.wrB KS_STATE.PROVISIONED false), .host 0, by unfold State.admits; decide +kernel, by decide +kernel, by decide +kernel⟩,
    ⟨st (fun h => let h := h.wrB KS_STATE.SEALED false; { h with keyBusy := 0 }), .host 0, by unfold State.admits; decide +kernel, by decide +kernel, by decide +kernel, by decide +kernel, by decide +kernel⟩,
    ⟨st (fun h => { h with keyBusy := 1 }), by decide +kernel⟩,
    ⟨st (fun h => h.wrB KS_STATE.SEALED false), 0, by unfold State.admits; decide +kernel, by decide +kernel, by decide +kernel⟩,
    ⟨st (fun h => let h := h.wrB KS_STATE.SEALED false; h.wr (HS_STATUS.STATE (0 : PartId)) 1), 0, by decide +kernel⟩,
    ⟨st (fun h => let h := h.wrB KS_STATE.SEALED false; h.wr (HS_STATUS.STATE (0 : PartId)) 2), .host 0, 0, by unfold State.admits; decide +kernel, by decide +kernel, by decide +kernel⟩,
    ⟨st (fun h => let h := h.wrB KS_STATE.SEALED true; h.wr (HS_STATUS.STATE (0 : PartId)) 1), 0, by decide +kernel⟩,
    ⟨st (fun h => let h := h.wrB KS_STATE.SEALED true; h.wr (HS_STATUS.STATE (0 : PartId)) 3), 0, by decide +kernel⟩,
    ⟨st (fun h => let h := h.wrB KS_STATE.SEALED false; h.wr (HS_STATUS.STATE (0 : PartId)) 3), 0, by decide +kernel⟩,
    ⟨((fun h => h.setPart 0 { h.part 0 with key := some [9] }) base), 0, by decide +kernel⟩,
    ⟨((fun h => h.setPart (0 : PartId) { h.part (0 : PartId) with key := none }) base), 0, by decide +kernel⟩,
    ⟨st (fun h => h.wr (HS_STATUS.STATE (0 : PartId)) 2), 0, by decide +kernel⟩,
    ⟨st (fun h => h.setPart (0 : PartId) { h.part (0 : PartId) with newKey := some ([] : List Byte) }), 0, [], by decide +kernel⟩⟩

theorem meets_Loads :
    (∃ (s : State) (q : Requester) (p : PartId) (src : Fin 4) (hold : Bool),
       s.admits q BS_CTRL (bsCtrlValue p src (1 + 8 * Num.ofBool hold)) ∧
       s.hw.bsRefusal q (bsCtrlValue p src (1 + 8 * Num.ofBool hold)) = .ok) ∧
    (∃ (s : State) (q : Requester), s.admits q BS_CTRL (bsCtrlValue 0 0 2) ∧ s.hw.bsRefusal q (bsCtrlValue 0 0 2) = .ok) ∧
    (∃ (s : State) (q : Requester), s.admits q BS_CTRL (bsCtrlValue 0 0 4) ∧ s.hw.bsRefusal q (bsCtrlValue 0 0 4) = .ok ∧
       s.hw.load.isPart = true) ∧
    (∃ (s : State) (q : Requester), s.admits q BS_CTRL (bsCtrlValue 0 0 4) ∧ s.hw.bsRefusal q (bsCtrlValue 0 0 4) = .ok ∧
       s.hw.load.isPart = false) ∧
    (∃ (s : State) (q : Requester) (v : Word), s.admits q BS_PORT v ∧ (s.hw.anyActive = false ∨ bsKey q = s.hw.load.reqKey) ∧
       s.hw.bsState = 2 ∧ s.hw.rd BS_STATUS.SOURCE = 1) ∧
    (∃ (h : Hw) (new : List Byte), (h.load.bytes ++ new).length < 16) ∧
    (∃ (h : Hw) (new : List Byte), 16 ≤ (h.load.bytes ++ new).length ∧ bsTotal (h.load.bytes ++ new) ≤ (h.load.bytes ++ new).length) ∧
    (∃ (h : Hw) (new : List Byte), 16 ≤ (h.load.bytes ++ new).length ∧
       (h.load.bytes ++ new).length < bsTotal (h.load.bytes ++ new) ∧ bsTotal (h.load.bytes ++ new) ≤ bsLimit (!h.load.isPart)) ∧
    (∃ (s : State) (node : Nat) (d : List Byte), s.hw.live = true ∧ s.hw.loadHears node = true ∧ d.length = 60 ∧ s.hw.bsState = 1) ∧
    (∃ (s : State) (node : Nat) (d : List Byte), s.hw.live = true ∧ s.hw.loadHears node = true ∧ d.length = 60 ∧ s.hw.bsState = 2 ∧
       s.hw.rd BS_STATUS.SOURCE = 2) ∧
    (∃ (s : State) (node : Nat), s.hw.live = true ∧ s.hw.loadHears node = true) ∧
    (∃ (s : State) (c : Nat), s.hw.live = true ∧ s.hw.bsState = 3 ∧ s.hw.load.isPart = false ∧ s.hw.fullVerdict.fatal = some c) ∧
    (∃ (s : State), s.hw.live = true ∧ s.hw.bsState = 3 ∧ s.hw.load.isPart = false ∧ s.hw.load.hold = false) ∧
    (∃ (s : State), s.hw.live = true ∧ s.hw.bsState = 3 ∧ s.hw.load.isPart = true) ∧
    (∃ (s : State), s.hw.live = true ∧ s.hw.bsState = 2 ∧ s.hw.rd BS_STATUS.SOURCE ≠ 0) ∧
    (∃ (s : State) (p : PartId) (st : Sys2Proof.Machine.PSet), s.hw.live = true ∧ s.hw.bsState = 5 ∧ s.hw.load.part = p.val ∧
       (s.hw.part p).arming = false ∧ (s.hw.blocksOf p = [] ∨ s.hw.terminalReached p = true) ∧ s.hw.load.staged = some st ∧
       s.hw.load.stagedPlat = none) ∧
    (∃ (m : Mach) (p : PartId) (st : Sys2Proof.Machine.PSet) (e : Nat), e ≠ 0 ∧ (m.hw.part p).nextEpoch = e ∧ st.part.epochPolicy = 0) :=
  ⟨⟨st id, .host 0, 0, 0, true, by unfold State.admits; decide +kernel, by decide +kernel⟩,
    ⟨st (fun h => let h := h.wr BS_STATUS.STATE 2; { h with load := { h.load with reqKey := 0 } }), .host 0, by unfold State.admits; decide +kernel, by decide +kernel⟩,
    ⟨st (fun h => let h := { h with load := { h.load with isPart := true } }; let h := h.wr BS_STATUS.STATE 4;
      { h with load := { h.load with reqKey := 0, hold := true } }), .host 0, by unfold State.admits; decide +kernel, by decide +kernel, by decide +kernel⟩,
    ⟨st (fun h => let h := { h with load := { h.load with isPart := false } }; let h := h.wr BS_STATUS.STATE 4;
      { h with load := { h.load with reqKey := 0, hold := true } }), .host 0, by unfold State.admits; decide +kernel, by decide +kernel, by decide +kernel⟩,
    ⟨st (fun h => let h := h.wr BS_STATUS.STATE 2; let h := h.wr BS_STATUS.SOURCE 1;
      { h with load := { h.load with reqKey := 0 } }), .host 0, 0#32, by unfold State.admits; decide +kernel, by decide +kernel, by decide +kernel, by decide +kernel⟩,
    ⟨base, [], by decide +kernel⟩,
    ⟨base, List.replicate 16 0, by decide +kernel⟩,
    ⟨base, List.replicate 12 0 ++ [32, 0, 0, 0], by decide +kernel⟩,
    ⟨st (fun h => let h := h.wr BS_STATUS.STATE 1; h.wr (CAN_STATUS.STATE 0) 3), 0xFFFF, List.replicate 60 0, by decide +kernel⟩,
    ⟨st (fun h => let h := h.wr BS_STATUS.STATE 2; let h := h.wr BS_STATUS.SOURCE 2;
      h.wr (CAN_STATUS.STATE 0) 3), 0xFFFF, List.replicate 60 0, by decide +kernel⟩,
    ⟨st (fun h => h.wr (CAN_STATUS.STATE 0) 3), 0xFFFF, by decide +kernel⟩,
    ⟨st (fun h => let h := h.wr BS_STATUS.STATE 3; { h with load := { h.load with isPart := false } }), 16, by decide +kernel⟩,
    ⟨st (fun h => let h := h.wr BS_STATUS.STATE 3; let h := { h with load := { h.load with isPart := false } };
      { h with load := { h.load with hold := false } }), by decide +kernel⟩,
    ⟨st (fun h => let h := h.wr BS_STATUS.STATE 3; { h with load := { h.load with isPart := true } }), by decide +kernel⟩,
    ⟨st (fun h => let h := h.wr BS_STATUS.STATE 2; h.wr BS_STATUS.SOURCE 1), by decide +kernel⟩,
    ⟨st (fun h => let h := h.wr BS_STATUS.STATE 5; let h := { h with load := { h.load with part := (15 : PartId).val } };
      let h := h.setPart (15 : PartId) { h.part (15 : PartId) with arming := false };
      let h := { h with load := { h.load with staged := some ({} : Sys2Proof.Machine.PSet) } };
      { h with load := { h.load with stagedPlat := none } }), 15, {}, by decide +kernel⟩,
    ⟨(mach (fun h => let h := h.setPart (0 : PartId) { h.part (0 : PartId) with nextEpoch := 1 };
      h.setPart 0 { h.part 0 with nextEpoch := 1 })), 0, {}, 1, by decide +kernel⟩⟩

theorem meets_SuppliesAndStart :
    (∃ (s : State), s.hw.power = .off) ∧
    (∃ (s : State), s.hw.power = .standby ∧ s.hw.on WAKE_CFG.WAKE_EDGE = s.hw.wakePin) ∧
    (∃ (s : State), (s.hw.power = .shutPending ∨ s.hw.power = .shutStopping ∨ s.hw.power = .shutDischarge) ∧
       s.hw.on WAKE_CFG.WAKE_EDGE = s.hw.wakePin) ∧
    (∃ (s : State), s.hw.on WAKE_CFG.WAKE_EDGE = !s.hw.wakePin) ∧
    (∃ (s : State) (n : ChanId), (s.hw.power = .shutPending ∨ s.hw.power = .shutStopping ∨ s.hw.power = .shutDischarge) ∧
       s.hw.bit WAKE_CFG.CAN_WAKE_EN n = true) ∧
    (∃ (s : State) (n : ChanId), s.hw.power = .standby ∧ s.hw.bit WAKE_CFG.CAN_WAKE_EN n = true) ∧
    (∃ (s : State) (env : StartEnv), s.hw.power = .waitSupply ∧ env.rootValid = false) ∧
    (∃ (s : State) (env : StartEnv), s.hw.power = .waitSupply ∧ env.rootValid = true) ∧
    (∃ (s : State), s.hw.power = .starting ∧ s.hw.env = none) ∧
    (∃ (s : State) (env : StartEnv), s.hw.power = .waitPll ∧ s.hw.env = some env) ∧
    (∃ (h : Hw) (env : StartEnv), env.flash = none ∧ h.serial.queue = [] ∧ h.serial.waits = [] ∧ h.rd SPI_FRAME_STATUS.STATE ≠ 1) ∧
    (∃ (env : StartEnv) (b : List Byte), env.flash = some b ∧ bsProbe b = true) ∧
    (∃ (d : DieId), (d = 0 ∨ d = 1 ∨ d = 6 ∨ d = 7)) ∧
    (∃ (s : State) (i : Fin 4) (saved : Bool), s.hw.live = true ∧ s.hw.power ≠ .shutTest ∧ (saved = false ∨ i = 1 ∨ i = 2)) ∧
    (∃ (s : State), s.hw.live = true ∧ s.hw.power ≠ .shutTest) ∧
    (∃ (s : State), s.hw.live = true ∧ s.hw.power ≠ .shutTest ∧ s.hw.opRun = true ∧ s.hw.keepPend = [] ∧ s.hw.keepBlocked = [] ∧
       s.hw.faultStored = true ∧ s.hw.keepOpen = true) ∧
    (∃ (s : State), s.hw.live = false) ∧
    (∃ (s : State), s.hw.live = true) ∧
    (∃ (h : Hw), h.chipFault = false) :=
  ⟨⟨st (fun h => { h with power := .off }), by decide +kernel⟩,
    ⟨st (fun h => let h := { h with power := .standby }; h.wrB WAKE_CFG.WAKE_EDGE h.wakePin), by decide +kernel⟩,
    ⟨st (fun h => let h := { h with power := .shutPending }; h.wrB WAKE_CFG.WAKE_EDGE h.wakePin), by decide +kernel⟩,
    ⟨st (fun h => h.wrB WAKE_CFG.WAKE_EDGE (!h.wakePin)), by decide +kernel⟩,
    ⟨st (fun h => let h := { h with power := .shutPending }; h.wrBit WAKE_CFG.CAN_WAKE_EN (3 : ChanId) true), 3, by decide +kernel⟩,
    ⟨st (fun h => let h := { h with power := .standby }; h.wrBit WAKE_CFG.CAN_WAKE_EN (3 : ChanId) true), 3, by decide +kernel⟩,
    ⟨st (fun h => { h with power := .waitSupply }), { startEnv with rootValid := false }, by decide +kernel⟩,
    ⟨st (fun h => { h with power := .waitSupply }), startEnv, by decide +kernel⟩,
    ⟨st (fun h => let h := { h with power := .starting }; { h with env := none }), by decide +kernel⟩,
    ⟨st (fun h => let h := { h with power := .waitPll }; { h with env := some (startEnv : StartEnv) }), startEnv, by decide +kernel⟩,
    ⟨((fun h => let h := { h with serial := { h.serial with queue := [] } };
      { h with serial := { h.serial with waits := [] } }) base), startEnv, by decide +kernel⟩,
    ⟨{ startEnv with flash := some [0x5A, 0x47, 0x42, 0x53, 0, 1, 32, 0, 0x80, 0x48, 0x4D] }, [0x5A, 0x47, 0x42, 0x53, 0, 1, 32, 0, 0x80, 0x48, 0x4D], by decide +kernel⟩,
    ⟨7, by decide +kernel⟩,
    ⟨st id, 1, true, by decide +kernel⟩,
    ⟨st id, by decide +kernel⟩,
    ⟨st (fun h => let h := { h with opRun := true }; let h := { h with keepPend := [] }; let h := { h with keepBlocked := [] };
      let h := { h with faultStored := true }; h.wrB KEEP_STATE.WRITE_OK true), by decide +kernel⟩,
    ⟨st (fun h => { h with power := .off }), by decide +kernel⟩,
    ⟨st id, by decide +kernel⟩,
    ⟨base, by decide +kernel⟩⟩

theorem meets_ShutdownsAndRestarts :
    (∃ (s : State) (q : Requester), s.admits q POWER_CMD 0x5A170001#32 ∧ s.hw.power = .running) ∧
    (∃ (s : State), s.hw.power = .running ∧ s.hw.on WAKE_CFG.AUTO_SHUTDOWN = true ∧ s.hw.wakePin = s.hw.on WAKE_CFG.WAKE_EDGE) ∧
    (∃ (s : State) (q : Requester), s.admits q POWER_CMD 0x5A170002#32 ∧ s.hw.chipFault = false ∧ s.hw.shutting = false ∧
       (s.hw.die 0).clockBad = false ∧ (s.hw.die 1).clockBad = false) ∧
    (∃ (m : Mach), (m.hw.die 0).clockBad = false ∧ (m.hw.die 1).clockBad = false) ∧
    (∃ (s : State), s.hw.power = .shutStopping ∧ s.hw.allStopped = true ∧ s.hw.on SHUTDOWN_CFG.DISCHARGE = true) ∧
    (∃ (s : State), s.hw.power = .shutStopping ∧ s.hw.on SHUTDOWN_CFG.DISCHARGE = true) ∧
    (∃ (s : State), s.hw.power = .shutStopping ∧ s.hw.allStopped = true ∧ s.hw.on SHUTDOWN_CFG.DISCHARGE = false ∧ ((∀ p < 16,
       (s.hw.recorder p).base = 0)) ∧ s.hw.keepPend = [] ∧ s.hw.keepBlocked = [] ∧ s.hw.keepOpen = true ∧
       s.hw.on ST_CFG.SHUTDOWN_EN = true ∧ s.hw.wakeShut = false ∧ s.hw.chipFault = false) ∧
    (∃ (s : State), s.hw.power = .shutTest ∧ s.hw.keepPend = [] ∧ s.hw.keepBlocked = [] ∧ s.hw.keepOpen = true ∧
       s.hw.chipFault = false) ∧
    (∃ (s : State), s.hw.power = .shutDone) ∧
    (∃ (s : State) (p : PartId), s.hw.live = true ∧ s.hw.rd (PART_RUN.STATE p) = 0 ∧ s.hw.canActivate p = true) :=
  ⟨⟨st (fun h => { h with power := .running }), .host 0, by unfold State.admits; decide +kernel, by decide +kernel⟩,
    ⟨st (fun h => let h := { h with power := .running }; h.wrB WAKE_CFG.AUTO_SHUTDOWN true), by decide +kernel⟩,
    ⟨st (fun h => let h := h.setDie 0 { h.die 0 with clockBad := false }; h.setDie 1 { h.die 1 with clockBad := false }), .host 0, by unfold State.admits; decide +kernel, by decide +kernel, by decide +kernel, by decide +kernel, by decide +kernel⟩,
    ⟨(mach (fun h => let h := h.setDie 0 { h.die 0 with clockBad := false }; h.setDie 1 { h.die 1 with clockBad := false })), by decide +kernel⟩,
    ⟨st (fun h => let h := { h with power := .shutStopping }; h.wrB SHUTDOWN_CFG.DISCHARGE true), by decide +kernel⟩,
    ⟨st (fun h => let h := { h with power := .shutStopping }; h.wrB SHUTDOWN_CFG.DISCHARGE true), by decide +kernel⟩,
    ⟨st (fun h => let h := { h with power := .shutStopping }; let h := h.wrB SHUTDOWN_CFG.DISCHARGE false;
      let h := { h with keepPend := [] }; let h := { h with keepBlocked := [] }; let h := h.wrB KEEP_STATE.WRITE_OK true;
      let h := h.wrB ST_CFG.SHUTDOWN_EN true; { h with wakeShut := false }), by decide +kernel⟩,
    ⟨st (fun h => let h := { h with power := .shutTest }; let h := { h with keepPend := [] }; let h := { h with keepBlocked := [] };
      h.wrB KEEP_STATE.WRITE_OK true), by decide +kernel⟩,
    ⟨st (fun h => { h with power := .shutDone }), by decide +kernel⟩,
    ⟨st (fun h => let h := h.wr (PART_RUN.STATE (0 : PartId)) 0; let h := h.setPart 0 { h.part 0 with arming := true };
      h.wr FENCE_UNIT.REGION 15), 0, by decide +kernel⟩⟩

theorem meets_StepAndFrame :
    (∃ (s : State), s.hw.live = true) ∧
    (∃ (m : Mach) (p : PartId), m.hw.rd (PART_KEEP_STATUS.STATE p) = 1 ∧ m.hw.keepOpen = true ∧ m.hw.rd (PART_KEEP_STATUS.OP p) = 2) ∧
    (∃ (h : Hw) (k : BlockId), h.lanesRun k = false) ∧
    (∃ (h : Hw) (k : BlockId), h.lanesRun k = true) ∧
    (∃ (s : State), s.hw.live = true ∧ s.hw.frameDue = false) ∧
    (∃ (s : State), s.hw.live = true ∧ s.hw.frameDue = true) ∧
    (∃ (s : State) (p : PartId), s.hw.live = true ∧ (s.hw.part p).deadlock = true ∧ s.hw.terminalReached p = true) :=
  ⟨⟨st id, by decide +kernel⟩,
    ⟨(mach (fun h => let h := h.wr (PART_KEEP_STATUS.STATE (0 : PartId)) 1; let h := h.wrB KEEP_STATE.WRITE_OK true;
      h.wr (PART_KEEP_STATUS.OP (0 : PartId)) 2)), 0, by decide +kernel⟩,
    ⟨((fun h => h.wrBit FENCE_UNIT.BLOCK 7 true) base), 7, by decide +kernel⟩,
    ⟨base, 7, by decide +kernel⟩,
    ⟨st (fun h => { h with stepCount := 1 }), by decide +kernel⟩,
    ⟨st id, by decide +kernel⟩,
    ⟨st (fun h => let h := h.setPart (0 : PartId) { h.part (0 : PartId) with deadlock := true };
      h.setPart 0 { h.part 0 with reaction := true }), 0, by decide +kernel⟩⟩

theorem meets_LinksAndReturns :
    (∃ (s : State) (d : DieId), s.hw.live = true ∧ 2 ≤ d.val) ∧
    (∃ (s : State) (r : RegionId) (d : DieId) (slot : Fin 125), s.hw.live = true ∧ d.val = r.val + 2 ∧ slot.val ≤ 3) ∧
    (∃ (s : State) (d : DieId), s.hw.live = true ∧ 2 ≤ d.val ∧
       ((s.hw.die d).lost = true ∨ 4 ≤ (s.hw.die d).bad0 ∨ 4 ≤ (s.hw.die d).bad1)) ∧
    (∃ (s : State) (differ : Nat), s.hw.live = true ∧ ((∃ i < 6, differ.testBit i = true)) ∧ ((∃ i < 6,
       differ.testBit (6 + i) = true))) ∧
    (∃ (s : State) (r : RegionId) (differ : Nat), s.hw.live = true ∧ ((∀ i < 12, differ.testBit i = false)) ∧ ((∀ j < 2,
       s.hw.blockFenced (2 * r.val + j) = false)) ∧ s.hw.bit FENCE_UNIT.REGION r = false ∧ s.hw.chipFault = false) ∧
    (∃ (h : Hw) (c : CellId), (h.cell c).slotLost = false ∧ (h.cell c).capNew = none) ∧
    (∃ (s : State), s.hw.live = true) ∧
    (∃ (s : State) (q : Requester) (k : BlockId) (r : RegionId) (j : Fin 2),
       s.admits q (REGION_RETURN r) (BitVec.ofNat 32 (2 ^ j.val)) ∧ k.val = 2 * r.val + j.val ∧ s.hw.bit FENCE_UNIT.REGION r = true ∧
       s.hw.regionHolds k = true ∧ s.hw.blockActive k = true ∧ s.hw.on (REGION_RETURN.CLEARED r) = true ∧ s.hw.rd (returnState k) = 1) ∧
    (∃ (s : State) (k : BlockId) (r : RegionId) (j : Fin 2), s.hw.live = true ∧ k.val = 2 * r.val + j.val ∧
       s.hw.rd (returnState k) = 2 ∧ ((∀ i < 6, (s.hw.cell (6 * k.val + i)).diagStage = 0 ∧
       (s.hw.cell (6 * k.val + i)).preCharge = 0 ∧ s.hw.rd (LEG_DIAG_RESULT.STATE (6 * k.val + i)) ≠ 3))) ∧
    (∃ (s : State) (d : DieId) (answers : List DieAnswer), s.hw.live = true ∧ s.hw.dieAuthentic d answers = true ∧
       (d.val < 2 ∨ 5 < d.val)) ∧
    (∃ (s : State) (r : RegionId) (d : DieId) (answers : List DieAnswer), s.hw.live = true ∧ s.hw.dieAuthentic d answers = true ∧
       d.val = r.val + 2) ∧
    (∃ (s : State) (r : RegionId) (d : DieId) (answers : List DieAnswer), s.hw.live = true ∧ s.hw.dieAuthentic d answers = true ∧
       d.val = r.val + 2 ∧ (s.hw.die d).retrying = true) ∧
    (∃ (s : State) (d : DieId) (answers : List DieAnswer), s.hw.live = true ∧ s.hw.dieAuthentic d answers = false) ∧
    (∃ (s : State) (d : DieId) (answers : List DieAnswer), s.hw.live = true ∧ s.hw.dieAuthentic d answers = false ∧
       (s.hw.die d).retrying = true ∧ (s.hw.die d).retries < 2) ∧
    (∃ (s : State) (r : RegionId) (d : DieId) (answers : List DieAnswer), s.hw.live = true ∧ s.hw.dieAuthentic d answers = false ∧
       d.val = r.val + 2 ∧ (s.hw.die d).retrying = true ∧ 2 ≤ (s.hw.die d).retries) ∧
    (∃ (s : State) (d : DieId) (answers : List DieAnswer), s.hw.live = true ∧ s.hw.dieAuthentic d answers = false ∧
       (d = 0 ∨ d = 1 ∨ d = 7) ∧ (s.hw.die d).retrying = true ∧ 2 ≤ (s.hw.die d).retries) :=
  ⟨⟨st id, 7, by decide +kernel⟩,
    ⟨st id, 3, 5, 3, by decide +kernel⟩,
    ⟨st (fun h => h.setDie (7 : DieId) { h.die (7 : DieId) with lost := true }), 7, by decide +kernel⟩,
    ⟨st id, 0xFFF, by decide +kernel⟩,
    ⟨st (fun h => h.wrBit FENCE_UNIT.REGION (3 : RegionId) false), 3, 0, by decide +kernel⟩,
    ⟨((fun h => let h := h.setCell (47 : CellId) { h.cell (47 : CellId) with slotLost := false };
      h.setCell (47 : CellId) { h.cell (47 : CellId) with capNew := none }) base), 47, by decide +kernel⟩,
    ⟨st id, by decide +kernel⟩,
    ⟨st (fun h => let h := h.wrBit FENCE_UNIT.REGION (3 : RegionId) true;
      let h := h.wrB (REGION_RETURN.CLEARED (3 : RegionId)) true; h.wr (returnState (7 : BlockId)) 1), .host 0, 7, 3, 1, by unfold State.admits; decide +kernel, by decide +kernel, by decide +kernel, by decide +kernel, by decide +kernel, by decide +kernel, by decide +kernel⟩,
    ⟨st (fun h => h.wr (returnState (7 : BlockId)) 2), 7, 3, 1, by decide +kernel⟩,
    ⟨st id, 7, default, by decide +kernel⟩,
    ⟨st id, 3, 5, [], by decide +kernel⟩,
    ⟨st (fun h => h.setDie (5 : DieId) { h.die (5 : DieId) with retrying := true }), 3, 5, [], by decide +kernel⟩,
    ⟨st id, 5, [⟨5, 2, []⟩], by decide +kernel⟩,
    ⟨st (fun h => h.setDie (5 : DieId) { h.die (5 : DieId) with retrying := true }), 5, [⟨5, 2, []⟩], by decide +kernel⟩,
    ⟨st (fun h => let h := h.setDie (5 : DieId) { h.die (5 : DieId) with retrying := true };
      h.setDie 5 { h.die 5 with retries := 2 }), 3, 5, [⟨5, 2, []⟩], by decide +kernel⟩,
    ⟨st (fun h => let h := h.setDie (7 : DieId) { h.die (7 : DieId) with retrying := true };
      h.setDie 7 { h.die 7 with retries := 2 }), 7, [⟨7, 2, []⟩], by decide +kernel⟩⟩

end Sys2Proof.Tests
end

section
/-!
PROOF. Where a register row and the class of an address can lie, and which accesses leave addressed memory as it was.
-/
namespace Sys2Proof.Machine

-- ## Where a register row can lie

/-- How far beyond its base a row's registers reach. -/
def strideSpan (dims : List (Nat × Nat)) : Nat :=
  match dims with
  | [] => 0
  | (s, n) :: r => (n - 1) * s + strideSpan r

theorem strideIdx_le_span (dims : List (Nat × Nat)) (off : Nat) (l : List Nat) (h : strideIdx dims off = some l) :
    off ≤ strideSpan dims := by
  induction dims generalizing off l with
  | nil =>
    simp only [strideIdx] at h
    split at h
    · omega
    · simp at h
  | cons d r ih =>
    obtain ⟨s, n⟩ := d
    simp only [strideIdx, Option.map_eq_some_iff] at h
    obtain ⟨l', hr, -⟩ := h
    have hrest := ih _ _ hr
    have hi : min (off / max s 1) (n - 1) * s ≤ (n - 1) * s := Nat.mul_le_mul_right s (Nat.min_le_right _ _)
    simp only [strideSpan]
    omega

/-- The row that an address names is one of the list, and the address lies within its span. -/
theorem hitIn_row (rows : List RegRow) (a : Nat) (x : RegHit) (h : hitIn rows a = some x) :
    x.row ∈ rows ∧ a ≤ x.row.base + strideSpan x.row.dims := by
  induction rows with
  | nil => simp [hitIn] at h
  | cons row r ih =>
    simp only [hitIn] at h
    split at h
    · exact ⟨List.mem_cons_of_mem _ (ih h).1, (ih h).2⟩
    · split at h
      · next idx hs =>
        cases h
        have := strideIdx_le_span _ _ _ hs
        exact ⟨List.mem_cons_self, by dsimp only; omega⟩
      · exact ⟨List.mem_cons_of_mem _ (ih h).1, (ih h).2⟩

/-- Whether a write of a register with this hook may go on to a store of keep memory: a load's release, a keep operation, or the
discharge that a shutdown waits for. -/
def RegHook.stores (k : RegHook) : Bool :=
  match k with
  | .bsCtrl | .keepCtrl | .dschCtrl => true
  | _ => false

theorem regRows_stores_low : regRows.all (fun r => !r.hook.stores || decide (r.base + strideSpan r.dims < 0x20000)) = true := by
  decide +kernel

/-- A register whose write may store lies in the chip-control window. -/
theorem regHit_stores_low (a : Nat) (x : RegHit) (h : regHit a = some x) (hs : x.row.hook.stores = true) : a < 0x20000 := by
  obtain ⟨hm, ha⟩ := hitIn_row _ _ _ h
  have hb := List.all_eq_true.1 regRows_stores_low _ hm
  simp only [hs, Bool.not_true, Bool.false_or, decide_eq_true_eq] at hb
  split at ha <;> omega

-- ## Targets outside the registers

/-- Whether a word of this class may be stored in addressed memory (Tables 1-6 to 1-8). -/
def Target.stores (t : Target) : Bool :=
  match t with
  | .frameBuf | .capture _ | .lanes _ | .keep _ => true
  | _ => false

theorem chipTarget_stores (a : Nat) : (chipTarget a).stores = false := by
  unfold chipTarget
  repeat' split
  all_goals rfl

theorem measTarget_stores (a : Nat) : (measTarget a).stores = false := by
  unfold measTarget
  repeat' split
  all_goals rfl

/-- The addresses whose words can be stored: lane memory and the capture units, the frame buffer, and keep memory. -/
def storable (a : Nat) : Prop :=
  (0x21008000 ≤ a ∧ a < 0x22400000) ∨ (0x40061000 ≤ a ∧ a < 0x40062000) ∨ (0x50010000 ≤ a ∧ a < 0x51000000)

/-- A class that an address may have: one whose words are stored only where the address is storable, and of keep memory only the address's
own sector. -/
def Target.fits (a : Nat) (t : Target) : Prop := (t.stores = true → storable a) ∧ ∀ n, t = .keep n → n = keepSector a

theorem Target.fits.unstored {a : Nat} {t : Target} (h : t.stores = false) : t.fits a :=
  ⟨fun hs => by simp [h] at hs, fun n hn => by simp [hn, Target.stores] at h⟩

theorem Target.fits.storable {a : Nat} {t : Target} (ha : storable a) (h : ∀ n, t ≠ .keep n) : t.fits a :=
  ⟨fun _ => ha, fun n hn => absurd hn (h n)⟩

theorem Target.fits.ite {a : Nat} {c : Prop} [Decidable c] {t e : Target} (ht : c → t.fits a) (he : ¬ c → e.fits a) :
    (if c then t else e).fits a := iteInduction ht he

/-- The class of an address fits it: the windows of Tables 1-6 to 1-8, and then the registers, none of which is a store's target. -/
theorem targetOf_fits (a : Nat) : (targetOf a).fits a := by
  unfold targetOf
  refine .ite (fun _ => .unstored rfl) fun _ => .ite (fun hl => ?lanes) fun _ =>
    .ite (fun _ => .unstored rfl) fun _ => .ite (fun hc => .storable (.inl (by omega)) nofun) fun _ =>
    .ite (fun _ => .unstored rfl) fun _ => .ite (fun hf => .storable (.inr (.inl hf)) nofun) fun _ =>
    .ite (fun _ => .unstored rfl) fun _ => .ite (fun hk => ⟨fun _ => .inr (.inr hk), fun n hn => ?keep⟩) fun _ =>
    .ite (fun _ => .unstored rfl) fun _ => .ite (fun _ => .unstored rfl) fun _ =>
    .ite (fun _ => .unstored rfl) fun _ => ?register
  case lanes =>
    split
    · exact .storable (.inl (by omega)) nofun
    · exact .unstored rfl
  case keep => exact (Target.keep.inj hn).symm
  case register =>
    split
    · exact .unstored rfl
    · refine .ite (fun _ => .unstored (chipTarget_stores a)) fun _ =>
        .ite (fun _ => .ite (fun _ => .unstored rfl) fun _ => .unstored rfl) fun _ =>
        .ite (fun _ => .unstored rfl) fun _ =>
        .ite (fun _ => .ite (fun _ => .unstored rfl) fun _ => .unstored rfl) fun _ =>
        .ite (fun _ => .unstored rfl) fun _ => .ite (fun _ => .unstored (measTarget_stores a)) fun _ =>
        .ite (fun _ => .unstored rfl) fun _ => .ite (fun _ => .unstored rfl) fun _ => .unstored rfl

/-- A keep target is the sector of its address. -/
theorem targetOf_keep {a n : Nat} (h : targetOf a = .keep n) : n = keepSector a := (targetOf_fits a).2 n h

-- ## Writes

/-- A write outside the registers stores nothing at an address that is not storable. -/
theorem Mach.memStore_mem (m : Mach) (q : Requester) (a : Nat) (v : Word) (ha : ¬ storable a) : (m.memStore q a v).2.mem = m.mem := by
  have ht : (targetOf a).stores = false := Bool.eq_false_iff.2 (mt (targetOf_fits a).1 ha)
  unfold Mach.memStore
  cases hc : targetOf a with
  | frameBuf | capture | lanes | keep => simp [hc, Target.stores] at ht
  | keyStore off => dsimp only; split <;> rfl
  | _ => rfl

@[simp] theorem Mach.onHw_mem (m : Mach) (f : Hw → Hw) : (m.onHw f).mem = m.mem := rfl

@[simp] theorem Mach.warmRestart_mem (m : Mach) (edge : Bool) : (m.warmRestart edge).mem = m.mem := Mach.onHw_mem m _

/-- A power command acts on the dies alone (R75). -/
theorem Mach.powerCmdWrite_mem (m : Mach) (v : Word) : (m.powerCmdWrite v).2.mem = m.mem := by
  simp [Mach.powerCmdWrite, apply_ite Prod.snd, apply_ite Mach.mem]

/-- RELOAD and ABORT act on the load machine alone; SWITCH may apply a load (R98). -/
theorem Mach.bsCtrlWrite_mem (m : Mach) (q : Requester) (v : Word) (hv : v.getLsbD 0 = true ∨ v.getLsbD 1 = true) :
    (m.bsCtrlWrite q v).2.mem = m.mem := by
  unfold Mach.bsCtrlWrite
  split
  · rcases hv with h | h <;> simp [h, apply_ite Mach.mem]
  · rfl

/-- A register write whose hook does not go on to a store leaves memory. -/
theorem Mach.unitStore_mem (m : Mach) (q : Requester) (x : RegHit) (a : Nat) (v : Word) (hx : x.row.hook.stores = false) :
    (m.unitStore q x a v).2.mem = m.mem := by
  unfold Mach.unitStore
  split
  case h_1 h | h_4 h | h_5 h => simp [h, RegHook.stores] at hx
  case h_3 => exact m.powerCmdWrite_mem v
  case h_2 | h_6 => rfl

/-- A write stores nothing where neither its unit nor the memory at its address does. -/
theorem Mach.busWrite_mem (m : Mach) (q : Requester) (addr : Nat) (v : Word)
    (hu : ∀ x, regHit (addr / 4 * 4) = some x → (m.unitStore q x (addr / 4 * 4) v).2.mem = m.mem)
    (hm : regHit (addr / 4 * 4) = none → ¬ storable (addr / 4 * 4)) : (m.busWrite q addr v).2.mem = m.mem := by
  cases h : regHit (addr / 4 * 4) with
  | some x => simp [Mach.busWrite, h, apply_ite Prod.snd, apply_ite Mach.mem, hu x h]
  | none => simp [Mach.busWrite, h, apply_ite Prod.snd, apply_ite Mach.mem, m.memStore_mem q _ v (hm h)]

-- ## Reads

theorem Mach.keepRead_mem (m : Mach) (key a ecc : Nat) : (m.keepRead key a ecc).2.2.mem = m.mem := by
  unfold Mach.keepRead
  dsimp only
  repeat' split
  all_goals rfl

theorem Mach.memLoad_mem (m : Mach) (q : Requester) (a ecc : Nat) : (m.memLoad q a ecc).2.2.mem = m.mem := by
  unfold Mach.memLoad
  split
  · rfl
  · split
    case h_4 | h_5 => exact m.keepRead_mem _ _ _
    all_goals rfl

/-- A read stores nothing. -/
theorem Mach.busRead_mem (m : Mach) (q : Requester) (who addr ecc : Nat) : (m.busRead q who addr ecc).2.mem = m.mem := by
  unfold Mach.busRead
  dsimp only
  split
  · rfl
  · rfl
  · split
    · rfl
    · split
      · split
        · split <;> rfl
        · rfl
      · split <;> exact m.memLoad_mem q _ ecc

theorem Mach.read_mem (m : Mach) (q : Requester) (addr ecc : Nat) : (m.read q addr ecc).mem = m.mem := by
  have h := m.busRead_mem q (whoRead q) addr ecc
  unfold Mach.read
  split <;> simp_all [Mach.onHw]

end Sys2Proof.Machine
end

section
/-!
PROOF. Every command answers a next state, and only the commands that may store change memory.
-/
namespace Sys2Proof.Machine

/-- The outcome is a next state with the queue as it was, and with memory as it was unless `stores` says that it may change. -/
def Answers (s : State) (stores : Bool) (o : Host.Outcome State Fault Refusal) : Prop :=
  ∃ m h, o = s.toMach m h ∧ (stores = false → m = s.mem)

-- ## The ways in which a command acts on the state

theorem Answers.onHw (s : State) (b : Bool) (f : Hw → Hw) : Answers s b (s.onHw f) := ⟨s.mem, f s.hw, rfl, fun _ => rfl⟩

theorem Answers.onLive (s : State) (b : Bool) (f : Hw → Hw) : Answers s b (s.onLive f) := ⟨s.mem, _, rfl, fun _ => rfl⟩

theorem Answers.onAny (s : State) (f : Mach → Mach) : Answers s true (s.onAny f) := ⟨_, _, rfl, nofun⟩

theorem Answers.onAny_kept (s : State) (b : Bool) (f : Mach → Mach) (hf : (f ⟨s.mem, s.hw⟩).mem = s.mem) : Answers s b (s.onAny f) :=
  ⟨_, _, rfl, fun _ => hf⟩

theorem Answers.onMach_kept (s : State) (b : Bool) (f : Mach → Mach) (hf : b = false → (f ⟨s.mem, s.hw⟩).mem = s.mem) :
    Answers s b (s.onMach f) := by
  unfold State.onMach
  split
  · exact ⟨_, _, rfl, hf⟩
  · exact ⟨s.mem, s.hw, rfl, fun _ => rfl⟩

theorem Answers.onMach (s : State) (f : Mach → Mach) : Answers s true (s.onMach f) := .onMach_kept s true f nofun

theorem Answers.onBus_kept (s : State) (b : Bool) (q : Requester) (f : Mach → Mach)
    (hf : b = false → (f ⟨s.mem, s.hw⟩).mem = s.mem) : Answers s b (s.onBus q f) := by
  unfold State.onBus
  split
  case h_1 | h_2 => exact ⟨s.mem, _, rfl, fun _ => rfl⟩
  case h_3 => exact .onMach_kept s b f hf

theorem Answers.onBus (s : State) (q : Requester) (f : Mach → Mach) : Answers s true (s.onBus q f) := .onBus_kept s true q f nofun

theorem Answers.regRead (s : State) (b : Bool) (q : Requester) (r : RegId) : Answers s b (s.regRead q r) :=
  .onBus_kept s b q _ fun _ => Mach.read_mem _ q _ _

-- ## Register writes that store nothing

/-- A register whose write ends in its unit: it lies neither in the chip-control window nor at a storable address. -/
def RegId.unstored (r : RegId) : Prop := 0x20000 ≤ r.addr ∧ ¬ storable r.addr

theorem Answers.regWrite_hit (s : State) (b : Bool) (q : Requester) (r : RegId) (v : Word) (x : RegHit)
    (hx : regHit (r.addr / 4 * 4) = some x)
    (hu : ((Mach.mk s.mem s.hw).unitStore q x (r.addr / 4 * 4) v).2.mem = s.mem) : Answers s b (s.regWrite q r v) :=
  .onBus_kept s b q _ fun _ => Mach.busWrite_mem _ q _ v (fun y hy => by
    obtain rfl : x = y := Option.some.inj (hx.symm.trans hy)
    exact hu) (fun h => by simp [hx] at h)

theorem Answers.regWrite (s : State) (b : Bool) (q : Requester) (r : RegId) (v : Word) (hr : r.unstored) :
    Answers s b (s.regWrite q r v) := by
  obtain ⟨hlow, hout⟩ := hr
  refine .onBus_kept s b q _ fun _ => Mach.busWrite_mem _ q _ v (fun x hx => ?_) (fun _ => ?_)
  · refine Mach.unitStore_mem _ q x _ v (Bool.eq_false_iff.2 fun hs => ?_)
    have := regHit_stores_low _ x hx hs
    omega
  · unfold storable at hout ⊢
    omega

theorem cellBase_range (c : CellId) : 0x10500000 ≤ cellBase c ∧ cellBase c ≤ 0x13750000 := by
  unfold cellBase
  omega

theorem blockBase_range (k : BlockId) : 0x10400000 ≤ blockBase k ∧ blockBase k ≤ 0x13600000 := by
  unfold blockBase
  omega

theorem RegId.unstored_cell (c : CellId) (off : Nat) (w : Word) (ho : off < 0x10000) : RegId.unstored ⟨cellBase c + off, w⟩ := by
  have := cellBase_range c
  simp only [RegId.unstored, storable]
  omega

theorem RegId.unstored_block (k : BlockId) (off : Nat) (w : Word) (ho : off < 0x10000) : RegId.unstored ⟨blockBase k + off, w⟩ := by
  have := blockBase_range k
  simp only [RegId.unstored, storable]
  omega

/-- Entry i of a table of `n` registers in a block's window. -/
theorem RegId.unstored_blockTable {n : Nat} (k : BlockId) (i : Fin n) (off step : Nat) (w : Word) (ho : off + (n - 1) * step < 0x10000) :
    RegId.unstored ⟨blockBase k + off + i * step, w⟩ := by
  have hi : i * step ≤ (n - 1) * step := Nat.mul_le_mul_right step (by omega)
  rw [Nat.add_assoc]
  exact RegId.unstored_block k _ w (by omega)

/-- Entry i of a table of `n` registers outside the windows that are stored. -/
theorem RegId.unstored_table {n : Nat} (i : Fin n) (base step : Nat) (w : Word)
    (hb : (0x20000 ≤ base ∧ base + (n - 1) * step < 0x21008000) ∨ (0x22400000 ≤ base ∧ base + (n - 1) * step < 0x40061000) ∨
      (0x40062000 ≤ base ∧ base + (n - 1) * step < 0x50010000)) : RegId.unstored ⟨base + i * step, w⟩ := by
  have hi : i * step ≤ (n - 1) * step := Nat.mul_le_mul_right step (by omega)
  simp only [RegId.unstored, storable]
  omega

theorem measCtrlReg_unstored (n : ConvId) : (measCtrlReg n).unstored := by
  have := n.isLt
  unfold measCtrlReg
  split <;> simp only [RegId.unstored, storable, MEAS_CH_CTRL, MEAS_AUX_CTRL] <;> omega

/-- A RELOAD command sets bit 0 of BS_CTRL's value, whatever the load and its HOLD are (R99). -/
theorem bsCtrlValue_reload (part source hold : Nat) : (bsCtrlValue part source (1 + 8 * hold)).getLsbD 0 = true := by
  simp only [bsCtrlValue, BitVec.getLsbD_ofNat, Nat.testBit_zero, Bool.and_eq_true, decide_eq_true_eq]
  omega

/-- A page write or a clear is queued: it stores nothing yet (R543). -/
theorem Mach.keepCtrlWrite_mem (m : Mach) (p : Nat) (v : Word) (hv : v.getLsbD 0 = true ∨ v.getLsbD 1 = true) :
    (m.keepCtrlWrite p v).2.mem = m.mem := by
  rcases hv with h | h <;> simp [Mach.keepCtrlWrite, h, apply_ite Prod.snd, apply_ite Mach.mem]

theorem regHit_of_isCommandReg {r : RegId} {hk : RegHook} {idx : List Nat} (hc : isCommandReg r hk idx = true) :
    ∃ x, regHit (r.addr / 4 * 4) = some x ∧ x.row.hook = hk := by
  unfold isCommandReg at hc
  split at hc
  · next x hx =>
    simp only [Bool.and_eq_true, beq_iff_eq, decide_eq_true_eq] at hc
    obtain ⟨h4, ⟨hh, -⟩, -⟩ := hc
    exact ⟨x, h4.symm ▸ hx, hh⟩
  · simp at hc

theorem Answers.regWrite_command (s : State) (b : Bool) (q : Requester) (r : RegId) (v : Word) (hk : RegHook) (idx : List Nat)
    (hc : isCommandReg r hk idx = true)
    (hu : ∀ (m : Mach) (x : RegHit) (a : Nat), x.row.hook = hk → (m.unitStore q x a v).2.mem = m.mem) :
    Answers s b (s.regWrite q r v) := by
  obtain ⟨x, hx, hh⟩ := regHit_of_isCommandReg hc
  exact .regWrite_hit s b q r v x hx (hu _ x _ hh)

/-- RELOAD and ABORT. -/
theorem Answers.bsCtrl (s : State) (b : Bool) (q : Requester) (v : Word) (hv : v.getLsbD 0 = true ∨ v.getLsbD 1 = true) :
    Answers s b (s.regWrite q BS_CTRL v) :=
  .regWrite_command s b q _ v .bsCtrl [] (by decide +kernel) fun m x a hx => by
    simpa only [Mach.unitStore, hx] using m.bsCtrlWrite_mem q v hv

/-- WRITE_PAGE and CLEAR. -/
theorem Answers.keepCtrl (s : State) (b : Bool) (q : Requester) (p : PartId) (v : Word) (hv : v.getLsbD 0 = true ∨ v.getLsbD 1 = true) :
    Answers s b (s.regWrite q (PART_KEEP_CTRL p) v) :=
  .regWrite_command s b q _ v .keepCtrl [p] (by revert p; decide +kernel) fun m x a hx => by
    simpa only [Mach.unitStore, hx] using m.keepCtrlWrite_mem _ v hv

/-- A command register of the chip-control window whose hook does not go on to a store. -/
theorem Answers.regWrite_unstored (s : State) (b : Bool) (q : Requester) (r : RegId) (v : Word) (hk : RegHook)
    (hs : hk.stores = false) (hc : isCommandReg r hk [] = true) : Answers s b (s.regWrite q r v) :=
  .regWrite_command s b q r v hk [] hc fun m x a hx => m.unitStore_mem q x a v (hx ▸ hs)

theorem Answers.opSecondsIncrement (s : State) : Answers s true (execOpSecondsIncrement s) := by
  unfold execOpSecondsIncrement
  split
  · exact ⟨_, _, rfl, nofun⟩
  · exact ⟨s.mem, s.hw, rfl, nofun⟩

theorem Answers.powerOn (s : State) (b : Bool) : Answers s b (execPowerOn s) :=
  .onAny_kept s b _ (by simp [apply_ite Mach.mem])

-- ## Every command

/-- Every command answers; its outcome may change memory only where the list of storing commands has it. -/
theorem exec_answers (c : Instr) (s : State) : Answers s c.mayStore (exec c s) := by
  unfold exec
  cases c with
  -- commands that may store
  | stepBoundary | frameBoundary | partitionActivate | shutdownStopped | stopTimeout | shutdownTestEnd | enterStandby | keepWriteRetry
  | checksDone | reloadApplySet | serialRequestExecuted | canServiceExecuted | accessComplete | dischargeDone | dischargeTimeout
  | windowEnd | laneEnd | sresetEdge | dbgAccessExecute | dbgThreadRegWrite | masterFrameDone | pageWriteDone | clearDone =>
    exact .onMach s _
  | coldStart | pllLock | aonReset | wakePinEdge | canWakeUpPattern | supplyDip | vsupLow => exact .onAny s _
  | opSecondsIncrement => exact .opSecondsIncrement s
  | registerWrite | restart | keepLowerWrite | keepUpperWrite | recReset | bsSwitch | dschStart | dschStop => exact .onBus s _ _
  -- events on the part alone
  | powerOn => exact .powerOn s _
  | gateTurnOff | preLevelReached | preTimeout | dvdtTransition | weakTimeout | interlockConfirm | blankEnd | shortCircuitDetect
  | softTurnOffEnd | stoPinFall | stoPinRise => exact .onHw s _ _
  -- reads
  | tbStepLoRead q phase | keepLowerRead q addr ecc => exact .onBus_kept s _ q _ fun _ => Mach.read_mem _ q _ _
  | sampleIRead | measVRead | positionRead | accChargeRead => exact .regRead s _ _ _
  -- writes of command registers
  | shutdown => exact .regWrite_unstored s _ _ _ _ .powerCmd rfl (by decide +kernel)
  | bsPortWrite => exact .regWrite_unstored s _ _ _ _ .bsPort rfl (by decide +kernel)
  | bsReload => exact .bsCtrl s _ _ _ (.inl (bsCtrlValue_reload _ _ _))
  | bsAbort => exact .bsCtrl s _ _ _ (.inr (by decide))
  | writePage => exact .keepCtrl s _ _ _ _ (.inl (by decide))
  | keepClear => exact .keepCtrl s _ _ _ _ (.inr (by decide))
  | diagRun | tripLatchedClear | reentryRequest | chanRestart | accStart | accStop | accClear =>
    exact .regWrite s _ _ _ _ (RegId.unstored_cell _ _ _ (by decide))
  | injStart | injStop | capArm | capStop => exact .regWrite s _ _ _ _ (RegId.unstored_block _ _ _ (by decide))
  | inputValueWrite | lawClear | cmpArm | cmpDisarm => exact .regWrite s _ _ _ _ (RegId.unstored_blockTable _ _ _ _ _ (by decide))
  | measStart | measStop | measCal => exact .regWrite s _ _ _ _ (measCtrlReg_unstored _)
  | hsStart | hsSubmit | threadStart | threadStop | seqFlagsSet | seqFlagsClear | seqCommitWrite | regionReturnRequest | capAreaStart
  | capAreaStop | safeCmdWrite | objOpen | objClose | objSend | canStart | canStop | canRecover =>
    exact .regWrite s _ _ _ _ (RegId.unstored_table _ _ _ _ (by decide))
  | enrol | rotate | roleWrite | swFrameGo | xipInvalidate => exact .regWrite s _ _ _ _ (by unfold RegId.unstored storable; decide)
  -- every other event
  | _ => exact .onLive s _ _

/-- Settles O4: an outcome that may change memory only where `Instr.mayStore` has it is a `State.to` elsewhere. -/
theorem everyCommandAnswers : Obligations.EveryCommandAnswers := by
  refine ⟨fun c s => ?_, fun c s hc => ?_⟩
  · obtain ⟨m, h, he, -⟩ := exec_answers c s
    exact ⟨m, h, he⟩
  · obtain ⟨m, h, he, hm⟩ := exec_answers c s
    exact ⟨h, by rw [he, hm hc]; rfl⟩

end Sys2Proof.Machine
end

section
/-!
PROOF. Accesses whose checks pass or refuse, as one next state: reads of keep memory, and the write of a plain register.
-/
namespace Sys2Proof.Machine

/-- An access that the Turnstile lets pass is of an aligned word (R105). -/
theorem Hw.aligned_of_turnstile {h : Hw} {q : Requester} {addr : Nat} {write : Bool} {v : Word}
    (ht : h.turnstile q addr write v = (none, none)) : addr % 4 = 0 := by
  by_contra hn
  simp only [Hw.turnstile, hn, ne_eq, not_false_eq_true, if_true] at ht
  split at ht
  · cases ht
  · grind

-- ## Commands that are one access

/-- A write command is the access and its answer. -/
theorem State.onBus_write (s : State) (q : Requester) (addr : Nat) (v : Word) (hl : s.hw.live = true) {st : Status} {m : Mach}
    (hw : (Mach.mk s.mem s.hw).busWrite q addr v = (st, m)) :
    s.onBus q (fun m => m.write q addr v) = s.toMach m.mem (m.hw.answer st 0) := by
  rw [State.onBus_live _ _ _ hl, Mach.write, hw]
  rfl

/-- A read command that does not wait is the access and its answer. -/
theorem State.onBus_read (s : State) (q : Requester) (addr ecc : Nat) (hl : s.hw.live = true) {st : Status} {w : Word} {m : Mach}
    (hr : (Mach.mk s.mem s.hw).busRead q (whoRead q) addr ecc = (some (st, w), m)) :
    s.onBus q (fun m => m.read q addr ecc) = s.toMach m.mem (m.hw.answer st w) := by
  rw [State.onBus_live _ _ _ hl, Mach.read, hr]
  rfl

/-- A write that the Turnstile refuses with AUTH is refused before any unit, whatever the unit would answer (R105). -/
theorem Mach.busWrite_auth (m : Mach) (q : Requester) (addr : Nat) (v : Word) (hp : m.hw.preStatus q addr v = .auth) :
    m.busWrite q addr v = (.auth, m.onHw (fun h => h.refused q .auth addr)) := by
  simp [Mach.busWrite, hp, Status.rank]

/-- A write that its unit accepts (R108). -/
theorem Mach.busWrite_unit (m : Mach) (q : Requester) (addr : Nat) (v : Word) (x : RegHit) (n : Mach)
    (hp : m.hw.preStatus q addr v = .ok) (h4 : addr % 4 = 0) (hx : regHit addr = some x) (hu : m.unitStore q x addr v = (.ok, n)) :
    m.busWrite q addr v = (.ok, n.onHw (fun h => h.ramWritten addr)) := by
  have ha : addr / 4 * 4 = addr := by omega
  simp [Mach.busWrite, ha, hp, hx, hu]

/-- A plain register takes the word that its fields' access codes leave (R8). -/
theorem Mach.unitStore_plain (m : Mach) (q : Requester) (x : RegHit) (a : Nat) (v : Word) (h : Hw) (hk : x.row.hook = .plain)
    (hh : h = m.hw.setReg (x.id a) (x.row.next (m.hw.reg (x.id a)) v))
    (hf : h.fieldsFit (m.hw.partOf q) x a (judgedBy (m.hw.reg (x.id a)) v) = true) (hc : h.chanTablesOk = true) :
    m.unitStore q x a v = (.ok, ⟨m.mem, h⟩) := by
  subst hh
  simp [Mach.unitStore, hk, Hw.registerWrite, hf, hc, Hw.unitWrite]

-- ## Keep memory

/-- A read that the checks let pass reaches keep memory at its own address. -/
theorem Mach.busRead_keep (m : Mach) (q : Requester) (who addr ecc n : Nat) (ht : m.hw.turnstile q addr false 0 = (none, none))
    (hx : regHit addr = none) (hk : targetOf addr = .keep n) (hb : m.hw.ramBad.contains addr = false) {st : Status} {w : Word} {m' : Mach}
    (hr : m.keepRead (m.hw.copyKey q) addr ecc = (st, w, m')) :
    m.busRead q who addr ecc = if st = .ok then (some (.ok, w), m') else m'.readRefused q st addr := by
  have ha : addr / 4 * 4 = addr := by have := Hw.aligned_of_turnstile ht; omega
  have hl : m.memLoad q addr ecc = (st, w, m') := by
    simp only [Mach.memLoad, hb, hk, hr, Bool.false_eq_true, if_false]
  simp only [Mach.busRead, ht, ha, hx, hk, hl, reduceCtorEq, if_false]

theorem Mach.keepRead_lower (m : Mach) (key a : Nat) (hc : m.hw.keepClearing (keepSector a) = false)
    (hh : m.hw.keepHalf (keepSector a) = false) (h8 : a % 8 = 0) :
    m.keepRead key a 0 = (.ok, m.keepWord a, ⟨m.mem, { m.hw with
      fresh := m.hw.fresh + Num.ofBool (m.hw.pageRuns a).isSome
      keepCopies := Tab.put m.hw.keepCopies key (a + 4, m.keepWord (a + 4)) (0, 0) }⟩) := by
  simp [Mach.keepRead, hc, hh, h8]

theorem Mach.keepRead_upper (m : Mach) (key a : Nat) (w : Word) (hc : m.hw.keepClearing (keepSector a) = false)
    (hh : m.hw.keepHalf (keepSector a) = false) (h8 : a % 8 = 4) (hw : Tab.get m.hw.keepCopies key (0, 0) = (a, w)) :
    m.keepRead key a 0 = (.ok, w, ⟨m.mem, { m.hw with
      fresh := m.hw.fresh + Num.ofBool (m.hw.pageRuns a).isSome
      keepCopies := Tab.put m.hw.keepCopies key (0, 0) (0, 0) }⟩) := by
  simp only [Mach.keepRead, hc, hh, h8, hw, Bool.false_eq_true, if_false, if_true, zero_ne_one, OfNat.zero_ne_ofNat, OfNat.ofNat_ne_zero]

theorem Mach.keepRead_bad (m : Mach) (key a : Nat) (hc : m.hw.keepClearing (keepSector a) = false)
    (hh : m.hw.keepHalf (keepSector a) = false) :
    m.keepRead key a 2 = (.range, 0, ⟨m.mem,
      ((m.hw.incTop KEEP_ECC.UNCORRECTABLE).wr KEEP_ECC_ADDR.ADDRESS (a / 8 * 8)).record (faultCode 6 0 0x01)⟩) := by
  simp [Mach.keepRead, hc, hh]

/-- The word of a page whose write runs is the old one or that of the page buffer (R546). -/
theorem Mach.keepWord_running (m : Mach) (a p : Nat) (hp : m.hw.pageRuns a = some p) :
    m.keepWord a = m.mem.word a ∨ m.keepWord a = m.hw.reg (PART_KEEP_PAGE p ((a - m.hw.rd (PART_KEEP_ADDR.ADDR p)) / 4)) := by
  simp only [Mach.keepWord, hp]
  split
  · exact .inl rfl
  · exact .inr rfl

/-- Settles O52: each clause is one access, taken through the checks of R105 to the unit that answers it. -/
theorem keepAccess : Obligations.KeepAccess := by
  unfold Obligations.KeepAccess
  refine ⟨?lower, ?still, Mach.keepWord_running, ?upper, ?bad, ?plain, ?codes, ?auth⟩
  case lower =>
    intro s q addr n hl ht hx hk h8 hb hc hh
    obtain rfl := targetOf_keep hk
    have hr := Mach.busRead_keep ⟨s.mem, s.hw⟩ q (whoRead q) _ 0 _ ht hx hk hb (Mach.keepRead_lower _ _ _ hc hh h8)
    exact s.onBus_read q addr.toNat 0 hl (hr.trans (if_pos rfl))
  case still => intro m a hp; simp only [Mach.keepWord, hp]
  case upper =>
    intro s q addr n w hl ht hx hk h8 hb hc hh hw
    obtain rfl := targetOf_keep hk
    have hr := Mach.busRead_keep ⟨s.mem, s.hw⟩ q (whoRead q) _ 0 _ ht hx hk hb (Mach.keepRead_upper _ _ _ w hc hh h8 hw)
    exact s.onBus_read q addr.toNat 0 hl (hr.trans (if_pos rfl))
  case bad =>
    intro s q addr n hl ht hx hk hb hc hh
    obtain rfl := targetOf_keep hk
    have hr := Mach.busRead_keep ⟨s.mem, s.hw⟩ q (whoRead q) _ 2 _ ht hx hk hb (Mach.keepRead_bad _ _ _ hc hh)
    exact s.onBus_read q addr.toNat 2 hl (hr.trans (if_neg (by decide)))
  case plain =>
    intro s q addr v x hl hp h4 hx hk hf hc
    exact s.onBus_write q addr.toNat v hl (Mach.busWrite_unit ⟨s.mem, s.hw⟩ q _ v x _ hp h4 hx
      (Mach.unitStore_plain _ q x _ v _ hk rfl hf hc))
  case codes =>
    intro f old v
    unfold FieldRow.next
    cases f.acc <;> rfl
  case auth =>
    intro s q addr v hl hp
    exact s.onBus_write q addr.toNat v hl (Mach.busWrite_auth ⟨s.mem, s.hw⟩ q _ v hp)

end Sys2Proof.Machine
end

section
/-!
PROOF. A command record against a region whose return state and fence bit disagree.
-/
namespace Sys2Proof.Machine

/-- Block 0 is held by its region's return state, with no bit of FENCE_UNIT set. -/
def heldByReturn : State := { hw := ({ power := .running } : Hw).wr (REGION_RETURN.STATE_0 0) 1 }

/-- The duty that cell 0 has received in this step. -/
def dutyReceived (o : Host.Outcome State Fault Refusal) : Option Nat :=
  match o with
  | .next t => (t.hw.cell 0).dutyIn
  | _ => none

/-- Refutes O60: the clause of equal command records takes FENCE_UNIT's bit to say that the region holds no block, but a record stops at
REGION_RETURN's STATE_j; where that alone holds block 0, cell 0 gets no command. -/
theorem not_linksAndReturns : ¬ Obligations.LinksAndReturns := by
  unfold Obligations.LinksAndReturns
  rintro ⟨-, -, -, -, -, equalRecords, -⟩
  have stated := congrArg dutyReceived (equalRecords heldByReturn 0 0 (by decide +kernel) (fun _ _ => Nat.zero_testBit _)
    (by decide +kernel) (by decide +kernel) (by decide +kernel))
  have modelled : dutyReceived (exec (.commandRecordReceived 0 0) heldByReturn) = none := by decide +kernel
  rw [modelled] at stated
  revert stated
  decide +kernel

end Sys2Proof.Machine
end

section
/-!
PROOF. The step boundary, the sample latch, COMMIT and the frame boundary.
-/
namespace Sys2Proof.Machine

-- ## Loops

/-- A loop of which one index alone acts on a view of the state. -/
theorem Num.forEach_at {σ β : Type} (g : σ → β) (u : β → β) (n t : Nat) (f : Nat → σ → σ) (s : σ) (ht : t < n)
    (hne : ∀ i x, i ≠ t → g (f i x) = g x) (heq : ∀ x, g (f t x) = u (g x)) : g (Num.forEach n f s) = u (g s) := by
  have key : ∀ (l : List Nat) (x : σ), l.Nodup → g (l.foldl (fun a i => f i a) x) = if t ∈ l then u (g x) else g x := by
    intro l
    induction l with
    | nil => intro x _; rfl
    | cons a l ih =>
      intro x hl
      obtain ⟨ha, hl⟩ := List.nodup_cons.1 hl
      rw [List.foldl_cons, ih _ hl]
      by_cases h : a = t
      · subst h; simp [ha, heq]
      · simp [hne a x h, Ne.symm h]
  exact (key _ s List.nodup_range).trans (if_pos (List.mem_range.2 ht))

-- ## The step boundary

/-- The chip fault stands over a write of another register. -/
theorem Hw.chipFault_wr (h : Hw) (f : Fld) (v : Nat) (hf : CHIP_FAULT.addr ≠ f.reg.addr) : (h.wr f v).chipFault = h.chipFault := by
  simp only [Hw.chipFault, Hw.rd_wr_ne h f CHIP_FAULT.CODE v hf]

theorem Hw.stepOpens_chipFault (h : Hw) (n : Nat) :
    (({ h with stepCount := h.stepCount + 1, phase := 0, tick := 0 } : Hw).wr RM_STATUS.STEP_IN_FRAME n).chipFault = h.chipFault :=
  Hw.chipFault_wr _ _ _ (by decide)

/-- Block k and its event flags. -/
def Hw.flagsOf (k : Nat) (h : Hw) : Block × Word := (h.block k, h.reg (BLK_SEQ_FLAGS k))

theorem Hw.flagsKept_flagsOf (h : Hw) (k : Nat) (hk : k < 8) :
    h.flagsKept.flagsOf k = ({ h.block k with capFlags := (h.reg (BLK_SEQ_FLAGS k)).toNat }, h.reg (BLK_SEQ_FLAGS k)) := by
  unfold Hw.flagsKept
  refine Num.forEach_at (Hw.flagsOf k) (fun e => ({ e.1 with capFlags := e.2.toNat }, e.2)) 8 k _ h hk (fun i x hi => ?_) (fun x => ?_)
  · simp only [Hw.flagsOf, Hw.updBlock, Hw.setBlock_reg, Hw.setBlock_block_ne _ _ _ _ (Ne.symm hi)]
  · simp only [Hw.flagsOf, Hw.updBlock, Hw.setBlock_reg, Hw.setBlock_block]

/-- A capture unit keeps the flags of its own block (R301). -/
theorem Hw.flagsKept_block (h : Hw) (k : Nat) (hk : k < 8) :
    h.flagsKept.block k = { h.block k with capFlags := (h.reg (BLK_SEQ_FLAGS k)).toNat } := by
  have key := h.flagsKept_flagsOf k hk
  simp only [Hw.flagsOf, Prod.mk.injEq] at key
  exact key.1

/-- The sector of a queued clear is named by ADDR, which the start of the clear leaves (R545, R547). -/
theorem Hw.keepBegins_addr (h : Hw) (p : Nat) :
    ((h.wr (PART_KEEP_STATUS.STATE p) 2).keepShow).rd (PART_KEEP_ADDR.ADDR p) = h.rd (PART_KEEP_ADDR.ADDR p) := by
  unfold Hw.keepShow
  rw [Hw.rd_wrB_ne, Hw.rd_wr_ne]
  all_goals
    simp only [KEEP_STATE.ENGINE_BUSY, KEEP_STATE, PART_KEEP_ADDR.ADDR, PART_KEEP_ADDR, PART_KEEP_STATUS.STATE, PART_KEEP_STATUS]
    omega

-- ## COMMIT

theorem Hw.captureSets_part (h : Hw) (p q : Nat) : (h.captureSets p).part q = h.part q := by
  refine foldl_keeps (fun h : Hw => h.part q) _ _ _ fun x c => ?_
  dsimp only
  split <;> rfl

theorem Hw.captureLaws_part (h : Hw) (k q : Nat) : (h.captureLaws k).part q = h.part q :=
  foldl_keeps (fun h : Hw => h.part q) _ _ _ fun _ _ => rfl

theorem Hw.captureEngines_part (h : Hw) (ks : List Nat) (q : Nat) :
    (ks.foldl (fun (a : Hw) k => (a.captureLaws k).captureTorque k) h).part q = h.part q :=
  foldl_keeps (fun h : Hw => h.part q) _ _ _ fun x k => x.captureLaws_part k q

/-- No request for a COMMIT outlives its sample (R161). -/
theorem Hw.commitParts_commitReq (h : Hw) (p : Nat) (hp : p < 16) : (h.commitParts.part p).commitReq = false := by
  refine Num.forEach_at (fun h : Hw => (h.part p).commitReq) (fun _ => false) 16 p _ h hp (fun i x hi => ?_) (fun x => ?_)
  · have other (y : Part) : (x.setPart i y).part p = x.part p := Hw.setPart_part_ne _ _ _ _ (Ne.symm hi)
    dsimp only
    split <;> simp only [Hw.captureEngines_part, Hw.captureSets_part, Hw.inc, Hw.wr_part, other]
  · dsimp only
    split <;> simp only [Hw.captureEngines_part, Hw.captureSets_part, Hw.inc, Hw.wr_part, Hw.setPart_part]

-- ## The statement

/-- Settles O59: each clause is the definition of its event in the model, once the event acts; the loops over blocks and partitions act on
each of them once. -/
theorem stepAndFrame : Obligations.StepAndFrame := by
  unfold Obligations.StepAndFrame
  refine ⟨?step, ?links, fun _ _ => rfl, ?flags, ?clears, ?latch, ?idle, ?starts, ?commit, ?requests, ?notDue, ?due, fun _ => ⟨rfl, rfl⟩,
    fun _ _ => rfl, ?fence⟩
  case step =>
    intro s hl
    refine (s.onMach_live Mach.stepBoundary hl).trans ?_
    simp only [Mach.stepBoundary, Mach.onHw, Hw.stepBoundary, Hw.stepOpens_chipFault]
    rfl
  case links =>
    intro h d
    simp [Hw.linkBoundary]
  case flags => exact fun h k => h.flagsKept_block k k.isLt
  case clears =>
    intro m p hs ho hp
    simp [Mach.keepBegin, hs, ho, hp, Mach.onHw, Hw.keepBegins_addr]
  case latch =>
    intro s i hl
    refine (s.onLive_live (fun h => h.sampleLatch i) hl).trans ?_
    simp only [Hw.sampleLatch, Hw.slotMissing]
  case idle =>
    intro h k a b hr
    simp [Hw.laneStart, hr, Hw.updBlock]
  case starts =>
    intro h k a b hr
    simp [Hw.laneStart, hr, Hw.updBlock]
  case commit =>
    intro s hl
    refine (s.onLive_live Hw.commitSample hl).trans ?_
    simp only [Hw.commitSample, Hw.commitParts, Bool.and_eq_true]
  case requests => exact fun h p => h.commitParts_commitReq p p.isLt
  case notDue =>
    intro s same hl hd
    refine (s.onMach_live (fun m => m.frameBoundary same) hl).trans ?_
    simp [Mach.frameBoundary, hd, State.to, State.toMach]
  case due =>
    intro s same hl hd
    refine (s.onMach_live (fun m => m.frameBoundary same) hl).trans ?_
    simp only [Mach.frameBoundary, hd, Bool.not_true, Bool.false_eq_true, if_false, Mach.onHw, Hw.frameReturns]
  case fence =>
    intro s p hl hd ht
    refine (s.onLive_live (fun h => h.deadlockFence p) hl).trans ?_
    simp [Hw.deadlockFence, hd, ht]

end Sys2Proof.Machine
end

section
/-!
PROOF. Power failure: what a low supply and its chip fault leave of all that the save of the seconds rests on.
-/
namespace Sys2Proof.Machine

/-- What the save of the seconds at a power failure rests on (R69, R73). -/
structure SaveView where
  power : PowerPhase
  opRun : Bool
  stored : Bool
  pend : List (Nat × List Byte)
  blocked : List (Nat × List Byte)
  seconds : Word
  cycles : Word
  keepState : Word

def Hw.saveView (h : Hw) : SaveView :=
  ⟨h.power, h.opRun, h.faultStored, h.keepPend, h.keepBlocked, h.reg OP_SECONDS, h.reg POWER_CYCLES, h.reg KEEP_STATE⟩

theorem Hw.saveView_inj {h n : Hw} (e : h.saveView = n.saveView) :
    h.power = n.power ∧ h.opRun = n.opRun ∧ h.faultStored = n.faultStored ∧ h.keepPend = n.keepPend ∧ h.keepBlocked = n.keepBlocked ∧
      h.reg OP_SECONDS = n.reg OP_SECONDS ∧ h.reg POWER_CYCLES = n.reg POWER_CYCLES ∧ h.reg KEEP_STATE = n.reg KEEP_STATE := by
  simpa only [Hw.saveView, SaveView.mk.injEq] using e

/-- The counts that a save stores and the write window read the same in equal views. -/
theorem Hw.saveView_counts {h n : Hw} (e : h.saveView = n.saveView) :
    h.rd OP_SECONDS.SECONDS = n.rd OP_SECONDS.SECONDS ∧ h.rd POWER_CYCLES.COUNT = n.rd POWER_CYCLES.COUNT ∧
      h.secondsWord = n.secondsWord ∧ h.keepOpen = n.keepOpen := by
  obtain ⟨-, -, -, -, -, hs, hc, hk⟩ := Hw.saveView_inj e
  have seconds : h.rd OP_SECONDS.SECONDS = n.rd OP_SECONDS.SECONDS := congrArg (fun w => Bits.get w 31 0) hs
  have cycles : h.rd POWER_CYCLES.COUNT = n.rd POWER_CYCLES.COUNT := congrArg (fun w => Bits.get w 31 0) hc
  exact ⟨seconds, cycles, by rw [Hw.secondsWord, seconds, cycles, Hw.secondsWord], congrArg (fun w => Bits.get w 0 0 != 0) hk⟩

/-- A register that such a save does not rest on. -/
abbrev RegId.spared (r : RegId) : Prop := OP_SECONDS.addr ≠ r.addr ∧ POWER_CYCLES.addr ≠ r.addr ∧ KEEP_STATE.addr ≠ r.addr

theorem RegId.spared_of_high {r : RegId} (hl : 0x2000 ≤ r.addr) (hk : r.addr ≠ 0x40070000) : r.spared := by
  simp only [RegId.spared, OP_SECONDS, POWER_CYCLES, KEEP_STATE]
  omega

theorem RegId.spared_cell (c off : Nat) (w : Word) (ho : off < 0x10000) : RegId.spared ⟨cellBase c + off, w⟩ := by
  refine RegId.spared_of_high ?_ ?_ <;> simp only [cellBase] <;> omega

theorem RegId.spared_block (k off : Nat) (w : Word) (ho : off < 0x10000) : RegId.spared ⟨blockBase k + off, w⟩ := by
  refine RegId.spared_of_high ?_ ?_ <;> simp only [blockBase] <;> omega

/-- Entry i of a table of a block's registers. -/
theorem RegId.spared_blockTable (k i off step : Nat) (w : Word) (ho : off + i * step < 0x10000) :
    RegId.spared ⟨blockBase k + off + i * step, w⟩ := by
  rw [Nat.add_assoc]
  exact RegId.spared_block _ _ _ ho

/-- A register of block k's sequencer. -/
theorem RegId.spared_seq (k off : Nat) (w : Word) (hl : 0x20010000 < off) (ho : off < 0x20011000) : RegId.spared ⟨off + k * 0x1000, w⟩ :=
  RegId.spared_of_high (by dsimp only; omega) (by dsimp only; omega)

/-- Entry i of a table of a sequencer's registers. -/
theorem RegId.spared_seqTable (k i off step : Nat) (w : Word) (hl : 0x20010000 < off) (ho : off + i * step < 0x20011000) :
    RegId.spared ⟨off + k * 0x1000 + i * step, w⟩ :=
  RegId.spared_of_high (by dsimp only; omega) (by dsimp only; omega)

theorem Hw.saveView_setReg (h : Hw) (r : RegId) (w : Word) (hr : r.spared) : (h.setReg r w).saveView = h.saveView := by
  obtain ⟨hs, hc, hk⟩ := hr
  simp only [Hw.saveView, Hw.reg_setReg_ne _ _ _ _ hs, Hw.reg_setReg_ne _ _ _ _ hc, Hw.reg_setReg_ne _ _ _ _ hk]
  rfl

theorem Hw.saveView_wr (h : Hw) (f : Fld) (v : Nat) (hf : f.reg.spared) : (h.wr f v).saveView = h.saveView := h.saveView_setReg _ _ hf

theorem Hw.saveView_wrB (h : Hw) (f : Fld) (b : Bool) (hf : f.reg.spared) : (h.wrB f b).saveView = h.saveView := h.saveView_wr _ _ hf

theorem Hw.saveView_wrBit (h : Hw) (f : Fld) (i : Nat) (b : Bool) (hf : f.reg.spared) : (h.wrBit f i b).saveView = h.saveView :=
  h.saveView_wr _ _ hf

@[simp] theorem Hw.saveView_setCell (h : Hw) (c : Nat) (x : Cell) : (h.setCell c x).saveView = h.saveView := rfl
@[simp] theorem Hw.saveView_setBlock (h : Hw) (k : Nat) (x : Block) : (h.setBlock k x).saveView = h.saveView := rfl
@[simp] theorem Hw.saveView_setRegion (h : Hw) (r : Nat) (x : Region) : (h.setRegion r x).saveView = h.saveView := rfl
@[simp] theorem Hw.saveView_setRecorder (h : Hw) (p : Nat) (x : Recorder) : (h.setRecorder p x).saveView = h.saveView := rfl
@[simp] theorem Hw.saveView_updThread (h : Hw) (k t : Nat) (f : Thread → Thread) : (h.updThread k t f).saveView = h.saveView := rfl
@[simp] theorem Hw.saveView_updSerial (h : Hw) (f : Serial → Serial) : (h.updSerial f).saveView = h.saveView := rfl

/-- A loop below `n` whose steps keep a value keeps it. -/
theorem Num.forEach_eq_below {β σ : Type} (g : σ → β) (n : Nat) (f : Nat → σ → σ) (s : σ) (hf : ∀ i x, i < n → g (f i x) = g x) :
    g (Num.forEach n f s) = g s := by
  have key : ∀ (l : List Nat) (x : σ), (∀ i ∈ l, i < n) → g (l.foldl (fun a i => f i a) x) = g x := by
    intro l
    induction l with
    | nil => intro x _; rfl
    | cons a l ih =>
      intro x hl
      rw [List.foldl_cons, ih _ fun i hi => hl i (List.mem_cons_of_mem _ hi), hf a x (hl a List.mem_cons_self)]
  exact key _ s fun i hi => List.mem_range.1 hi

-- ## Comparators and commands

@[simp] theorem Hw.saveView_refreshTrips (h : Hw) (k : Nat) : (h.refreshTrips k).saveView = h.saveView := by
  refine Num.forEach_eq Hw.saveView 6 _ h fun i x => ?_
  refine (Num.forEach_eq Hw.saveView 4 _ _ fun n y => ?_).trans ?_
  · exact (Hw.saveView_wrBit _ _ _ _ (RegId.spared_cell _ _ _ (by decide))).trans
      (Hw.saveView_wrBit _ _ _ _ (RegId.spared_cell _ _ _ (by decide)))
  · exact (Hw.saveView_wrB _ _ _ (RegId.spared_cell _ _ _ (by decide))).trans
      (Hw.saveView_wrB _ _ _ (RegId.spared_cell _ _ _ (by decide)))

@[simp] theorem Hw.saveView_setHurdle (h : Hw) (k ch : Nat) (o : Bool) : (h.setHurdle k ch o).saveView = h.saveView := by
  simp [Hw.setHurdle]

@[simp] theorem Hw.saveView_edgeSeen (h : Hw) (c mask : Nat) : (h.edgeSeen c mask).saveView = h.saveView := by
  refine Num.forEach_eq Hw.saveView 2 _ h fun j x => ?_
  dsimp only
  split
  · exact Hw.saveView_setHurdle _ _ _ _
  · rfl

@[simp] theorem Hw.saveView_setCmds (h : Hw) (c : Nat) (a b : Bool) : (h.setCmds c a b).saveView = h.saveView := by
  have cmds : ((h.wrB (LEG_PWM_STATUS.HS_CMD c) a).wrB (LEG_PWM_STATUS.LS_CMD c) b).saveView = h.saveView :=
    (Hw.saveView_wrB _ _ _ (RegId.spared_cell _ _ _ (by decide))).trans (Hw.saveView_wrB _ _ _ (RegId.spared_cell _ _ _ (by decide)))
  unfold Hw.setCmds
  dsimp only
  generalize (if (a && !h.on (LEG_PWM_STATUS.HS_CMD c)) = true then 1 else 0) + _ + _ + _ = mask
  split
  · exact cmds
  · rw [Hw.saveView_edgeSeen, Hw.saveView_setCell, cmds]

-- ## Fault codes

@[simp] theorem Hw.saveView_countFault (h : Hw) (p code : Nat) : (h.countFault p code).saveView = h.saveView := by
  have used (x : Hw) (n : Nat) : (x.wr (PART_REC_STATUS.ENTRIES_USED p) n).saveView = x.saveView :=
    Hw.saveView_wr _ _ _ (RegId.spared_of_high (by simp only [PART_REC_STATUS.ENTRIES_USED, PART_REC_STATUS]; omega)
      (by simp only [PART_REC_STATUS.ENTRIES_USED, PART_REC_STATUS]; omega))
  unfold Hw.countFault
  dsimp only
  repeat' split
  all_goals simp [used]

@[simp] theorem Hw.saveView_record (h : Hw) (code : Nat) : (h.record code).saveView = h.saveView :=
  (foldl_keeps Hw.saveView _ _ _ fun x p => x.saveView_countFault p code).trans rfl

@[simp] theorem Hw.saveView_blockFault (h : Hw) (k cause : Nat) : (h.blockFault k cause).saveView = h.saveView := h.saveView_record _

-- ## Holds

@[simp] theorem Hw.saveView_holdTerminal (h : Hw) (c : Nat) : (h.holdTerminal c).saveView = h.saveView := by
  simp [Hw.holdTerminal]

@[simp] theorem Hw.saveView_applyHold (h : Hw) (c : Nat) : (h.applyHold c).saveView = h.saveView := by
  unfold Hw.applyHold
  dsimp only
  repeat' split
  all_goals simp

@[simp] theorem Hw.saveView_applyHolds (h : Hw) : h.applyHolds.saveView = h.saveView :=
  Num.forEach_eq Hw.saveView 48 _ h fun c x => x.saveView_applyHold c

@[simp] theorem Hw.saveView_endFreeze (h : Hw) (c : Nat) : (h.endFreeze c).saveView = h.saveView := by
  unfold Hw.endFreeze
  split
  · rw [Hw.saveView_applyHold]
    exact Hw.saveView_wrB _ _ _ (RegId.spared_cell _ _ _ (by decide))
  · rfl

@[simp] theorem Hw.saveView_dropSet (h : Hw) (c : Nat) : (h.dropSet c).saveView = h.saveView :=
  (Hw.saveView_wrB _ _ _ (RegId.spared_cell _ _ _ (by decide))).trans rfl

-- ## Threads

theorem Hw.saveView_wrThread (h : Hw) (k t v : Nat) : (h.wr (BLK_SEQ_STATE.THREAD k t) v).saveView = h.saveView :=
  h.saveView_wr _ _ (RegId.spared_seq _ _ _ (by decide) (by decide))

@[simp] theorem Hw.saveView_fenceThreads (h : Hw) (k : Nat) : (h.fenceThreads k).saveView = h.saveView :=
  Num.forEach_eq Hw.saveView 8 _ h fun t x => x.saveView_wrThread k t 6

@[simp] theorem Hw.saveView_threadFault (h : Hw) (k t cause : Nat) (pc : Word) : (h.threadFault k t cause pc).saveView = h.saveView := by
  rw [Hw.threadFault, Hw.saveView_blockFault, 
    Hw.saveView_setReg _ (BLK_SEQ_FAULT_PC k) _ (RegId.spared_seq _ _ _ (by decide) (by decide)),
    Hw.saveView_wr _ (BLK_SEQ_FAULT.THREAD k) _ (RegId.spared_seq _ _ _ (by decide) (by decide)),
    Hw.saveView_wr _ (BLK_SEQ_FAULT.CODE k) _ (RegId.spared_seq _ _ _ (by decide) (by decide)), Hw.saveView_updThread, Hw.saveView_wrThread]

@[simp] theorem Hw.saveView_xipOpen (h : Hw) (who a : Nat) : (h.xipOpen who a).saveView = h.saveView := by
  have line (x : Hw) (l : Nat) : (x.wantLine l).saveView = x.saveView := by
    unfold Hw.wantLine
    split <;> rfl
  unfold Hw.xipOpen
  dsimp only
  split
  · rw [Hw.saveView_updSerial, Hw.touchLine, Hw.saveView_updSerial]
    exact Hw.saveView_wr _ _ _ (by decide)
  · rw [Hw.saveView_updSerial, line]
    exact Hw.saveView_wr _ _ _ (by decide)

@[simp] theorem Hw.saveView_fetchStart (h : Hw) (k t a : Nat) : (h.fetchStart k t a).saveView = h.saveView := by
  unfold Hw.fetchStart
  dsimp only
  split
  · simp
  · rw [Hw.saveView_wrThread, Hw.saveView_updThread, Hw.saveView_xipOpen, Hw.xipClose, Hw.saveView_updSerial]

theorem Hw.saveView_goto (h : Hw) (k t next : Nat) (ht : t < 8) : (h.goto k t next).saveView = h.saveView := by
  have moved : (h.setReg (BLK_SEQ_PC k t) (BitVec.ofNat 32 next)).saveView = h.saveView :=
    h.saveView_setReg _ _ (RegId.spared_seqTable _ _ _ _ _ (by decide) (by omega))
  unfold Hw.goto
  dsimp only
  split
  · simp
  · split <;> simp [Hw.saveView_wrThread, moved]

theorem Hw.saveView_advance (h : Hw) (k t : Nat) (ht : t < 8) : (h.advance k t).saveView = h.saveView := h.saveView_goto k t _ ht

@[simp] theorem Hw.saveView_wakeEvent (h : Hw) (k mask : Nat) : (h.wakeEvent k mask).saveView = h.saveView := by
  unfold Hw.wakeEvent
  split
  · rfl
  · refine Num.forEach_eq_below Hw.saveView 8 _ h fun t x ht => ?_
    dsimp only
    split
    · rw [Hw.saveView_setReg, Hw.saveView_advance _ _ _ ht]
      refine RegId.spared_of_high ?_ ?_ <;> simp only [BLK_SEQ_DBG_G] <;> omega
    · rfl

-- ## Fences

@[simp] theorem Hw.saveView_abandonTest (h : Hw) (c : Nat) : (h.abandonTest c).saveView = h.saveView := by
  unfold Hw.abandonTest
  dsimp only
  split
  · rw [Hw.saveView_setCell, Hw.saveView_setCell]
  · rw [Hw.saveView_wr _ (LEG_DIAG_RESULT.CAUSE c) _ (RegId.spared_cell _ _ _ (by decide)),
      Hw.saveView_wr _ (LEG_DIAG_RESULT.STATE c) _ (RegId.spared_cell _ _ _ (by decide)), Hw.saveView_setCell, Hw.saveView_setCell]

@[simp] theorem Hw.saveView_dropReentry (h : Hw) (c : Nat) : (h.dropReentry c).saveView = h.saveView := by
  unfold Hw.dropReentry
  dsimp only
  split
  · rw [Hw.saveView_setReg _ (LEG_REENTRY_STATUS c) _ (RegId.spared_cell _ _ _ (by decide)), Hw.saveView_setCell, Hw.saveView_abandonTest]
  · exact h.saveView_abandonTest c

@[simp] theorem Hw.saveView_stopEngine (h : Hw) (k : Nat) : (h.stopEngine k).saveView = h.saveView := by
  have ramps : (h.pacers.foldl (fun (acc : Hw) (e : Nat × Pacer) =>
      if e.1 / 128 = k then (acc.setPacer k (e.1 % 128) {}).wrB (BLK_INPUT_CFG.RAMPING k (e.1 % 128)) false else acc) h).saveView = h.saveView := by
    refine foldl_keeps Hw.saveView _ _ _ fun x e => ?_
    split
    · exact (Hw.saveView_wrB _ _ _ (RegId.spared_blockTable _ _ _ _ _ (by omega))).trans rfl
    · rfl
  unfold Hw.stopEngine
  dsimp only
  split
  · rw [Hw.saveView_wr _ (BLK_CAP_STATUS.STATE k) _ (RegId.spared_block _ _ _ (by decide)), Hw.saveView_setBlock, ramps]
  · rw [Hw.saveView_setBlock, ramps]

theorem Hw.saveView_cells (h : Hw) (k : Nat) (f : Hw → Nat → Hw) (hf : ∀ x c, (f x c).saveView = x.saveView) :
    ((cellsOf k).foldl f h).saveView = h.saveView := foldl_keeps Hw.saveView _ _ _ hf

theorem Hw.saveView_wrHalted (h : Hw) (c : Nat) (b : Bool) : (h.wrB (LEG_PWM_STATUS.HALTED c) b).saveView = h.saveView :=
  h.saveView_wrB _ _ (RegId.spared_cell _ _ _ (by decide))

theorem Hw.saveView_wrCompare (h : Hw) (k m v : Nat) (hm : m < 2) : (h.wr (BLK_CMP_STATUS.STATE k m) v).saveView = h.saveView :=
  h.saveView_wr _ _ (RegId.spared_blockTable _ _ _ _ _ (by omega))

theorem Hw.saveView_wrDebugHalt (h : Hw) (k : Nat) (b c : Bool) :
    ((h.wrBit DBG_HALT.HALTED k b).wrBit DBG_HALT.FROZEN k c).saveView = h.saveView := by
  rw [Hw.saveView_wrBit _ _ _ _ (by decide), Hw.saveView_wrBit _ _ _ _ (by decide)]

@[simp] theorem Hw.saveView_fenceBlockParts (h : Hw) (k : Nat) : (h.fenceBlockParts k).saveView = h.saveView := by
  unfold Hw.fenceBlockParts
  refine (Hw.saveView_wakeEvent _ _ _).trans <| (Hw.saveView_stopEngine _ _).trans <| (Hw.saveView_setBlock _ _ _).trans <|
    (Hw.saveView_wrCompare _ _ _ _ (by decide)).trans <| (Hw.saveView_wrCompare _ _ _ _ (by decide)).trans <|
    (Hw.saveView_cells _ _ _ fun x c => ?thawed).trans <| (Hw.saveView_wrDebugHalt _ _ _ _).trans <|
    (Hw.saveView_fenceThreads _ _).trans <| Hw.saveView_cells _ _ _ fun x c => ?dropped
  case thawed => rw [Hw.saveView_wrHalted, Hw.saveView_endFreeze]
  case dropped =>
    dsimp only
    split
    · rw [Hw.saveView_setCell, Hw.saveView_dropReentry, Hw.saveView_dropSet]
    · rw [Hw.saveView_dropReentry, Hw.saveView_dropSet]

@[simp] theorem Hw.saveView_fencePartsHigher (h : Hw) (k : Nat) : (h.fencePartsHigher k).saveView = h.saveView := by
  unfold Hw.fencePartsHigher
  dsimp only
  split
  · rw [Hw.saveView_wrBit _ _ _ _ (by decide), Hw.saveView_fenceBlockParts]
  · exact h.saveView_fenceBlockParts k

@[simp] theorem Hw.saveView_syncFences (h : Hw) : h.syncFences.saveView = h.saveView := by
  unfold Hw.syncFences
  dsimp only
  rw [Hw.saveView_wr _ _ _ (by decide), Hw.saveView_wr _ _ _ (by decide)]

@[simp] theorem Hw.saveView_regionGivesWay (h : Hw) (r : Nat) : (h.regionGivesWay r).saveView = h.saveView := by
  have cleared (x : Hw) : ((x.setReg (REGION_RETURN r) 0).wrBit FENCE_UNIT.REGION r false).saveView = x.saveView := by
    rw [Hw.saveView_wrBit _ _ _ _ (by decide), Hw.saveView_setReg]
    refine RegId.spared_of_high ?_ ?_ <;> simp only [REGION_RETURN] <;> omega
  unfold Hw.regionGivesWay
  dsimp only
  split
  · split
    · rw [Hw.saveView_wr _ (DIE_STATE.DIE (r + 2)) _ (show DIE_STATE.spared by decide), cleared, Hw.saveView_setRegion]
    · rw [cleared, Hw.saveView_setRegion]
  · rfl

@[simp] theorem Hw.saveView_frameBreaks (h : Hw) : h.frameBreaks.saveView = h.saveView := by
  unfold Hw.frameBreaks
  split
  · rfl
  · have ended (x : Hw) : ((x.wrB SPI_STATUS.BUSY false).wr SPI_STATUS.SOURCE 0).saveView = x.saveView := by
      rw [Hw.saveView_wr _ _ _ (by decide), Hw.saveView_wrB _ _ _ (by decide)]
    dsimp only
    split
    · rw [Hw.saveView_wr _ _ _ (by decide), ended, Hw.saveView_updSerial]
    · rw [ended, Hw.saveView_updSerial]

-- ## The chip fault

/-- A chip fault is recorded, and the first is held in CHIP_FAULT (R42). -/
def Hw.chipFaultShown (h : Hw) (cause : Nat) : Hw :=
  let h := h.record (faultCode 3 0 cause)
  if h.chipFault then h else { h.wr CHIP_FAULT.CODE (faultCode 3 0 cause) with chipAt := h.stepCount + 1 }

/-- The first chip fault of a session goes to keep memory (R42). -/
def Hw.chipFaultStores (h : Hw) (cause : Nat) : Hw :=
  if h.faultStored then h
  else { h with faultStored := true,
                keepPend := h.keepPend ++
                  [(0x30, Num.bytesLE 2 (faultCode 3 0 cause) ++ [0, 0] ++ Num.bytesLE 4 (h.rd OP_SECONDS.SECONDS))] }

/-- A chip fault holds every cell, and what began with it at a lower level gives way (R20, R22). -/
def Hw.chipFaultFences (h : Hw) : Hw :=
  let h := (List.range 8).foldl (fun acc k => acc.fencePartsHigher k) h
  if h.chipNow then Num.forEach 4 (fun r acc => acc.regionGivesWay r) h else h

/-- A chip fault discards a load, ends a master frame and may drive the DSCH pins (R42, R98, R189, R523). -/
def Hw.chipFaultEnds (h : Hw) (cause : Nat) : Hw :=
  let h := { h with load := {} }
  let h := (if h.rd BS_STATUS.STATE ≥ 2 && h.rd BS_STATUS.STATE ≤ 5 then h.wr BS_STATUS.STATE 0 else h).frameBreaks
  let h := if h.on DSCH_CFG.ON_CHIP_FAULT && cause != 3 then { h with discharge := { h.discharge with driven := true } } else h
  let h := h.syncFences
  if cause = 0x02 then h.applyHolds else h

theorem Hw.chipFaultSet_eq (h : Hw) (cause : Nat) :
    h.chipFaultSet cause = (((h.chipFaultShown cause).chipFaultStores cause).chipFaultFences).chipFaultEnds cause := by
  unfold Hw.chipFaultSet Hw.chipFaultShown Hw.chipFaultStores Hw.chipFaultFences Hw.chipFaultEnds
  rfl

theorem Hw.saveView_ite {c : Prop} [Decidable c] {a b : Hw} (ha : a.saveView = b.saveView) :
    (if c then a else b).saveView = b.saveView := by
  split
  · exact ha
  · rfl

theorem Hw.saveView_load (h : Hw) (l : Load) : ({ h with load := l } : Hw).saveView = h.saveView := rfl

theorem Hw.saveView_discharge (h : Hw) (d : Discharge) : ({ h with discharge := d } : Hw).saveView = h.saveView := rfl

theorem Hw.saveView_chipFaultShown (h : Hw) (cause : Nat) : (h.chipFaultShown cause).saveView = h.saveView := by
  rw [← h.saveView_record (faultCode 3 0 cause)]
  unfold Hw.chipFaultShown
  generalize h.record (faultCode 3 0 cause) = n
  dsimp only
  split
  · rfl
  · exact n.saveView_wr CHIP_FAULT.CODE (faultCode 3 0 cause) (by decide)
theorem Hw.saveView_chipFaultStores (h : Hw) (cause : Nat) : ∃ w, (h.chipFaultStores cause).saveView =
    if h.faultStored then h.saveView else { h.saveView with stored := true, pend := h.keepPend ++ [w] } := by
  refine ⟨(0x30, Num.bytesLE 2 (faultCode 3 0 cause) ++ [0, 0] ++ Num.bytesLE 4 (h.rd OP_SECONDS.SECONDS)), ?_⟩
  unfold Hw.chipFaultStores
  rw [apply_ite Hw.saveView]
  rfl

theorem Hw.saveView_chipFaultFences (h : Hw) : h.chipFaultFences.saveView = h.saveView := by
  have held : ((List.range 8).foldl (fun (acc : Hw) k => acc.fencePartsHigher k) h).saveView = h.saveView :=
    foldl_keeps Hw.saveView _ _ _ fun x k => x.saveView_fencePartsHigher k
  unfold Hw.chipFaultFences
  generalize (List.range 8).foldl (fun (acc : Hw) k => acc.fencePartsHigher k) h = n at held ⊢
  rw [← held]
  exact Hw.saveView_ite (Num.forEach_eq Hw.saveView 4 _ n fun r x => x.saveView_regionGivesWay r)

theorem Hw.saveView_chipFaultEnds (h : Hw) (cause : Nat) : (h.chipFaultEnds cause).saveView = h.saveView := by
  unfold Hw.chipFaultEnds
  refine (Hw.saveView_ite (Hw.saveView_applyHolds _)).trans <| (Hw.saveView_syncFences _).trans <|
    (Hw.saveView_ite (Hw.saveView_discharge _ _)).trans <| (Hw.saveView_frameBreaks _).trans <|
    (Hw.saveView_ite (Hw.saveView_wr _ _ _ (by decide))).trans <| Hw.saveView_load _ _

/-- A chip fault adds at most its own store to what waits for keep memory (R42); all else that the save of the seconds rests on stands. -/
theorem Hw.saveView_chipFaultSet (h : Hw) (cause : Nat) : ∃ w, (h.chipFaultSet cause).saveView =
    if h.faultStored then h.saveView else { h.saveView with stored := true, pend := h.keepPend ++ [w] } := by
  have shown := h.saveView_chipFaultShown cause
  obtain ⟨w, stores⟩ := (h.chipFaultShown cause).saveView_chipFaultStores cause
  have stored : (h.chipFaultShown cause).faultStored = h.faultStored := congrArg SaveView.stored shown
  have pend : (h.chipFaultShown cause).keepPend = h.keepPend := congrArg SaveView.pend shown
  refine ⟨w, ?_⟩
  rw [Hw.chipFaultSet_eq, Hw.saveView_chipFaultEnds, Hw.saveView_chipFaultFences, stores, shown, stored, pend]

theorem Hw.chipFaultSet_power (h : Hw) (cause : Nat) : (h.chipFaultSet cause).power = h.power := by
  obtain ⟨w, hw⟩ := h.saveView_chipFaultSet cause
  have := congrArg SaveView.power hw
  rwa [apply_ite SaveView.power, ite_self] at this

theorem Hw.saveView_chipFaultSet_stored (h : Hw) (cause : Nat) (hs : h.faultStored = true) :
    (h.chipFaultSet cause).saveView = h.saveView := by
  obtain ⟨w, hw⟩ := h.saveView_chipFaultSet cause
  rw [hw, if_pos hs]


theorem Hw.saveView_supplyLow (h : Hw) (f : Fld) (hf : f.reg.spared) : (h.supplyLow f).saveView = h.saveView := by
  rw [← h.saveView_wrB f false hf]
  unfold Hw.supplyLow Hw.refreshAll
  rw [Num.forEach_eq Hw.saveView 8 _ _ fun k x => x.saveView_refreshTrips k]
  rfl
-- ## Power failure

theorem Mach.powerFail_unsaved (m : Mach) (hl : m.hw.live = true) (ht : m.hw.power ≠ .shutTest) :
    m.powerFail false = ⟨m.mem, { m.hw.chipFaultSet 0x05 with power := .powerFail, opRun := false, wakeShut := false }⟩ := by
  have power := m.hw.chipFaultSet_power 0x05
  have live : (m.hw.chipFaultSet 0x05).live = true := by rw [Hw.live, power]; exact hl
  simp [Mach.powerFail, Mach.onHw, power, ht, live]

/-- Two words that wait for an open engine are stored at once (R544). -/
theorem Mach.keepFlush_two (m : Memory) (h : Hw) (a b : Nat) (as bs : List Byte) (hp : h.keepPend = []) (hb : h.keepBlocked = [])
    (ho : h.keepOpen = true) :
    (Mach.mk m ((h.keepStore a as).keepStore b bs)).keepFlush = ⟨(m.setBytes (keepBase + a) as).setBytes (keepBase + b) bs, h⟩ := by
  have pend : ((h.keepStore a as).keepStore b bs).keepPend = [(a, as), (b, bs)] := by simp [Hw.keepStore, hp]
  have opened : ((h.keepStore a as).keepStore b bs).keepOpen = true := ho
  have blocked : ((h.keepStore a as).keepStore b bs).keepBlocked = [] := hb
  have same : { (h.keepStore a as).keepStore b bs with keepPend := [], keepBlocked := [] } = h :=
    congrArg₂ (fun p b => ({ h with keepPend := p, keepBlocked := b } : Hw)) hp.symm hb.symm
  simp only [Mach.keepFlush, pend, opened, blocked, List.isEmpty_cons, Bool.false_eq_true, if_false, if_true, List.filter_nil, same]
  rfl

theorem Mach.powerFail_saved (m : Mach) (hl : m.hw.live = true) (ht : m.hw.power ≠ .shutTest) (ho : m.hw.opRun = true)
    (hp : m.hw.keepPend = []) (hb : m.hw.keepBlocked = []) (hs : m.hw.faultStored = true) (hk : m.hw.keepOpen = true) :
    m.powerFail true = ⟨(m.mem.setBytes 0x50000000 m.hw.secondsWord).setBytes 0x50000028
        (Num.bytesLE 4 (m.hw.rd POWER_CYCLES.COUNT) ++ Num.bytesLE 4 (m.hw.rd OP_SECONDS.SECONDS)),
      { m.hw.chipFaultSet 0x05 with power := .powerFail, opRun := false, wakeShut := false }⟩ := by
  have view := m.hw.saveView_chipFaultSet_stored 0x05 hs
  have power := m.hw.chipFaultSet_power 0x05
  have live : (m.hw.chipFaultSet 0x05).live = true := by rw [Hw.live, power]; exact hl
  simp only [Mach.powerFail, Mach.onHw, power, ht, live, ho, Bool.and_self, if_true, if_false]
  generalize m.hw.chipFaultSet 0x05 = n at view ⊢
  obtain ⟨-, -, -, pend, blocked, -⟩ := Hw.saveView_inj view
  obtain ⟨seconds, cycles, word, opened⟩ := Hw.saveView_counts view
  refine (Mach.keepFlush_two m.mem { n with power := .powerFail, opRun := false, wakeShut := false } 0 0x28 _ _ (pend.trans hp)
    (blocked.trans hb) (opened.trans hk)).trans ?_
  rw [← word, ← seconds, ← cycles]
  rfl

end Sys2Proof.Machine
end

section
/-!
PROOF. Wake, cold start, supply faults and the reset of the always-on domain.
-/
namespace Sys2Proof.Machine

-- ## Wake

/-- A wake event during the stages of a shutdown up to its discharge is remembered (R68). -/
theorem Mach.wake_shutting (m : Mach) (src can : Nat)
    (hp : m.hw.power = .shutPending ∨ m.hw.power = .shutStopping ∨ m.hw.power = .shutDischarge) :
    m.wake src can = m.onHw (fun h => { h with wakeShut := true, wakeCan := h.wakeCan ||| can }) := by
  rcases hp with hp | hp | hp <;> simp only [Mach.wake, hp]

/-- A wake event in standby leaves it (R53). -/
theorem Mach.wake_standby (m : Mach) (src can : Nat) (hp : m.hw.power = .standby) :
    m.wake src can = m.onHw (fun h => h.wakeFrom src can) := by
  simp only [Mach.wake, hp]

/-- An edge to the active level is a wake event (R52). -/
theorem Mach.wakeEdge_active (m : Mach) (hw : m.hw.on WAKE_CFG.WAKE_EDGE = m.hw.wakePin) :
    m.wakeEdge = (m.onHw (fun h => { h with wakePin := !h.wakePin })).wake 1 0 := by
  simp [Mach.wakeEdge, Hw.wakeInactive, hw]

-- ## The serial port of a part that waits for a host

/-- Nothing waits at the serial port's master. -/
def Hw.masterIdle (h : Hw) : Prop := h.serial.queue = [] ∧ h.serial.waits = [] ∧ h.rd SPI_FRAME_STATUS.STATE ≠ 1

theorem Hw.masterIdle_wr (h : Hw) (f : Fld) (v : Nat) (hf : SPI_FRAME_STATUS.addr ≠ f.reg.addr) :
    (h.wr f v).masterIdle ↔ h.masterIdle := by
  simp only [Hw.masterIdle, Hw.wr_serial, Hw.rd_wr_ne h f SPI_FRAME_STATUS.STATE v hf]

/-- Where nothing waits, nothing fails as the role changes (R515). -/
theorem Hw.failMaster_idle (h : Hw) (hi : h.masterIdle) :
    h.failMaster = (h.updSerial (fun s => { s with queue := [], waits := [], req := none, resp := [] })).wr SPI_SLAVE_STATUS.STATE 0 := by
  obtain ⟨hq, hw, hs⟩ := hi
  simp only [Hw.failMaster, hq, hw, Hw.updSerial_rd, hs, if_false, List.filter_nil, List.foldl_nil]

theorem Hw.invalidateLines_rd (h : Hw) (f : Fld) : h.invalidateLines.rd f = h.rd f := rfl

/-- A port on which nothing waits becomes a slave at once, and the load's state stands (R514, R515). -/
theorem Hw.spiToSlave_idle (h : Hw) (hi : h.masterIdle) :
    h.spiToSlave.power = h.power ∧ h.spiToSlave.bsState = h.bsState ∧ h.spiToSlave.spiSlave = true := by
  rw [Hw.spiToSlave, Hw.takeRole, Hw.failMaster_idle _ ((h.masterIdle_wr _ _ (by decide)).2 hi)]
  refine ⟨?_, ?_, ?_⟩
  · simp only [Hw.wrB_power, Hw.wr_power, Hw.invalidateLines, Hw.updSerial_power]
  · simp only [Hw.bsState]
    rw [Hw.rd_wrB_ne _ _ _ _ (by decide), Hw.rd_wr_ne _ _ _ _ (by decide), Hw.rd_wrB_ne _ _ _ _ (by decide), Hw.invalidateLines_rd,
      Hw.rd_wr_ne _ _ _ _ (by decide), Hw.updSerial_rd, Hw.rd_wr_ne _ _ _ _ (by decide)]
  · rw [Hw.spiSlave, Hw.on, Hw.wrB, Hw.rd_wr_beside _ SPI_STATUS.PENDING_ROLE SPI_STATUS.ROLE _ rfl (by decide), Hw.rd_wr _ _ _ (by decide), Hw.rd_wrB_ne _ _ _ _ (by decide),
      Hw.invalidateLines_rd, Hw.rd_wr_ne _ _ _ _ (by decide), Hw.updSerial_rd, Hw.rd_wr _ _ _ (by decide)]
    decide

/-- A part that waits for a host is WAITING, a slave (R93, R514). -/
theorem Hw.waitsForHost_idle (h : Hw) (hi : h.masterIdle) :
    h.waitsForHost.power = h.power ∧ h.waitsForHost.bsState = 1 ∧ h.waitsForHost.spiSlave = true := by
  have idle : ((h.setReg BS_STATUS 0).wr BS_STATUS.STATE 1).masterIdle := by
    rw [Hw.masterIdle_wr _ _ _ (by decide)]
    simpa only [Hw.masterIdle, Hw.setReg_serial, Hw.rd_setReg_ne h BS_STATUS 0 SPI_FRAME_STATUS.STATE (by decide)] using hi
  obtain ⟨power, state, slave⟩ := Hw.spiToSlave_idle _ idle
  refine ⟨power, ?_, slave⟩
  rw [Hw.waitsForHost, state, Hw.bsState, Hw.rd_wr _ _ _ (by decide)]
  decide

-- ## The reset of the dies

/-- Cells, partitions, threads and keys. -/
def Hw.resetView (h : Hw) : List (Nat × Cell) × List (Nat × Part) × List (Nat × Thread) × List Byte × List (List Byte) :=
  (h.cells, h.parts, h.threads, h.p0Key, h.slotKeys)

theorem Hw.resetView_wr (h : Hw) (f : Fld) (v : Nat) : (h.wr f v).resetView = h.resetView := rfl

theorem Hw.resetView_wrB (h : Hw) (f : Fld) (b : Bool) : (h.wrB f b).resetView = h.resetView := rfl

theorem Hw.resetView_setBlock (h : Hw) (k : Nat) (x : Block) : (h.setBlock k x).resetView = h.resetView := rfl

theorem Hw.chipReset_resetView (h : Hw) : (h.chipReset false).resetView = ([], [], [], h.p0Key, h.slotKeys) := by
  simp only [Hw.chipReset, Bool.false_eq_true, if_false, apply_ite Hw.resetView, Hw.syncFences, Hw.resetView_wr, ite_self]
  rw [Num.forEach_eq Hw.resetView]
  · rfl
  · intro k x
    simp only [Hw.resetView_wrB, Hw.resetView_wr, Hw.resetView_setBlock]

-- ## Low supplies

theorem supplyBit_spared (i : Nat) : (supplyBit i).reg.spared := by
  unfold supplyBit
  split <;> decide

/-- A low supply leaves the power phase. -/
theorem Hw.supplyLow_power (h : Hw) (f : Fld) (hf : f.reg.spared) : (h.supplyLow f).power = h.power := by
  obtain ⟨power, -⟩ := Hw.saveView_inj (h.saveView_supplyLow f hf)
  exact power

theorem Hw.supplyLow_live (h : Hw) (f : Fld) (hf : f.reg.spared) : (h.supplyLow f).live = h.live := by
  rw [Hw.live, h.supplyLow_power f hf, Hw.live]

/-- A supply that falls low while nothing is saved: chip fault 0x05 (R48, R69). -/
theorem Mach.supplyFails_unsaved (m : Mach) (f : Fld) (hf : f.reg.spared) (hl : m.hw.live = true) (ht : m.hw.power ≠ .shutTest) :
    (m.onHw (fun h => h.supplyLow f)).powerFail false =
      ⟨m.mem, { (m.hw.supplyLow f).chipFaultSet 0x05 with power := .powerFail, opRun := false, wakeShut := false }⟩ :=
  Mach.powerFail_unsaved ⟨m.mem, m.hw.supplyLow f⟩ ((m.hw.supplyLow_live f hf).trans hl) (by rwa [m.hw.supplyLow_power f hf])

/-- A supply that falls low where the save completes: the seconds and the marker are in keep memory (R69). -/
theorem Mach.supplyFails_saved (m : Mach) (f : Fld) (hf : f.reg.spared) (hl : m.hw.live = true) (ht : m.hw.power ≠ .shutTest)
    (ho : m.hw.opRun = true) (hp : m.hw.keepPend = []) (hb : m.hw.keepBlocked = []) (hs : m.hw.faultStored = true)
    (hk : m.hw.keepOpen = true) :
    (m.onHw (fun h => h.supplyLow f)).powerFail true =
      ⟨(m.mem.setBytes 0x50000000 m.hw.secondsWord).setBytes 0x50000028
        (Num.bytesLE 4 (m.hw.rd POWER_CYCLES.COUNT) ++ Num.bytesLE 4 (m.hw.rd OP_SECONDS.SECONDS)),
      { (m.hw.supplyLow f).chipFaultSet 0x05 with power := .powerFail, opRun := false, wakeShut := false }⟩ := by
  have view := m.hw.saveView_supplyLow f hf
  obtain ⟨-, opRun, stored, pend, blocked, -⟩ := Hw.saveView_inj view
  obtain ⟨seconds, cycles, word, opened⟩ := Hw.saveView_counts view
  refine (Mach.powerFail_saved ⟨m.mem, m.hw.supplyLow f⟩ ((m.hw.supplyLow_live f hf).trans hl) (by rwa [m.hw.supplyLow_power f hf])
    (opRun.trans ho) (pend.trans hp) (blocked.trans hb) (stored.trans hs) (opened.trans hk)).trans ?_
  rw [word, seconds, cycles]

-- ## The statement

/-- Settles O57: each clause is its event's definition in the phase that it names; a power failure's save goes by what a low supply and
its chip fault leave. -/
theorem suppliesAndStart : Obligations.SuppliesAndStart := by
  unfold Obligations.SuppliesAndStart
  refine ⟨?powerOn, ?wakeStandby, ?wakeShut, ?wakeIdle, ?canShut, ?canStandby, ?waits, ?starts, ?restarts, fun _ _ => rfl, ?locked, ?noFlash,
    ?flash, ?legRefused, ?refused, ?dip, fun _ _ => rfl, ?vsup, ?vsupSaved, ?aonOff, ?aonLive, ?reset⟩
  case powerOn =>
    intro s hp
    simp [exec, execPowerOn, State.onAny, hp, State.to, Mach.onHw, Hw.wakeFrom]
  case wakeStandby =>
    intro s hp hw
    simp [exec, execWakePinEdge, State.onAny, Mach.wakeEdge_active, hw, Mach.wake_standby, hp, State.to, Mach.onHw, Hw.wakeFrom]
  case wakeShut =>
    intro s hp hw
    simp [exec, execWakePinEdge, State.onAny, Mach.wakeEdge_active, hw, Mach.wake_shutting, hp, State.to, Mach.onHw]
  case wakeIdle =>
    intro s hw
    simp [exec, execWakePinEdge, State.onAny, Mach.wakeEdge, Hw.wakeInactive, hw, State.to, Mach.onHw]
  case canShut =>
    intro s n hp hw
    simp [exec, execCanWakeUpPattern, State.onAny, hw, Mach.wake_shutting, hp, State.to, Mach.onHw]
  case canStandby =>
    intro s n hp hw
    simp [exec, execCanWakeUpPattern, State.onAny, hw, Mach.wake_standby, hp, State.to, Mach.onHw, Hw.wakeFrom]
  case waits | starts =>
    intro s env hp hr
    simp [exec, execColdStart, State.onAny, Mach.coldStart, hp, State.toMach, Mach.onHw, Mach.startWith, hr, Mach.coldReset]
  case restarts =>
    intro s env hp he
    simp [exec, execColdStart, State.onAny, Mach.coldStart, hp, he, State.toMach]
  case locked =>
    intro s env hp he
    simp [exec, execPllLock, State.onAny, Mach.pllLock, hp, he, State.toMach]
  case noFlash =>
    intro h env hf hq hw hs
    simp only [Hw.stage7, hf]
    exact Hw.waitsForHost_idle _ ((Hw.masterIdle_wr _ _ _ (by decide)).2 ⟨hq, hw, hs⟩)
  case flash =>
    intro h env b hf hb
    simp only [Hw.stage7, hf, hb, if_true]
    refine ⟨rfl, ?_, rfl⟩
    rw [Hw.bsState, Hw.rd_wr_ne _ _ _ _ (by decide), Hw.rd_wr _ _ _ (by decide)]
    decide
  case legRefused =>
    intro h r
    rw [Hw.startRefused, if_pos (by omega), Nat.add_sub_cancel]
  case refused =>
    intro h d hd
    rcases hd with rfl | rfl | rfl | rfl <;> simp [Hw.startRefused]
  case dip =>
    intro s i saved hl ht hs
    have unsaved : (saved && i.val != 1 && i.val != 2) = false := by rcases hs with rfl | rfl | rfl <;> simp
    have fails := Mach.supplyFails_unsaved ⟨s.mem, s.hw⟩ (supplyBit i) (supplyBit_spared i) hl ht
    simp [exec, execSupplyDip, State.onAny, Hw.operating, hl, unsaved, fails, State.to]
  case vsup =>
    intro s hl ht
    have fails := Mach.supplyFails_unsaved ⟨s.mem, s.hw⟩ SUPPLY_STATUS.VSUP_OK (by decide) hl ht
    simp [exec, execVsupLow, State.onAny, hl, fails, State.to]
  case vsupSaved =>
    intro s hl ht ho hp hb hs hk
    have fails := Mach.supplyFails_saved ⟨s.mem, s.hw⟩ SUPPLY_STATUS.VSUP_OK (by decide) hl ht ho hp hb hs hk
    simp [exec, execVsupLow, State.onAny, hl, fails, State.toMach]
  case aonOff | aonLive =>
    intro s hl
    simp [exec, execAonReset, State.onAny, Mach.aonReset, hl, Mach.coldReset, Mach.onHw, State.toMach]
  case reset =>
    intro h _
    simpa only [Hw.resetView, Prod.mk.injEq] using h.chipReset_resetView

end Sys2Proof.Machine
end

section
/-!
PROOF. The state after reset, and the supplies of the gates.
-/
namespace Sys2Proof.Machine

-- ## Reset

/-- A part whose registers have never been set reads every register at its reset value (R53). -/
theorem Hw.reg_unset (h : Hw) (r : RegId) (hr : h.regs = []) : h.reg r = r.reset := by
  simp only [Hw.reg, hr, Tab.get]

/-- Settles O2: nothing has been set or stored in the state after reset, so each table answers its default. -/
theorem resetState : Obligations.ResetState := by
  unfold Obligations.ResetState
  exact ⟨Memory.wf_nil, rfl, rfl, rfl, rfl, rfl, fun r => Hw.reg_unset _ r rfl⟩

-- ## Bootstrap supplies

/-- A bootstrap supply rises with no test waiting (R47, R174). -/
theorem Hw.bootstrapAbove_idle (h : Hw) (c : Nat) (hw : (h.cell c).preCharge = 0) :
    h.bootstrapAbove c = (h.wrB (LEG_GD_STATUS.BST_OK c) true).armRegion (regionOf c) := by
  simp only [Hw.bootstrapAbove, hw, if_true]

/-- A bootstrap supply rises for the test that waits for it (R172). -/
theorem Hw.bootstrapAbove_waiting (h : Hw) (c : Nat) (hw : (h.cell c).preCharge ≠ 0) :
    h.bootstrapAbove c = (((h.wrB (LEG_GD_STATUS.BST_OK c) true).setCell c { h.cell c with preCharge := 0 }).startDiag c
      (h.cell c).preCharge).armRegion (regionOf c) := by
  simp only [Hw.bootstrapAbove, hw, if_false, Hw.wrB_cell]

/-- A bootstrap supply that has not risen in time, with no test waiting, fences its cell (R173). -/
theorem Hw.bootstrapLate_idle (h : Hw) (c : Nat) (hw : (h.cell c).preCharge = 0) (hv : h.vdrvOk (regionOf c) = true)
    (hb : h.on (LEG_GD_STATUS.BST_OK c) = false) : h.bootstrapLate c = (h.fenceCell c 0x04).armRegion (regionOf c) := by
  simp [Hw.bootstrapLate, hw, hv, hb]

/-- Settles O14: each clause is one supply event, in the branch that its premises name. -/
theorem gateSupplies : Obligations.GateSupplies := by
  unfold Obligations.GateSupplies
  refine ⟨?above, ?aboveTest, ?late, ?low, ?vdrvLow, fun s r hl => s.onLive_live (fun h => h.vdrvAbove r) hl⟩
  case above =>
    intro s c hl hw
    exact (s.onLive_live (fun h => h.bootstrapAbove c) hl).trans (congrArg s.to (s.hw.bootstrapAbove_idle c hw))
  case aboveTest =>
    intro s c hl hw
    exact (s.onLive_live (fun h => h.bootstrapAbove c) hl).trans (congrArg s.to (s.hw.bootstrapAbove_waiting c hw))
  case late =>
    intro s c hl hw hv hb
    exact (s.onLive_live (fun h => h.bootstrapLate c) hl).trans (congrArg s.to (s.hw.bootstrapLate_idle c hw hv hb))
  case low =>
    intro s c hl hb
    exact (s.onLive_live (fun h => h.bootstrapLow c) hl).trans (congrArg s.to (if_pos hb))
  case vdrvLow =>
    intro s r hl hv
    exact (s.onLive_live (fun h => h.vdrvBelow r) hl).trans (congrArg s.to (if_pos hv))

end Sys2Proof.Machine
end

section
/-!
PROOF. Reads that copy other registers for their requester.
-/
namespace Sys2Proof.Machine

/-- Whether the register map has at r a register whose read answers its value and copies the registers `rs` (R246, R261, R389, R411). -/
def isCopyingReg (r : RegId) (rs : List RegId) : Bool :=
  match regHit r.addr with
  | some x => x.id r.addr == r && copiedBy x == rs && !isCopied x && r.addr != TB_STEP_LO.addr && x.row.hook != .seqFlagsClr &&
      x.row.base != (BLK_INPUT_VALUE 0 0).addr && x.row.base != (BLK_SIG 0 0).addr
  | none => false

/-- A read of such a register, in its unit. -/
theorem Hw.readReg_copying (h : Hw) (q : Requester) (r : RegId) (rs : List RegId) (hc : isCopyingReg r rs = true) :
    ∃ x, regHit r.addr = some x ∧
      h.readReg q x r.addr = (h.reg r, h.copyRegs (h.copyKey q) (rs.map (fun r => (r, h.reg r)))) := by
  unfold isCopyingReg at hc
  split at hc
  case h_2 => cases hc
  case h_1 x hx =>
    simp only [Bool.and_eq_true, beq_iff_eq, bne_iff_ne, Bool.not_eq_true'] at hc
    obtain ⟨⟨⟨⟨⟨⟨hid, hby⟩, hcopied⟩, hstep⟩, hflags⟩, hinput⟩, hsig⟩ := hc
    exact ⟨x, hx, by simp only [Hw.readReg, hstep, hcopied, hflags, hinput, hsig, hid, hby, if_false, Bool.false_eq_true, decide_false,
      Bool.false_and]⟩

/-- A read that the checks let pass reaches the register at its own address (R105). -/
theorem Mach.busRead_reg (m : Mach) (q : Requester) (who addr ecc : Nat) (x : RegHit) (ht : m.hw.turnstile q addr false 0 = (none, none))
    (hx : regHit addr = some x) :
    m.busRead q who addr ecc = (some (.ok, (m.hw.readReg q x addr).1), ⟨m.mem, (m.hw.readReg q x addr).2⟩) := by
  have ha : addr / 4 * 4 = addr := by have := Hw.aligned_of_turnstile ht; omega
  simp only [Mach.busRead, ht, ha, hx]

/-- A read of a register that copies others is answered OK with its value, and the others are copied for the requester. -/
theorem State.regRead_copying (s : State) (q : Requester) (r : RegId) (rs : List RegId) (hc : isCopyingReg r rs = true)
    (hr : s.readable q r) : s.regRead q r =
      s.to ((s.hw.copyRegs (s.hw.copyKey q) (rs.map (fun r => (r, s.hw.reg r)))).answer .ok (s.hw.reg r)) := by
  obtain ⟨hl, ht⟩ := hr
  obtain ⟨x, hx, hread⟩ := s.hw.readReg_copying q r rs hc
  have access := Mach.busRead_reg ⟨s.mem, s.hw⟩ q (whoRead q) r.addr 0 x ht hx
  rw [hread] at access
  exact s.onBus_read q r.addr 0 hl access

theorem sampleI_copying (c : CellId) : isCopyingReg (LEG_SAMPLE_I c) [LEG_SAMPLE_V c, LEG_SAMPLE_STATUS c] = true := by
  revert c
  decide +kernel

theorem measV_copying (n : CellId) : isCopyingReg (MEAS_CH_V n) [MEAS_CH_I n, MEAS_CH_STAMP n, MEAS_CH_FLAGS n] = true := by
  revert n
  decide +kernel

theorem position_copying (u : UnitId) : isCopyingReg (POS_POSITION u) [POS_SPEED u, POS_STATUS u, POS_EDGE_STEP u] = true := by
  revert u
  decide +kernel

theorem accCharge_copying (c : CellId) : isCopyingReg (LEG_ACC_CHARGE_LO c) [LEG_ACC_CHARGE_HI c, LEG_ACC_ENERGY_LO c, LEG_ACC_ENERGY_HI c,
    LEG_ACC_PHASE_LO c, LEG_ACC_PHASE_HI c, LEG_ACC_EST_CYCLES c, LEG_ACC_LAST c] = true := by
  revert c
  decide +kernel

/-- A read of TB_STEP_LO answers the low half of the step count and copies the rest of the time (R57). -/
theorem Hw.readReg_stepLo (h : Hw) (q : Requester) (x : RegHit) :
    h.readReg q x TB_STEP_LO.addr = (BitVec.ofNat 32 h.stepCount,
      h.copyRegs (h.copyKey q) [(TB_STEP_HI, BitVec.ofNat 32 (h.stepCount / 2 ^ 32)), (TB_PHASE, BitVec.ofNat 32 h.phase)]) := by
  simp only [Hw.readReg, if_true]

/-- Settles O23: each read passes the checks to its register, which copies the registers of its set. -/
theorem copyingReads : Obligations.CopyingReads := by
  unfold Obligations.CopyingReads
  refine ⟨?time, fun s q c hr => s.regRead_copying q _ _ (sampleI_copying c) hr,
    fun s q n hr => s.regRead_copying q _ _ (measV_copying n) hr, fun s q u hr => s.regRead_copying q _ _ (position_copying u) hr,
    fun s q c hr => s.regRead_copying q _ _ (accCharge_copying c) hr⟩
  case time =>
    intro s q phase hp ht
    have hl : s.hw.live = true := by simp only [Hw.live, hp]
    obtain ⟨x, hx⟩ : ∃ x, regHit TB_STEP_LO.addr = some x := Option.isSome_iff_exists.1 (by decide +kernel)
    refine (State.onBus_live s q _ hl).trans ?_
    simp only [Mach.read, Mach.busRead_reg ⟨s.mem, s.hw.atPhase phase⟩ q _ _ 0 x ht hx, Mach.onHw, Hw.readReg_stepLo]
    rfl

end Sys2Proof.Machine
end

section
/-!
PROOF. Operations of the keep memory: queued writes and clears, their ends, the seconds.
-/
namespace Sys2Proof.Machine

-- ## Command registers whose unit may store

/-- A command register's row has its hook and its indices. -/
theorem regHit_command {r : RegId} {hk : RegHook} {idx : List Nat} (hc : isCommandReg r hk idx = true) :
    r.addr / 4 * 4 = r.addr ∧ ∃ x, regHit r.addr = some x ∧ x.row.hook = hk ∧ x.idx = idx := by
  unfold isCommandReg at hc
  split at hc
  case h_1 x hx =>
    simp only [Bool.and_eq_true, beq_iff_eq, decide_eq_true_eq] at hc
    obtain ⟨h4, ⟨hh, hi⟩, -⟩ := hc
    exact ⟨h4, x, hx, hh, hi⟩
  case h_2 => simp at hc

/-- A write of a command register that its unit accepts, with what the unit does to the part and its memory. -/
theorem State.regWrite_storing (s : State) (q : Requester) (r : RegId) (v : Word) (hk : RegHook) (idx : List Nat) (m : Mach)
    (hc : isCommandReg r hk idx = true) (ha : s.admits q r v)
    (hu : ∀ x : RegHit, x.row.hook = hk → x.idx = idx → (Mach.mk s.mem s.hw).unitStore q x r.addr v = (.ok, m)) :
    s.regWrite q r v = s.toMach m.mem ((m.hw.ramWritten r.addr).answer .ok 0) := by
  obtain ⟨h4, x, hx, hh, hi⟩ := regHit_command hc
  exact State.regWrite_unit s q r v x m ha h4 hx (hu x hh hi)

theorem keepCtrl_command (p : PartId) : isCommandReg (PART_KEEP_CTRL p) .keepCtrl [p] = true := by
  revert p
  decide +kernel

/-- A write of PART_KEEP_CTRL that its unit accepts. -/
theorem State.regWrite_keepCtrl (s : State) (q : Requester) (p : PartId) (v : Word) (m : Mach) (ha : s.admits q (PART_KEEP_CTRL p) v)
    (hu : (Mach.mk s.mem s.hw).keepCtrlWrite p v = (.ok, m)) :
    s.regWrite q (PART_KEEP_CTRL p) v = s.toMach m.mem ((m.hw.ramWritten (PART_KEEP_CTRL p).addr).answer .ok 0) :=
  s.regWrite_storing q _ v .keepCtrl [p] m (keepCtrl_command p) ha fun x hh hi => by
    simp only [Mach.unitStore, hh, RegHit.ix, hi, List.getD_cons_zero, hu]

-- ## KEEP_CTRL (R543)

/-- WRITE_PAGE is accepted and queued. -/
theorem Mach.keepCtrlWrite_page (m : Mach) (p : Nat) (ha : m.hw.rd (PART_KEEP_ADDR.ADDR p) % 0x100 = 0)
    (hlo : (m.hw.keepWindow p).1 ≤ m.hw.rd (PART_KEEP_ADDR.ADDR p))
    (hhi : m.hw.rd (PART_KEEP_ADDR.ADDR p) + 0x100 ≤ (m.hw.keepWindow p).1 + (m.hw.keepWindow p).2)
    (hr : m.hw.inRecorder p (m.hw.rd (PART_KEEP_ADDR.ADDR p)) = false) (hb : m.hw.keepBusy p = false) (ho : m.hw.keepOpen = true)
    (hh : m.hw.keepHalf (keepSector (m.hw.rd (PART_KEEP_ADDR.ADDR p))) = false) :
    m.keepCtrlWrite p 0x7E150001#32 = (.ok, m.onHw (fun h =>
      ((h.wr (PART_KEEP_STATUS.OP p) 1).wr (PART_KEEP_STATUS.STATE p) 1).wr (PART_KEEP_STATUS.CODE p) 0)) := by
  have key : Bits.get 0x7E150001#32 31 16 = 0x7E15 := by decide
  simp [Mach.keepCtrlWrite, key, ha, hlo, hhi, hr, hb, ho, hh]

/-- CLEAR is accepted and queued. -/
theorem Mach.keepCtrlWrite_clear (m : Mach) (p : Nat) (ha : m.hw.rd (PART_KEEP_ADDR.ADDR p) % 0x10000 = 0)
    (hlo : (m.hw.keepWindow p).1 ≤ m.hw.rd (PART_KEEP_ADDR.ADDR p))
    (hhi : m.hw.rd (PART_KEEP_ADDR.ADDR p) + 0x10000 ≤ (m.hw.keepWindow p).1 + (m.hw.keepWindow p).2)
    (hr : m.hw.inRecorder p (m.hw.rd (PART_KEEP_ADDR.ADDR p)) = false) (hb : m.hw.keepBusy p = false) (ho : m.hw.keepOpen = true) :
    m.keepCtrlWrite p 0x7E150002#32 = (.ok, m.onHw (fun h =>
      ((h.wr (PART_KEEP_STATUS.OP p) 2).wr (PART_KEEP_STATUS.STATE p) 1).wr (PART_KEEP_STATUS.CODE p) 0)) := by
  have key : Bits.get 0x7E150002#32 31 16 = 0x7E15 := by decide
  simp [Mach.keepCtrlWrite, key, sectorBytes, ha, hlo, hhi, hr, hb, ho]

/-- REC_RESET is accepted and completes at once (R552). -/
theorem Mach.keepCtrlWrite_recReset (m : Mach) (p : Nat) (hk : (m.hw.claims p).recKib ≠ 0) (hb : m.hw.keepBusy p = false)
    (ho : m.hw.keepOpen = true) : m.keepCtrlWrite p 0x7E150004#32 =
      (.ok, (m.recFormat p).onHw (fun h => (h.wr (PART_KEEP_STATUS.OP p) 3).keepEnd p 3 .ok)) := by
  have key : Bits.get 0x7E150004#32 31 16 = 0x7E15 := by decide
  simp [Mach.keepCtrlWrite, key, hk, hb, ho]

/-- A recorder that has been formatted is empty, from now on (R552). -/
theorem Mach.recFormat_empty (m : Mach) (p : Nat) : ((m.recFormat p).hw.recorder p).entries = [] ∧
    ((m.recFormat p).hw.recorder p).seq = 0 ∧ (m.recFormat p).hw.rd (PART_REC_STATUS.ENTRIES_USED p) = 0 ∧
    ((m.recFormat p).hw.recorder p).createdS = m.hw.rd OP_SECONDS.SECONDS := by
  simp only [Mach.recFormat, Hw.wr_recorder, Hw.setRecorder_recorder, true_and, and_true]
  exact Hw.rd_wr _ _ _ (show 31 < 32 by decide)

-- ## The ends of operations

/-- A page write that runs ends (R546). -/
theorem Mach.pageDone_running (m : Mach) (p : Nat) (ho : m.hw.rd (PART_KEEP_STATUS.OP p) = 1)
    (hs : m.hw.rd (PART_KEEP_STATUS.STATE p) = 2) : m.pageDone p =
      ((Mach.mk (m.mem.putRange (m.hw.rd (PART_KEEP_ADDR.ADDR p)) (m.hw.pageBytes p)) m.hw).journal p (m.hw.keepPageNo p) 31 2 false).onHw
        (fun h => h.keepEnd p 3 .ok) := by
  simp [Mach.pageDone, ho, hs]

/-- A clear in work ends while the write window is open (R547). -/
theorem Mach.clearDone_open (m : Mach) (p : Nat) (ho : m.hw.rd (PART_KEEP_STATUS.OP p) = 2) (hb : m.hw.keepBusy p = true)
    (hk : m.hw.keepOpen = true) : m.clearDone p =
      (m.clearSector (keepSector (m.hw.rd (PART_KEEP_ADDR.ADDR p)))).onHw (fun h => h.keepEnd p 3 .ok) := by
  simp [Mach.clearDone, ho, hb, hk]

-- ## Seconds (R71 to R73)

/-- A loop whose steps below its bound change nothing changes nothing. -/
theorem Num.forEach_id {σ : Type} (n : Nat) (f : Nat → σ → σ) (s : σ) (hf : ∀ i < n, f i s = s) : Num.forEach n f s = s :=
  List.foldlRecOn (motive := fun x => x = s) _ _ rfl fun x hx i hi => by rw [hx, hf i (List.mem_range.1 hi)]

/-- No partition has a recorder. -/
def Hw.noRecorders (h : Hw) : Prop := ∀ p < 16, (h.recorder p).base = 0

theorem Hw.recSeconds_none (h : Hw) (hr : h.noRecorders) :
    Num.forEach 16 (fun p (acc : Hw) => if (acc.recorder p).base = 0 then acc else acc.recSecond p) h = h :=
  Num.forEach_id 16 _ h fun p hp => if_pos (hr p hp)

theorem Mach.recUpdates_none (m : Mach) (hr : m.hw.noRecorders) : Num.forEach 16 (fun p (acc : Mach) => acc.recUpdate p) m = m :=
  Num.forEach_id 16 _ m fun p hp => if_pos (hr p hp)

/-- A counter below its top counts up by one. -/
theorem Hw.rd_incTop (h : Hw) (f : Fld) (hf : f.hi < 32) (ht : h.rd f < 2 ^ (f.hi + 1 - f.lo) - 1) :
    (h.incTop f).rd f = h.rd f + 1 := by
  rw [Hw.incTop, Hw.rd_wr _ _ _ hf, Num.incTo, if_pos ht, Nat.mod_eq_of_lt (by omega)]

/-- Nothing waits for the engine (R544). -/
theorem Mach.keepFlush_none (m : Mach) (hp : m.hw.keepPend = []) : m.keepFlush = m := by
  simp [Mach.keepFlush, hp]

/-- A word that waits for an open engine is stored at once (R544). -/
theorem Mach.keepFlush_one (m : Memory) (h : Hw) (a : Nat) (bs : List Byte) (hp : h.keepPend = []) (hb : h.keepBlocked = [])
    (ho : h.keepOpen = true) : (Mach.mk m (h.keepStore a bs)).keepFlush = ⟨m.setBytes (keepBase + a) bs, h⟩ := by
  have pend : (h.keepStore a bs).keepPend = [(a, bs)] := by simp [Hw.keepStore, hp]
  have opened : (h.keepStore a bs).keepOpen = true := ho
  have blocked : (h.keepStore a bs).keepBlocked = [] := hb
  have same : { h.keepStore a bs with keepPend := [], keepBlocked := [] } = h :=
    congrArg₂ (fun p b => ({ h with keepPend := p, keepBlocked := b } : Hw)) hp.symm hb.symm
  simp only [Mach.keepFlush, pend, opened, blocked, List.isEmpty_cons, Bool.false_eq_true, if_false, if_true, List.filter_nil, same]
  rfl

/-- A second that is not stored. -/
theorem Mach.opSecond_counted (m : Mach) (ht : m.hw.rd OP_SECONDS.SECONDS < 0xFFFFFFFF)
    (h60 : (m.hw.rd OP_SECONDS.SECONDS + 1) % 60 ≠ 0) (hp : m.hw.keepPend = []) (hr : m.hw.noRecorders) :
    m.opSecond = ⟨m.mem, m.hw.incTop OP_SECONDS.SECONDS⟩ := by
  have counted : (m.hw.incTop OP_SECONDS.SECONDS).rd OP_SECONDS.SECONDS = m.hw.rd OP_SECONDS.SECONDS + 1 := m.hw.rd_incTop _ (by decide) ht
  have flushed : (Mach.mk m.mem (m.hw.incTop OP_SECONDS.SECONDS)).keepFlush = ⟨m.mem, m.hw.incTop OP_SECONDS.SECONDS⟩ :=
    Mach.keepFlush_none _ hp
  simp only [Mach.opSecond, counted, h60, if_false]
  rw [Hw.recSeconds_none (m.hw.incTop _) hr, flushed, Mach.recUpdates_none ⟨m.mem, m.hw.incTop _⟩ hr]

/-- A second whose count is stored with the power cycles (R73). -/
theorem Mach.opSecond_stored (m : Mach) (ht : m.hw.rd OP_SECONDS.SECONDS < 0xFFFFFFFF)
    (h60 : (m.hw.rd OP_SECONDS.SECONDS + 1) % 60 = 0) (hp : m.hw.keepPend = []) (hb : m.hw.keepBlocked = []) (ho : m.hw.keepOpen = true)
    (hr : m.hw.noRecorders) : m.opSecond = ⟨m.mem.setBytes 0x50000000
      (Num.bytesLE 4 (m.hw.rd OP_SECONDS.SECONDS + 1) ++ Num.bytesLE 4 (m.hw.rd POWER_CYCLES.COUNT)), m.hw.incTop OP_SECONDS.SECONDS⟩ := by
  have counted : (m.hw.incTop OP_SECONDS.SECONDS).rd OP_SECONDS.SECONDS = m.hw.rd OP_SECONDS.SECONDS + 1 := m.hw.rd_incTop _ (by decide) ht
  have cycles : (m.hw.incTop OP_SECONDS.SECONDS).rd POWER_CYCLES.COUNT = m.hw.rd POWER_CYCLES.COUNT := Hw.rd_wr_ne _ _ _ _ (by decide)
  have opened : (m.hw.incTop OP_SECONDS.SECONDS).keepOpen = true :=
    (congrArg (fun n => n != 0) (Hw.rd_wr_ne m.hw OP_SECONDS.SECONDS KEEP_STATE.WRITE_OK _ (by decide))).trans ho
  simp only [Mach.opSecond, counted, h60, if_true]
  rw [Hw.recSeconds_none ((m.hw.incTop OP_SECONDS.SECONDS).keepStore 0 _) hr, Mach.keepFlush_one m.mem (m.hw.incTop _) 0 _ hp hb opened,
    Mach.recUpdates_none ⟨_, m.hw.incTop _⟩ hr, Hw.secondsWord, counted, cycles]
  rfl

/-- While the device is in operation, a second passes (R71). -/
theorem State.opSeconds_running (s : State) (ho : s.hw.opRun = true) :
    execOpSecondsIncrement s = s.toMach (Mach.opSecond ⟨s.mem, s.hw⟩).mem (Mach.opSecond ⟨s.mem, s.hw⟩).hw := if_pos ho

-- ## Histograms (R553)

/-- A sample without a value is counted as invalid. -/
theorem Hist.sample_invalid (x : Hist) (hx : x.source ≠ 0) : x.sample 0x8000 = { x with invalid := min 0xFFFFFFFF (x.invalid + 1) } := by
  have count : Num.incTo 0xFFFFFFFF x.invalid = min 0xFFFFFFFF (x.invalid + 1) := by
    unfold Num.incTo
    split <;> omega
  simp [Hist.sample, hx, count]

-- ## The statement

/-- Settles O53: a command is accepted by its unit and does what the unit says; an event acts in the branch that its premises name. -/
theorem keepOperations : Obligations.KeepOperations := by
  unfold Obligations.KeepOperations
  refine ⟨?page, ?clear, ?recReset, fun m p => m.recFormat_empty p, ?pageDone, ?clearDone, ?retry, ?second, ?minute, ?hist⟩
  case page =>
    intro s q p ha hz hlo hhi hr hb ho hh
    exact s.regWrite_keepCtrl q p _ _ ha (Mach.keepCtrlWrite_page ⟨s.mem, s.hw⟩ p hz hlo hhi hr hb ho hh)
  case clear =>
    intro s q p ha hz hlo hhi hr hb ho
    exact s.regWrite_keepCtrl q p _ _ ha (Mach.keepCtrlWrite_clear ⟨s.mem, s.hw⟩ p hz hlo hhi hr hb ho)
  case recReset =>
    intro s q p ha hk hb ho
    have written := s.regWrite_keepCtrl q p _ _ ha (Mach.keepCtrlWrite_recReset ⟨s.mem, s.hw⟩ p hk hb ho)
    exact written
  case pageDone =>
    intro s p hl ho hs
    refine (s.onMach_live (fun m => m.pageDone p) hl).trans ?_
    simp only [Mach.pageDone_running ⟨s.mem, s.hw⟩ p ho hs, Mach.journal, Mach.onHw, Num.ofBool, keepBase]
    rfl
  case clearDone =>
    intro s p hl ho hb hk
    refine (s.onMach_live (fun m => m.clearDone p) hl).trans ?_
    simp only [Mach.clearDone_open ⟨s.mem, s.hw⟩ p ho hb hk, Mach.clearSector, Mach.onHw, Hw.setHeader, keepBase, sectorBytes]
  case retry =>
    intro s hl ho
    refine (s.onMach_live Mach.keepRetry hl).trans ?_
    rw [Mach.keepRetry, if_pos ho]
    rfl
  case second =>
    intro s _ ho ht h60 hp hr
    refine (s.opSeconds_running ho).trans ?_
    rw [Mach.opSecond_counted ⟨s.mem, s.hw⟩ ht h60 hp hr]
    rfl
  case minute =>
    intro s _ ho ht h60 hp hb hk hr
    refine (s.opSeconds_running ho).trans ?_
    rw [Mach.opSecond_stored ⟨s.mem, s.hw⟩ ht h60 hp hb hk hr]
  case hist =>
    rintro x v hx rfl
    exact x.sample_invalid hx

end Sys2Proof.Machine
end

section
/-!
PROOF. The slices of the Carousel and their ends, and the clock monitors.
-/
namespace Sys2Proof.Machine

-- ## Lanes (R569, R570)

/-- Block k and the registers: all that decides whether the block can lend a lane. -/
def Hw.laneView (k : Nat) (h : Hw) : Block × List (Nat × Word) := (h.block k, h.regs)

/-- What the slice of lane l makes of one block. -/
def Hw.laneSliceAt (h : Hw) (l k : Nat) : Hw :=
  let b := h.block k
  if h.blockFenced k || h.regionHolds k || h.on (ST_LANE.UNTESTED k) || b.retired.contains l || b.underTest.isSome then h
  else if h.halted k then h.setBlock k { b with laneDue := some l }
  else h.setBlock k { b with underTest := some l }

theorem Hw.laneSlices_eq (h : Hw) (l : Nat) : h.laneSlices l = Num.forEach 8 (fun k a => a.laneSliceAt l k) h := rfl

theorem Hw.laneSliceAt_regs (h : Hw) (l k : Nat) : (h.laneSliceAt l k).regs = h.regs := by
  unfold Hw.laneSliceAt
  dsimp only
  repeat' split
  all_goals rfl

theorem Hw.laneSliceAt_block_ne (h : Hw) (l k j : Nat) (hj : j ≠ k) : (h.laneSliceAt l k).block j = h.block j := by
  unfold Hw.laneSliceAt
  dsimp only
  repeat' split
  · rfl
  · exact Hw.setBlock_block_ne _ _ _ _ hj
  · exact Hw.setBlock_block_ne _ _ _ _ hj

/-- No register changes with a slice (R569). -/
theorem Hw.laneSlices_regs (h : Hw) (l : Nat) : (h.laneSlices l).regs = h.regs := by
  rw [Hw.laneSlices_eq]
  exact Num.forEach_eq Hw.regs 8 _ h fun k x => x.laneSliceAt_regs l k

/-- A loop of which one index alone acts on a view of the state, where the view is known at its start. -/
theorem Num.forEach_reaches {σ β : Type} (g : σ → β) (v : β) (n t : Nat) (f : Nat → σ → σ) (s : σ) (ht : t < n)
    (hne : ∀ i x, i ≠ t → g (f i x) = g x) (heq : ∀ x, g x = g s → g (f t x) = v) : g (Num.forEach n f s) = v := by
  obtain ⟨before, after, hl⟩ := List.append_of_mem (List.mem_range.2 ht)
  have keeps (l : List Nat) (hm : t ∉ l) (x : σ) : g (l.foldl (fun a i => f i a) x) = g x :=
    List.foldlRecOn (motive := fun y => g y = g x) l _ rfl fun y hy i hi => (hne i y fun e => hm (e ▸ hi)).trans hy
  have apart : (before ++ t :: after).Nodup := hl ▸ List.nodup_range
  obtain ⟨-, last, disjoint⟩ := List.nodup_append.1 apart
  have hb : t ∉ before := fun hm => disjoint t hm t List.mem_cons_self rfl
  rw [Num.forEach, hl, List.foldl_append, List.foldl_cons, keeps after (List.nodup_cons.1 last).1, heq _ (keeps before hb s)]

/-- A block that can lend lane l lends it, whatever the slice makes of the others (R569). -/
theorem Hw.laneSlices_lends (h : Hw) (k l : Nat) (hk : k < 8) (hf : h.blockFenced k = false) (hr : h.regionHolds k = false)
    (hu : h.on (ST_LANE.UNTESTED k) = false) (hd : (h.block k).retired.contains l = false) (ht : (h.block k).underTest = none)
    (hh : h.halted k = false) : (h.laneSlices l).block k = { h.block k with underTest := some l } := by
  have key : (h.laneSlices l).laneView k = ({ h.block k with underTest := some l }, h.regs) := by
    rw [Hw.laneSlices_eq]
    refine Num.forEach_reaches (Hw.laneView k) _ 8 k _ h hk (fun j x hj => ?others) (fun x hx => ?own)
    case others => simp only [Hw.laneView, x.laneSliceAt_block_ne l j k hj.symm, Hw.laneSliceAt_regs]
    case own =>
      obtain ⟨block, regs⟩ := Prod.mk.inj hx
      have reads (f : Fld) : x.rd f = h.rd f := by simp only [Hw.rd, Hw.reg, regs]
      have lends : x.laneSliceAt l k = x.setBlock k { h.block k with underTest := some l } := by
        simp only [Hw.blockFenced, Hw.regionHolds, Hw.on, Hw.halted, Hw.bit] at hf hr hu hh
        simp only [Hw.laneSliceAt, Hw.blockFenced, Hw.regionHolds, Hw.on, Hw.halted, Hw.bit, reads, block, hf, hr, hu, hd, ht, hh,
          Option.isSome_none, Bool.or_self, Bool.false_eq_true, if_false]
      simp only [lends, Hw.laneView, Hw.setBlock_block]
      exact congrArg _ regs
  exact congrArg Prod.fst key

/-- A lane that fails while spares remain is retired (R570). -/
theorem Hw.retireLane_spare (h : Hw) (k l : Nat) (hn : h.rd (ST_LANE.RETIRED k) < 16) : h.retireLane k l =
    (let n := ((h.blockFault k 0x17).wr (ST_LANE.RETIRED k) (h.rd (ST_LANE.RETIRED k) + 1)).wr (ST_LANE.LAST_RETIRED k) l
     let n := n.setBlock k { n.block k with retired := l :: (n.block k).retired }
     if h.rd (ST_LANE.RETIRED k) = 15 then n.wrB (ST_LANE.UNTESTED k) true else n) := by
  simp only [Hw.retireLane, Nat.not_le.2 hn, if_false, Hw.updBlock]

/-- A failure that would need a seventeenth spare fences the block (R570). -/
theorem Hw.retireLane_none (h : Hw) (k l : Nat) (hn : 16 ≤ h.rd (ST_LANE.RETIRED k)) : h.retireLane k l = h.fenceBlock k 0x18 := by
  simp only [Hw.retireLane, hn, if_true]

/-- The check of a lane that is under test (R569). -/
theorem Hw.laneCheck_under (h : Hw) (k l : Nat) (passed : Bool) (hu : (h.block k).underTest = some l) : h.laneCheck k passed =
    if passed then h.setBlock k { h.block k with underTest := none }
    else (h.setBlock k { h.block k with underTest := none }).retireLane k l := by
  simp only [Hw.laneCheck, hu, Hw.updBlock]

-- ## The slices of an interval (R568)

/-- The slices of die 0 are those of its lanes. -/
theorem Hw.carouselSlice_lanes (h : Hw) (hp : h.power = .running) (hf : h.chipFault = false) (he : h.on ST_CFG.CAROUSEL_EN = true)
    (hd : h.stepCount % max (h.rd ST_CFG.INTERVAL) 1 = 0) (hn : h.carouselNext < 511) : h.carouselSlice 0 [] true =
      { (h.wrBit ST_CAROUSEL.DEFERRED 0 false).laneSlices h.carouselNext with carouselNext := h.carouselNext + 1 } := by
  have next : (h.wrBit ST_CAROUSEL.DEFERRED 0 false).carouselNext = h.carouselNext := rfl
  simp [Hw.carouselSlice, Hw.laneSlice, hp, hf, he, hd, next, hn.ne]

/-- D6 and D7 defer their slices at throttle. -/
theorem Hw.carouselSlice_deferred (h : Hw) (d : Nat) (found : List ScrubFind) (ok : Bool) (hp : h.power = .running)
    (hf : h.chipFault = false) (he : h.on ST_CFG.CAROUSEL_EN = true) (hi : h.stepCount % max (h.rd ST_CFG.INTERVAL) 1 = 0) (hd : 6 ≤ d)
    (ht : 2 ≤ h.rd (THERM_STATUS.LEVEL (dieZone d))) : h.carouselSlice d found ok = h.wrBit ST_CAROUSEL.DEFERRED d true := by
  simp [Hw.carouselSlice, hp, hf, he, hi, hd, ht]

-- ## Memory (R571)

theorem Hw.scrubFound_correctable (h : Hw) (d : Nat) (e : ScrubFind) (he : e.correctable = true) :
    h.scrubFound d e = h.incTop ST_SCRUB_COUNT.CORRECTED := if_pos he

theorem Hw.scrubFound_region (h : Hw) (r : RegionId) (e : ScrubFind) (he : e.correctable = false) :
    h.scrubFound (r.val + 2) e = (h.incTop ST_SCRUB_COUNT.UNCORRECTABLE).fenceRegion r 0x06 := by
  have leg : r.val + 2 ≤ 5 := by omega
  simp [Hw.scrubFound, he, leg]

-- ## Converters (R574)

/-- Two fields of one register that lie apart can be written in either order. -/
theorem Bits.set_set_comm (w : Word) (hi lo v hi' lo' v' : Nat) (h : hi' < lo ∨ hi < lo') :
    Bits.set (Bits.set w hi lo v) hi' lo' v' = Bits.set (Bits.set w hi' lo' v') hi lo v := by
  refine BitVec.eq_of_getLsbD_eq fun i _ => ?_
  simp only [Bits.getLsbD_set]
  by_cases hi : lo ≤ i ∧ i ≤ hi
  · have other : ¬ (lo' ≤ i ∧ i ≤ hi') := by omega
    simp only [hi, other, if_false]
  · simp only [hi, if_false]

theorem Hw.wr_wr_beside (h : Hw) (f g : Fld) (v w : Nat) (hr : g.reg = f.reg) (hb : g.hi < f.lo ∨ f.hi < g.lo) :
    (h.wr f v).wr g w = (h.wr g w).wr f v := by
  obtain ⟨r, fhi, flo⟩ := f
  obtain ⟨_, ghi, glo⟩ := g
  cases hr
  simp only [Hw.wr, Hw.reg_setReg, Hw.setReg_setReg, Bits.set_set_comm _ fhi flo v ghi glo w hb]

/-- A deviation within the limit is shown as it is, and the reference has not failed (R574). -/
theorem Hw.convTestEnd_within (h : Hw) (n : Nat) (dev : Int) (hn : h.convTest = n) (h48 : n < 48) (hb : (h.conv n).backNext = false)
    (hlo : -500 ≤ dev) (hhi : dev ≤ 500) : h.convTestEnd true dev =
      if (h.conv n).isOpen then (h.wrI ST_MEAS_STATUS.REF_DEV dev).setConv n { h.conv n with backNext := true }
      else (h.wrI ST_MEAS_STATUS.REF_DEV dev).convBack n := by
  have used : n ≠ 0xFF := by omega
  have wide : n < 64 := by omega
  have shown : Num.clamp (-32768) 32767 dev = dev := by
    unfold Num.clamp
    split_ifs <;> omega
  have good : ¬ 500 < dev.natAbs := by omega
  have conv : (h.wrI ST_MEAS_STATUS.REF_DEV dev).conv n = h.conv n := rfl
  simp [Hw.convTestEnd, hn, used, wide, hb, shown, good, conv, Hw.updConv]

/-- No test stands for a converter, and it converts for itself. -/
def Hw.convReturned (h : Hw) (n : Nat) : Hw :=
  { h with convTest := 0xFF }.setConv n { h.conv n with bySpare := false, spareNext := false, backNext := false, held := 0 }

theorem Hw.convFree_eq (h : Hw) (n : Nat) : h.convFree n = (h.wr ST_MEAS_STATUS.UNDER_TEST 0xFF).convReturned n := rfl

theorem Hw.convReturned_wrI (h : Hw) (n : Nat) (f : Fld) (i : Int) : (h.wrI f i).convReturned n = (h.convReturned n).wrI f i := rfl

/-- A converter to which nothing was written during its test is handed back, beside the deviation that is shown. -/
theorem Hw.convBack_wrI (h : Hw) (n : Nat) (dev : Int) (hn : n ≠ 64) (hh : (h.conv n).held = 0) :
    (h.wrI ST_MEAS_STATUS.REF_DEV dev).convBack n =
      ((h.wr ST_MEAS_STATUS.UNDER_TEST 0xFF).convReturned n).wrI ST_MEAS_STATUS.REF_DEV dev := by
  have held : ((h.wrI ST_MEAS_STATUS.REF_DEV dev).conv n).held = 0 := hh
  have apart : (h.wrI ST_MEAS_STATUS.REF_DEV dev).wr ST_MEAS_STATUS.UNDER_TEST 0xFF =
      (h.wr ST_MEAS_STATUS.UNDER_TEST 0xFF).wrI ST_MEAS_STATUS.REF_DEV dev := Hw.wr_wr_beside _ _ _ _ _ rfl (by decide)
  rw [Hw.convBack, if_neg hn, if_pos held, Hw.convFree_eq, apart, Hw.convReturned_wrI]

-- ## Clock monitors (R60)

/-- What every fault of a clock monitor begins with: it is noted, and the comparators are judged again. -/
def Hw.clockNoted (h : Hw) (d : Nat) : Hw := ((h.wrBit CLK_STATUS.MON_FAULT d true).setDie d { h.die d with clockBad := true }).refreshAll

theorem Hw.clockFault_control (h : Hw) (d : DieId) (hd : d = 0 ∨ d = 1 ∨ d = 7) :
    h.clockFault d = (h.clockNoted d).chipFaultSet (if d = 7 then 0x03 else 0x02) := by
  rcases hd with rfl | rfl | rfl <;> rfl

theorem Hw.clockFault_leg (h : Hw) (r : RegionId) : h.clockFault (r.val + 2) = (h.clockNoted (r.val + 2)).fenceRegion r 0x03 := by
  obtain ⟨r, hr⟩ := r
  interval_cases r <;> rfl

theorem Hw.clockFault_d6 (h : Hw) : h.clockFault 6 = (h.clockNoted 6).measClockLost.d6Invalid 0x20 true := rfl

-- ## The statement

/-- Settles O54: each clause is one end or start of a slice, or one fault, in the branch that its premises name. -/
theorem selfTests : Obligations.SelfTests := by
  unfold Obligations.SelfTests
  refine ⟨?lanes, ?lends, ?deferred, fun h d e he => h.scrubFound_correctable d e he, fun h r e he => h.scrubFound_region r e he,
    ?passed, ?retired, ?spent, ?compBack, ?compFails, ?convBack, ?convLater, ?control, ?leg, ?d6, ?cleared⟩
  case lanes =>
    intro s hl hp hf he hd hn
    exact (s.onLive_live (fun h => h.carouselSlice 0 [] true) hl).trans (congrArg s.to (s.hw.carouselSlice_lanes hp hf he hd hn))
  case lends => exact fun h k l hf hr hu hd ht hh => ⟨h.laneSlices_lends k l k.isLt hf hr hu hd ht hh, h.laneSlices_regs l⟩
  case deferred =>
    intro s d found ok hl hp hf he hi hd ht
    have late : 6 ≤ d.val := by rcases hd with rfl | rfl <;> decide
    exact (s.onLive_live (fun h => h.carouselSlice d found ok) hl).trans
      (congrArg s.to (s.hw.carouselSlice_deferred d found ok hp hf he hi late ht))
  case passed =>
    intro s k l hl hu
    exact (s.onLive_live (fun h => h.laneCheck k true) hl).trans (congrArg s.to (s.hw.laneCheck_under k l true hu))
  case retired =>
    intro s k l hl hu hn
    refine (s.onLive_live (fun h => h.laneCheck k false) hl).trans (congrArg s.to ?_)
    exact (s.hw.laneCheck_under k l false hu).trans (Hw.retireLane_spare _ k l hn)
  case spent =>
    intro s k l hl hu hn
    refine (s.onLive_live (fun h => h.laneCheck k false) hl).trans (congrArg s.to ?_)
    exact (s.hw.laneCheck_under k l false hu).trans (Hw.retireLane_none _ k l hn)
  case compBack =>
    intro s r hl hb
    exact (s.onLive_live (fun h => h.compSliceEnd r true) hl).trans (congrArg s.to (if_pos hb))
  case compFails =>
    intro s r hl hb
    exact (s.onLive_live (fun h => h.compSliceEnd r false) hl).trans (congrArg s.to (if_pos hb))
  case convBack =>
    intro s n dev hl hn hb hh ho hlo hhi
    refine (s.onLive_live (fun h => h.convTestEnd true dev) hl).trans (congrArg s.to ?_)
    have closed : ¬ (s.hw.conv n).isOpen = true := by simp [ho]
    rw [s.hw.convTestEnd_within n dev hn n.isLt hb hlo hhi, if_neg closed, s.hw.convBack_wrI n dev (by omega) hh]
    rfl
  case convLater =>
    intro s n dev hl hn hb ho hlo hhi
    refine (s.onLive_live (fun h => h.convTestEnd true dev) hl).trans (congrArg s.to ?_)
    rw [s.hw.convTestEnd_within n dev hn n.isLt hb hlo hhi, if_pos ho]
  case control =>
    intro s d hl hd
    exact (s.onLive_live (fun h => h.clockFault d) hl).trans (congrArg s.to (s.hw.clockFault_control d hd))
  case leg =>
    intro s r d hl hd
    refine (s.onLive_live (fun h => h.clockFault d) hl).trans (congrArg s.to ?_)
    rw [hd]
    exact s.hw.clockFault_leg r
  case d6 => exact fun s hl => (s.onLive_live (fun h => h.clockFault 6) hl).trans (congrArg s.to s.hw.clockFault_d6)
  case cleared => exact fun s r hl => s.onLive_live (fun h =>
    ((h.setDie (r.val + 2) { h.die (r.val + 2) with clockBad := false }).refreshAll).clearRegionCause r 0x03) hl

end Sys2Proof.Machine
end

section
/-!
PROOF. Shutdown, warm restart, standby, and the activation of a partition.
-/
namespace Sys2Proof.Machine

-- ## POWER_CMD (R75)

theorem powerCmd_command : isCommandReg POWER_CMD .powerCmd [] = true := by decide +kernel

/-- SHUTDOWN is accepted in every phase. -/
theorem Mach.powerCmdWrite_shutdown (m : Mach) : m.powerCmdWrite 0x5A170001#32 = (.ok, m.onHw Hw.beginShutdown) := by
  have key : Bits.get 0x5A170001#32 31 16 = 0x5A17 := by decide
  simp [Mach.powerCmdWrite, key]

/-- RESTART is accepted outside a chip fault and a shutdown. -/
theorem Mach.powerCmdWrite_restart (m : Mach) (hf : m.hw.chipFault = false) (hs : m.hw.shutting = false) :
    m.powerCmdWrite 0x5A170002#32 = (.ok, m.warmRestart false) := by
  have key : Bits.get 0x5A170002#32 31 16 = 0x5A17 := by decide
  simp [Mach.powerCmdWrite, key, hf, hs]

/-- A shutdown begins while the device runs (R66). -/
theorem Hw.beginShutdown_running (h : Hw) (hp : h.power = .running) :
    h.beginShutdown = { h with power := .shutPending, wakeShut := false, wakeCan := 0 } := if_pos hp

-- ## Warm restart (R65)

/-- A warm restart with the root clock good leaves memory, and starts again at step 0. -/
theorem Mach.warmRestart_starting (m : Mach) (h0 : (m.hw.die 0).clockBad = false) (h1 : (m.hw.die 1).clockBad = false) :
    (m.warmRestart false).mem = m.mem ∧ (m.warmRestart false).hw.power = .starting ∧
      (m.warmRestart false).hw.rd START_STATUS.START_KIND = 1 ∧ (m.warmRestart false).hw.stepCount = 0 := by
  refine ⟨rfl, ?power, ?kind, rfl⟩
  case power => simp [Mach.warmRestart, Mach.onHw, h0, h1]
  case kind =>
    refine (Hw.rd_setReg_ne _ CLK_STATUS _ START_STATUS.START_KIND (by decide)).trans ?_
    exact Hw.rd_wr _ START_STATUS.START_KIND 1 (by decide)

/-- A restart that a register write has begun goes on with what the dies show it. -/
theorem Mach.coldStart_starting (m : Mach) (env : StartEnv) (hp : m.hw.power = .starting) (he : m.hw.env = none) :
    m.coldStart env = m.startStages env := by
  simp only [Mach.coldStart, hp, he]

theorem Mach.restart_accepted (m : Mach) (q : Requester) (env : StartEnv) (ha : m.hw.preStatus q POWER_CMD.addr 0x5A170002#32 = .ok)
    (hf : m.hw.chipFault = false) (hs : m.hw.shutting = false) (h0 : (m.hw.die 0).clockBad = false) (h1 : (m.hw.die 1).clockBad = false) :
    m.restart q env = (Mach.mk (m.warmRestart false).mem
      (((m.warmRestart false).hw.ramWritten POWER_CMD.addr).answer .ok 0)).startStages env := by
  obtain ⟨h4, x, hx, hh, -⟩ := regHit_command powerCmd_command
  have unit : m.unitStore q x POWER_CMD.addr 0x5A170002#32 = (.ok, m.warmRestart false) := by
    simp only [Mach.unitStore, hh, m.powerCmdWrite_restart hf hs]
  have written := m.busWrite_unit q POWER_CMD.addr 0x5A170002#32 x _ ha (by decide) hx unit
  obtain ⟨-, power, -⟩ := m.warmRestart_starting h0 h1
  simp only [Mach.restart, written, Mach.onHw]
  generalize hn : ((m.warmRestart false).hw.ramWritten POWER_CMD.addr).answer .ok 0 = n
  have starting : n.power = .starting := hn ▸ power
  have waits : n.env = none := hn ▸ rfl
  simp only [Hw.restarted, starting, waits, Option.isNone_none, decide_true, Bool.and_self, if_true]
  exact Mach.coldStart_starting ⟨_, n⟩ env starting waits

-- ## Stages 3 to 5 of a shutdown (R66, R72)

/-- Where DISCHARGE is set, stage 3 follows stage 2. -/
theorem Mach.shutStopped_discharge (m : Mach) (hd : m.hw.on SHUTDOWN_CFG.DISCHARGE = true) :
    m.shutStopped = m.onHw (fun h => { h.startDischarge with power := .shutDischarge }) := if_pos hd

/-- Stage 4 with an open engine and no recorder: the seconds and the record are stored, and the shutdown test begins. -/
theorem Mach.shutSave_tested (m : Mach) (hr : m.hw.noRecorders) (hp : m.hw.keepPend = []) (hb : m.hw.keepBlocked = [])
    (ho : m.hw.keepOpen = true) (he : m.hw.on ST_CFG.SHUTDOWN_EN = true) (hw : m.hw.wakeShut = false) (hf : m.hw.chipFault = false) :
    m.shutSave = ⟨(m.mem.setBytes 0x50000000 m.hw.secondsWord).setBytes 0x50000010
      (Num.bytesLE 4 (m.hw.rd POWER_CYCLES.COUNT) ++ Num.bytesLE 4 (m.hw.rd OP_SECONDS.SECONDS)),
      { m.hw.sealStore with power := .shutTest }⟩ := by
  have test : (m.hw.on ST_CFG.SHUTDOWN_EN && !m.hw.wakeShut && !m.hw.chipFault) = true := by simp only [he, hw, hf]; rfl
  simp only [Mach.shutSave, m.recUpdates_none hr, Mach.onHw, Mach.keepFlush_two m.mem m.hw _ _ _ _ hp hb ho, test, if_true]
  rfl

/-- The record of the shutdown test is stored by an open engine (R567). -/
theorem Mach.testResult_open (m : Mach) (res : Nat) (hp : m.hw.keepPend = []) (hb : m.hw.keepBlocked = []) (ho : m.hw.keepOpen = true) :
    m.testResult res = ⟨(m.mem.setBytes 0x50000018
      (Num.bytesLE 4 (m.hw.rd POWER_CYCLES.COUNT) ++ Num.bytesLE 4 (m.hw.rd OP_SECONDS.SECONDS))).setBytes 0x50000020
        (BitVec.ofNat 8 res :: List.replicate 7 0), m.hw.wrB KS_STATE.SEALED false⟩ := by
  have opened : (m.hw.wrB KS_STATE.SEALED false).keepOpen = true := (Hw.on_wrB_ne _ _ KEEP_STATE.WRITE_OK _ (by decide)).trans ho
  exact Mach.keepFlush_two m.mem (m.hw.wrB KS_STATE.SEALED false) 0x18 0x20 _ _ hp hb opened

-- ## Standby (R53)

/-- An entry that a filter on keys keeps is read, and every other key reads as absent. -/
theorem Tab.get_filter {α : Type} (t : List (Nat × α)) (p : Nat → Bool) (k : Nat) (d : α) :
    Tab.get (t.filter (fun e => p e.1)) k d = if p k then Tab.get t k d else d := by
  induction t with
  | nil => simp [Tab.get]
  | cons e r ih =>
    obtain ⟨j, v⟩ := e
    by_cases hj : j = k
    · subst hj
      by_cases hp : p j <;> simp [Tab.get, hp, ih]
    · by_cases hp : p j <;> simp [Tab.get, hp, hj, ih]

/-- Only keep memory outlives standby. -/
theorem Memory.byte_keepOnly (m : Memory) (a : Nat) :
    m.keepOnly.byte a = if 0x50000000 ≤ a ∧ a < 0x51000000 then m.byte a else 0 := by
  have key := Tab.get_filter m (fun a => decide (0x50000000 ≤ a) && decide (a < 0x51000000)) a Memory.unwritten
  simp only [Bool.and_eq_true, decide_eq_true_eq] at key
  exact key

-- ## Activation (R47)

/-- A partition whose conditions hold activates. -/
theorem Mach.partitionActivate_ready (m : Mach) (p : PartId) (hs : m.hw.rd (PART_RUN.STATE p) = 0) (ha : m.hw.canActivate p = true) :
    m.partitionActivate p = m.activate p false := by
  simp only [Mach.partitionActivate, hs, ha, decide_true, Bool.and_self, if_true]

-- ## The statement

/-- The control dies run in the stages of a shutdown. -/
theorem Hw.live_of_power {h : Hw} {ph : PowerPhase} (hp : h.power = ph) (hl : ({ power := ph } : Hw).live = true) : h.live = true := by
  simpa only [Hw.live, hp] using hl

/-- Settles O58: each command or event acts in the phase that its clause names; a stage that stores does so with an open engine. -/
theorem shutdownsAndRestarts : Obligations.ShutdownsAndRestarts := by
  unfold Obligations.ShutdownsAndRestarts
  refine ⟨?shutdown, ?auto, ?restart, fun m h0 h1 => m.warmRestart_starting h0 h1, ?stopped, ?timeout, ?saved, ?tested, ?standby,
    fun m a => m.byte_keepOnly a, ?activate, fun _ _ _ => rfl⟩
  case shutdown =>
    intro s q ha hp
    refine s.regWrite_storing q _ _ .powerCmd [] ⟨s.mem, _⟩ powerCmd_command ha fun x hh _ => ?_
    simp only [Mach.unitStore, hh, Mach.powerCmdWrite_shutdown, Mach.onHw, s.hw.beginShutdown_running hp]
  case auto =>
    intro s hp ha hw
    have inactive : s.hw.wakeInactive = true := beq_iff_eq.2 hw
    refine (s.onLive_live (fun h => if h.on WAKE_CFG.AUTO_SHUTDOWN && h.wakeInactive then h.beginShutdown else h)
      (Hw.live_of_power hp rfl)).trans (congrArg s.to ?_)
    simp only [ha, inactive, Bool.and_self, if_true, s.hw.beginShutdown_running hp]
  case restart =>
    rintro s q env ⟨hl, ha⟩ hf hs h0 h1
    refine (s.onBus_live q (fun m => m.restart q env) hl).trans ?_
    rw [Mach.restart_accepted ⟨s.mem, s.hw⟩ q env ha hf hs h0 h1]
    rfl
  case stopped =>
    intro s hp hs hd
    refine (s.onMach_live (fun m => if m.hw.power = .shutStopping && m.hw.allStopped then m.shutStopped else m)
      (Hw.live_of_power hp rfl)).trans ?_
    simp only [hp, hs, decide_true, Bool.and_self, if_true, Mach.shutStopped_discharge ⟨s.mem, s.hw⟩ hd]
    rfl
  case timeout =>
    intro s hp hd
    refine (s.onMach_live (fun m => if m.hw.power = .shutStopping then m.shutStopped else m) (Hw.live_of_power hp rfl)).trans ?_
    simp only [hp, if_true, Mach.shutStopped_discharge ⟨s.mem, s.hw⟩ hd]
    rfl
  case saved =>
    intro s hp hs hd hr hpend hb ho he hw hf
    refine (s.onMach_live (fun m => if m.hw.power = .shutStopping && m.hw.allStopped then m.shutStopped else m)
      (Hw.live_of_power hp rfl)).trans ?_
    have stops : (Mach.mk s.mem s.hw).shutStopped = (Mach.mk s.mem s.hw).shutSave := if_neg (Bool.eq_false_iff.1 hd)
    simp only [hp, hs, decide_true, Bool.and_self, if_true, stops, Mach.shutSave_tested ⟨s.mem, s.hw⟩ hr hpend hb ho he hw hf]
  case tested =>
    intro s passed hp hpend hb ho hf
    refine (s.onMach_live (fun m => m.shutTestEnd passed) (Hw.live_of_power hp rfl)).trans ?_
    simp only [Mach.shutTestEnd, hp, if_true, hf, Bool.false_eq_true, if_false, Mach.testResult_open ⟨s.mem, s.hw⟩ _ hpend hb ho, Mach.onHw]
    cases passed <;> rfl
  case standby =>
    intro s hp
    refine (s.onMach_live (fun m => if m.hw.power = .shutDone then (m.coldReset .standby).onHw (fun h => { h with inh := false }) else m)
      (Hw.live_of_power hp rfl)).trans ?_
    simp only [hp, if_true]
    rfl
  case activate =>
    intro s p hl hs ha
    refine (s.onMach_live (fun m => m.partitionActivate p) hl).trans ?_
    rw [Mach.partitionActivate_ready ⟨s.mem, s.hw⟩ p hs ha]

end Sys2Proof.Machine
end

section
/-!
PROOF. The load machine: its commands, the bytes of a file, the end of the checks, and the set that a reload applies.
-/
namespace Sys2Proof.Machine

-- ## BS_CTRL (R98 to R100)

theorem bsCtrl_command : isCommandReg BS_CTRL .bsCtrl [] = true := by decide +kernel

theorem bsPort_command : isCommandReg BS_PORT .bsPort [] = true := by decide +kernel

/-- The other fields of BS_CTRL in a RELOAD. -/
theorem bsCtrlValue_fields (p : PartId) (src : Fin 4) (hold : Bool) {v : Word} (hv : v = bsCtrlValue p src (1 + 8 * Num.ofBool hold)) :
    Bits.get v 15 12 = p ∧ Bits.get v 11 10 = src ∧ v.getLsbD 3 = hold := by
  subst hv
  revert p src hold
  decide +kernel

/-- RELOAD starts a load of the partition and source that its fields name. -/
theorem Mach.bsCtrlWrite_reload (m : Mach) (q : Requester) (p : PartId) (src : Fin 4) (hold : Bool)
    (hr : m.hw.bsRefusal q (bsCtrlValue p src (1 + 8 * Num.ofBool hold)) = .ok) :
    m.bsCtrlWrite q (bsCtrlValue p src (1 + 8 * Num.ofBool hold)) =
      (.ok, m.onHw (fun h => h.loadStart (bsKey q) p (src + 1) hold)) := by
  obtain ⟨part, source, held⟩ := bsCtrlValue_fields p src hold rfl
  simp only [Mach.bsCtrlWrite, hr, bsCtrlValue_reload, part, source, held, if_true]

theorem Mach.bsCtrlWrite_abort (m : Mach) (q : Requester) (hr : m.hw.bsRefusal q (bsCtrlValue 0 0 2) = .ok) :
    m.bsCtrlWrite q (bsCtrlValue 0 0 2) = (.ok, m.onHw Hw.loadAbort) := by
  have reload : (bsCtrlValue 0 0 2).getLsbD 0 = false := by decide
  have abort : (bsCtrlValue 0 0 2).getLsbD 1 = true := by decide
  simp only [Mach.bsCtrlWrite, hr, reload, abort, Bool.false_eq_true, if_false, if_true]

theorem Mach.bsCtrlWrite_switch (m : Mach) (q : Requester) (hr : m.hw.bsRefusal q (bsCtrlValue 0 0 4) = .ok) :
    m.bsCtrlWrite q (bsCtrlValue 0 0 4) = (.ok, m.loadSwitch) := by
  have reload : (bsCtrlValue 0 0 4).getLsbD 0 = false := by decide
  have abort : (bsCtrlValue 0 0 4).getLsbD 1 = false := by decide
  have switch : (bsCtrlValue 0 0 4).getLsbD 2 = true := by decide
  simp only [Mach.bsCtrlWrite, hr, reload, abort, switch, Bool.false_eq_true, if_false, if_true]

/-- A write of BS_CTRL that the load machine accepts. -/
theorem State.regWrite_bsCtrl (s : State) (q : Requester) (v : Word) (m : Mach) (ha : s.admits q BS_CTRL v)
    (hu : (Mach.mk s.mem s.hw).bsCtrlWrite q v = (.ok, m)) :
    s.regWrite q BS_CTRL v = s.toMach m.mem ((m.hw.ramWritten BS_CTRL.addr).answer .ok 0) :=
  s.regWrite_storing q _ v .bsCtrl [] m bsCtrl_command ha fun x hh _ => by simp only [Mach.unitStore, hh, hu]

-- ## The bytes of a load (R95 to R97)

/-- The load takes a word of the port from its starter, or from anyone while no partition is active. -/
theorem Hw.bsPortWrite_accepted (h : Hw) (q : Requester) (v : Word) (ho : h.anyActive = false ∨ bsKey q = h.load.reqKey)
    (hs : h.bsState = 2) (hp : h.rd BS_STATUS.SOURCE = 1) : h.bsPortWrite q v = (.ok, h.loadBytes (Num.bytesLE 4 v.toNat)) := by
  have own : (h.anyActive && h.loadBusy && bsKey q != h.load.reqKey) = false := by
    rcases ho with ha | hk
    · simp [ha]
    · simp [hk]
  simp [Hw.bsPortWrite, own, hs, hp]

/-- The length that a header gives counts only once the 16 bytes that hold it are there. -/
theorem Hw.loadBytes_short (h : Hw) (new : List Byte) (hl : (h.load.bytes ++ new).length < 16) : h.loadBytes new =
    { h.wr BS_BYTES.COUNT (h.load.bytes ++ new).length with load := { h.load with bytes := h.load.bytes ++ new } } := by
  have short : ¬ 16 ≤ (h.load.bytes ++ new).length := by omega
  simp only [Hw.loadBytes, short, decide_false, Bool.false_and, Bool.or_false, Bool.false_eq_true, if_false]

theorem Hw.loadBytes_goesOn (h : Hw) (new : List Byte) (hn : (h.load.bytes ++ new).length < bsTotal (h.load.bytes ++ new))
    (ht : bsTotal (h.load.bytes ++ new) ≤ bsLimit (!h.load.isPart)) : h.loadBytes new =
    { h.wr BS_BYTES.COUNT (h.load.bytes ++ new).length with load := { h.load with bytes := h.load.bytes ++ new } } := by
  have part : ¬ bsTotal (h.load.bytes ++ new) ≤ (h.load.bytes ++ new).length := by omega
  have fits : ¬ bsLimit (!h.load.isPart) < bsTotal (h.load.bytes ++ new) := by omega
  simp only [Hw.loadBytes, part, fits, decide_false, Bool.and_false, Bool.or_false, Bool.false_eq_true, if_false]

/-- A whole file goes to the checks; what came beyond its length is dropped. -/
theorem Hw.loadBytes_whole (h : Hw) (new : List Byte) (hl : 16 ≤ (h.load.bytes ++ new).length)
    (hn : bsTotal (h.load.bytes ++ new) ≤ (h.load.bytes ++ new).length) : h.loadBytes new =
    ({ h.wr BS_BYTES.COUNT ((h.load.bytes ++ new).take (bsTotal (h.load.bytes ++ new))).length with
      load := { h.load with bytes := (h.load.bytes ++ new).take (bsTotal (h.load.bytes ++ new)) } } : Hw).loadEnds 3 := by
  simp only [Hw.loadBytes, hl, hn, decide_true, Bool.and_self, Bool.true_or, if_true]

-- ## Loads over CAN (R96, R97)

theorem Hw.loadPiece_first (h : Hw) (node : Nat) (d : List Byte) (hn : h.loadHears node = true) (hd : d.length = 60)
    (hs : h.bsState = 1) : h.loadPiece node 0 d = (h.loadStart 17 0 2 false).loadBytes d := by
  simp [Hw.loadPiece, hn, hd, hs]

theorem Hw.loadPiece_next (h : Hw) (node off : Nat) (d : List Byte) (hn : h.loadHears node = true) (hd : d.length = 60)
    (hs : h.bsState = 2) (hc : h.rd BS_STATUS.SOURCE = 2) : h.loadPiece node off d =
      if off = h.rd BS_BYTES.COUNT then h.loadBytes d
      else if off < h.rd BS_BYTES.COUNT then h.incTop BS_CAN_COUNT.BEHIND else h.incTop BS_CAN_COUNT.AHEAD := by
  simp [Hw.loadPiece, hn, hd, hs, hc]

-- ## The end of the checks (R91, R92)

/-- A fault code on record leaves the load in work. -/
theorem Hw.record_load (h : Hw) (code : Nat) : (h.record code).load = h.load := by
  refine foldl_keeps Hw.load _ _ _ fun x p => ?_
  unfold Hw.countFault
  dsimp only
  repeat' split
  all_goals rfl

/-- Refusals on record leave the load in work. -/
theorem Hw.recordRefusals_load (h : Hw) (refs : List (Nat × Nat)) : (h.recordRefusals refs).load = h.load := by
  refine (foldl_keeps Hw.load _ _ _ fun x e => ?_).trans (Hw.wr_load _ _ _)
  dsimp only
  repeat' split
  all_goals simp only [Hw.wr_load, Hw.record_load]

theorem Mach.checkedFull_fatal (m : Mach) (c : Nat) (hc : m.hw.fullVerdict.fatal = some c) : m.checkedFull =
    m.onHw (fun h => { (h.recordRefusals (m.hw.fullVerdict.refs ++ [(0, c)])).loadEnds 7 with load := {} }) := by
  simp only [Mach.checkedFull, Verdict.refusals, hc, Option.isSome_some, if_true]

theorem Mach.checkedFull_released (m : Mach) (hc : m.hw.fullVerdict.fatal = none) (hh : m.hw.load.hold = false) :
    m.checkedFull = m.applyFull m.hw.fullVerdict := by
  simp [Mach.checkedFull, hc, hh]

theorem Mach.checksDone_full (m : Mach) (hs : m.hw.bsState = 3) (hp : m.hw.load.isPart = false) : m.checksDone = m.checkedFull := by
  simp [Mach.checksDone, hs, hp]

theorem Mach.checksDone_part (m : Mach) (hs : m.hw.bsState = 3) (hp : m.hw.load.isPart = true) :
    m.checksDone = m.onHw Hw.checkedPart := by
  simp [Mach.checksDone, hs, hp]

/-- A file that the checks refuse as a whole ends its full load. -/
theorem State.checksDone_fatal (s : State) (c : Nat) (hl : s.hw.live = true) (hs : s.hw.bsState = 3) (hp : s.hw.load.isPart = false)
    (hc : s.hw.fullVerdict.fatal = some c) : exec .checksDone s =
      s.to { (s.hw.recordRefusals (s.hw.fullVerdict.refs ++ [(0, c)])).loadEnds 7 with load := {} } := by
  refine (s.onMach_live Mach.checksDone hl).trans ?_
  rw [Mach.checksDone_full ⟨s.mem, s.hw⟩ hs hp, Mach.checkedFull_fatal ⟨s.mem, s.hw⟩ c hc]
  rfl

-- ## The time limit of a load (R95)

/-- A second without bytes ends the load, and the cause goes to its owner (R101). -/
theorem Hw.loadTimeout_waiting (h : Hw) (hs : h.bsState = 2) (hc : h.rd BS_STATUS.SOURCE ≠ 0) : h.loadTimeout =
    (let code := faultCode 4 (if h.load.isPart then h.load.part else 0) 0x1B
     let n := (h.record code).wr BS_STATUS.CAUSE code
     { (if h.load.isPart then n.wr (PART_BS_STATE.CAUSE h.load.part) code else n).loadEnds 7 with load := {} }) := by
  have waiting : (decide (h.bsState ≠ 2) || decide (h.rd BS_STATUS.SOURCE = 0)) = false := by simp [hs, hc]
  simp only [Hw.loadTimeout, waiting, Bool.false_eq_true, if_false, Load.owner, Hw.wr_load, Hw.record_load]

-- ## A staged set is applied (R102, R115, Table 3-18 step 6)

/-- A set staged without a PLATFORM is applied once its partition has stopped. -/
theorem Mach.reloadApply_staged (m : Mach) (p : PartId) (st : PSet) (hs : m.hw.bsState = 5) (hp : m.hw.load.part = p.val)
    (ha : (m.hw.part p).arming = false) (ht : m.hw.blocksOf p = [] ∨ m.hw.terminalReached p = true)
    (hg : m.hw.load.staged = some st) (hf : m.hw.load.stagedPlat = none) : m.reloadApply [] = m.applySet p st := by
  have stopped : ((m.hw.blocksOf p).isEmpty || m.hw.terminalReached p) = true := by
    rcases ht with hb | hb <;> simp [hb]
  simp [Mach.reloadApply, hs, hp, ha, stopped, hg, hf, Hw.returnTest, Mach.onHw]

/-- The next epoch is one more, but 1 after the greatest (R115). -/
theorem epochAfter_succ (e : Nat) (he : e < 0xFFFF) : epochAfter e = e + 1 := by
  rw [epochAfter, Nat.mod_eq_of_lt he]

-- ## The statement

/-- Settles O56: each clause is one command or event of the load machine, in the branch that its premises name. -/
theorem loads : Obligations.Loads := by
  unfold Obligations.Loads
  refine ⟨?reload, ?abort, ?switch, ?switchFull, ?port, fun h new hl => h.loadBytes_short new hl,
    fun h new hl hn => h.loadBytes_whole new hl hn, fun h new _ hn ht => h.loadBytes_goesOn new hn ht, ?first, ?next, ?request,
    fun _ => rfl, fun s c hl hs hp hc => s.checksDone_fatal c hl hs hp hc, ?full, ?part, ?timeout, ?staged, ?applied, epochAfter_succ, rfl⟩
  case reload =>
    intro s q p src hold ha hr
    exact s.regWrite_bsCtrl q _ _ ha (Mach.bsCtrlWrite_reload ⟨s.mem, s.hw⟩ q p src hold hr)
  case abort =>
    intro s q ha hr
    exact s.regWrite_bsCtrl q _ _ ha (Mach.bsCtrlWrite_abort ⟨s.mem, s.hw⟩ q hr)
  case switch =>
    intro s q ha hr hp
    refine (s.regWrite_bsCtrl q _ _ ha (Mach.bsCtrlWrite_switch ⟨s.mem, s.hw⟩ q hr)).trans ?_
    rw [Mach.loadSwitch, if_pos hp]
    rfl
  case switchFull =>
    intro s q ha hr hp
    refine (s.regWrite_bsCtrl q _ _ ha (Mach.bsCtrlWrite_switch ⟨s.mem, s.hw⟩ q hr)).trans ?_
    rw [Mach.loadSwitch, if_neg (Bool.eq_false_iff.1 hp)]
  case port =>
    intro s q v ha ho hs hp
    exact s.regWrite_storing q _ v .bsPort [] ⟨s.mem, s.hw.loadBytes (Num.bytesLE 4 v.toNat)⟩ bsPort_command ha fun x hh _ => by
      simp only [Mach.unitStore, hh, s.hw.bsPortWrite_accepted q v ho hs hp]
  case first =>
    intro s node d hl hn hd hs
    exact (s.onLive_live (fun h => h.loadPiece node 0 d) hl).trans (congrArg s.to (s.hw.loadPiece_first node d hn hd hs))
  case next =>
    intro s node off d hl hn hd hs hc
    exact (s.onLive_live (fun h => h.loadPiece node off d) hl).trans (congrArg s.to (s.hw.loadPiece_next node off d hn hd hs hc))
  case request =>
    intro s node hl hn
    exact (s.onLive_live (fun h => if h.loadHears node then h.loadStatusFrame else h) hl).trans (congrArg s.to (if_pos hn))
  case full =>
    intro s hl hs hp hh
    cases hv : s.hw.fullVerdict.fatal with
    | some c => exact s.checksDone_fatal c hl hs hp hv
    | none =>
      refine (s.onMach_live Mach.checksDone hl).trans ?_
      rw [Mach.checksDone_full ⟨s.mem, s.hw⟩ hs hp, Mach.checkedFull_released ⟨s.mem, s.hw⟩ hv hh]
  case part =>
    intro s hl hs hp
    refine (s.onMach_live Mach.checksDone hl).trans ?_
    rw [Mach.checksDone_part ⟨s.mem, s.hw⟩ hs hp]
    unfold Mach.onHw Hw.checkedPart
    generalize s.hw.verdict false s.hw.load.part s.hw.load.bytes = v
    have owner := congrArg Load.part (s.hw.recordRefusals_load (v.refusals s.hw.load.part))
    simp only [owner]
    rfl
  case timeout =>
    intro s hl hs hc
    exact (s.onLive_live Hw.loadTimeout hl).trans (congrArg s.to (s.hw.loadTimeout_waiting hs hc))
  case staged =>
    intro s p st hl hs hp ha ht hg hf
    refine (s.onMach_live (fun m => m.reloadApply []) hl).trans ?_
    rw [Mach.reloadApply_staged ⟨s.mem, s.hw⟩ p st hs hp ha ht hg hf]
  case applied =>
    intro m p st e he hn hp
    simp only [Mach.applySet, hn, he, if_false, hp, if_true, decide_true, Bool.or_true, Mach.onHw, decide_eq_true_eq]

end Sys2Proof.Machine
end

section
/-!
PROOF. Requests of hosts: admission, the turns of the host engine, and the frames of the serial port in slave role.
-/
namespace Sys2Proof.Machine

-- ## Admission (R113, R116, R125, R129)

/-- The counter of a session at the serial port stands at `n`, and shows whether that is the last. -/
def Hw.counted (h : Hw) (p n : Nat) : Hw :=
  (h.wr (counterOf false p) n).wrB (exhaustedOf false p) (n == 0xFFFFFFFF)

/-- A session's counter lies beside its partition's epoch and credit. -/
theorem Hw.counted_rd (h : Hw) (p n : Nat) (f : Fld) (hf : f.reg = PART_RUN p ∨ f.reg = PART_CREDIT p ∨ f.reg = PART_CREDIT_CFG p) :
    (h.counted p n).rd f = h.rd f := by
  have apart : f.reg.addr ≠ (PART_SESSION p).addr ∧ f.reg.addr ≠ (PART_SER_COUNTER p).addr := by
    rcases hf with e | e | e
    all_goals
      simp only [e, PART_RUN, PART_CREDIT, PART_CREDIT_CFG, PART_SESSION, PART_SER_COUNTER]
      omega
  exact (Hw.rd_wrB_ne _ _ f _ apart.1).trans (Hw.rd_wr_ne _ _ f _ apart.2)

/-- A cost that the bucket holds and the queue has room for is taken and queued. -/
theorem Hw.takeCredit_counted (h : Hw) (p n cost : Nat) (hd : cost ≤ h.rd (PART_CREDIT_CFG.DEPTH p))
    (ha : cost ≤ h.rd (PART_CREDIT.AVAILABLE p)) (hq : h.rd (PART_CREDIT.QUEUED p) + cost ≤ h.rd (PART_CREDIT_CFG.DEPTH p)) :
    (h.counted p n).takeCredit p cost =
      (.ok, ((h.counted p n).wr (PART_CREDIT.AVAILABLE p) (h.rd (PART_CREDIT.AVAILABLE p) - cost)).wr (PART_CREDIT.QUEUED p)
        (h.rd (PART_CREDIT.QUEUED p) + cost)) := by
  have depth := h.counted_rd p n (PART_CREDIT_CFG.DEPTH p) (.inr (.inr rfl))
  have available := h.counted_rd p n (PART_CREDIT.AVAILABLE p) (.inr (.inl rfl))
  have queued := h.counted_rd p n (PART_CREDIT.QUEUED p) (.inr (.inl rfl))
  simp [Hw.takeCredit, depth, available, queued, Nat.not_lt.2 hd, ha, hq]

/-- A request at the serial port whose session, counter, epoch and credit are good is admitted with its cost where its tag is good, and
refused with AUTH where it is not. -/
theorem Hw.admitTagged_serial (h : Hw) (r : HostReq) (body tag key : List Byte) (hp : r.part < 16) (hv : 4 ≤ r.via)
    (hs : h.on KS_STATE.SEALED = false) (hn : (h.part r.part).newKey = none) (hk : (h.part r.part).key = some key)
    (hc : h.rd (PART_SER_COUNTER.COUNTER r.part) < r.counter) (he : r.epoch = h.rd (PART_RUN.EPOCH r.part))
    (hd : creditCost r.count ≤ h.rd (PART_CREDIT_CFG.DEPTH r.part)) (ha : creditCost r.count ≤ h.rd (PART_CREDIT.AVAILABLE r.part))
    (hq : h.rd (PART_CREDIT.QUEUED r.part) + creditCost r.count ≤ h.rd (PART_CREDIT_CFG.DEPTH r.part)) :
    h.admitTagged r body tag =
      if tagOf key (authPrefix 1 false r.part r.epoch r.counter body.length) body tag.length = tag then
        ({ r with key := some key, cost := creditCost r.count },
          ((h.counted r.part r.counter).wr (PART_CREDIT.AVAILABLE r.part)
            (h.rd (PART_CREDIT.AVAILABLE r.part) - creditCost r.count)).wr (PART_CREDIT.QUEUED r.part)
              (h.rd (PART_CREDIT.QUEUED r.part) + creditCost r.count))
      else ({ r with key := none, status := 4 }, h.refusedIn r.part 0 .auth r.addr) := by
  have serial : decide (r.via < 4) = false := decide_eq_false (Nat.not_lt.2 hv)
  have present : ¬ 16 ≤ r.part := Nat.not_le.2 hp
  have counter : decide (h.rd (counterOf false r.part) < r.counter) = true := decide_eq_true hc
  by_cases good : tagOf key (authPrefix 1 false r.part r.epoch r.counter body.length) body tag.length = tag
  case neg =>
    simp [Hw.admitTagged, serial, hp, hs, hn, hk, good, Status.code]
  case pos =>
    have counted : (h.wr (counterOf false r.part) r.counter).wrB (exhaustedOf false r.part) (r.counter == 0xFFFFFFFF) =
      h.counted r.part r.counter := rfl
    have epoch : (h.counted r.part r.counter).rd (PART_RUN.EPOCH r.part) = r.epoch :=
      (h.counted_rd r.part r.counter _ (.inl rfl)).trans he.symm
    simp [Hw.admitTagged, serial, hp, hs, hn, hk, good, counter, counted, epoch, h.takeCredit_counted _ _ _ hd ha hq]

-- ## The host engine (R107, R114)

/-- Without its request, or after a restart, no turn is taken. -/
theorem Mach.engineUntil_done (m : Mach) (ord n : Nat) (hd : m.hw.restarted = true ∨ m.hw.engineHas ord = false) :
    m.engineUntil ord n = m := by
  have stops : (m.hw.restarted || !m.hw.engineHas ord) = true := by
    rcases hd with hr | hh
    · simp [hr]
    · simp [hh]
  cases n with
  | zero => rfl
  | succ n => simp only [Mach.engineUntil, stops, if_true]

/-- A turn goes to the next queue with work, and the rest of the turns follow it. -/
theorem Mach.engineUntil_turn (m : Mach) (ord n i : Nat) (hr : m.hw.restarted = false) (hh : m.hw.engineHas ord = true)
    (hn : m.hw.engineNext = some i) : m.engineUntil ord (n + 1) = (m.engineTurn i).engineUntil ord n := by
  simp [Mach.engineUntil, hr, hh, hn]

/-- A request that admission has refused runs no word. -/
theorem Mach.runRequest_refused (m : Mach) (r : HostReq) (n : Nat) (hs : r.status ≠ 0) :
    m.runRequest r n = { mach := m, status := statusOfCode r.status } := if_pos hs

/-- A turn of a queue is a run of its head: after a restart nothing is left to answer, an unfinished request keeps its place, and a finished
one is answered where it came from. -/
theorem Mach.engineTurn_head (m : Mach) (i : Nat) (r : HostReq) (hi : m.hw.engineHead i = some r) : m.engineTurn i =
    (let run := (Mach.mk m.mem { m.hw with service := { m.hw.service with turn := i } }).runRequest r 16
     if run.mach.hw.restarted = true then run.mach
     else if run.waits = true ∨ (run.status = .ok ∧ run.done < r.count) then
       ⟨run.mach.mem, run.mach.hw.keepRequest { r with got := run.got, done := run.done }⟩
     else if r.via < 4 then ⟨run.mach.mem, run.mach.hw.canReply r run⟩
     else ⟨run.mach.mem, run.mach.hw.serialReply r run⟩) := by
  simp only [Mach.engineTurn, hi, Mach.onHw]
  refine if_congr Iff.rfl rfl (if_congr ?unfinished rfl ?answered)
  case unfinished =>
    rw [Bool.or_eq_true, Bool.and_eq_true]
    exact or_congr_right (and_congr decide_eq_true_iff decide_eq_true_iff)
  case answered => exact apply_ite (Mach.mk _) _ _ _

-- ## Frames

/-- A frame that names this node, on a channel that hears it, brings a request that waits for the host engine (R499). -/
theorem Hw.canRequestFrame_waits (h : Hw) (n : Nat) (f : CanFrame) (hs : h.serves n = true) (hh : h.canHears n = true)
    (he : f.extended = true) (hf : f.fd = true) (hb : f.brs = decide ((h.canCfg n).data ≠ 0))
    (hi : f.ident = 0x1E030000 + h.rd CAN_NODE.NODE) (hl : 20 ≤ f.data.length)
    (hq : ((h.canHeard n).service.queue.filter (fun r => r.via == n)).length < 8) (hc : canFormed f.data (canRequest n f.data) = true) :
    h.canRequestFrame n f =
      (let a := { h.canHeard n with admitted := (h.canHeard n).admitted + 1 }.admitTagged
         { canRequest n f.data with ord := (h.canHeard n).admitted } (f.data.take (f.data.length - 4)) (f.data.drop (f.data.length - 4))
       { a.2 with service := { a.2.service with queue := a.2.service.queue ++ [a.1] } }) := by
  have formed : canFormed f.data { canRequest n f.data with ord := (h.canHeard n).admitted } = true := hc
  simp [Hw.canRequestFrame, hs, hh, he, hf, hb, hi, hl, Nat.not_le.2 hq, formed]

/-- Settles O49: each clause is one frame, one admission or one turn, in the branch that its premises name. -/
theorem hostRequests : Obligations.HostRequests := by
  unfold Obligations.HostRequests
  refine ⟨?busy, ?malformed, ?taken, Hw.admitTagged_serial, ?clocked, ?underruns, ?status, ?unknown, ?serial, Mach.engineUntil_turn,
    Mach.engineUntil_done, Mach.engineTurn_head, ?refused, ?can, ?executed⟩
  case busy =>
    intro s data hl hs hb
    refine (s.onLive_live (fun h => h.slaveRequest data) hl).trans (congrArg s.to ?_)
    simp [Hw.slaveRequest, hs, hb]
  case malformed =>
    intro s data hl hs hb hf
    refine (s.onLive_live (fun h => h.slaveRequest data) hl).trans (congrArg s.to ?_)
    simp [Hw.slaveRequest, hs, hb, hf, Hw.slaveFrameError]
  case taken =>
    intro s data hl hs hb hf
    refine (s.onLive_live (fun h => h.slaveRequest data) hl).trans (congrArg s.to ?_)
    simp [Hw.slaveRequest, hs, hb, hf, Hw.updSerial]
  case clocked =>
    intro s n hl hs hb hn
    refine (s.onLive_live (fun h => h.slaveResponse n) hl).trans (congrArg s.to ?_)
    simp [Hw.slaveResponse, hs, hb, Nat.not_lt.2 hn, Hw.updSerial]
  case underruns =>
    intro s n hl hs hb hn
    refine (s.onLive_live (fun h => h.slaveResponse n) hl).trans (congrArg s.to ?_)
    simp [Hw.slaveResponse, hs, hb, Nat.ne_of_gt hn]
  case status =>
    intro s hl hs
    exact (s.onLive_live Hw.slavePortStatus hl).trans (congrArg s.to (if_pos hs))
  case unknown =>
    intro s hl hs
    exact (s.onLive_live (fun h => if h.spiSlave then h.slaveFrameError else h) hl).trans (congrArg s.to (if_pos hs))
  case serial =>
    intro s r hl hs hr
    refine (s.onMach_live Mach.serialExecute hl).trans ?_
    simp [Mach.serialExecute, hr, hs]
  case refused =>
    intro m r n hs
    simp only [m.runRequest_refused r n hs, and_self]
  case can =>
    intro s n f hl hs hh he hf hb hi hd hq hc
    exact (s.onLive_live (fun h => h.canRequestFrame n f) hl).trans
      (congrArg s.to (s.hw.canRequestFrame_waits n f hs hh he hf hb hi hd hq hc))
  case executed =>
    intro s p r hl hr
    refine (s.onMach_live (fun m => m.canExecute p) hl).trans ?_
    simp only [Mach.canExecute, hr]

end Sys2Proof.Machine
end

section
/-!
PROOF. Identity: the platform key, handshakes and sessions.
-/
namespace Sys2Proof.Machine

-- ## Writes of command registers that their unit refuses (R108)

/-- A write that the checks let pass and the unit refuses is recorded and answered with the unit's status. -/
theorem State.regWrite_refused (s : State) (q : Requester) (r : RegId) (v : Word) (hk : RegHook) (idx : List Nat) (st : Status) (h : Hw)
    (hc : isCommandReg r hk idx = true) (hs : hk ∉ [.bsCtrl, .bsPort, .powerCmd, .keepCtrl, .dschCtrl]) (hst : st ≠ .ok)
    (hu : ∀ (x : RegHit) (w : Word), x.row.hook = hk → x.idx = idx → s.hw.unitWrite q x r.addr w v = (st, h)) (ha : s.admits q r v) :
    s.regWrite q r v = s.to ((h.refused q st r.addr).answer st 0) := by
  obtain ⟨hl, hp⟩ := ha
  unfold isCommandReg at hc
  split at hc
  case h_1 x hx =>
    simp only [Bool.and_eq_true, beq_iff_eq, decide_eq_true_eq] at hc
    obtain ⟨h4, ⟨hh, hi⟩, hf⟩ := hc
    have register : s.hw.registerWrite q x r.addr v = (st, h) :=
      (Hw.registerWrite_noSettings _ _ _ _ _ hf).trans (hu x _ hh hi)
    have unit : (Mach.mk s.mem s.hw).unitStore q x r.addr v = (st, ⟨s.mem, h⟩) := by
      unfold Mach.unitStore
      split <;> simp_all
    have access : (Mach.mk s.mem s.hw).busWrite q r.addr v = (st, ⟨s.mem, h.refused q st r.addr⟩) := by
      simp [Mach.busWrite, h4, hx, unit, hp, hst, Mach.onHw]
    exact s.onBus_write q r.addr v hl access
  case h_2 => simp at hc

-- ## The platform key (R121 to R123)

theorem keyCtrl_command : isCommandReg KS_KEY_CTRL .ksKeyCtrl [] = true := by decide +kernel

/-- A write of KS_KEY_CTRL that its unit accepts. -/
theorem State.regWrite_keyCtrl (s : State) (q : Requester) (v : Word) (h : Hw) (ha : s.admits q KS_KEY_CTRL v)
    (hu : s.hw.keyCtrlWrite v = (.ok, h)) : s.regWrite q KS_KEY_CTRL v = s.wrote KS_KEY_CTRL h :=
  s.regWrite_command q _ v .ksKeyCtrl [] h keyCtrl_command (by decide) (fun x w hh _ => by simp only [Hw.unitWrite, hh, hu]) ha

/-- A write of KS_KEY_CTRL that its unit refuses. -/
theorem State.regWrite_keyCtrl_refused (s : State) (q : Requester) (v : Word) (st : Status) (h : Hw) (ha : s.admits q KS_KEY_CTRL v)
    (hst : st ≠ .ok) (hu : s.hw.keyCtrlWrite v = (st, h)) :
    s.regWrite q KS_KEY_CTRL v = s.to ((h.refused q st KS_KEY_CTRL.addr).answer st 0) :=
  s.regWrite_refused q _ v .ksKeyCtrl [] st h keyCtrl_command (by decide) hst (fun x w hh _ => by simp only [Hw.unitWrite, hh, hu]) ha

theorem Hw.keyCtrlWrite_enrol (h : Hw) (hs : h.on KS_STATE.SEALED = false) (hp : h.on KS_STATE.PROVISIONED = false) :
    h.keyCtrlWrite 0x6B3D0001#32 = h.enrol := by
  have key : Bits.get 0x6B3D0001#32 31 16 = 0x6B3D := by decide
  have op : Bits.get 0x6B3D0001#32 1 0 = 1 := by decide
  simp [Hw.keyCtrlWrite, key, op, hs, hp]

theorem Hw.keyCtrlWrite_rotate (h : Hw) (hs : h.on KS_STATE.SEALED = false) : h.keyCtrlWrite 0x6B3D0002#32 = h.rotate := by
  have key : Bits.get 0x6B3D0002#32 31 16 = 0x6B3D := by decide
  have op : Bits.get 0x6B3D0002#32 1 0 = 2 := by decide
  simp [Hw.keyCtrlWrite, key, op, hs]

/-- ROTATE of another key while no rotation runs: the signature is checked, then the key, and the rotation starts (R122). -/
theorem Hw.rotate_idle (h : Hw) (hb : h.keyBusy = 0) (hn : h.ksBytes 0x100 64 ≠ h.p0Key) (hr : h.rd KS_STATE.ROTATIONS ≠ 0xFFFF) :
    h.rotate =
      if Config.signatureOk h.p0Key (ascii "ZGK1" ++ h.uidBytes ++ Num.bytesBE 4 (h.rd KS_STATE.ROTATIONS + 1) ++ h.ksBytes 0x100 64)
          (h.ksBytes 0x140 64) = false then
        (.auth, (h.wr KS_KEY_STATUS.STATE 3).wr KS_KEY_STATUS.CODE 4)
      else if Config.pointOk (h.ksBytes 0x100 64) = false then (.range, (h.wr KS_KEY_STATUS.STATE 3).wr KS_KEY_STATUS.CODE 5)
      else (.ok, { (h.wr KS_KEY_STATUS.STATE 1).wr KS_KEY_STATUS.CODE 0 with keyBusy := 1, rotKey := h.ksBytes 0x100 64 }) := by
  simp [Hw.rotate, hb, hn, hr, Status.code]

/-- A string of the key store leaves all but the registers. -/
theorem Hw.setKsBytes_keeps {β : Type} (g : Hw → β) (h : Hw) (off : Nat) (bs : List Byte) (hg : ∀ x r w, g (Hw.setReg x r w) = g x) :
    g (h.setKsBytes off bs) = g h :=
  Num.forEach_eq g _ _ h fun _ x => hg x _ _

/-- The key stored is the platform key, in the slot that it names. -/
theorem Hw.storeKey_keys (h : Hw) (i : Nat) (k : List Byte) :
    (h.storeKey i k).p0Key = k ∧ (h.storeKey i k).slotKeys = h.slotKeys.set i k :=
  ⟨Hw.setKsBytes_keeps Hw.p0Key _ _ _ fun _ _ _ => rfl, Hw.setKsBytes_keeps Hw.slotKeys _ _ _ fun _ _ _ => rfl⟩

-- ## Sessions (R126 to R129)

/-- A session that has ended has no key and shows none. -/
theorem Hw.endSession_ended (h : Hw) (p : Nat) : ((h.endSession p).part p).key = none ∧
    (h.endSession p).on (PART_SESSION.ESTABLISHED p) = false := by
  refine ⟨?key, ?shown⟩
  case key => simp [Hw.endSession]
  case shown =>
    have beside (x : Hw) : (x.wrB (PART_SESSION.CHANGEOVER p) false).on (PART_SESSION.ESTABLISHED p) = x.on (PART_SESSION.ESTABLISHED p) :=
      congrArg (· != 0) (Hw.rd_wr_beside x _ _ _ rfl (.inl (by decide : 0 < 1)))
    exact (beside _).trans (Hw.on_wrB _ _ _ (show 0 < 32 by decide) rfl)

/-- The counters of a new session start at 0 (R129). -/
theorem Hw.freshCounters_zero (h : Hw) (p : Nat) : (h.freshCounters p).rd (PART_CAN_COUNTER.COUNTER p) = 0 ∧
    (h.freshCounters p).rd (PART_SER_COUNTER.COUNTER p) = 0 := by
  have session (x : Hw) (f : Fld) (hf : f.reg.addr ≠ (PART_SESSION p).addr) :
      ((x.wrB (exhaustedOf true p) false).wrB (exhaustedOf false p) false).rd f = x.rd f :=
    (Hw.rd_wrB_ne _ (exhaustedOf false p) f _ hf).trans (Hw.rd_wrB_ne _ (exhaustedOf true p) f _ hf)
  refine ⟨?can, ?serial⟩
  case can =>
    refine (session _ (PART_CAN_COUNTER.COUNTER p) ?_).trans <| (Hw.rd_wr_ne _ (counterOf false p) _ _ ?_).trans <|
      Hw.rd_wr _ (counterOf true p) 0 (show 31 < 32 by decide)
    · simp only [PART_CAN_COUNTER.COUNTER, PART_CAN_COUNTER, PART_SESSION]; omega
    · simp [PART_CAN_COUNTER.COUNTER, PART_CAN_COUNTER, counterOf, PART_SER_COUNTER.COUNTER, PART_SER_COUNTER]
  case serial =>
    refine (session _ (PART_SER_COUNTER.COUNTER p) ?_).trans (Hw.rd_wr _ (counterOf false p) 0 (show 31 < 32 by decide))
    simp only [PART_SER_COUNTER.COUNTER, PART_SER_COUNTER, PART_SESSION]; omega

/-- A key beside a session that stands waits for its changeover (R127). -/
theorem Hw.establish_beside (h : Hw) (p : Nat) (k : List Byte) (hk : (h.part p).key ≠ none) :
    h.establish p k = (h.setPart p { h.part p with newKey := some k }).wrB (PART_SESSION.CHANGEOVER p) true :=
  if_pos (Option.isSome_iff_ne_none.2 hk)

theorem Hw.establish_first (h : Hw) (p : Nat) (k : List Byte) (hk : (h.part p).key = none) :
    h.establish p k = ((h.setPart p { h.part p with key := some k }).freshCounters p).wrB (PART_SESSION.ESTABLISHED p) true :=
  if_neg (by simp [hk])

-- ## Handshakes (Table 4-4, R126, R614)

theorem hsCtrl_command (p : PartId) : isCommandReg (HS_CTRL p) .hsCtrl [p] = true := by
  revert p
  decide +kernel

/-- A write of HS_CTRL that its unit accepts. -/
theorem State.regWrite_hsCtrl (s : State) (q : Requester) (p : PartId) (v : Word) (h : Hw) (ha : s.admits q (HS_CTRL p) v)
    (hu : s.hw.hsCtrlWrite q p v = (.ok, h)) : s.regWrite q (HS_CTRL p) v = s.wrote (HS_CTRL p) h :=
  s.regWrite_command q _ v .hsCtrl [p] h (hsCtrl_command p) (by decide)
    (fun x w hh hi => by simp only [Hw.unitWrite, hh, RegHit.ix, hi, List.getD_cons_zero, hu]) ha

/-- START by the host that the handshake is for, with fewer than four starts in the last second. -/
theorem Hw.hsCtrlWrite_start (h : Hw) (p : PartId) (hs : h.on KS_STATE.SEALED = false)
    (hr : ((h.part p).hsStarts.filter (fun n => decide (h.stepCount < n + oneSecond))).length < 4) :
    h.hsCtrlWrite (.host p) p 1#32 = (.ok, ((h.setPart p { h.part p with
      hsStarts := (h.part p).hsStarts.filter (fun n => decide (h.stepCount < n + oneSecond)) ++ [h.stepCount] }).wr
        (HS_STATUS.STATE p) 1).wr (HS_STATUS.CODE p) 0) := by
  simp [Hw.hsCtrlWrite, hs, Nat.not_le.2 hr]

theorem Hw.hsCtrlWrite_submit (h : Hw) (q : Requester) (p : Nat) (hs : h.on KS_STATE.SEALED = false) (ht : h.rd (HS_STATUS.STATE p) = 2) :
    h.hsCtrlWrite q p 2#32 = (.ok, h.wr (HS_STATUS.STATE p) 3) := by
  simp [Hw.hsCtrlWrite, hs, ht]

-- ## The statement

/-- Settles O55: a command is accepted or refused by its unit, and an event acts in the state that its premises name. -/
theorem identity : Obligations.Identity := by
  unfold Obligations.Identity
  refine ⟨?enrol, ?rotate, ?rotated, fun h i k => h.storeKey_keys i k, fun h p => h.endSession_ended p, ?start, ?prepared, ?submit,
    ?preparedSealed, ?verifiedSealed, ?verified, fun h p k hk => h.establish_beside p k hk, fun h p k hk => h.establish_first p k hk,
    fun h p => h.freshCounters_zero p, ?timeout, ?changeover⟩
  case enrol =>
    intro s q ha hs hp
    have unit := s.hw.keyCtrlWrite_enrol hs hp
    split
    case isTrue point => exact s.regWrite_keyCtrl q _ _ ha (unit.trans (if_pos point))
    case isFalse point => exact s.regWrite_keyCtrl_refused q _ _ _ ha (by decide) (unit.trans (if_neg point))
  case rotate =>
    intro s q ha hs hb hn hr
    have unit := (s.hw.keyCtrlWrite_rotate hs).trans (s.hw.rotate_idle hb hn hr)
    split
    case isTrue signature =>
      exact s.regWrite_keyCtrl_refused q _ _ _ ha (by decide) (unit.trans (if_pos signature))
    case isFalse signature =>
      have unit := unit.trans (if_neg signature)
      split
      case isTrue point => exact s.regWrite_keyCtrl_refused q _ _ _ ha (by decide) (unit.trans (if_pos point))
      case isFalse point => exact s.regWrite_keyCtrl q _ _ ha (unit.trans (if_neg point))
  case rotated =>
    intro s hl hb
    refine (s.onLive_live Hw.rotationDone hl).trans (congrArg s.to ?_)
    simp only [Hw.rotationDone, hb, if_false, Hw.keyGone, Bool.and_eq_true, decide_eq_true_eq]
  case start =>
    intro s p ha hs hr
    exact s.regWrite_hsCtrl (.host p) p _ _ ha (s.hw.hsCtrlWrite_start p hs hr)
  case prepared =>
    intro s p hl hs ht
    refine (s.onLive_live (fun h => h.hsPrepared p) hl).trans (congrArg s.to ?_)
    simp [Hw.hsPrepared, hs, ht]
  case submit =>
    intro s q p ha hs ht
    exact s.regWrite_hsCtrl q p _ _ ha (s.hw.hsCtrlWrite_submit q p hs ht)
  case preparedSealed =>
    intro s p hl hs ht
    refine (s.onLive_live (fun h => h.hsPrepared p) hl).trans (congrArg s.to ?_)
    simp [Hw.hsPrepared, hs, ht, Hw.hsLocked, Status.code]
  case verifiedSealed =>
    intro s p hl hs ht
    refine (s.onLive_live (fun h => h.hsVerified p) hl).trans (congrArg s.to ?_)
    simp [Hw.hsVerified, hs, ht, Hw.hsLocked, Status.code]
  case verified =>
    intro s p hl hs ht
    refine (s.onLive_live (fun h => h.hsVerified p) hl).trans (congrArg s.to ?_)
    simp [Hw.hsVerified, hs, ht, Status.code]
  case timeout =>
    intro s p hl ht
    exact (s.onLive_live (fun h => h.hsTimeout p) hl).trans (congrArg s.to (if_pos ht))
  case changeover =>
    intro s p k hl hk
    refine (s.onLive_live (fun h => h.changeover p) hl).trans (congrArg s.to ?_)
    simp only [Hw.changeover, hk]

end Sys2Proof.Machine
end

section
/-!
PROOF. The end of a lane program: what the outputs carry, and the point of the capture unit.
-/
namespace Sys2Proof.Machine

-- ## The capture unit (R300 to R302)

/-- Bytes that are written read back together. -/
theorem Memory.bytes_setBytes (m : Memory) (a : Nat) (bs : List Byte) : (m.setBytes a bs).bytes a bs.length = bs := by
  refine List.ext_getElem (by simp [Memory.bytes]) fun i hi hb => ?_
  simp only [Memory.bytes, List.getElem_map, List.getElem_range]
  exact Memory.byte_setBytes bs m a i hb

/-- The bytes of a point, two for each value. -/
def pointBytes (pt : List Nat) : List Byte := pt.flatMap (fun v => Num.bytesLE 2 v)

theorem pointBytes_length (pt : List Nat) : (pointBytes pt).length = 2 * pt.length := by
  simp [pointBytes, Num.bytesLE, Nat.mul_comm]

/-- The address of the slot that is next in block k's capture area (R300). -/
def Mach.capSlotAt (m : Mach) (k : Nat) : Nat := capBase k + (m.hw.block k).capSlot * (m.hw.capPoint k).length * 2

theorem Mach.capStore_mem (m : Mach) (k : Nat) :
    (m.capStore k).mem = m.mem.setBytes (m.capSlotAt k) (pointBytes (m.hw.capPoint k)) := rfl

/-- A point that is stored reads back from its slot. -/
theorem Mach.capStore_bytes (m : Mach) (k : Nat) :
    (m.capStore k).mem.bytes (m.capSlotAt k) (2 * (m.hw.capPoint k).length) = pointBytes (m.hw.capPoint k) := by
  rw [m.capStore_mem, ← pointBytes_length]
  exact Memory.bytes_setBytes _ _ _

/-- No byte outside the slot changes with a point. -/
theorem Mach.capStore_outside (m : Mach) (k a : Nat) (ha : a < m.capSlotAt k ∨ m.capSlotAt k + 2 * (m.hw.capPoint k).length ≤ a) :
    (m.capStore k).mem.byte a = m.mem.byte a := by
  rw [← pointBytes_length] at ha
  rw [m.capStore_mem]
  exact Memory.byte_setBytes_outside _ _ _ _ ha

/-- A point that is stored is counted, and the next is due DECIM steps later (R302). -/
theorem Mach.capStore_counts (m : Mach) (k : Nat) : ((m.capStore k).hw.block k).capHave = (m.hw.block k).capHave + 1 ∧
    ((m.capStore k).hw.block k).capDecim = m.hw.rd (BLK_CAP_CFG.DECIM k) := by
  simp [Mach.capStore]

theorem Mach.capStep_idle (m : Mach) (k : Nat) (hs : m.hw.rd (BLK_CAP_STATUS.STATE k) = 0) : m.capStep k = m := by
  simp [Mach.capStep, hs]

/-- A triggered unit stores the point that is due (R302). -/
theorem Mach.capStep_due (m : Mach) (k : Nat) (hs : m.hw.rd (BLK_CAP_STATUS.STATE k) = 2) (hf : (m.hw.block k).capFrom ≤ m.hw.stepCount)
    (hh : m.hw.halted k = false) (hd : (m.hw.block k).capDecim = 0) (hl : (m.hw.block k).capHave < m.hw.rd (BLK_CAP_LEN.LENGTH k)) :
    m.capStep k = m.capStore k := by
  simp [Mach.capStep, hs, Nat.not_lt.2 hf, hh, hd, hl]

-- ## The outputs (R287)

/-- The values that block k sends, and the command output of cell c. -/
def Hw.outputView (k c : Nat) (h : Hw) : (Nat → Nat → Nat) × Nat := (h.sent k, (h.cell c).outCmd)

/-- A cell's record takes no part in what its block sends. -/
theorem Hw.outputView_setCell (h : Hw) (k c j : Nat) (x : Cell) (hj : c ≠ j) : (h.setCell j x).outputView k c = h.outputView k c :=
  congrArg (Prod.mk (h.sent k)) (congrArg Cell.outCmd (h.setCell_cell_ne j x c hj))

/-- The record of a block's own cell i takes the value sent for its command output. -/
theorem Hw.sendOutputs_outCmd (h : Hw) (k i : Nat) (hi : i < 6) : ((h.sendOutputs k).cell (6 * k + i)).outCmd =
    h.sent k (0x1B0 + 4 * i) (h.cell (6 * k + i)).outCmd := by
  have key : (h.sendOutputs k).outputView k (6 * k + i) = (h.sent k, h.sent k (0x1B0 + 4 * i) (h.cell (6 * k + i)).outCmd) := by
    refine Num.forEach_reaches (Hw.outputView k (6 * k + i)) _ 6 i _ h hi (fun j x hj => ?others) (fun x hx => ?own)
    case others => exact x.outputView_setCell k _ _ _ (by omega)
    case own =>
      obtain ⟨sends, output⟩ := Prod.mk.inj hx
      refine Prod.ext sends ?_
      simp only [Hw.outputView, Hw.setCell_cell, sends, output]
  exact (Prod.mk.inj key).2

-- ## The program's end

/-- The lanes of a block with a program complete (R162, R277). -/
theorem Hw.laneFinish_program (h : Hw) (k : Nat) (b : BlockSec) (hb : (h.block k).sec = some b) : h.laneFinish k =
    (h.wr (RM_LANE_FINISH.LAST k) (112 + b.cycles (h.rd (BLK_DTC_STATUS.EFFECTIVE k)))).wr (RM_LANE_FINISH.WORST k)
      (max (112 + b.cycles (h.rd (BLK_DTC_STATUS.EFFECTIVE k))) (h.rd (RM_LANE_FINISH.WORST k))) := by
  simp only [Hw.laneFinish, hb]

/-- A block that is neither a TRIO nor a CHANNEL block only sends what its program has left. -/
theorem Hw.programSent_plain (h : Hw) (k : Nat) (h1 : h.mode k ≠ 1) (h3 : h.mode k ≠ 3) :
    h.programSent k = ((h.laneFinish k).sendOutputs k).laneWriters k := by
  simp only [Hw.programSent, h1, h3, if_false]

/-- The torque-control states of a block's only trio are shown (R330). -/
theorem Hw.torqueShown_state (h : Hw) (k t : Nat) (ht : h.triosOf k = [t]) :
    (h.torqueShown k).reg (BLK_TRIO_STATE k (t % 2)) = (h.trio t).selNow := by
  simp only [Hw.torqueShown, ht, List.foldl_cons, List.foldl_nil]
  rw [Hw.reg_wr_ne, Hw.reg_wr_ne, Hw.reg_wr_ne, Hw.reg_wr_ne, Hw.reg_setReg]
  all_goals
    simp only [BLK_TRIO_STATE, BLK_TRIO_COUNT.VETOES, BLK_TRIO_COUNT.ALL_VETOED, BLK_TRIO_COUNT, BLK_TRIO_HELD.COUNT, BLK_TRIO_HELD,
      BLK_DTC_STATUS.ANGLE_MISSING, BLK_DTC_STATUS]
    omega

/-- END of the program that is due (R31). -/
theorem Mach.laneEnd_due (m : Mach) (k : Nat) (w : Word) (hw : m.hw.laneWord k = some w) (ho : laneOp w = 15) : m.laneEnd k =
    ((Mach.mk m.mem (m.hw.programSent k)).capStep k).onHw (fun h => h.updBlock k (fun b => { b with sigEnd := b.sigs, laneRuns := false })) := by
  simp only [Mach.laneEnd, hw, ho, if_true, Hw.programSent]

/-- Settles O30: END is what its program has sent and the step of the capture unit, and a point lies in its slot. -/
theorem laneProgramEnd : Obligations.LaneProgramEnd := by
  unfold Obligations.LaneProgramEnd
  refine ⟨?ends, ?sent, fun h k t ht => h.torqueShown_state k t ht, fun m k hs => m.capStep_idle k hs,
    fun m k hs hf hh hd hl => m.capStep_due k hs hf hh hd hl,
    fun m k => ⟨m.capStore_bytes k, m.capStore_outside k, m.capStore_counts k⟩, fun h k i => h.sendOutputs_outCmd k i i.isLt⟩
  case ends =>
    rintro s k w ⟨hl, hw, ho⟩
    refine (s.onMach_live (fun m => m.laneEnd k) hl).trans ?_
    rw [Mach.laneEnd_due ⟨s.mem, s.hw⟩ k w hw ho]
    simp only [Mach.onHw, Hw.updBlock]
  case sent =>
    intro h k b hm hb
    rw [h.programSent_plain k (by omega) (by omega), h.laneFinish_program k b hb]

end Sys2Proof.Machine
end

section
/-!
PROOF. Which row of the register map the entries of a table in a block's window name.
-/
namespace Sys2Proof.Machine

-- ## One stride

/-- The index at which an offset lies in a stride of m entries. -/
def strideAt (s m off : Nat) : Nat := min (off / max s 1) (m - 1)

theorem strideAt_mul_le (s m off : Nat) : strideAt s m off * s ≤ off :=
  (Nat.mul_le_mul (Nat.min_le_left _ _) (Nat.le_max_left s 1)).trans (Nat.div_mul_le_self off (max s 1))

theorem strideAt_mono (s m : Nat) {a b : Nat} (h : a ≤ b) : strideAt s m a ≤ strideAt s m b :=
  min_le_min_right _ (Nat.div_le_div_right h)

theorem strideIdx_cons (s m : Nat) (r : List (Nat × Nat)) (off : Nat) :
    strideIdx ((s, m) :: r) off = (strideIdx r (off - strideAt s m off * s)).map (fun l => strideAt s m off :: l) := rfl

/-- Entry i of a stride, and the place within it. -/
theorem strideIdx_entry (s m i rest : Nat) (r : List (Nat × Nat)) (hi : i < m) (hr : rest < s) :
    strideIdx ((s, m) :: r) (i * s + rest) = (strideIdx r rest).map (fun l => i :: l) := by
  have positive : max s 1 = s := Nat.max_eq_left (by omega)
  have entry : strideAt s m (i * s + rest) = i := by
    rw [strideAt, positive, Nat.mul_comm, Nat.mul_add_div (by omega), Nat.div_eq_of_lt hr]
    omega
  rw [strideIdx_cons, entry, Nat.add_sub_cancel_left]

/-- An offset that strides reach is a multiple of what divides them all. -/
theorem strideIdx_dvd (g : Nat) (dims : List (Nat × Nat)) (off : Nat) (idx : List Nat) (hg : ∀ d ∈ dims, g ∣ d.1)
    (h : strideIdx dims off = some idx) : g ∣ off := by
  induction dims generalizing off idx with
  | nil =>
    simp only [strideIdx] at h
    split at h
    case isTrue zero => exact zero ▸ Nat.dvd_zero g
    case isFalse => cases h
  | cons d r ih =>
    obtain ⟨s, m⟩ := d
    obtain ⟨rest, hr, -⟩ := Option.map_eq_some_iff.1 h
    have below := ih _ _ (fun e he => hg e (List.mem_cons_of_mem _ he)) hr
    exact (Nat.dvd_sub_iff_left (strideAt_mul_le s m off) ((hg (s, m) List.mem_cons_self).mul_left _)).1 below

-- ## Rows that a run of addresses misses

/-- The strides reach none of the n offsets lo, lo + g, …: each index is the same over the run and leaves a rest, or what divides the
strides and the run's step does not divide the run. -/
def strideSkips (g n : Nat) : List (Nat × Nat) → Nat → Bool
  | [], lo => lo != 0
  | (s, m) :: r, lo =>
    (strideAt s m lo == strideAt s m (lo + (n - 1) * g) && strideSkips g n r (lo - strideAt s m lo * s)) ||
      (((s, m) :: r).all (fun d => d.1 % g == 0) && lo % g != 0)

theorem strideIdx_skips (g n l : Nat) (hl : l < n) (dims : List (Nat × Nat)) (lo : Nat) (h : strideSkips g n dims lo = true) :
    strideIdx dims (lo + l * g) = none := by
  induction dims generalizing lo with
  | nil =>
    have rest : lo ≠ 0 := bne_iff_ne.1 h
    simp only [strideIdx, Nat.add_eq_zero_iff, rest, false_and, if_false]
  | cons d r ih =>
    obtain ⟨s, m⟩ := d
    simp only [strideSkips, Bool.or_eq_true, Bool.and_eq_true, beq_iff_eq, bne_iff_ne] at h
    rcases h with ⟨same, skips⟩ | ⟨divides, rest⟩
    case inl =>
      have within : lo + l * g ≤ lo + (n - 1) * g := Nat.add_le_add_left (Nat.mul_le_mul_right g (by omega)) lo
      have index : strideAt s m (lo + l * g) = strideAt s m lo :=
        le_antisymm (same ▸ strideAt_mono s m within) (strideAt_mono s m (Nat.le_add_right _ _))
      rw [strideIdx_cons, index, Nat.sub_add_comm (strideAt_mul_le s m lo), ih _ skips, Option.map_none]
    case inr =>
      refine Option.eq_none_iff_forall_ne_some.2 fun idx hidx => rest (Nat.mod_eq_zero_of_dvd ?_)
      have strides (d : Nat × Nat) (hd : d ∈ (s, m) :: r) : g ∣ d.1 := Nat.dvd_of_mod_eq_zero (beq_iff_eq.1 (List.all_eq_true.1 divides d hd))
      exact (Nat.dvd_add_left (Nat.dvd_mul_left g l)).1 (strideIdx_dvd g _ _ idx strides hidx)

/-- A row has none of the n addresses lo, lo + g, …. -/
def RegRow.skips (r : RegRow) (lo g n : Nat) : Bool :=
  decide (lo + (n - 1) * g < r.base) || (decide (r.base ≤ lo) && strideSkips g n r.dims (lo - r.base))

theorem RegRow.not_hit_of_skips {r : RegRow} {lo g n l : Nat} (hl : l < n) (h : r.skips lo g n = true) :
    lo + l * g < r.base ∨ strideIdx r.dims (lo + l * g - r.base) = none := by
  simp only [RegRow.skips, Bool.or_eq_true, Bool.and_eq_true, decide_eq_true_eq] at h
  rcases h with below | ⟨base, skips⟩
  case inl =>
    have within : l * g ≤ (n - 1) * g := Nat.mul_le_mul_right g (by omega)
    exact .inl (by omega)
  case inr => exact .inr (Nat.sub_add_comm base ▸ strideIdx_skips g n l hl r.dims _ skips)

/-- The row that has an address which all others miss is the one that the address names. -/
theorem hitIn_only (rows : List RegRow) (row : RegRow) (a : Nat) (idx : List Nat) (hm : row ∈ rows)
    (others : ∀ r ∈ rows, r ≠ row → a < r.base ∨ strideIdx r.dims (a - r.base) = none) (hb : row.base ≤ a)
    (hi : strideIdx row.dims (a - row.base) = some idx) : hitIn rows a = some ⟨row, idx⟩ := by
  induction rows with
  | nil => cases hm
  | cons r rest ih =>
    by_cases own : r = row
    case pos =>
      subst own
      simp only [hitIn, Nat.not_lt.2 hb, if_false, hi]
    case neg =>
      have further := ih ((List.mem_cons.1 hm).resolve_left (Ne.symm own)) fun x hx => others x (List.mem_cons_of_mem _ hx)
      rcases others r List.mem_cons_self own with below | missed
      · simp only [hitIn, below, if_true, further]
      · simp only [hitIn, missed, further, ite_self]

/-- The entries of a table whose row alone has its hook name that row, where every other row misses them. -/
theorem regHit_of_hook {hk : RegHook} {row : RegRow} (lo g n l : Nat) (idx : List Nat)
    (one : regRows.filter (fun r => r.hook == hk) = [row]) (skips : regRows.all (fun r => r.hook == hk || r.skips lo g n) = true)
    (hl : l < n) (hp : 0x1000 ≤ lo) (hb : row.base ≤ lo) (hi : strideIdx row.dims (lo + l * g - row.base) = some idx) :
    regHit (lo + l * g) = some ⟨row, idx⟩ := by
  have member : row ∈ regRows := (List.mem_filter.1 (one ▸ List.mem_singleton_self row)).1
  have port : ¬ (0x800 ≤ lo + l * g ∧ lo + l * g < 0x1000) := by omega
  rw [regHit, if_neg port]
  refine hitIn_only regRows row _ idx member (fun r hr hne => ?_) (by omega) hi
  have hook : ¬ (r.hook == hk) = true := fun h => hne (List.mem_singleton.1 (one ▸ List.mem_filter.2 ⟨hr, h⟩))
  exact RegRow.not_hit_of_skips hl ((Bool.or_eq_true_iff.1 (List.all_eq_true.1 skips r hr)).resolve_left hook)

-- ## The tables of laws and inputs

/-- The row of BLK_k_LAW_l_CTRL (Table 10-6). -/
def lawCtrlRow : RegRow := ⟨0x1040501C, [(0x1000000, 4), (0x200000, 2), (0x20, 256)], .lawCtrl, 0x0#32, [⟨0, 0, .wo, .any⟩]⟩

/-- The row of BLK_k_INPUT_n_VALUE (Table 10-6). -/
def inputValueRow : RegRow := ⟨0x10404000, [(0x1000000, 4), (0x200000, 2), (0x4, 128)], .inputValue, 0x0#32, [⟨15, 0, .rw, .any⟩]⟩

/-- Entry l of a table of a block's window lies at its block's two indices and its own. -/
theorem strideIdx_blockTable (k : BlockId) (l g n : Nat) (hl : l < n) (hg : 0 < g) (hs : n * g ≤ 0x200000) :
    strideIdx [(0x1000000, 4), (0x200000, 2), (g, n)] (k.val / 2 * 0x1000000 + (k.val % 2 * 0x200000 + l * g)) =
      some [k.val / 2, k.val % 2, l] := by
  have entry : l * g + g ≤ n * g := Nat.succ_mul l g ▸ Nat.mul_le_mul_right g hl
  rw [strideIdx_entry _ _ _ _ _ (by omega) (by omega), strideIdx_entry _ _ _ _ _ (by omega) (by omega),
    ← Nat.add_zero (l * g), strideIdx_entry _ _ _ _ _ hl hg]
  rfl

theorem lawCtrl_only : regRows.filter (fun r => r.hook == .lawCtrl) = [lawCtrlRow] := by decide +kernel

theorem lawCtrl_skipped (k : BlockId) :
    regRows.all (fun r => r.hook == .lawCtrl || r.skips (blockBase k + 0x501C) 0x20 256) = true := by
  revert k
  decide +kernel

theorem regHit_lawCtrl (k : BlockId) (l : Fin 256) :
    regHit (BLK_LAW_CTRL k l).addr = some ⟨lawCtrlRow, [k.val / 2, k.val % 2, l.val]⟩ := by
  have offset : blockBase k + 0x501C + l * 0x20 - lawCtrlRow.base = k.val / 2 * 0x1000000 + (k.val % 2 * 0x200000 + l * 0x20) := by
    simp only [blockBase, lawCtrlRow]
    omega
  refine regHit_of_hook _ 0x20 256 l _ lawCtrl_only (lawCtrl_skipped k) l.isLt ?_ ?_ ?_
  · simp only [blockBase]; omega
  · simp only [blockBase, lawCtrlRow]; omega
  · exact offset ▸ strideIdx_blockTable k l 0x20 256 l.isLt (by decide) (by decide)

theorem inputValue_only : regRows.filter (fun r => r.hook == .inputValue) = [inputValueRow] := by decide +kernel

theorem inputValue_skipped (k : BlockId) :
    regRows.all (fun r => r.hook == .inputValue || r.skips (blockBase k + 0x4000) 0x4 128) = true := by
  revert k
  decide +kernel

theorem regHit_inputValue (k : BlockId) (n : Fin 128) :
    regHit (BLK_INPUT_VALUE k n).addr = some ⟨inputValueRow, [k.val / 2, k.val % 2, n.val]⟩ := by
  have offset : blockBase k + 0x4000 + n * 0x4 - inputValueRow.base = k.val / 2 * 0x1000000 + (k.val % 2 * 0x200000 + n * 0x4) := by
    simp only [blockBase, inputValueRow]
    omega
  refine regHit_of_hook _ 0x4 128 n _ inputValue_only (inputValue_skipped k) n.isLt ?_ ?_ ?_
  · simp only [blockBase]; omega
  · simp only [blockBase, inputValueRow]; omega
  · exact offset ▸ strideIdx_blockTable k n 0x4 128 n.isLt (by decide) (by decide)

/-- The block that the indices of its window name. -/
theorem blk_of_window (row : RegRow) (k : BlockId) (l : Nat) : RegHit.blk ⟨row, [k.val / 2, k.val % 2, l]⟩ = k := by
  simp only [RegHit.blk, RegHit.ix, List.getD_cons_zero, List.getD_cons_succ]
  omega

end Sys2Proof.Machine
end

section
/-!
PROOF. The operation LAW, a CLEAR of a law and a write of a control input.
-/
namespace Sys2Proof.Machine

-- ## The operation LAW (R288 to R290)

/-- The operation that is due acts, and the program goes on. -/
theorem State.laneDo_due (s : State) (k op : Nat) (w : Word) (f : Word → Hw → Hw) (hw : s.laneAt k op w) :
    s.onLive (fun h => h.laneDo k op f) = s.laneNext k (f w s.hw) := by
  obtain ⟨hl, hw, ho⟩ := hw
  refine (s.onLive_live _ hl).trans ?_
  simp only [Hw.laneDo, hw, ho, if_true, Hw.updBlock, State.laneNext]

-- ## CLEAR of a law (R293)

/-- A law that has a record has its history marked. -/
theorem Hw.unitWrite_lawClear (h : Hw) (q : Requester) (k : BlockId) (l a : Nat) (w : Word) (hp : (h.law k l).present = true) :
    h.unitWrite q ⟨lawCtrlRow, [k.val / 2, k.val % 2, l]⟩ a w 1#32 = (.ok, h.setLaw k l { h.law k l with clear := true }) := by
  have index : RegHit.ix ⟨lawCtrlRow, [k.val / 2, k.val % 2, l]⟩ 2 = l := rfl
  have hook : lawCtrlRow.hook = .lawCtrl := rfl
  simp [Hw.unitWrite, hook, blk_of_window, index, hp]

-- ## Control inputs (R279, R296, R393)

/-- A register that is no control input's value, by its place in a block's window or in that of a block's cells. -/
abbrev RegId.noInput (r : RegId) : Prop := r.addr % 0x200000 < 0x4000 ∨ 0x4200 ≤ r.addr % 0x200000

theorem Hw.rd_setInput (h : Hw) (k : Nat) (n : Fin 128) (w : Word) (f : Fld) (hf : f.reg.noInput) :
    (h.setReg (BLK_INPUT_VALUE k n) w).rd f = h.rd f := by
  refine Hw.rd_setReg_ne _ _ _ _ fun same => ?_
  simp only [RegId.noInput, same, BLK_INPUT_VALUE, blockBase] at hf
  omega

theorem RegId.noInput_cell (c off : Nat) (w : Word) (ho : off < 0x10000) : RegId.noInput ⟨cellBase c + off, w⟩ := by
  simp only [RegId.noInput, cellBase]
  omega

theorem RegId.noInput_trip (k i n : Nat) (hi : i < 6) (hn : n < 2) : (BLK_CELL_TRIP k i n).noInput := by
  simp only [RegId.noInput, BLK_CELL_TRIP, blockBase]
  omega

theorem RegId.noInput_law (k l : Nat) (hl : l < 256) : (BLK_LAW_LIMITS k l).noInput := by
  simp only [RegId.noInput, BLK_LAW_LIMITS, blockBase]
  omega

theorem RegId.noInput_meas (n : Nat) (hn : n < 48) : (MEAS_CH_CFG n).noInput := by
  simp only [RegId.noInput, MEAS_CH_CFG]
  omega

/-- No row of Table 14-1 speaks of a control input's value. -/
theorem Hw.chanTable_setInput (h : Hw) (k : Nat) (n : Fin 128) (w : Word) (c : Nat) (hc : c < 48) :
    (h.setReg (BLK_INPUT_VALUE k n) w).chanTable c = h.chanTable c := by
  have reads := h.rd_setInput k n w
  have pwm (hi lo : Nat) := reads ⟨LEG_PWM_CFG c, hi, lo⟩ (RegId.noInput_cell c _ _ (by decide))
  have compA (hi lo : Nat) := reads ⟨LEG_COMP_A_CFG c, hi, lo⟩ (RegId.noInput_cell c _ _ (by decide))
  have compB (hi lo : Nat) := reads ⟨LEG_COMP_B_CFG c, hi, lo⟩ (RegId.noInput_cell c _ _ (by decide))
  have chan (hi lo : Nat) := reads ⟨LEG_CHAN_CFG c, hi, lo⟩ (RegId.noInput_cell c _ _ (by decide))
  have meas (hi lo : Nat) := reads ⟨MEAS_CH_CFG c, hi, lo⟩ (RegId.noInput_meas c hc)
  have trip (hi lo t : Nat) (ht : t < 2) := reads ⟨BLK_CELL_TRIP (blockOf c) (localOf c) t, hi, lo⟩
    (RegId.noInput_trip _ _ _ (Nat.mod_lt c (by decide)) ht)
  have limits := reads ⟨BLK_LAW_LIMITS (blockOf c) (h.rd (LEG_CHAN_CFG.VLAW c)), 15, 0⟩ (RegId.noInput_law _ _ (h.rd_lt (LEG_CHAN_CFG.VLAW c)))
  have trips : List.range 2 = [0, 1] := rfl
  simp only [LEG_CHAN_CFG.VLAW] at limits
  simp only [Hw.chanTable, Hw.on, LEG_PWM_CFG.MODE, LEG_PWM_CFG.DUTY_SRC, LEG_PWM_CFG.CARRIER, LEG_COMP_A_CFG.INPUT, LEG_COMP_A_CFG.POLARITY,
    LEG_COMP_A_CFG.THR_SRC, LEG_COMP_B_CFG.INPUT, LEG_COMP_B_CFG.POLARITY, LEG_COMP_B_CFG.THR_SRC, BLK_CELL_TRIP.SOURCE,
    BLK_CELL_TRIP.ACTION, BLK_CELL_TRIP.TARGET, BLK_CELL_TRIP.COMP_ON, MEAS_CH_CFG.I_EN, MEAS_CH_CFG.MODE, MEAS_CH_CFG.AUTO_START,
    LEG_CHAN_CFG.VLAW, LEG_CHAN_CFG.ILAW, BLK_LAW_LIMITS.OUT_MIN, trips, List.all_cons, List.all_nil, pwm, compA, compB, chan, meas,
    trip _ _ 0 (by decide), trip _ _ 1 (by decide), limits, Hw.setReg_law]

/-- A cell is a channel, or not, whatever its inputs hold. -/
theorem Hw.isChannel_setInput (h : Hw) (k : Nat) (n : Fin 128) (w : Word) (c : Nat) :
    (h.setReg (BLK_INPUT_VALUE k n) w).isChannel c = h.isChannel c := by
  have owner : (h.setReg (BLK_INPUT_VALUE k n) w).owner (blockOf c) = h.owner (blockOf c) := rfl
  have mode : (h.setReg (BLK_INPUT_VALUE k n) w).mode (blockOf c) = h.mode (blockOf c) := rfl
  simp only [Hw.isChannel, Hw.blockEntered, owner, mode]
  cases hp : h.owner (blockOf c) with
  | none => rfl
  | some p =>
    have low : p < 16 := List.mem_range.1 (List.mem_of_find?_eq_some hp)
    have state : (PART_RUN p).noInput := by
      simp only [RegId.noInput, PART_RUN]
      omega
    simp only [h.rd_setInput k n w (PART_RUN.STATE p) state]

theorem Hw.chanTablesOk_setInput (h : Hw) (k : Nat) (n : Fin 128) (w : Word) :
    (h.setReg (BLK_INPUT_VALUE k n) w).chanTablesOk = h.chanTablesOk := by
  rw [Hw.chanTablesOk, Hw.chanTablesOk, Bool.eq_iff_iff, List.all_eq_true, List.all_eq_true]
  refine forall₂_congr fun c hc => ?_
  rw [h.isChannel_setInput, h.chanTable_setInput k n w c (List.mem_range.1 hc)]

/-- No condition is set on a control input's value. -/
theorem Hw.fieldsFit_input (h : Hw) (p : Nat) (idx : List Nat) (k : BlockId) (n : Fin 128) (judged : Nat → Nat → Bool) :
    h.fieldsFit p ⟨inputValueRow, idx⟩ (BLK_INPUT_VALUE k n).addr judged = true := by
  have hook : inputValueRow.hook = .inputValue := rfl
  have low : 0x10400000 ≤ (BLK_INPUT_VALUE k n).addr ∧ (BLK_INPUT_VALUE k n).addr < 0x20000000 := by
    simp only [BLK_INPUT_VALUE, blockBase]
    omega
  have place : (BLK_INPUT_VALUE k n).addr % 0x200000 = 0x4000 + 4 * n := by
    simp only [BLK_INPUT_VALUE, blockBase]
    omega
  generalize (BLK_INPUT_VALUE k n).addr = a at low place
  simp only [Hw.fieldsFit, hook]
  rw [if_neg (by omega), if_neg (by omega), if_neg (by omega), if_pos (by omega), if_neg (by omega), if_neg (by omega)]

/-- A write of another value than 0x8000 by the input's writer ends a ramp and sets the value. -/
theorem Hw.registerWrite_input (h : Hw) (q : Requester) (k : BlockId) (n : Fin 128) (v : Fin 65536) (hw : h.isWriter k n q = true)
    (hv : v.val ≠ 0x8000) :
    h.registerWrite q ⟨inputValueRow, [k.val / 2, k.val % 2, n.val]⟩ (BLK_INPUT_VALUE k n).addr (BitVec.ofNat 32 v) =
      (.ok, ((h.setPacer k n {}).wrB (BLK_INPUT_CFG.RAMPING k n) false).wr (BLK_INPUT_VALUE.VALUE k n) v) := by
  have hook : inputValueRow.hook = .inputValue := rfl
  have own : RegHit.id ⟨inputValueRow, [k.val / 2, k.val % 2, n.val]⟩ (BLK_INPUT_VALUE k n).addr = BLK_INPUT_VALUE k n := rfl
  have index : RegHit.ix ⟨inputValueRow, [k.val / 2, k.val % 2, n.val]⟩ 2 = n := rfl
  have value : Bits.get (BitVec.ofNat 32 v) 15 0 = v := by
    simp only [Bits.get, BitVec.toNat_ofNat, Nat.shiftRight_zero]
    omega
  simp only [Hw.registerWrite, Hw.fieldsFit_input, own, Hw.chanTablesOk_setInput, Hw.unitWrite, hook, blk_of_window, index, value,
    Hw.inputWrite, hw, hv]
  cases h.chanTablesOk <;> simp [Hw.endRamp]

-- ## The statement

/-- Settles O28: LAW is the law's run on its input, and each write is accepted by its unit. -/
theorem lawsAndInputs : Obligations.LawsAndInputs := by
  unfold Obligations.LawsAndInputs
  refine ⟨?valid, ?held, ?clear, ?input⟩
  case valid =>
    intro s k w e hw he
    refine (s.laneDo_due k 6 w _ hw).trans (congrArg (s.laneNext k) ?_)
    simp only [Hw.runLaw, he]
    rfl
  case held =>
    intro s k w hw he
    refine (s.laneDo_due k 6 w _ hw).trans (congrArg (s.laneNext k) ?_)
    simp only [Hw.runLaw, he]
  case clear =>
    intro s q k l ha hp
    refine s.regWrite_reg q _ _ _ _ ha ?_ (regHit_lawCtrl k l) (by simp [lawCtrlRow]) ?_
    · simp only [BLK_LAW_CTRL, blockBase]
      omega
    · exact (Hw.registerWrite_noSettings _ _ _ _ _ rfl).trans (s.hw.unitWrite_lawClear q k l _ _ hp)
  case input =>
    intro s q k n v ha hw hv
    refine s.regWrite_reg q _ _ _ _ ha ?_ (regHit_inputValue k n) (by simp [inputValueRow]) (s.hw.registerWrite_input q k n v hw hv)
    simp only [BLK_INPUT_VALUE, blockBase]
    omega

end Sys2Proof.Machine
end

section
/-!
PROOF. An instruction that a thread issues: the numbers in its word, and the result, branch, jump or stall that it ends in.
-/
namespace Sys2Proof.Machine

-- ## The fields of the instruction word (Table 5-4)

/-- A field that lies within IMM is that part of IMM. -/
theorem Bits.get_seqImm (w : Word) (hi lo : Nat) (hh : hi < 16) : Bits.get w hi lo = seqImm w / 2 ^ lo % 2 ^ (hi + 1 - lo) := by
  apply Nat.eq_of_testBit_eq
  intro i
  rw [Bits.testBit_get, Nat.testBit_mod_two_pow, Nat.testBit_div_two_pow, seqImm, Bits.testBit_get]
  by_cases hi' : i < hi + 1 - lo
  · have : lo + i < 16 := by omega
    simp [hi', this, Nat.add_comm i lo]
  · simp [hi']

/-- The flag number of SET, CLR and SIGNAL, and the shift count of SHIFT. -/
theorem Bits.get_flagNumber (w : Word) : Bits.get w 4 0 = seqImm w % 32 := by
  simpa using Bits.get_seqImm w 4 0 (by decide)

/-- The kind of shift of SHIFT. -/
theorem Bits.get_shiftKind (w : Word) : Bits.get w 6 5 = seqImm w / 32 % 4 := Bits.get_seqImm w 6 5 (by decide)

/-- The block that SIGNAL names. -/
theorem Bits.get_signalBlock (w : Word) : Bits.get w 10 8 = seqImm w / 256 % 8 := Bits.get_seqImm w 10 8 (by decide)

/-- IMM in the upper half over the lower half of a register, as one number. -/
theorem upperImm_or_lower (w a : Word) :
    (BitVec.ofNat 32 (seqImm w) <<< 16) ||| (a &&& 0x0000FFFF#32) = BitVec.ofNat 32 (65536 * seqImm w + a.toNat % 65536) := by
  have hw : seqImm w < 65536 := Bits.get_lt w 15 0
  have ha : a.toNat &&& 65535 = a.toNat % 65536 := Nat.and_two_pow_sub_one_eq_mod a.toNat 16
  have hl : a.toNat % 65536 < 2 ^ 16 := Nat.mod_lt _ (by decide)
  apply BitVec.eq_of_toNat_eq
  have hn : (BitVec.ofNat 32 (seqImm w) <<< 16).toNat = seqImm w <<< 16 := by
    simp only [BitVec.toNat_shiftLeft, BitVec.toNat_ofNat, Nat.shiftLeft_eq]
    omega
  rw [BitVec.toNat_or, BitVec.toNat_and, hn, BitVec.toNat_ofNat, BitVec.toNat_ofNat, show 65535 % 2 ^ 32 = 65535 from rfl, ha,
    ← Nat.shiftLeft_add_eq_or_of_lt hl, Nat.shiftLeft_eq]
  omega

theorem seqShift_eq (v w : Word) : seqShift v w =
    if seqImm w / 32 % 4 = 0 then v <<< (seqImm w % 32)
    else if seqImm w / 32 % 4 = 1 then v >>> (seqImm w % 32) else v.sshiftRight (seqImm w % 32) := by
  simp only [seqShift, Bits.get_flagNumber, Bits.get_shiftKind]
  split
  · next h => rw [if_pos h]
  · next h => rw [if_neg (by omega), if_pos h]
  · next h0 h1 => rw [if_neg h0, if_neg h1]

-- ## What an issued instruction ends in

/-- An instruction whose result goes to G_D. -/
theorem State.issue_result (s : State) (k : BlockId) (t : ThreadId) (op : Nat) (w : Word) (hi : s.issuing k t op w) (f : Word → Hw → Word) :
    s.onLive (fun h => h.issue k t op (fun w h => h.result k t (seqD w) (f w h))) = s.resulting k t (seqD w) (f w (s.hw.issued k t)) :=
  (s.issue_eq k t op w hi _).trans (s.result_eq k t _ _)

/-- Settles O5: each instruction's result is that of Table 5-5. -/
theorem threadArithmetic : Obligations.ThreadArithmetic := by
  unfold Obligations.ThreadArithmetic
  refine ⟨?movi, ?movhi, ?addi, ?add, ?sub, ?and, ?or, ?xor, ?shift⟩
  case movi => exact fun s k t w hi => s.issue_result k t _ w hi (fun w _ => seqSext w)
  case movhi =>
    intro s k t w hi
    rw [← upperImm_or_lower]
    exact s.issue_result k t _ w hi (fun w h => (BitVec.ofNat 32 (seqImm w) <<< 16) ||| (h.gA k t w &&& 0x0000FFFF#32))
  case addi => exact fun s k t w hi => s.issue_result k t _ w hi (fun w h => h.gA k t w + seqSext w)
  case add => exact fun s k t w hi => s.issue_result k t _ w hi (fun w h => h.gA k t w + h.gB k t w)
  case sub => exact fun s k t w hi => s.issue_result k t _ w hi (fun w h => h.gA k t w - h.gB k t w)
  case and => exact fun s k t w hi => s.issue_result k t _ w hi (fun w h => h.gA k t w &&& h.gB k t w)
  case or => exact fun s k t w hi => s.issue_result k t _ w hi (fun w h => h.gA k t w ||| h.gB k t w)
  case xor => exact fun s k t w hi => s.issue_result k t _ w hi (fun w h => h.gA k t w ^^^ h.gB k t w)
  case shift =>
    intro s k t w hi
    rw [← seqShift_eq]
    exact s.issue_result k t _ w hi (fun w h => seqShift (h.gA k t w) w)

-- ## Branches

/-- A conditional branch, whose condition is `c`, goes on at its target or at the next word. -/
theorem State.issue_branch (s : State) (k : BlockId) (t : ThreadId) (op : Nat) (w : Word) (hi : s.issuing k t op w)
    (taken : Word → Word → Bool) (c : Prop) [Decidable c]
    (hc : taken (s.hw.gen k t (seqD w)) (s.hw.gen k t (seqA w)) = true ↔ c) :
    s.onLive (fun h => h.issue k t op (fun w h => h.branch k t w taken)) =
      s.to ((s.hw.issued k t).goto k t (if c then branchTo (s.hw.threadPc k t) w else s.hw.threadPc k t + 4)) := by
  rw [s.issue_eq k t op w hi]
  simp only [Hw.branch, Hw.gD, Hw.gA, Hw.advance, Hw.issued_gen, Hw.issued_threadPc, hc, apply_ite (Hw.goto _ _ _)]

/-- CALL pushes the address of the next word while the return stack holds fewer than eight (R146, R159). -/
theorem Hw.call_eq (h : Hw) (k t : Nat) (w : Word) : h.call k t w =
    if (h.thread k t).stack.length < 8 then
      (h.setThread k t { h.thread k t with stack := (h.threadPc k t + 4) :: (h.thread k t).stack }).goto k t (branchTo (h.jumpBase k t w) w)
    else h.threadFault k t 0x0A (h.reg (BLK_SEQ_PC k t)) := by
  unfold Hw.call
  split
  · next hl => rw [if_neg (by omega)]
  · next hl => rw [if_pos (by omega)]; rfl

theorem Hw.ret_pop (h : Hw) (k t a : Nat) (r : List Nat) (hs : (h.thread k t).stack = a :: r) :
    h.ret k t = (h.setThread k t { h.thread k t with stack := r }).goto k t a := by
  simp only [Hw.ret, hs, Hw.updThread]

theorem Hw.ret_empty (h : Hw) (k t : Nat) (hs : (h.thread k t).stack = []) :
    h.ret k t = h.threadFault k t 0x0A (h.reg (BLK_SEQ_PC k t)) := by
  simp only [Hw.ret, hs]

/-- Settles O6: a branch by its condition, and JUMP, CALL and RET by the base and the return stack. -/
theorem threadBranches : Obligations.ThreadBranches := by
  unfold Obligations.ThreadBranches
  refine ⟨?beq, ?bne, ?blt, ?bge, ?jump, ?call, ?pop, ?empty⟩
  case beq => exact fun s k t w hi => s.issue_branch k t _ w hi (fun a b => a == b) _ beq_iff_eq
  case bne => exact fun s k t w hi => s.issue_branch k t _ w hi (fun a b => a != b) _ bne_iff_ne
  case blt => exact fun s k t w hi => s.issue_branch k t _ w hi (fun a b => a.slt b) _ BitVec.slt_iff_toInt_lt
  case bge => exact fun s k t w hi => s.issue_branch k t _ w hi (fun a b => !a.slt b) _ (by simp [BitVec.slt_eq_decide])
  case jump => exact fun s k t w hi => s.issue_eq k t _ w hi (fun w h => h.goto k t (branchTo (h.jumpBase k t w) w))
  case call =>
    exact fun s k t w hi => (s.issue_eq k t _ w hi (fun w h => h.call k t w)).trans (congrArg s.to ((s.hw.issued k t).call_eq k t w))
  case pop =>
    exact fun s k t w a r hi hs =>
      (s.issue_eq k t _ w hi (fun _ h => h.ret k t)).trans (congrArg s.to ((s.hw.issued k t).ret_pop k t a r hs))
  case empty =>
    exact fun s k t w hi hs =>
      (s.issue_eq k t _ w hi (fun _ h => h.ret k t)).trans (congrArg s.to ((s.hw.issued k t).ret_empty k t hs))

end Sys2Proof.Machine
end

section
/-!
PROOF. Where a thread goes on once its instruction is complete: in the code area, in the direct-execution window, or at a fault.
-/
namespace Sys2Proof.Machine

/-- The code areas of the blocks lie below the direct-execution window (Tables 1-7 and 1-8). -/
theorem codeBase_le (k : BlockId) : codeBase k + 0x1000 ≤ 0x21008000 := by
  unfold codeBase
  omega

/-- A thread's PC is permitted at the words of its block's code area and of the window (R156). -/
theorem pcFits_iff (k : Nat) (a : Nat) : pcFits k a = true ↔
    a % 4 = 0 ∧ ((codeBase k ≤ a ∧ a < codeBase k + 0x1000) ∨ (0x60000000 ≤ a ∧ a < 0x64000000)) := by
  simp [pcFits]

/-- A thread of block k whose PC has become `a`: it has no fetched word and no stall. -/
def Hw.pcSet (h : Hw) (k t a : Nat) : Hw :=
  (h.setReg (BLK_SEQ_PC k t) (BitVec.ofNat 32 a)).setThread k t { h.thread k t with fetched := none, stall := .none }

/-- The registers of the serial port are none of the Ringmaster's. -/
theorem Hw.pcSet_rd (h : Hw) (k : BlockId) (t : ThreadId) (a : Nat) (f : Fld) (hf : 0x40000000 ≤ f.reg.addr) :
    (h.pcSet k t a).rd f = h.rd f := by
  refine h.rd_setReg_ne _ _ _ ?_
  simp only [BLK_SEQ_PC]
  omega

theorem Hw.pcSet_spiSlave (h : Hw) (k : BlockId) (t : ThreadId) (a : Nat) : (h.pcSet k t a).spiSlave = h.spiSlave := by
  simp only [Hw.spiSlave, Hw.on, h.pcSet_rd k t a SPI_STATUS.ROLE (by decide)]

theorem Hw.pcSet_xipReaches (h : Hw) (k : BlockId) (t : ThreadId) (a b : Nat) : (h.pcSet k t a).xipReaches b = h.xipReaches b := by
  simp only [Hw.xipReaches, Hw.on, h.pcSet_rd k t a SPI_XIP_CFG.ADDR4 (by decide)]

-- ## The cases of R156 and R157

/-- A PC in the code area leaves the thread READY. -/
theorem Hw.goto_code (h : Hw) (k : BlockId) (t a : Nat) (h4 : a % 4 = 0) (hl : codeBase k ≤ a) (hu : a < codeBase k + 0x1000) :
    h.goto k t a = (h.pcSet k t a).wr (BLK_SEQ_STATE.THREAD k t) 1 := by
  have hf : pcFits k a = true := (pcFits_iff k a).2 ⟨h4, .inl ⟨hl, hu⟩⟩
  have hb := codeBase_le k
  simp [Hw.goto, hf, show a < 0x60000000 by omega, Hw.pcSet, Hw.updThread]

/-- A PC in the window is one to fetch from. -/
theorem Hw.goto_window (h : Hw) (k t a : Nat) (h4 : a % 4 = 0) (hl : 0x60000000 ≤ a) (hu : a < 0x64000000) :
    h.goto k t a = (h.pcSet k t a).fetchStart k t (a - 0x60000000) := by
  have hf : pcFits k a = true := (pcFits_iff k a).2 ⟨h4, .inr ⟨hl, hu⟩⟩
  simp [Hw.goto, hf, show ¬ a < 0x60000000 by omega, Hw.pcSet, Hw.updThread]

/-- Any other PC faults the thread at the instruction that produced it. -/
theorem Hw.goto_unfit (h : Hw) (k t a : Nat) (hf : pcFits k a = false) : h.goto k t a = h.threadFault k t 0x09 (h.reg (BLK_SEQ_PC k t)) := by
  simp [Hw.goto, hf]

/-- An access that opens or ends in the window leaves every thread. -/
theorem Hw.xipOpen_thread (h : Hw) (who a j u : Nat) : (h.xipOpen who a).thread j u = h.thread j u := by
  have hw (x : Hw) (l : Nat) : (x.wantLine l).thread j u = x.thread j u := by
    unfold Hw.wantLine
    split <;> rfl
  unfold Hw.xipOpen
  dsimp only
  split
  · rfl
  · exact hw _ _

/-- A fetch that the port can start stalls the thread. -/
theorem Hw.fetchStart_reached (h : Hw) (k t a : Nat) (hs : h.spiSlave = false) (hx : h.xipReaches a = true) :
    h.fetchStart k t a = (((h.xipClose (whoFetch k t)).xipOpen (whoFetch k t) a).setThread k t
      { h.thread k t with stall := .fetch (0x60000000 + a), fetched := none }).wr (BLK_SEQ_STATE.THREAD k t) 3 := by
  have ht : ((h.xipClose (whoFetch k t)).xipOpen (whoFetch k t) a).thread k t = h.thread k t := Hw.xipOpen_thread _ _ _ _ _
  simp [Hw.fetchStart, hs, hx, Hw.updThread, ht]

/-- In slave role a fetch faults its thread. -/
theorem Hw.fetchStart_slave (h : Hw) (k t a : Nat) (hs : h.spiSlave = true) :
    h.fetchStart k t a = h.threadFault k t 0x0B (BitVec.ofNat 32 (0x60000000 + a)) := by
  simp [Hw.fetchStart, hs]

/-- Settles O7: by where the address lies and by the port's role. -/
theorem threadGoesOn : Obligations.ThreadGoesOn := by
  unfold Obligations.ThreadGoesOn
  refine ⟨fun h k t a h4 hl hu => h.goto_code k t a h4 hl hu, ?master, ?slave, ?unfit⟩
  case master =>
    intro h k t a h4 hl hu hs hx
    have ha : 0x60000000 + (a - 0x60000000) = a := by omega
    rw [h.goto_window k t a h4 hl hu, Hw.fetchStart_reached _ _ _ _ ((h.pcSet_spiSlave k t a).trans hs)
      ((h.pcSet_xipReaches k t a _).trans hx), ha]
    simp only [Hw.pcSet, Hw.setThread_thread]
  case slave =>
    intro h k t a h4 hl hu hs
    have ha : 0x60000000 + (a - 0x60000000) = a := by omega
    rw [h.goto_window k t a h4 hl hu, Hw.fetchStart_slave _ _ _ _ ((h.pcSet_spiSlave k t a).trans hs), ha]
    rfl
  case unfit =>
    intro h k t a ha
    refine h.goto_unfit k t a (Bool.eq_false_iff.2 fun hf => ?_)
    obtain ⟨h4, hin⟩ := (pcFits_iff k a).1 hf
    have hb := codeBase_le k
    unfold codeBase at hin hb
    omega

end Sys2Proof.Machine
end

section
/-!
PROOF. The accesses of a thread: an instruction stalls it, its access completes, and a fetch from the window is delivered or times out.
-/
namespace Sys2Proof.Machine

theorem Bits.get_low16 (w : Word) : Bits.get w 15 0 = w.toNat % 65536 := rfl

-- ## The end of an access (R147, R160)

/-- A thread whose access has completed: the status is in G_15, and neither the stall nor a STOP waits. -/
def Hw.accessEnded (h : Hw) (k t : Nat) (r : Status) : Hw :=
  (h.setGen k t 15 (BitVec.ofNat 32 r.code)).setThread k t { h.thread k t with stall := .none, stopReq := false }

theorem Hw.accessDone_stalled (h : Hw) (k : BlockId) (t : ThreadId) (r : Status) (hs : h.threadState k t = 3) : h.accessDone k t r =
    if (h.thread k t).stopReq && pcFits k (h.threadPc k t + 4) then
      (((h.accessEnded k t r).setReg (BLK_SEQ_PC k t) (BitVec.ofNat 32 (h.threadPc k t + 4))).updThread k t
        (fun y => { y with fetched := none })).wr (BLK_SEQ_STATE.THREAD k t) 4
    else (h.accessEnded k t r).goto k t (h.threadPc k t + 4) := by
  simp [Hw.accessDone, Hw.accessEnded, Hw.updThread, Hw.advance, hs]

/-- The state and the PC of a block's thread and its general registers are different registers. -/
theorem Hw.threadPc_wr_state (h : Hw) (k : BlockId) (t : ThreadId) (v : Nat) :
    (h.wr (BLK_SEQ_STATE.THREAD k t) v).threadPc k t = h.threadPc k t := by
  refine congrArg BitVec.toNat (h.reg_wr_ne _ v _ ?_)
  simp only [BLK_SEQ_PC, BLK_SEQ_STATE.THREAD, BLK_SEQ_STATE]
  omega

theorem Hw.gen_wr_state (h : Hw) (k : BlockId) (t : ThreadId) (v g : Nat) (hg : g < 16) :
    (h.wr (BLK_SEQ_STATE.THREAD k t) v).gen k t g = h.gen k t g := by
  unfold Hw.gen
  rw [h.reg_wr_ne]
  simp only [BLK_SEQ_DBG_G, BLK_SEQ_STATE.THREAD, BLK_SEQ_STATE]
  omega

theorem Hw.gen_setThread (h : Hw) (k t j u g : Nat) (x : Thread) : (h.setThread k t x).gen j u g = h.gen j u g := rfl

/-- A general register other than G_0 that is set reads back (R141). -/
theorem Hw.gen_setGen (h : Hw) (k t g : Nat) (w : Word) (hg : g ≠ 0) : (h.setGen k t g w).gen k t g = w := by
  simp [Hw.gen, Hw.setGen, hg]

theorem Hw.threadPc_setPc (h : Hw) (k t : Nat) (w : Word) : (h.setReg (BLK_SEQ_PC k t) w).threadPc k t = w.toNat :=
  congrArg BitVec.toNat (h.reg_setReg _ w)

theorem Hw.gen_setPc (h : Hw) (k : BlockId) (t : ThreadId) (w : Word) (g : Nat) (hg : g < 16) :
    (h.setReg (BLK_SEQ_PC k t) w).gen k t g = h.gen k t g := by
  unfold Hw.gen
  rw [h.reg_setReg_ne]
  simp only [BLK_SEQ_DBG_G, BLK_SEQ_PC]
  omega

theorem Hw.threadState_wr (h : Hw) (k t : Nat) (ht : t < 8) (v : Fin 16) :
    (h.wr (BLK_SEQ_STATE.THREAD k t) v).threadState k t = v := by
  have hw : (BLK_SEQ_STATE.THREAD k t).hi + 1 - (BLK_SEQ_STATE.THREAD k t).lo = 4 := by
    simp only [BLK_SEQ_STATE.THREAD]
    omega
  rw [Hw.threadState, h.rd_wr _ _ (by simp only [BLK_SEQ_STATE.THREAD]; omega), hw]
  omega

/-- A permitted PC is below 2^32. -/
theorem toNat_of_pcFits (k : BlockId) (a : Nat) (hf : pcFits k a = true) : (BitVec.ofNat 32 a).toNat = a := by
  have hb := codeBase_le k
  obtain ⟨-, ha⟩ := (pcFits_iff k a).1 hf
  rw [BitVec.toNat_ofNat]
  omega

/-- A thread for which a STOP waits is HALTED at the next word when its access completes. -/
theorem Hw.accessDone_stopped (h : Hw) (k : BlockId) (t : ThreadId) (r : Status) (hs : h.threadState k t = 3)
    (hq : (h.thread k t).stopReq = true) (hf : pcFits k (h.threadPc k t + 4) = true) :
    (h.accessDone k t r).threadState k t = 4 ∧ (h.accessDone k t r).threadPc k t = h.threadPc k t + 4 ∧
      (h.accessDone k t r).gen k t 15 = BitVec.ofNat 32 r.code := by
  rw [h.accessDone_stalled k t r hs, if_pos (by simp [hq, hf])]
  refine ⟨Hw.threadState_wr _ k t t.isLt 4, ?_, ?_⟩
  · rw [Hw.threadPc_wr_state, Hw.updThread, Hw.setThread_threadPc, Hw.threadPc_setPc, toNat_of_pcFits k _ hf]
  · rw [Hw.gen_wr_state _ k t 4 15 (by decide), Hw.updThread, Hw.gen_setThread, Hw.gen_setPc _ k t _ 15 (by decide), Hw.accessEnded,
      Hw.gen_setThread, Hw.gen_setGen _ _ _ _ _ (by decide)]

-- ## ACCESS_COMPLETE (R140, R147)

theorem Mach.accessComplete_read (m n : Mach) (k : BlockId) (t : ThreadId) (d a : Nat) (r : Status) (w : Word)
    (hs : m.hw.threadState k t = 3) (hx : (m.hw.thread k t).stall = .load d a)
    (hb : m.busRead (.thread k t) (whoLoad k t) a 0 = (some (r, w), n)) :
    m.accessComplete k t = n.onHw (fun h => (h.setGen k t d w).accessDone k t r) := by
  simp [Mach.accessComplete, hs, hx, hb]

theorem Mach.accessComplete_waits (m n : Mach) (k : BlockId) (t : ThreadId) (d a : Nat)
    (hs : m.hw.threadState k t = 3) (hx : (m.hw.thread k t).stall = .load d a)
    (hb : m.busRead (.thread k t) (whoLoad k t) a 0 = (none, n)) : m.accessComplete k t = n := by
  simp [Mach.accessComplete, hs, hx, hb]

theorem Mach.accessComplete_store (m : Mach) (k : BlockId) (t : ThreadId) (a : Nat) (v : Word)
    (hs : m.hw.threadState k t = 3) (hx : (m.hw.thread k t).stall = .store a v) :
    m.accessComplete k t =
      ⟨(m.busWrite (.thread k t) a v).2.mem, if (m.busWrite (.thread k t) a v).2.hw.restarted then (m.busWrite (.thread k t) a v).2.hw
        else (m.busWrite (.thread k t) a v).2.hw.accessDone k t (m.busWrite (.thread k t) a v).1⟩ := by
  simp only [Mach.accessComplete, hs, hx, ne_eq, not_true_eq_false, decide_false, Bool.false_and, Bool.false_eq_true, if_false]
  split <;> rfl

theorem Mach.accessComplete_pace (m : Mach) (k : BlockId) (t : ThreadId) (n target rate : Nat)
    (hs : m.hw.threadState k t = 3) (hx : (m.hw.thread k t).stall = .pace n target rate) :
    m.accessComplete k t = m.onHw (fun h =>
      (if (h.pace k t n target rate).1 = .ok then (h.pace k t n target rate).2
        else h.refused (.thread k t) (h.pace k t n target rate).1 (BLK_INPUT_VALUE k n).addr).accessDone k t (h.pace k t n target rate).1) := by
  simp [Mach.accessComplete, hs, hx]

/-- Settles O8: the instruction leaves the access to be done, and ACCESS_COMPLETE does it as one read, write or PACE. -/
theorem threadAccesses : Obligations.ThreadAccesses := by
  unfold Obligations.ThreadAccesses
  refine ⟨?load, ?store, ?pace, ?loaded, ?stored, ?paced, ?goesOn, Hw.accessDone_stopped⟩
  case load =>
    exact fun s k t w hi => s.issue_eq k t _ w hi (fun w h => h.stallWith k t (.load (seqD w) (h.gA k t w + seqSext w).toNat))
  case store =>
    exact fun s k t w hi => s.issue_eq k t _ w hi (fun w h => h.stallWith k t (.store (h.gA k t w + seqSext w).toNat (h.gD k t w)))
  case pace =>
    intro s k t w hi
    simp only [← Bits.get_low16]
    exact s.issue_eq k t _ w hi (fun w h =>
      h.stallWith k t (.pace (Bits.get (h.gA k t w) 15 0) (Bits.get (h.gB k t w) 15 0) (h.gD k t w).toNat))
  case loaded =>
    intro s k t d a hl hs hx
    refine (s.onMach_live (fun m => m.accessComplete k t) hl).trans ?_
    rcases hb : (Mach.mk s.mem s.hw).busRead (.thread k t) (whoLoad k t) a 0 with ⟨_ | ⟨r, w⟩, n⟩
    · rw [Mach.accessComplete_waits _ n k t d a hs hx hb]
    · rw [Mach.accessComplete_read _ n k t d a r w hs hx hb]
      rfl
  case stored =>
    intro s k t a v hl hs hx
    exact (s.onMach_live (fun m => m.accessComplete k t) hl).trans (by rw [Mach.accessComplete_store _ k t a v hs hx])
  case paced =>
    intro s k t n target rate hl hs hx
    exact (s.onMach_live (fun m => m.accessComplete k t) hl).trans (by rw [Mach.accessComplete_pace _ k t n target rate hs hx]; rfl)
  case goesOn =>
    intro h k t r hs hq
    rw [h.accessDone_stalled k t r hs, if_neg (by simp [hq])]
    rfl

-- ## Fetches from the window (R157)

theorem Hw.windowFetchDone_word (h : Hw) (k t : Nat) (word : Word) (a : Nat) (x : XipWait) (hs : h.threadState k t = 3)
    (hf : (h.thread k t).stall = .fetch a) (hx : h.xipWait (whoFetch k t) (a - 0x60000000) = some x) (hw : x.word = some word) :
    h.windowFetchDone k t word = ((h.xipClose (whoFetch k t)).setThread k t
      { h.thread k t with stall := .none, fetched := some word, stopReq := false }).wr (BLK_SEQ_STATE.THREAD k t)
        (if (h.thread k t).stopReq = true then 4 else 1) := by
  obtain ⟨who, off, late, _⟩ := x
  cases hw
  simp [Hw.windowFetchDone, hf, hx, hs]

theorem Hw.fetchTimeout_stalled (h : Hw) (k t a : Nat) (hs : h.threadState k t = 3) (hf : (h.thread k t).stall = .fetch a) :
    h.fetchTimeout k t = (h.xipClose (whoFetch k t)).threadFault k t 0x0B (BitVec.ofNat 32 a) := by
  simp [Hw.fetchTimeout, hf, hs]

/-- Settles O10: the two ends of a fetch that the thread waits for. -/
theorem threadFetches : Obligations.ThreadFetches := by
  unfold Obligations.ThreadFetches
  refine ⟨?delivered, ?late⟩
  case delivered =>
    intro s k t word a x hl hs hf hx hw
    exact (s.onLive_live (fun h => h.windowFetchDone k t word) hl).trans
      (congrArg s.to (s.hw.windowFetchDone_word k t word a x hs hf hx hw))
  case late =>
    intro s k t a hl hs hf
    exact (s.onLive_live (fun h => h.fetchTimeout k t) hl).trans (congrArg s.to (s.hw.fetchTimeout_stalled k t a hs hf))

end Sys2Proof.Machine
end

section
/-!
PROOF. Flags, WAIT and COMMIT: what each instruction does, what ends a WAIT, and the writes of the sequencers' control registers.
-/
namespace Sys2Proof.Machine

-- ## Instructions (R149, R151, R161)

/-- A SIGNAL to a block of the same partition that no fence holds sets the flag and leaves OK. -/
theorem Hw.signal_ok (h : Hw) (k : BlockId) (t : ThreadId) (w : Word) (ho : h.owner (seqImm w / 256 % 8) = h.owner k)
    (hb : h.blockFenced (seqImm w / 256 % 8) = false) (hr : h.regionHolds (seqImm w / 256 % 8) = false) :
    h.signal k t w =
      ((h.setFlags (seqImm w / 256 % 8) (BitVec.ofNat 32 (2 ^ (seqImm w % 32))) 0).setGen k t 15 0).advance k t := by
  have hst : h.signalStatus k (seqImm w / 256 % 8) = .ok := by simp [Hw.signalStatus, ho, hb, hr]
  simp only [Hw.signal, Bits.get_signalBlock, Bits.get_flagNumber, hst, if_true]
  rfl

/-- A WAIT that finds a flag of its mask, and declares a source of flags, goes on at once. -/
theorem Hw.wait_found (h : Hw) (k t : Nat) (w : Word) (hm : h.reg (BLK_SEQ_FLAGS k) &&& h.gen k t (seqD w) ≠ 0)
    (hs : seqSources w % 4 ≠ 0) : h.wait k t w = h.result k t 15 (BitVec.ofNat 32 (seqSources w % 4)) := by
  have hb : ((h.reg (BLK_SEQ_FLAGS k) &&& h.gD k t w) != 0 && seqSources w % 4 != 0) = true := by
    simpa [Hw.gD, hs] using hm
  rw [Hw.wait, if_pos hb]

/-- Any other WAIT waits. -/
theorem Hw.wait_waits (h : Hw) (k t : Nat) (w : Word)
    (hm : h.reg (BLK_SEQ_FLAGS k) &&& h.gen k t (seqD w) = 0 ∨ seqSources w % 4 = 0) :
    h.wait k t w = (h.setThread k t { h.thread k t with
      mask := (h.gen k t (seqD w)).toNat, sources := seqSources w, timeout := h.stepCount + seqImm w, fired := 0 }).wr
        (BLK_SEQ_STATE.THREAD k t) 2 := by
  rcases hm with hm | hm <;> simp [Hw.wait, Hw.gD, Hw.updThread, hm]

/-- The timeout of a waiting thread fires with FRAME, where a frame opens, and with the flags of a halt. -/
theorem Hw.waitTimeout_due (h : Hw) (k t : Nat) (hs : h.threadState k t = 2) (h4 : (h.thread k t).sources.testBit 4 = true)
    (ht : (h.thread k t).timeout ≤ h.stepCount) (hp : h.paused k = false) :
    h.waitTimeout k t = h.wakeThread k t ((h.thread k t).fired +
      (if h.frameDue = true ∧ (h.thread k t).sources.testBit 3 = true then 8 else 0) + 16) := by
  simp [Hw.waitTimeout, Hw.dueSources, hs, h4, ht, hp]

/-- The partition that owns an active block is active. -/
theorem Hw.active_of_owner {h : Hw} {k p : Nat} (hb : h.blockActive k = true) (ho : h.owner k = some p) : h.active p = true := by
  simpa [Hw.blockActive, ho] using hb

theorem Hw.requestCommit_active (h : Hw) (p : Nat) (ha : h.active p = true) :
    h.requestCommit p = (.ok, h.setPart p { h.part p with commitReq := true }) := by
  simp [Hw.requestCommit, ha]

theorem Hw.illegal_invalid (h : Hw) (k t : Nat) (w : Word) (hi : h.issues k t = some w) (hv : seqValid w = false) :
    h.illegal k t = (h.issued k t).threadFault k t 0x08 (h.reg (BLK_SEQ_PC k t)) := by
  simp [Hw.illegal, hi, hv, Hw.updBlock, Hw.issued]

/-- Settles O9: each instruction on the part in which its thread issued last, and the timeout that ends a WAIT. -/
theorem threadFlagsAndWaits : Obligations.ThreadFlagsAndWaits := by
  unfold Obligations.ThreadFlagsAndWaits
  refine ⟨?set, ?clr, ?signal, ?found, ?waits, ?timeout, ?commit, ?halt, ?illegal⟩
  case set =>
    intro s k t w hi
    rw [← Bits.get_flagNumber]
    exact s.issue_eq k t _ w hi (fun w h => (h.setFlags k (BitVec.ofNat 32 (2 ^ Bits.get w 4 0)) 0).advance k t)
  case clr =>
    intro s k t w hi
    refine (s.issue_eq k t _ w hi (fun w h => (h.clearFlags k (BitVec.ofNat 32 (2 ^ Bits.get w 4 0))).advance k t)).trans ?_
    rw [Hw.advance, Hw.clearFlags, Hw.setFlags_threadPc_reg _ _ _ _ _ k.isLt k.isLt t.isLt, Bits.get_flagNumber]
    rfl
  case signal =>
    intro s k t w hi ho hb hr
    exact (s.issue_eq k t _ w hi (fun w h => h.signal k t w)).trans (congrArg s.to ((s.hw.issued k t).signal_ok k t w ho hb hr))
  case found =>
    intro s k t w hi hm hs
    exact (s.issue_eq k t _ w hi (fun w h => h.wait k t w)).trans
      ((congrArg s.to ((s.hw.issued k t).wait_found k t w hm hs)).trans (s.result_eq k t 15 _))
  case waits =>
    intro s k t w hi hm
    exact (s.issue_eq k t _ w hi (fun w h => h.wait k t w)).trans (congrArg s.to ((s.hw.issued k t).wait_waits k t w hm))
  case timeout =>
    intro s k t hl hs h4 ht hp
    exact (s.onLive_live (fun h => h.waitTimeout k t) hl).trans (congrArg s.to (s.hw.waitTimeout_due k t hs h4 ht hp))
  case commit =>
    intro s k t p w hi ho
    have ⟨_, hb, _⟩ := hi
    have hr := (s.hw.issued k t).requestCommit_active p (Hw.active_of_owner hb ho)
    have ho' : (s.hw.issued k t).owner k = some p.val := ho
    refine (s.issue_eq k t _ w hi _).trans (congrArg s.to ?_)
    simp only [ho', hr]
    rfl
  case halt => exact fun s k t w hi => s.issue_eq k t _ w hi (fun _ h => h.wr (BLK_SEQ_STATE.THREAD k t) 4)
  case illegal =>
    intro s k t w hl hi hv
    exact (s.onLive_live (fun h => h.illegal k t) hl).trans (congrArg s.to (s.hw.illegal_invalid k t w hi hv))

-- ## Control registers (R152, R160, R161, R163)

theorem seqCtrl_command (k : BlockId) : isCommandReg (BLK_SEQ_CTRL k) .seqCtrl [k] = true := by
  revert k
  decide +kernel

theorem seqFlags_command (k : BlockId) : isCommandReg (BLK_SEQ_FLAGS k) .seqFlags [k] = true := by
  revert k
  decide +kernel

theorem seqFlagsClr_command (k : BlockId) : isCommandReg (BLK_SEQ_FLAGS_CLR k) .seqFlagsClr [k] = true := by
  revert k
  decide +kernel

theorem seqCommit_command (k : BlockId) : isCommandReg (BLK_SEQ_COMMIT k) .seqCommit [k] = true := by
  revert k
  decide +kernel

/-- The words that THREAD_START and THREAD_STOP write. -/
theorem startWord (k : Nat) (t : ThreadId) : Fld.val (BLK_SEQ_CTRL.START k) (2 ^ t.val) = BitVec.ofNat 32 (2 ^ t.val) := by
  change Bits.set 0 7 0 (2 ^ t.val) = _
  revert t
  decide

theorem stopWord (k : Nat) (t : ThreadId) : Fld.val (BLK_SEQ_CTRL.STOP k) (2 ^ t.val) = BitVec.ofNat 32 (256 * 2 ^ t.val) := by
  change Bits.set 0 15 8 (2 ^ t.val) = _
  revert t
  decide

/-- The bits of START and STOP in the word that starts thread t, and in the word that stops it. -/
theorem startBits (t : ThreadId) : Bits.get (BitVec.ofNat 32 (2 ^ t.val)) 7 0 = 2 ^ t.val ∧ Bits.get (BitVec.ofNat 32 (2 ^ t.val)) 15 8 = 0 := by
  revert t
  decide

theorem stopBits (t : ThreadId) :
    Bits.get (BitVec.ofNat 32 (256 * 2 ^ t.val)) 7 0 = 0 ∧ Bits.get (BitVec.ofNat 32 (256 * 2 ^ t.val)) 15 8 = 2 ^ t.val := by
  revert t
  decide

/-- A write that starts thread t acts on no other thread. -/
theorem Hw.seqCtrlWrite_start (h : Hw) (k : Nat) (t : ThreadId) : h.seqCtrlWrite k (BitVec.ofNat 32 (2 ^ t.val)) =
    (.ok, if h.threadState k t = 0 ∨ h.threadState k t = 4 ∨ h.threadState k t = 5 then h.startThread k t else h) := by
  obtain ⟨hs, hp⟩ := startBits t
  simp only [Hw.seqCtrlWrite, hs, hp, Nat.and_zero, ne_eq, not_true, if_false, Nat.zero_testBit, Bool.false_eq_true]
  rw [Num.forEach_one 8 t.val _ h t.isLt fun i x hi => by simp [Nat.testBit_two_pow_of_ne hi.symm]]
  simp [Nat.testBit_two_pow_self, or_assoc]

/-- A write that stops thread t acts on no other thread. -/
theorem Hw.seqCtrlWrite_stop (h : Hw) (k : Nat) (t : ThreadId) :
    h.seqCtrlWrite k (BitVec.ofNat 32 (256 * 2 ^ t.val)) = (.ok, h.stopThread k t) := by
  obtain ⟨hs, hp⟩ := stopBits t
  simp only [Hw.seqCtrlWrite, hs, hp, Nat.zero_and, ne_eq, not_true, if_false, Nat.zero_testBit, Bool.false_and, Bool.false_eq_true]
  rw [Num.forEach_one 8 t.val _ h t.isLt fun i x hi => by simp [Nat.testBit_two_pow_of_ne hi.symm]]
  simp [Nat.testBit_two_pow_self]

theorem Hw.stopThread_eq (h : Hw) (k t : Nat) : h.stopThread k t =
    if h.threadState k t = 1 ∨ h.threadState k t = 2 then h.wr (BLK_SEQ_STATE.THREAD k t) 4
    else if h.threadState k t = 3 then h.setThread k t { h.thread k t with stopReq := true } else h := by
  simp [Hw.stopThread, Hw.updThread]

/-- A write of BLK_SEQ_CTRL that its unit accepts. -/
theorem State.regWrite_seqCtrl (s : State) (q : Requester) (k : BlockId) (v : Word) (h : Hw) (ha : s.admits q (BLK_SEQ_CTRL k) v)
    (hu : s.hw.seqCtrlWrite k v = (.ok, h)) : s.regWrite q (BLK_SEQ_CTRL k) v = s.wrote (BLK_SEQ_CTRL k) h :=
  s.regWrite_command q _ v .seqCtrl [k] h (seqCtrl_command k) (by decide)
    (fun x w hh hi => by simp only [Hw.unitWrite, hh, RegHit.ix, hi, List.getD_cons_zero, hu]) ha

/-- Settles O11: each write as the effect of its register's unit. -/
theorem threadControls : Obligations.ThreadControls := by
  unfold Obligations.ThreadControls
  refine ⟨?start, ?stop, ?set, ?clear, ?commit⟩
  case start =>
    intro s q k t ha
    have hv : exec (.threadStart q k t) s = s.regWrite q (BLK_SEQ_CTRL k) _ := congrArg (s.regWrite q (BLK_SEQ_CTRL k)) (startWord k t)
    exact hv.trans (s.regWrite_seqCtrl q k _ _ ha (s.hw.seqCtrlWrite_start k t))
  case stop =>
    intro s q k t ha
    have hv : exec (.threadStop q k t) s = s.regWrite q (BLK_SEQ_CTRL k) _ := congrArg (s.regWrite q (BLK_SEQ_CTRL k)) (stopWord k t)
    rw [← Hw.stopThread_eq]
    exact hv.trans (s.regWrite_seqCtrl q k _ _ ha (s.hw.seqCtrlWrite_stop k t))
  case set =>
    exact fun s q k flags ha => s.regWrite_command q _ flags .seqFlags [k] _ (seqFlags_command k) (by decide)
      (fun x w hh hi => by simp only [Hw.unitWrite, hh, RegHit.ix, hi, List.getD_cons_zero] <;> rfl) ha
  case clear =>
    exact fun s q k flags ha => s.regWrite_command q _ flags .seqFlagsClr [k] _ (seqFlagsClr_command k) (by decide)
      (fun x w hh hi => by simp only [Hw.unitWrite, hh, RegHit.ix, hi, List.getD_cons_zero, Hw.clearFlags]) ha
  case commit =>
    intro s q k p ha hq hp
    have hpart : s.hw.partOf q = p := by simp [Hw.partOf, hq]
    exact s.regWrite_command q _ 1#32 .seqCommit [k] _ (seqCommit_command k) (by decide)
      (fun x w hh hi => by simp [Hw.unitWrite, hh, hpart, s.hw.requestCommit_active p hp]) ha

end Sys2Proof.Machine
end

section
/-!
PROOF. The start of a carrier, and what a reload point does to a fenced cell and to one that is not.
-/
namespace Sys2Proof.Machine

-- ## Reload points (R200, R209, R223)

theorem Hw.carrierStart_due (h : Hw) (c : Nat) (hw : (h.cell c).wantStart = true) (hf : (h.cell c).startFrom ≤ h.stepCount)
    (ha : (h.cell c).active.aligned h.stepCount = true) (hh : h.halted (blockOf c) = false) :
    h.carrierStart c = (((h.setCell c { h.cell c with running := true, wantStart := false, startTick := h.now }).rampStart c 0 h.now).reform
      c 0 h.now).showCounter c 0 := by
  have hdue : ((h.cell c).wantStart && decide ((h.cell c).startFrom ≤ h.stepCount) && (h.cell c).active.aligned h.stepCount &&
      !h.halted (blockOf c)) = true := by simp [hw, hf, ha, hh]
  exact if_pos hdue

/-- A reload point that is due acts at its tick (R200). -/
theorem Hw.reloadPoint_due (h : Hw) (c t p : Nat) (ht : h.reloadTick c = some (t, p)) :
    h.reloadPoint c = (h.atTick (t - h.now)).reloadAt c t p := by
  simp only [Hw.reloadPoint, ht]

/-- A cell that takes part in its reload points: it is neither frozen nor halted. -/
def Hw.reloads (h : Hw) (c : Nat) : Prop := (h.cell c).hold ≠ .frozen ∧ h.on (LEG_PWM_STATUS.HALTED c) = false

theorem Hw.reloadAt_fenced (h : Hw) (c t p : Nat) (hr : h.reloads c) (hf : h.cellFenced c = true) :
    h.reloadAt c t p = h.reloadFenced c t p := by
  obtain ⟨hz, hh⟩ := hr
  simp [Hw.reloadAt, hz, hh, hf]

/-- The pending captured set of an unfenced cell loads. -/
theorem Hw.reloadAt_pending (h : Hw) (c t p : Nat) (a : PwmSet) (hr : h.reloads c) (hf : h.cellFenced c = false)
    (ha : (h.cell c).captured = some a) (hp : (h.cell c).pendingSet = true) : h.reloadAt c t p =
    (((h.setCell c { h.cell c with captured := none, pendingSet := false }).wrB (LEG_PWM_STATUS.LOAD_WAITING c)
      (h.cell c).capNew.isSome).loadActive c a t).reloadRest c t p := by
  obtain ⟨hz, hh⟩ := hr
  simp [Hw.reloadAt, hz, hh, hf, ha, hp]

/-- An unfenced cell without a pending set loads none. -/
theorem Hw.reloadAt_empty (h : Hw) (c t p : Nat) (hr : h.reloads c) (hf : h.cellFenced c = false)
    (hn : (h.cell c).captured = none ∨ (h.cell c).pendingSet = false) : h.reloadAt c t p = h.reloadRest c t p := by
  obtain ⟨hz, hh⟩ := hr
  rcases hn with hn | hn <;> simp [Hw.reloadAt, hz, hh, hf, hn]

/-- The newest lane duty loads first. -/
theorem Hw.reloadRest_duty (h : Hw) (c t p d : Nat) (hd : (h.cell c).dutyNew = some d) :
    h.reloadRest c t p = (h.setCell c { h.cell c with duty := d, dutyNew := none }).reloadRest c t p := by
  simp only [Hw.reloadRest, hd, Hw.setCell_cell]

/-- The order of what follows at a cell without a new lane duty. -/
theorem Hw.reloadRest_noDuty (h : Hw) (c t p : Nat) (hd : (h.cell c).dutyNew = none) : h.reloadRest c t p =
    (let h := h.clearCycle c
     let q := if (h.cell c).startTick = t then 0 else p
     let h := if q = 0 ∨ (h.cell c).active.mode = 2 then h.rampStart c 0 t else h
     let h := (((h.setRaw c .hs q t).setRaw c .ls q t).evalTrips c t).settleBoth c t
     if (h.cell c).running = true then h.showCounter c q else h) := by
  simp only [Hw.reloadRest, hd, Bool.or_eq_true, decide_eq_true_eq, beq_iff_eq]

/-- Settles O18: a carrier that is due starts, and a reload point takes the branch of the cell's fence and of its captured set. -/
theorem carrierAndReload : Obligations.CarrierAndReload := by
  unfold Obligations.CarrierAndReload
  refine ⟨?carrier, ?fenced, ?pending, ?empty, fun h c => h.reloadRest_duty c, fun h c => h.reloadRest_noDuty c⟩
  case carrier =>
    intro s c hl hw hf ha hh
    exact (s.onLive_live (fun h => h.carrierStart c) hl).trans (congrArg s.to (s.hw.carrierStart_due c hw hf ha hh))
  case fenced =>
    intro s c t p hl ht hz hh hf
    refine (s.onLive_live (fun h => h.reloadPoint c) hl).trans (congrArg s.to ?_)
    rw [s.hw.reloadPoint_due c t p ht, (s.hw.atTick (t - s.hw.now)).reloadAt_fenced c t p ⟨hz, hh⟩ hf]
    simp only [Hw.reloadFenced, Bool.or_eq_true, decide_eq_true_eq, beq_iff_eq]
    rfl
  case pending =>
    intro s c t p a hl ht hz hh hf ha hp
    refine (s.onLive_live (fun h => h.reloadPoint c) hl).trans (congrArg s.to ?_)
    rw [s.hw.reloadPoint_due c t p ht, (s.hw.atTick (t - s.hw.now)).reloadAt_pending c t p a ⟨hz, hh⟩ hf ha hp]
    rfl
  case empty =>
    intro s c t p hl ht hz hh hf hn
    refine (s.onLive_live (fun h => h.reloadPoint c) hl).trans (congrArg s.to ?_)
    rw [s.hw.reloadPoint_due c t p ht, (s.hw.atTick (t - s.hw.now)).reloadAt_empty c t p ⟨hz, hh⟩ hf hn]
    rfl

end Sys2Proof.Machine
end

section
/-!
PROOF. The edges of a gate, the interlock of a cell's two gates, and the soft turn-off of a short circuit.
-/
namespace Sys2Proof.Machine

-- ## The phases of an edge (R165 to R168)

/-- A turn-on that is due: it starts, or waits for the opposite gate (R169). -/
theorem Hw.gateTurnOn_due (h : Hw) (c : Nat) (sw : Switch) (hon : h.on (gateCmd c sw) = true)
    (hoff : h.on (gateCmd c (otherSwitch sw)) = false)
    (hp : h.rd (gatePhase c sw) = 0 ∨ h.rd (gatePhase c sw) = 4 ∨ h.rd (gatePhase c sw) = 5) (hw : ((h.cell c).sw sw).waiting = false) :
    h.gateTurnOn c sw = if ((h.cell c).sw (otherSwitch sw)).low = true then h.startTurnOn c sw
      else (h.updSw c sw (fun y => { y with waiting := true })).incTop (LEG_GD_COUNT.INTERLOCK_WAITS c) := by
  have closed : (h.rd (gatePhase c sw) == 0 || h.rd (gatePhase c sw) == 4 || h.rd (gatePhase c sw) == 5) = true := by
    simpa [or_assoc] using hp
  simp only [Hw.gateTurnOn, hon, hoff, closed, hw, Bool.not_false, Bool.and_self, if_true]

/-- A gate in one of the turn-on phases is on. -/
theorem Hw.gateOn_iff (h : Hw) (c : Nat) (sw : Switch) :
    h.gateOn c sw = true ↔ 1 ≤ h.rd (gatePhase c sw) ∧ h.rd (gatePhase c sw) ≤ 3 := decide_eq_true_iff

theorem Hw.gateTurnOff_on (h : Hw) (c : Nat) (sw : Switch) (hoff : h.on (gateCmd c sw) = false) (hg : h.gateOn c sw = true) :
    h.gateTurnOff c sw = h.startTurnOff c sw := by
  simp only [Hw.gateTurnOff, hoff, hg, Bool.false_eq_true, if_false, if_true]

theorem Hw.endStrong_on (h : Hw) (c : Nat) (sw : Switch) (hp : h.rd (gatePhase c sw) = 1) :
    h.endStrong c sw = h.wr (gatePhase c sw) 2 := if_pos hp

theorem Hw.endStrong_off (h : Hw) (c : Nat) (sw : Switch) (hp : h.rd (gatePhase c sw) = 4) :
    h.endStrong c sw = h.wr (gatePhase c sw) 5 := by
  simp [Hw.endStrong, hp]

theorem Hw.endWeak_on (h : Hw) (c : Nat) (sw : Switch) (hp : h.rd (gatePhase c sw) = 2) :
    h.endWeak c sw = h.wr (gatePhase c sw) 3 := if_pos hp

theorem Hw.endWeak_off (h : Hw) (c : Nat) (sw : Switch) (hp : h.rd (gatePhase c sw) = 5) :
    h.endWeak c sw = h.wr (gatePhase c sw) 0 := by
  simp [Hw.endWeak, hp]

/-- A weak phase that times out ends as it does otherwise, and is counted (R167). -/
theorem Hw.weakTimeout_weak (h : Hw) (c : Nat) (sw : Switch) (hp : h.rd (gatePhase c sw) = 2 ∨ h.rd (gatePhase c sw) = 5) :
    h.weakTimeout c sw = (h.endWeak c sw).incTop (LEG_GD_COUNT.SLOPE_TIMEOUTS c) := by
  simp [Hw.weakTimeout, hp]

/-- So it is where a soft turn-off took the edge over (Table 6-5). -/
theorem Hw.weakTimeout_soft (h : Hw) (c : Nat) (sw : Switch) (hp : h.rd (gatePhase c sw) = 6)
    (hs : ((h.cell c).sw sw).softWeak = true) : h.weakTimeout c sw =
      (h.updSw c sw (fun y => { y with softWeak := false })).incTop (LEG_GD_COUNT.SLOPE_TIMEOUTS c) := by
  simp [Hw.weakTimeout, hp, hs]

/-- Settles O12: each clause is one event of an edge, in the phase that its premises name. -/
theorem gateEdges : Obligations.GateEdges := by
  unfold Obligations.GateEdges
  refine ⟨?turnOn, ?turnOff, fun s c sw hp => congrArg s.to (s.hw.endStrong_on c sw hp),
    fun s c sw hp => congrArg s.to (s.hw.endStrong_off c sw hp), fun s c sw hp => congrArg s.to (s.hw.endStrong_on c sw hp),
    fun s c sw hp => congrArg s.to (s.hw.endStrong_off c sw hp), fun s c sw hp => congrArg s.to (s.hw.endWeak_on c sw hp),
    fun s c sw hp => congrArg s.to (s.hw.endWeak_off c sw hp), ?timeoutOn, ?timeoutOff,
    fun s c sw hp hs => congrArg s.to (s.hw.weakTimeout_soft c sw hp hs)⟩
  case turnOn =>
    intro s c sw hl hon hoff hp hw hlow
    refine (s.onLive_live (fun h => h.gateTurnOn c sw) hl).trans (congrArg s.to ?_)
    rw [s.hw.gateTurnOn_due c sw hon hoff hp hw, if_pos hlow]
    rfl
  case turnOff =>
    intro s c sw hoff h1 h3
    exact congrArg s.to (s.hw.gateTurnOff_on c sw hoff ((s.hw.gateOn_iff c sw).2 ⟨h1, h3⟩))
  case timeoutOn =>
    intro s c sw hp
    refine congrArg s.to ((s.hw.weakTimeout_weak c sw (.inl hp)).trans ?_)
    rw [s.hw.endWeak_on c sw hp]
  case timeoutOff =>
    intro s c sw hp
    refine congrArg s.to ((s.hw.weakTimeout_weak c sw (.inr hp)).trans ?_)
    rw [s.hw.endWeak_off c sw hp]

-- ## The interlock (R169, R170)

/-- What is known of one gate leaves the other switch as it is. -/
theorem Hw.updSw_sw_other (h : Hw) (c : Nat) (sw : Switch) (f : SwitchSt → SwitchSt) :
    ((h.updSw c (otherSwitch sw) f).cell c).sw sw = (h.cell c).sw sw := by
  cases sw <;> simp [Hw.updSw, otherSwitch, Cell.setSw, Cell.sw]

/-- The confirmation of the opposite gate starts a turn-on that waits and is still commanded (R169). -/
theorem Hw.interlockConfirm_waiting (h : Hw) (c : Nat) (sw : Switch) (hg : h.gateOn c (otherSwitch sw) = false)
    (hw : ((h.cell c).sw sw).waiting = true) (hon : h.on (gateCmd c sw) = true) :
    h.interlockConfirm c sw = (h.updSw c (otherSwitch sw) (fun y => { y with low := true })).startTurnOn c sw := by
  have commanded : (h.updSw c (otherSwitch sw) (fun y => { y with low := true })).on (gateCmd c sw) = true := hon
  simp only [Hw.interlockConfirm, hg, Hw.updSw_sw_other, hw, commanded, Bool.false_eq_true, if_false, Bool.and_self, if_true]

/-- A wait that lasts too long fences a cell that the PWM unit commands (R170). -/
theorem Hw.interlockTimeout_waiting (h : Hw) (c : Nat) (sw : Switch) (hw : ((h.cell c).sw sw).waiting = true)
    (hh : (h.cell c).hold = .none ∨ (h.cell c).hold = .frozen) (hc : h.on (gateCmd c .hs) = false ∨ h.on (gateCmd c .ls) = false) :
    h.interlockTimeout c sw = (h.dropCmds c).fenceCell c 0x05 := by
  have apart : (h.on (gateCmd c .hs) && h.on (gateCmd c .ls)) = false := Bool.and_eq_false_iff.2 hc
  have unheld : ((h.cell c).hold == .none || (h.cell c).hold == .frozen) = true := by simpa using hh
  simp only [Hw.interlockTimeout, apart, hw, unheld, Bool.false_eq_true, if_false, Bool.and_self, if_true]

theorem Hw.interlockTimeout_both (h : Hw) (c : Nat) (sw : Switch) (hh : h.on (gateCmd c .hs) = true) (hl : h.on (gateCmd c .ls) = true) :
    h.interlockTimeout c sw = (h.dropCmds c).fenceCell c 0x06 := if_pos (by rw [hh, hl]; rfl)

/-- Settles O13: a turn-on that is due waits where the opposite gate is not low, and its wait ends by the confirmation or its limit. -/
theorem gateInterlock : Obligations.GateInterlock := by
  unfold Obligations.GateInterlock
  refine ⟨?waits, fun s c sw hg hw hon => congrArg s.to (s.hw.interlockConfirm_waiting c sw hg hw hon), ?late, ?both⟩
  case waits =>
    intro s c sw hl hon hoff hp hw hlow
    refine (s.onLive_live (fun h => h.gateTurnOn c sw) hl).trans (congrArg s.to ?_)
    rw [s.hw.gateTurnOn_due c sw hon hoff hp hw, if_neg (Bool.eq_false_iff.1 hlow)]
    rfl
  case late =>
    intro s c sw hl hw hh hc
    exact (s.onLive_live (fun h => h.interlockTimeout c sw) hl).trans (congrArg s.to (s.hw.interlockTimeout_waiting c sw hw hh hc))
  case both =>
    intro s c sw hl hh hls
    exact (s.onLive_live (fun h => h.interlockTimeout c sw) hl).trans (congrArg s.to (s.hw.interlockTimeout_both c sw hh hls))

-- ## Short circuits (R177 to R180)

/-- A soft turn-off of switch sw has begun: the detection is recorded, and both commands end (R178, R179). -/
def Hw.softStarted (h : Hw) (c : Nat) (sw : Switch) : Hw :=
  ((((h.updSw c sw (fun y => { y with softWeak := h.rd (gatePhase c sw) == 2 })).wr (gatePhase c sw) 6).wrB
    (LEG_GD_STATUS.SOFT_OFF c) true).wrB (LEG_SC_CAPTURE.SWITCH c) (sw == .ls)).dropCmds c

/-- A detection that acts starts the soft turn-off, and fences the cell as the switch and the terminal state ask (R178, R180). -/
theorem Hw.shortCircuit_detected (h : Hw) (c : Nat) (sw : Switch) (hg : h.gateOn c sw = true) (hb : ((h.cell c).sw sw).blank = false) :
    h.shortCircuit c sw = if (sw == .ls && (h.cell c).hold == .terminal && h.terminalLow c) = true then
        ((h.softStarted c sw).setCell c { (h.softStarted c sw).cell c with shortHold := true }).fenceCell c 0x0C
      else (h.softStarted c sw).fenceCell c (if sw == .hs then 0x01 else 0x02) := by
  simp only [Hw.shortCircuit, hg, hb, Bool.not_false, Bool.and_self, if_true]
  rfl

/-- The two gate phases of a cell lie side by side in one register (Table 6-6). -/
theorem Hw.rd_wr_gatePhase_other (h : Hw) (c : Nat) (sw : Switch) (v : Nat) :
    (h.wr (gatePhase c sw) v).rd (gatePhase c (otherSwitch sw)) = h.rd (gatePhase c (otherSwitch sw)) := by
  cases sw
  case hs => exact h.rd_wr_beside _ _ v rfl (.inr (by decide : 2 < 3))
  case ls => exact h.rd_wr_beside _ _ v rfl (.inl (by decide : 2 < 3))

/-- The end of the only soft turn-off of a cell (R178). -/
theorem Hw.softEnd_last (h : Hw) (c : Nat) (sw : Switch) (peak : Nat) (hp : h.rd (gatePhase c sw) = 6)
    (ho : h.rd (gatePhase c (otherSwitch sw)) ≠ 6) : h.softEnd c sw peak =
      ((((h.updSw c sw (fun y => { y with softWeak := false })).wr (gatePhase c sw) 0).wrB (LEG_GD_STATUS.SOFT_OFF c) false).wr
        (LEG_SC_CAPTURE.PEAK c) (min peak 0xFFFF)) := by
  have other : (((h.updSw c sw (fun y => { y with softWeak := false })).wr (gatePhase c sw) 0).rd (gatePhase c (otherSwitch sw)) == 6) = false :=
    beq_false_of_ne (((h.updSw c sw _).rd_wr_gatePhase_other c sw 0).trans_ne ho)
  simp only [Hw.softEnd, hp, other, if_true]

/-- Settles O15: a detection that acts takes the branch of its switch and of the terminal state, and its soft turn-off ends. -/
theorem shortCircuit : Obligations.ShortCircuit := by
  unfold Obligations.ShortCircuit
  refine ⟨fun _ _ _ => rfl, ?detected, ?inShort, fun s c sw peak hp ho => congrArg s.to (s.hw.softEnd_last c sw peak hp ho)⟩
  case detected =>
    intro s c sw hg hb ht
    have unheld : ¬ (sw == .ls && (s.hw.cell c).hold == .terminal && s.hw.terminalLow c) = true := by
      rcases ht with rfl | ht | ht
      · simp
      · simp [ht]
      · simp [ht]
    refine congrArg s.to ((s.hw.shortCircuit_detected c sw hg hb).trans ?_)
    rw [if_neg unheld]
    cases sw <;> rfl
  case inShort =>
    intro s c hg hb hh ht
    have held : (Switch.ls == .ls && (s.hw.cell c).hold == .terminal && s.hw.terminalLow c) = true := by simp [hh, ht]
    refine congrArg s.to ((s.hw.shortCircuit_detected c .ls hg hb).trans ?_)
    rw [if_pos held]
    rfl

end Sys2Proof.Machine
end

section
/-!
PROOF. Off-state diagnostics, and the return of a fenced cell.
-/
namespace Sys2Proof.Machine

-- ## Command registers of a cell window

/-- The indices of cell c in the register map: its region, its block of the region, and its place in the block. -/
def cellIdx (c : CellId) : List Nat := [c.val / 12, c.val / 6 % 2, c.val % 6]

theorem RegHit.leg_cellIdx {x : RegHit} {c : CellId} (hi : x.idx = cellIdx c) : x.leg = c := by
  simp only [RegHit.leg, RegHit.ix, hi, cellIdx, List.getD_cons_zero, List.getD_cons_succ]
  omega

theorem diagCtrl_command (c : CellId) : isCommandReg (LEG_DIAG_CTRL c) .diagCtrl (cellIdx c) = true := by
  revert c
  decide +kernel

theorem reentryCtrl_command (c : CellId) : isCommandReg (LEG_REENTRY_CTRL c) .reentryCtrl (cellIdx c) = true := by
  revert c
  decide +kernel

-- ## Diagnostics (R181 to R188)

/-- RUN is accepted for a fenced cell that nothing tests (R181). -/
theorem Hw.diagRun_fenced (h : Hw) (c : Nat) (hf : h.cellFenced c = true) (hd : (h.cell c).diagStage = 0)
    (ht : (h.cell c).testing = false) (hr : h.rd (LEG_REENTRY_STATUS.STATE c) ≠ 1) : h.diagRun c = (.ok, h.startDiag c 0) := by
  simp [Hw.diagRun, hf, hd, ht, hr]

/-- Settles O16: RUN is accepted by its unit, and the end of a stage is the branch of that stage's number. -/
theorem diagnostics : Obligations.Diagnostics := by
  unfold Obligations.Diagnostics
  refine ⟨?run, ?rotates, ?high, ?low, ?pairs, ?classify, ?singleHigh, ?singleLow⟩
  case run =>
    intro s q c ha hf hd ht hr
    have start : (1#32).getLsbD 0 = true := by decide
    exact s.regWrite_command q _ 1#32 .diagCtrl (cellIdx c) _ (diagCtrl_command c) (by decide)
      (fun x w hh hi => by
        simp only [Hw.unitWrite, hh, start, if_true, RegHit.leg_cellIdx hi, s.hw.diagRun_fenced c hf hd ht hr]) ha
  case rotates | high | low | pairs | classify | singleHigh | singleLow =>
    intro s c rd hl hst
    refine (s.onLive_live (fun h => h.diagStageEnd c rd) hl).trans (congrArg s.to ?_)
    simp only [Hw.diagStageEnd, hst]

-- ## The return of a cell (R353, R354)

/-- The checks of a return are shown as running, from a clear status register. -/
def Hw.checksShown (h : Hw) (c : Nat) : Hw := (h.setReg (LEG_REENTRY_STATUS c) 0).wr (LEG_REENTRY_STATUS.STATE c) 1

/-- The bootstrap supply is shown in another register of the cell. -/
theorem Hw.checksShown_bst (h : Hw) (c : Nat) : (h.checksShown c).on (LEG_GD_STATUS.BST_OK c) = h.on (LEG_GD_STATUS.BST_OK c) := by
  have apart : (LEG_GD_STATUS c).addr ≠ (LEG_REENTRY_STATUS c).addr := by
    simp only [LEG_GD_STATUS, LEG_REENTRY_STATUS]
    omega
  have stands : (h.checksShown c).rd (LEG_GD_STATUS.BST_OK c) = h.rd (LEG_GD_STATUS.BST_OK c) :=
    (Hw.rd_wr_ne _ (LEG_REENTRY_STATUS.STATE c) (LEG_GD_STATUS.BST_OK c) 1 apart).trans
      (h.rd_setReg_ne (LEG_REENTRY_STATUS c) 0 (LEG_GD_STATUS.BST_OK c) apart)
  simp only [Hw.on, stands]

/-- A REQUEST for a cell that is fenced on its own starts its checks with their first test (R353, R354). -/
theorem Hw.reentryRequest_accepted (h : Hw) (c : Nat) (hb : h.blockFenced (blockOf c) = false) (hr : h.regionHolds (blockOf c) = false)
    (hf : h.cellFenced c = true) (hv : h.vdrvOk (regionOf c) = true) (h1 : h.rd (LEG_REENTRY_STATUS.STATE c) ≠ 1)
    (h2 : h.rd (LEG_REENTRY_STATUS.STATE c) ≠ 2) : h.reentryRequest c = (.ok, (h.checksShown c).testStart c 2) := by
  simp [Hw.reentryRequest, hb, hr, hf, hv, h1, h2, Hw.checksShown]

/-- A write of REQUEST that the cell's unit accepts. -/
theorem State.regWrite_reentry (s : State) (q : Requester) (c : CellId) (h : Hw) (ha : s.admits q (LEG_REENTRY_CTRL c) 1#32)
    (hu : s.hw.reentryRequest c = (.ok, h)) : s.regWrite q (LEG_REENTRY_CTRL c) 1#32 = s.wrote (LEG_REENTRY_CTRL c) h := by
  have request : (1#32).getLsbD 0 = true := by decide
  exact s.regWrite_command q _ 1#32 .reentryCtrl (cellIdx c) h (reentryCtrl_command c) (by decide)
    (fun x w hh hi => by simp only [Hw.unitWrite, hh, request, if_true, RegHit.leg_cellIdx hi, hu]) ha

/-- The checks pass once no test runs or waits: the cell waits for the frame boundary. -/
theorem Hw.reentryChecksDone_passed (h : Hw) (c : Nat) (hs : h.rd (LEG_REENTRY_STATUS.STATE c) = 1) (hd : (h.cell c).diagStage = 0)
    (hp : (h.cell c).preCharge = 0) :
    h.reentryChecksDone c 0 = (h.setCell c { h.cell c with retWait := true }).wr (LEG_REENTRY_STATUS.STATE c) 2 := by
  simp [Hw.reentryChecksDone, hs, Hw.inTest, hd, hp]

/-- A cause ends the checks: it is recorded and shown, and the cell goes back to its hold. -/
theorem Hw.reentryChecksDone_failed (h : Hw) (c cause : Nat) (hs : h.rd (LEG_REENTRY_STATUS.STATE c) = 1) (hc : cause ≠ 0) :
    h.reentryChecksDone c cause =
      (let h := ((h.cellFault c cause).wr (LEG_REENTRY_STATUS.STATE c) 5).wr (LEG_REENTRY_STATUS.CAUSE c) cause
       (h.setCell c { h.cell c with testing := false, diagStage := 0, preCharge := 0 }).applyHold c) := by
  simp only [Hw.reentryChecksDone, hs, ne_eq, not_true, if_false, hc, not_false_iff, if_true]

/-- Settles O33: a REQUEST is accepted and goes by the bootstrap supply, and the end of the checks by its cause. -/
theorem returnOfCell : Obligations.ReturnOfCell := by
  unfold Obligations.ReturnOfCell
  refine ⟨?supplied, ?waits, ?passed, ?failed⟩
  case supplied =>
    intro s q c ha hb hr hf hv h1 h2 hs
    refine s.regWrite_reentry q c _ ha ((s.hw.reentryRequest_accepted c hb hr hf hv h1 h2).trans ?_)
    rw [Hw.testStart, if_pos ((s.hw.checksShown_bst c).trans hs)]
    rfl
  case waits =>
    intro s q c ha hb hr hf hv h1 h2 hs
    refine s.regWrite_reentry q c _ ha ((s.hw.reentryRequest_accepted c hb hr hf hv h1 h2).trans ?_)
    rw [Hw.testStart, if_neg (Bool.eq_false_iff.1 ((s.hw.checksShown_bst c).trans hs))]
    rfl
  case passed =>
    intro s c hl hs hd hp
    exact (s.onLive_live (fun h => h.reentryChecksDone c 0) hl).trans (congrArg s.to (s.hw.reentryChecksDone_passed c hs hd hp))
  case failed =>
    intro s c cause hl hs hc
    have nonzero : cause.val ≠ 0 := Fin.val_ne_zero_iff.2 hc
    exact (s.onLive_live (fun h => h.reentryChecksDone c cause) hl).trans
      (congrArg s.to (s.hw.reentryChecksDone_failed c cause hs nonzero))

end Sys2Proof.Machine
end

section
/-!
PROOF. The discharge of the DC link: START and STOP, the pulses of its fallback, and its ends.
-/
namespace Sys2Proof.Machine

-- ## DSCH_CTRL (R189, R192)

/-- DSCH_CTRL is a command register: its row has no settings to judge. -/
theorem regHit_dschCtrl : ∃ x, regHit DSCH_CTRL.addr = some x ∧ x.row.hook = .dschCtrl ∧ x.row.noSettings = true := by
  have command : ((regHit DSCH_CTRL.addr).any fun x => x.row.hook == .dschCtrl && x.row.noSettings) = true := by decide +kernel
  simpa [Option.any_eq_true] using command

/-- Outside a shutdown nothing follows a discharge (R192). -/
theorem Mach.afterDischarge_running (m : Mach) (hp : m.hw.power = .running) : m.afterDischarge = m := by
  simp [Mach.afterDischarge, hp]

/-- A write of DSCH_CTRL that its unit accepts outside a shutdown. -/
theorem State.regWrite_dschCtrl (s : State) (q : Requester) (v : Word) (h : Hw) (ha : s.admits q DSCH_CTRL v)
    (hu : s.hw.dschWrite v = (.ok, h)) (hp : h.power = .running) : s.regWrite q DSCH_CTRL v = s.wrote DSCH_CTRL h := by
  obtain ⟨x, hx, hh, hn⟩ := regHit_dschCtrl
  have register : s.hw.registerWrite q x DSCH_CTRL.addr v = (.ok, h) :=
    (Hw.registerWrite_noSettings _ _ _ _ _ hn).trans (by simp only [Hw.unitWrite, hh, hu])
  refine (s.regWrite_unit q DSCH_CTRL v x ⟨s.mem, h⟩ ha (by decide) hx ?_).trans rfl
  simp only [Mach.unitStore, hh, register, Mach.afterDischarge_running ⟨s.mem, h⟩ hp]

/-- START is accepted while no power partition is active and no discharge runs (R189). -/
theorem Hw.dschWrite_start (h : Hw) (ha : h.powerActive = false) (hd : h.discharging = false) :
    h.dschWrite 0x2E710001#32 = (.ok, h.startDischarge) := by
  have key : Bits.get 0x2E710001#32 31 16 = 0x2E71 := by decide
  simp [Hw.dschWrite, key, ha, hd]

/-- STOP is accepted, and ends a discharge that runs (R192). -/
theorem Hw.dschWrite_stop (h : Hw) (hd : h.discharging = true) : h.dschWrite 0x2E710002#32 = (.ok, h.endDischarge 5) := by
  have key : Bits.get 0x2E710002#32 31 16 = 0x2E71 := by decide
  simp [Hw.dschWrite, key, hd]

-- ## The fallback (R190, R191)

/-- The fallback starts outside a chip fault, with no pin to drive or too small a fall of the link. -/
theorem Hw.fallbackStart_due (h : Hw) (hs : h.rd DSCH_STATUS.STATE = 1) (he : h.on DSCH_CFG.FALLBACK_EN = true)
    (hf : h.chipFault = false)
    (hn : (h.on DSCH_CFG.PIN_0_EN = false ∧ h.on DSCH_CFG.PIN_1_EN = false) ∨ (h.discharge.startV : Int) * 9 < h.linkMax * 10) :
    h.fallbackStart =
      (let ts := (List.range 16).filter (fun t => h.bit DSCH_FALLBACK.TRIOS t && !(h.trioCells t).isEmpty && h.mayPulse t)
       let h := { h.wr DSCH_STATUS.STATE 2 with discharge := { h.discharge with dirs := ts.map (fun t => (t, false)) } }
       ts.foldl (fun (h : Hw) t => h.fallbackPulse t false) h) := by
  have needed : (!h.on DSCH_CFG.PIN_0_EN && !h.on DSCH_CFG.PIN_1_EN || decide (h.linkMax * 10 > (h.discharge.startV : Int) * 9)) = true := by
    simpa using hn
  exact if_pos (by simp only [hs, he, hf, needed, decide_true, Bool.not_false, Bool.and_self])

/-- The next pulse of a trio runs in the opposite direction. -/
theorem Hw.fallbackNext_due (h : Hw) (t : Nat) (back : Bool) (hf : h.discharge.dirs.find? (fun e => e.1 == t) = some (t, back))
    (hm : h.mayPulse t = true) : h.fallbackNext t =
      ({ h with discharge := { h.discharge with
          dirs := h.discharge.dirs.map (fun (e : Nat × Bool) => if e.1 = t then (t, !back) else e) } } : Hw).fallbackPulse t (!back) := by
  simp only [Hw.fallbackNext, hf, hm, Bool.not_true, Bool.false_eq_true, if_false]

-- ## The ends (R192)

/-- The link is at or below its target: a discharge outside a shutdown is done. -/
theorem Mach.dischargeDone_running (m : Mach) (hp : m.hw.power = .running) (hd : m.hw.discharging = true)
    (ht : m.hw.linkMax * 128 ≤ (m.hw.rd DSCH_CFG.TARGET : Int) * 32768) : m.dischargeDone = m.onHw (fun h => h.endDischarge 3) := by
  have ends : m.dischargeDone = (m.onHw (fun h => h.endDischarge 3)).afterDischarge := if_pos (by simp only [hd, ht, decide_true, Bool.and_self])
  exact ends.trans (Mach.afterDischarge_running _ ((m.hw.power_endDischarge 3).trans hp))

/-- The limit has passed first: it is recorded. -/
theorem Mach.dischargeTimeout_running (m : Mach) (hp : m.hw.power = .running) (hd : m.hw.discharging = true) :
    m.dischargeTimeout = m.onHw (fun h => (h.endDischarge 4).record 0x7FF0) := by
  have ends : m.dischargeTimeout = (m.onHw (fun h => (h.endDischarge 4).record 0x7FF0)).afterDischarge := if_pos hd
  refine ends.trans (Mach.afterDischarge_running _ ?_)
  exact ((m.hw.endDischarge 4).power_record 0x7FF0).trans ((m.hw.power_endDischarge 4).trans hp)

/-- Settles O17: each command is accepted by its unit, and each event acts in the branch that its premises name. -/
theorem linkDischarge : Obligations.LinkDischarge := by
  unfold Obligations.LinkDischarge
  refine ⟨?start, ?stop, ?fallback, ?pulse, fun _ hs => if_neg hs, ?pulseEnd, ?nextPulse, ?done, ?timeout⟩
  case start =>
    intro s q ha hp hn hd
    exact s.regWrite_dschCtrl q _ _ ha (s.hw.dschWrite_start hn hd) hp
  case stop =>
    intro s q ha hp hd
    exact s.regWrite_dschCtrl q _ _ ha (s.hw.dschWrite_stop hd) ((s.hw.power_endDischarge 5).trans hp)
  case fallback =>
    intro s hl hs he hf hn
    exact (s.onLive_live Hw.fallbackStart hl).trans (congrArg s.to (s.hw.fallbackStart_due hs he hf hn))
  case pulse =>
    rintro h t a b back rfl rfl
    rfl
  case pulseEnd =>
    intro s t hl hd
    exact (s.onLive_live (fun h => if h.discharge.dirs.any (fun e => e.1 == t.val) then h.fallbackOff t.val else h) hl).trans
      (congrArg s.to (if_pos hd))
  case nextPulse =>
    intro s t back hl hf hm
    exact (s.onLive_live (fun h => h.fallbackNext t) hl).trans (congrArg s.to (s.hw.fallbackNext_due t back hf hm))
  case done =>
    intro s hl hp hd ht
    refine (s.onMach_live Mach.dischargeDone hl).trans ?_
    rw [Mach.dischargeDone_running ⟨s.mem, s.hw⟩ hp hd ht]
    rfl
  case timeout =>
    intro s hl hp hd
    refine (s.onMach_live Mach.dischargeTimeout hl).trans ?_
    rw [Mach.dischargeTimeout_running ⟨s.mem, s.hw⟩ hp hd]
    rfl

end Sys2Proof.Machine
end

section
/-!
PROOF. The effective commands of a switch: crossings of its carrier, the end of its dead time, and the end of its minimum pulse.
-/
namespace Sys2Proof.Machine

-- ## Raw commands and dead time (R201, R205, R207)

/-- A crossing of a running carrier in mode 1 (DUTY) of a cell that is not halted (R201). -/
theorem Hw.rawEdge_running (h : Hw) (c : Nat) (sw : Switch) (p : Nat) (hr : (h.cell c).running = true) (hm : (h.cell c).active.mode = 1)
    (hp : p < (h.cell c).active.ticks) (hh : h.on (LEG_PWM_STATUS.HALTED c) = false) : h.rawEdge c sw p =
      (let t := h.now + (p + 4000 * (h.cell c).active.period - (h.cell c).periodTime h.now) % (max (h.cell c).active.ticks 1)
       (((h.atTick (min (t - h.now) 3999)).setRaw c sw p t).settle c sw t).showCounter c p) :=
  if_pos (by simp only [hr, hm, hp, hh, beq_self_eq_true, decide_true, Bool.not_false, Bool.and_self])

/-- A turn-on that waits for its dead time, as its opposite command stands at the end of it (R205, R207). -/
theorem Hw.deadTimeEnd_waiting (h : Hw) (c : Nat) (sw : Switch) (tick : Nat) (hd : ((h.cell c).sw sw).deadWait = true)
    (hw : h.wantsOn c sw = true) : h.deadTimeEnd c sw tick =
      if (!h.on (gateCmd c (otherSwitch sw))) = true then (h.atTick tick).cmdOn c sw (h.now + tick)
      else if (((h.cell c).sw (otherSwitch sw)).raw && ((h.cell c).sw sw).raw &&
          ((h.cell c).sw (otherSwitch sw)).rawAt == ((h.cell c).sw sw).rawAt) = true then (h.dropCmds c).fenceCell c 0x06
      else h :=
  if_pos (by rw [hd, hw]; rfl)

-- ## The minimum pulse (R206)

/-- The end of a minimum pulse, before an extended command is looked at. -/
def Hw.pulseOver (h : Hw) (c : Nat) (sw : Switch) : Hw := h.updSw c sw (fun y => { y with minHold := false })

/-- It changes no field of the cell but that of the switch. -/
theorem Hw.pulseOver_cell (h : Hw) (c : Nat) (sw : Switch) :
    (h.pulseOver c sw).cell c = (h.cell c).setSw sw { (h.cell c).sw sw with minHold := false } := Hw.setCell_cell _ _ _

/-- What is asked of a switch does not rest on its minimum pulse. -/
theorem Hw.pulseOver_wantsOn (h : Hw) (c : Nat) (sw : Switch) : (h.pulseOver c sw).wantsOn c sw = h.wantsOn c sw := by
  simp only [Hw.wantsOn, Hw.pulseOver_cell]
  cases sw <;> rfl

/-- An extended command that nothing asks for turns off, and the other switch settles. -/
theorem Hw.minPulseEnd_extended (h : Hw) (c : Nat) (sw : Switch) (he : ((h.cell c).sw sw).extended = true) (hh : (h.cell c).hold = .none)
    (hr : (h.cell c).running = true) (hw : h.wantsOn c sw = false) : h.minPulseEnd c sw =
      (let since := (match sw with | .hs => (h.cell c).onHs | .ls => (h.cell c).onLs).getD h.now
       (((h.pulseOver c sw).atTick (max h.tick (min (since + (h.cell c).active.minPulse - h.now) 3999))).cmdOff c sw).settle c
         (otherSwitch sw) h.now) := by
  have wanted : (h.pulseOver c sw).wantsOn c sw = false := (h.pulseOver_wantsOn c sw).trans hw
  have acts : (((h.cell c).sw sw).extended && !(h.pulseOver c sw).wantsOn c sw && ((h.pulseOver c sw).cell c).hold == .none &&
      ((h.pulseOver c sw).cell c).running) = true := by
    rw [h.pulseOver_cell]
    cases sw <;> simp_all [Cell.setSw]
  refine (if_pos acts).trans ?_
  rw [← Hw.pulseOver, h.pulseOver_cell]
  cases sw <;> rfl

theorem Hw.minPulseEnd_plain (h : Hw) (c : Nat) (sw : Switch) (he : ((h.cell c).sw sw).extended = false) :
    h.minPulseEnd c sw = h.pulseOver c sw := by
  simp only [Hw.minPulseEnd, he, Bool.false_and, Bool.false_eq_true, if_false, Hw.pulseOver]

/-- Settles O19: each event acts on a cell in the branch that its premises name. -/
theorem effectiveCommands : Obligations.EffectiveCommands := by
  unfold Obligations.EffectiveCommands
  refine ⟨?edge, ?turnsOn, ?together, ?extended, ?plain⟩
  case edge =>
    intro s c sw p hl hr hm hp hh
    exact (s.onLive_live (fun h => h.rawEdge c sw p) hl).trans (congrArg s.to (s.hw.rawEdge_running c sw p hr hm hp hh))
  case turnsOn =>
    intro s c sw tick hl hd hw ho
    refine (s.onLive_live (fun h => h.deadTimeEnd c sw tick) hl).trans (congrArg s.to ?_)
    rw [s.hw.deadTimeEnd_waiting c sw tick hd hw, if_pos (by rw [ho]; rfl)]
    rfl
  case together =>
    intro s c sw tick hl hd hw ho hr hr' ht
    refine (s.onLive_live (fun h => h.deadTimeEnd c sw tick) hl).trans (congrArg s.to ?_)
    rw [s.hw.deadTimeEnd_waiting c sw tick hd hw, if_neg (by simp [ho]), if_pos (by simp [hr, hr', ht])]
  case extended =>
    intro s c sw hl he hh hr hw
    refine (s.onLive_live (fun h => h.minPulseEnd c sw) hl).trans (congrArg s.to ?_)
    rw [s.hw.minPulseEnd_extended c sw he hh hr hw]
    cases sw <;> rfl
  case plain =>
    intro s c sw hl he
    exact (s.onLive_live (fun h => h.minPulseEnd c sw) hl).trans (congrArg s.to (s.hw.minPulseEnd_plain c sw he))

end Sys2Proof.Machine
end

section
/-!
PROOF. Trip inputs, the clearing of their latches, and the windows that blank them.
-/
namespace Sys2Proof.Machine

-- ## A trip input acts (R214 to R216, R220)

/-- What the ACTION of a trip input of cell c brings about beyond its latch and its switches (R215, R216). -/
def Hw.tripFollows (h : Hw) (c action : Nat) : Hw :=
  match action with
  | 0 => h.incTop (LEG_PWM_COUNT.CYCLE_TRIPS c)
  | 2 => (h.wakeEvent (c / 6) (2 ^ (6 + c % 6))).fenceCell c 0x10
  | _ => h.wakeEvent (c / 6) (2 ^ (6 + c % 6))

section
variable (h : Hw) (c n now : Nat) (active : h.bit (LEG_TRIP_STATUS.ACTIVE c) n = true) (unblanked : h.bit (LEG_TRIP_STATUS.BLANKED c) n = false)
  (clear : h.bit (LEG_TRIP_STATUS.LATCHED c) n = false)
include active unblanked clear

/-- An active, unblanked input whose latch is clear sets it, and goes by the hold of its cell. -/
theorem Hw.tripAct_due : h.tripAct c n now =
    (let target := h.rd (BLK_CELL_TRIP.TARGET (c / 6) (c % 6) n)
     let action := h.rd (BLK_CELL_TRIP.ACTION (c / 6) (c % 6) n)
     let latched := h.wrBit (LEG_TRIP_STATUS.LATCHED c) n true
     if (h.cell c).hold == .frozen then
       let off := latched.setCell c { h.cell c with freezeOff := (h.cell c).freezeOff ||| target }
       (if action = 0 then off.incTop (LEG_PWM_COUNT.CYCLE_TRIPS c) else off).turnOffTargets c target
     else
       (if (h.cell c).hold == .none && (h.cell c).running then (latched.turnOffTargets c target).settleBoth c now
        else latched).tripFollows c action) :=
  if_pos (by simp only [Hw.tripActs, active, unblanked, clear, Bool.not_false, Bool.and_self])

/-- In a cell that nothing holds and whose carrier runs, its switches turn off and the others settle. -/
theorem Hw.tripAct_running {action : Nat} (ha : h.rd (BLK_CELL_TRIP.ACTION (c / 6) (c % 6) n) = action) (hh : (h.cell c).hold = .none)
    (hr : (h.cell c).running = true) : h.tripAct c n now =
      (((h.wrBit (LEG_TRIP_STATUS.LATCHED c) n true).turnOffTargets c (h.rd (BLK_CELL_TRIP.TARGET (c / 6) (c % 6) n))).settleBoth c
        now).tripFollows c action := by
  rw [h.tripAct_due c n now active unblanked clear]
  simp [ha, hh, hr]

/-- In a held cell that is not frozen, and before the carrier runs, the switches stay (log entry 61). -/
theorem Hw.tripAct_still {action : Nat} (ha : h.rd (BLK_CELL_TRIP.ACTION (c / 6) (c % 6) n) = action) (hf : (h.cell c).hold ≠ .frozen)
    (hs : (h.cell c).hold ≠ .none ∨ (h.cell c).running = false) :
    h.tripAct c n now = (h.wrBit (LEG_TRIP_STATUS.LATCHED c) n true).tripFollows c action := by
  have stays : ((h.cell c).hold == .none && (h.cell c).running) = false := by simpa [imp_iff_not_or] using hs
  rw [h.tripAct_due c n now active unblanked clear]
  simp [ha, hf, stays]

/-- In a freeze the input only holds its switches off, and a CYCLE is counted (R220). -/
theorem Hw.tripAct_frozen (hf : (h.cell c).hold = .frozen) : h.tripAct c n now =
    (let target := h.rd (BLK_CELL_TRIP.TARGET (c / 6) (c % 6) n)
     let off := (h.wrBit (LEG_TRIP_STATUS.LATCHED c) n true).setCell c { h.cell c with freezeOff := (h.cell c).freezeOff ||| target }
     (if h.rd (BLK_CELL_TRIP.ACTION (c / 6) (c % 6) n) = 0 then off.incTop (LEG_PWM_COUNT.CYCLE_TRIPS c) else off).turnOffTargets c target) := by
  rw [h.tripAct_due c n now active unblanked clear]
  simp [hf]

end

-- ## Latches that are cleared (R215)

theorem tripStatus_command (c : CellId) : isCommandReg (LEG_TRIP_STATUS c) .tripStatus (cellIdx c) = true := by
  revert c
  decide +kernel

/-- LATCHED is the low field of the word that clears latches. -/
theorem Bits.get_latched (mask : Fin 16) : Bits.get (BitVec.ofNat 32 mask.val) 3 0 = mask.val := by
  simp only [Bits.get, BitVec.toNat_ofNat, Nat.shiftRight_zero]
  omega

theorem Hw.clearLatches_eq (h : Hw) (c mask : Nat) : h.clearLatches c mask =
    (let h := Num.forEach 4 (fun n h => if mask.testBit n && !h.tripActs c n then h.wrBit (LEG_TRIP_STATUS.LATCHED c) n false else h) h
     if (h.cell c).hold = .none then h.settleBoth c (4000 * h.stepCount) else h) := by
  simp only [Hw.clearLatches, beq_iff_eq]
  rfl

-- ## Hurdle windows (R213)

/-- An open WINDOW channel closes at its boundary. -/
theorem Hw.hurdleBoundary_closes (h : Hw) (k ch : Nat) (hm : h.rd (BLK_HURDLE_CFG.MODE k ch) = 2)
    (ho : (h.block k).hurdleOpen.testBit ch = true) : h.hurdleBoundary k ch = h.setHurdle k ch false := by
  simp only [Hw.hurdleBoundary, hm, ho, if_true]

/-- A closed one opens at its boundary where START is below END and the carrier of its cell runs. -/
theorem Hw.hurdleBoundary_opens (h : Hw) (k ch : Nat) (hm : h.rd (BLK_HURDLE_CFG.MODE k ch) = 2)
    (ho : (h.block k).hurdleOpen.testBit ch = false) (hs : h.rd (BLK_HURDLE_START.START k ch) < h.rd (BLK_HURDLE_END.END k ch))
    (hr : (h.cell (6 * k + ch / 2)).running = true) : h.hurdleBoundary k ch = h.setHurdle k ch true := by
  simp [Hw.hurdleBoundary, hm, ho, hs, hr]

/-- Settles O20: a trip input goes by its cell's hold and its ACTION, and each other event is its branch. -/
theorem trips : Obligations.Trips := by
  unfold Obligations.Trips
  refine ⟨?cycle, ?latch, ?fence, ?heldCycle, ?heldLatch, ?heldFence, ?frozenCycle, ?frozen, ?clear, ?edge, ?closes, ?opens⟩
  case cycle | latch | fence =>
    intro s c n hl active unblanked clear hh hr ha
    exact (s.onLive_live (fun h => h.tripAct c n h.now) hl).trans
      (congrArg s.to (s.hw.tripAct_running c n s.hw.now active unblanked clear ha hh hr))
  case heldCycle | heldLatch | heldFence =>
    intro s c n hl active unblanked clear hf hs ha
    exact (s.onLive_live (fun h => h.tripAct c n h.now) hl).trans
      (congrArg s.to (s.hw.tripAct_still c n s.hw.now active unblanked clear ha hf hs))
  case frozenCycle =>
    intro s c n hl active unblanked clear hf ha
    refine (s.onLive_live (fun h => h.tripAct c n h.now) hl).trans (congrArg s.to ?_)
    exact (s.hw.tripAct_frozen c n s.hw.now active unblanked clear hf).trans (congrArg (Hw.turnOffTargets · _ _) (if_pos ha))
  case frozen =>
    intro s c n hl active unblanked clear hf ha
    refine (s.onLive_live (fun h => h.tripAct c n h.now) hl).trans (congrArg s.to ?_)
    exact (s.hw.tripAct_frozen c n s.hw.now active unblanked clear hf).trans (congrArg (Hw.turnOffTargets · _ _) (if_neg ha))
  case clear =>
    intro s q c mask ha
    refine s.regWrite_command q _ _ .tripStatus (cellIdx c) _ (tripStatus_command c) (by decide) (fun x w hh hi => ?_) ha
    simp only [Hw.unitWrite, hh, RegHit.leg_cellIdx hi, Bits.get_latched, Hw.clearLatches_eq]
  case edge =>
    intro s k n hl hm
    exact (s.onLive_live (fun h => h.hurdleEdgeEnd k n) hl).trans (congrArg s.to (if_pos hm))
  case closes =>
    intro s k n hl hm ho
    exact (s.onLive_live (fun h => h.hurdleBoundary k n) hl).trans (congrArg s.to (s.hw.hurdleBoundary_closes k n hm ho))
  case opens =>
    intro s k n hl hm ho hs hr
    exact (s.onLive_live (fun h => h.hurdleBoundary k n) hl).trans (congrArg s.to (s.hw.hurdleBoundary_opens k n hm ho hs hr))

end Sys2Proof.Machine
end

section
/-!
PROOF. Comparators: the crossings of a cell's two, and the ticks and confirmations of the supervisory ones.
-/
namespace Sys2Proof.Machine

-- ## The level of a crossing (R238)

/-- A comparator that was not past its threshold compares without hysteresis. -/
theorem compPast_unset (w : Word) (thr : Nat) (sig : Int) : compPast w thr false sig =
    if w.getLsbD 11 then decide (sig < compScale (Bits.get w 13 12) thr) else decide (compScale (Bits.get w 13 12) thr < sig) := by
  simp [compPast]

/-- One that was past it, above, falls back at four codes lower where HYST is 3. -/
theorem compPast_set_above (w : Word) (thr : Nat) (sig : Int) (hp : w.getLsbD 11 = false) (hh : Bits.get w 15 14 = 3) :
    compPast w thr true sig = decide (compScale (Bits.get w 13 12) ((thr : Int) - 4) < sig) := by
  simp only [compPast, hp, hh]
  rfl

-- ## Supervisory comparators (R243, R244)

/-- The level that a tick of supervisory comparator m reads: an input is selected and past the threshold. -/
def Hw.scmpReads (h : Hw) (m : Nat) (inputs : List Nat) : Prop :=
  h.rd (SCMP_CFG.INPUT m) ≠ 0 ∧
    (if h.on (SCMP_CFG.POLARITY m) then 1024 * inputs.getD (h.rd (SCMP_CFG.INPUT m) - 1) 0 < 2500000 * h.rd (SCMP_CFG.THRESHOLD m)
     else 2500000 * h.rd (SCMP_CFG.THRESHOLD m) < 1024 * inputs.getD (h.rd (SCMP_CFG.INPUT m) - 1) 0)

/-- LEVEL lies beside CONFIRMED, which stands. -/
theorem Hw.confirmed_wrLevel (h : Hw) (m j : Nat) (v : Bool) :
    (h.wrBit SCMP_STATUS.LEVEL m v).bit SCMP_STATUS.CONFIRMED j = h.bit SCMP_STATUS.CONFIRMED j :=
  congrArg (Nat.testBit · j) (h.rd_wr_beside SCMP_STATUS.LEVEL SCMP_STATUS.CONFIRMED _ rfl (by decide))

/-- While D6 has its clock, a tick sets LEVEL to what it reads and counts the ticks that differ from CONFIRMED. -/
theorem Hw.scmpTick_clocked (h : Hw) (m : Nat) (inputs : List Nat) (v : Bool) (hc : (h.die 6).clockBad = false)
    (hv : v = true ↔ h.scmpReads m inputs) : h.scmpTick m inputs =
      { h.wrBit SCMP_STATUS.LEVEL m v with
        scmpRun := Tab.put h.scmpRun m (if v = h.bit SCMP_STATUS.CONFIRMED m then 0 else Tab.get h.scmpRun m 0 + 1) 0 } := by
  have level : (h.rd (SCMP_CFG.INPUT m) != 0 && (if h.on (SCMP_CFG.POLARITY m)
      then decide (1024 * inputs.getD (h.rd (SCMP_CFG.INPUT m) - 1) 0 < 2500000 * h.rd (SCMP_CFG.THRESHOLD m))
      else decide (2500000 * h.rd (SCMP_CFG.THRESHOLD m) < 1024 * inputs.getD (h.rd (SCMP_CFG.INPUT m) - 1) 0))) = v := by
    rw [Bool.eq_iff_iff, hv, Hw.scmpReads]
    cases h.on (SCMP_CFG.POLARITY m) <;> simp
  simp only [Hw.scmpTick, hc, Bool.false_eq_true, if_false, level, Hw.confirmed_wrLevel]
  rfl

/-- Settles O22: a crossing is the model's own, and a tick goes by whether the level that it reads differs from CONFIRMED. -/
theorem comparatorLevels : Obligations.ComparatorLevels := by
  unfold Obligations.ComparatorLevels
  refine ⟨?crossing, ?past, ?differs, ?agrees, ?confirmed⟩
  case crossing =>
    intro s c b i hl
    exact s.onLive_live (fun h => h.comparatorCrossing c b i) hl
  case past =>
    intro w thr sig
    refine ⟨fun hp => ?_, fun hp => ?_, compPast_set_above w thr sig⟩
    · rw [compPast_unset, if_neg (Bool.eq_false_iff.1 hp)]
    · rw [compPast_unset, if_pos hp]
  case differs =>
    intro s m inputs v hl hc hv hd
    refine (s.onLive_live (fun h => h.scmpTick m inputs) hl).trans (congrArg s.to ?_)
    rw [s.hw.scmpTick_clocked m inputs v hc hv, if_neg hd]
  case agrees =>
    intro s m inputs v hl hc hv hd
    refine (s.onLive_live (fun h => h.scmpTick m inputs) hl).trans (congrArg s.to ?_)
    rw [s.hw.scmpTick_clocked m inputs v hc hv, if_pos hd]
  case confirmed =>
    intro s m hl hr
    exact (s.onLive_live (fun h => h.scmpConfirmed m) hl).trans (congrArg s.to (if_pos hr))

end Sys2Proof.Machine
end

section
/-!
PROOF. The debugger: its accesses, its controls of blocks, its writes of thread registers, and the end of a freeze.
-/
namespace Sys2Proof.Machine

-- ## Accesses (R469, R470)

/-- A read or a write of the session waits where no access waits. -/
theorem Hw.dbgAccess_accepted (h : Hw) (op addr : Nat) (data : Word) (ho : op = 1 ∨ op = 2) (hs : h.dbgState = 3)
    (hp : h.dbgSt.pending = false) : h.dbgAccess op addr data =
      { h with dbgSt := { h.dbgSt with pending := true, op := op, addr := addr, data := data, done := false } } := by
  rcases ho with rfl | rfl <;> simp [Hw.dbgAccess, hs, hp]

section
variable (m : Mach) (hs : m.hw.dbgState = 3) (hp : m.hw.dbgSt.pending = true)
include hs hp

/-- A write that waits executes, and completes unless it has begun a restart. -/
theorem Mach.dbgExecute_write (ho : m.hw.dbgSt.op = 2) : m.dbgExecute =
    (let r := m.busWrite m.hw.debugger m.hw.dbgSt.addr m.hw.dbgSt.data
     ⟨r.2.mem, if r.2.hw.restarted then r.2.hw else r.2.hw.dbgDone r.1 0⟩) := by
  simp only [Mach.dbgExecute, hs, hp, ho, ne_eq, not_true_eq_false, decide_false, Bool.not_true, Bool.or_self, Bool.false_eq_true,
    if_false, if_true]
  generalize m.busWrite m.hw.debugger m.hw.dbgSt.addr m.hw.dbgSt.data = r
  cases r.2.hw.restarted <;> rfl

/-- A read that waits executes, and completes unless it waits for the window. -/
theorem Mach.dbgExecute_read (ho : m.hw.dbgSt.op = 1) {r : Option (Status × Word)} {n : Mach}
    (hr : m.busRead m.hw.debugger whoDebug m.hw.dbgSt.addr 0 = (r, n)) : m.dbgExecute =
      match r with
      | some (st, w) => n.onHw (fun h => h.dbgDone st w)
      | none => n := by
  rcases r with _ | ⟨st, w⟩ <;>
    simp only [Mach.dbgExecute, hs, hp, ho, hr, ne_eq, not_true_eq_false, decide_false, Bool.not_true, Bool.or_self, Bool.false_eq_true,
      if_false, OfNat.one_ne_ofNat]

end

/-- An access that completes is counted. -/
theorem Hw.rd_dbgDone_accesses (h : Hw) (st : Status) (w : Word) : (h.dbgDone st w).rd DBG_COUNT.ACCESSES =
    (h.rd DBG_COUNT.ACCESSES + 1) % 2 ^ (DBG_COUNT.ACCESSES.hi + 1 - DBG_COUNT.ACCESSES.lo) :=
  h.rd_wr DBG_COUNT.ACCESSES _ (by decide)

-- ## Controls (R472)

/-- The blocks that a control names are asked to halt, freeze, resume or step at the next boundary. -/
def Hw.blocksAsked (h : Hw) (halt resume step : Nat) (freeze : Bool) : Hw :=
  Num.forEach 8 (fun j (h : Hw) => h.setBlock j { h.block j with
    haltReq := (h.block j).haltReq || halt.testBit j, freezeReq := (h.block j).freezeReq || (freeze && halt.testBit j)
    resumeReq := (h.block j).resumeReq || resume.testBit j, stepReq := (h.block j).stepReq || step.testBit j }) h

/-- A control that nothing refuses is counted and answers OK. -/
theorem State.dbgControl_accepted (s : State) (halt resume step : Nat) (freeze : Bool) (hl : s.hw.live = true)
    (hr : s.hw.controlRefusal halt resume step freeze = none) : s.onLive (fun h => h.dbgControl halt resume step freeze) =
      s.to ((Hw.blocksAsked { s.hw.inc DBG_COUNT.ACCESSES with
        dbgSt := { s.hw.dbgSt with lastAt := s.hw.stepCount } } halt resume step freeze).answer .ok 0) := by
  refine (s.onLive_live _ hl).trans (congrArg s.to ?_)
  simp only [Hw.dbgControl, hr]
  rfl

-- ## The row of a thread's general registers (Table 17-5)

/-- The row of BLK_k_SEQ_DBG_t_G_g. -/
def threadRegRow : RegRow := ⟨0x20010800, [(0x1000, 8), (0x40, 8), (0x4, 16)], .threadReg, 0x0#32, [⟨31, 0, .rw, .any⟩]⟩

theorem threadReg_only : regRows.filter (fun r => r.hook == .threadReg) = [threadRegRow] := by decide +kernel

theorem threadReg_skipped (k : BlockId) :
    regRows.all (fun r => r.hook == .threadReg || r.skips (0x20010800 + k * 0x1000) 0x4 128) = true := by
  revert k
  decide +kernel

/-- The registers of a block's threads are one run of 128 words, 16 to a thread. -/
theorem threadReg_addr (k : BlockId) (t : ThreadId) (g : Fin 16) :
    (BLK_SEQ_DBG_G k t g).addr = 0x20010800 + k * 0x1000 + (16 * t.val + g) * 0x4 := by
  simp only [BLK_SEQ_DBG_G]
  omega

theorem regHit_threadReg (k : BlockId) (t : ThreadId) (g : Fin 16) :
    regHit (BLK_SEQ_DBG_G k t g).addr = some ⟨threadRegRow, [k.val, t.val, g.val]⟩ := by
  have offset : 0x20010800 + k * 0x1000 + (16 * t.val + g) * 0x4 - threadRegRow.base = k.val * 0x1000 + (t.val * 0x40 + (g.val * 0x4 + 0)) := by
    simp only [threadRegRow]
    omega
  rw [threadReg_addr]
  refine regHit_of_hook _ 0x4 128 (16 * t.val + g) _ threadReg_only (threadReg_skipped k) (by omega) (by omega)
    (by simp only [threadRegRow]; omega) ?_
  rw [offset, threadRegRow, strideIdx_entry _ _ _ _ _ k.isLt (by omega), strideIdx_entry _ _ _ _ _ t.isLt (by omega),
    strideIdx_entry _ _ _ _ _ g.isLt (by omega)]
  rfl

-- ## Conditions of a write that a thread's register has no part in (R393)

/-- A register of the window of the control array, the Ringmaster and the sequencers, by its address (Table 1-6). -/
abbrev RegId.sequencer (r : RegId) : Prop := 0x20000000 ≤ r.addr ∧ r.addr < 0x30000000

theorem Hw.rd_setSequencer (h : Hw) (r : RegId) (w : Word) (hr : r.sequencer) (f : Fld)
    (hf : f.reg.addr < 0x20000000 ∨ 0x30000000 ≤ f.reg.addr) : (h.setReg r w).rd f = h.rd f :=
  h.rd_setReg_ne r w f (by omega)

/-- No row of Table 14-1 speaks of a register of that window. -/
theorem Hw.chanTable_setSequencer (h : Hw) (r : RegId) (w : Word) (hr : r.sequencer) (c : Nat) (hc : c < 48) :
    (h.setReg r w).chanTable c = h.chanTable c := by
  have reads := h.rd_setSequencer r w hr
  have law := h.rd_lt (LEG_CHAN_CFG.VLAW c)
  have limits : (h.setReg r w).rd (BLK_LAW_LIMITS.OUT_MIN (blockOf c) (h.rd (LEG_CHAN_CFG.VLAW c))) =
      h.rd (BLK_LAW_LIMITS.OUT_MIN (blockOf c) (h.rd (LEG_CHAN_CFG.VLAW c))) := by
    refine reads _ (.inl ?_)
    generalize h.rd (LEG_CHAN_CFG.VLAW c) = v at law
    simp only [LEG_CHAN_CFG.VLAW] at law
    simp only [BLK_LAW_LIMITS.OUT_MIN, BLK_LAW_LIMITS, blockBase, blockOf]
    omega
  have cell (off hi lo : Nat) (z : Word) (ho : off < 0x10000) := reads ⟨⟨cellBase c + off, z⟩, hi, lo⟩
    (.inl (by simp only [cellBase]; omega))
  have trip (n hi lo : Nat) (hn : n < 2) := reads ⟨BLK_CELL_TRIP (blockOf c) (localOf c) n, hi, lo⟩
    (.inl (by simp only [BLK_CELL_TRIP, blockBase, blockOf, localOf]; omega))
  have meas (hi lo : Nat) := reads ⟨MEAS_CH_CFG c, hi, lo⟩ (.inr (by simp only [MEAS_CH_CFG]; omega))
  have pair (f : Nat → Bool) : (List.range 2).all f = (f 0 && (f 1 && true)) := rfl
  have vlaw : (h.setReg r w).rd (LEG_CHAN_CFG.VLAW c) = h.rd (LEG_CHAN_CFG.VLAW c) := cell 0x400 31 24 0x80#32 (by decide)
  simp only [Hw.chanTable, vlaw, limits, Hw.setReg_law, pair, Hw.on]
  simp only [LEG_PWM_CFG.MODE, LEG_PWM_CFG.DUTY_SRC, LEG_PWM_CFG.CARRIER, LEG_PWM_CFG, LEG_COMP_A_CFG.INPUT, LEG_COMP_A_CFG.POLARITY,
    LEG_COMP_A_CFG.THR_SRC, LEG_COMP_A_CFG, LEG_COMP_B_CFG.INPUT, LEG_COMP_B_CFG.POLARITY, LEG_COMP_B_CFG.THR_SRC, LEG_COMP_B_CFG,
    BLK_CELL_TRIP.SOURCE, BLK_CELL_TRIP.ACTION, BLK_CELL_TRIP.TARGET, BLK_CELL_TRIP.COMP_ON, MEAS_CH_CFG.I_EN, MEAS_CH_CFG.MODE,
    MEAS_CH_CFG.AUTO_START, LEG_CHAN_CFG.ILAW, LEG_CHAN_CFG, cell, trip, meas, Nat.reduceLT]

theorem Hw.isChannel_setSequencer (h : Hw) (r : RegId) (w : Word) (hr : r.sequencer) (c : Nat) :
    (h.setReg r w).isChannel c = h.isChannel c := by
  have entered : (h.setReg r w).blockEntered (blockOf c) = h.blockEntered (blockOf c) := by
    have owner : (h.setReg r w).owner (blockOf c) = h.owner (blockOf c) := rfl
    simp only [Hw.blockEntered, owner]
    cases hp : h.owner (blockOf c) with
    | none => rfl
    | some p =>
      have low : p < 16 := List.mem_range.1 (List.mem_of_find?_eq_some hp)
      simp only [h.rd_setSequencer r w hr (PART_RUN.STATE p) (.inl (by simp only [PART_RUN.STATE, PART_RUN]; omega))]
  exact congrArg (h.mode (blockOf c) == 3 && ·) entered

theorem Hw.chanTablesOk_setSequencer (h : Hw) (r : RegId) (w : Word) (hr : r.sequencer) :
    (h.setReg r w).chanTablesOk = h.chanTablesOk := by
  rw [Hw.chanTablesOk, Hw.chanTablesOk, Bool.eq_iff_iff, List.all_eq_true, List.all_eq_true]
  refine forall₂_congr fun c hc => ?_
  rw [h.isChannel_setSequencer r w hr, h.chanTable_setSequencer r w hr c (List.mem_range.1 hc)]

/-- No condition is set on a thread's general register. -/
theorem Hw.fieldsFit_threadReg (h : Hw) (p : Nat) (idx : List Nat) (k : BlockId) (t : ThreadId) (g : Fin 16) (judged : Nat → Nat → Bool) :
    h.fieldsFit p ⟨threadRegRow, idx⟩ (BLK_SEQ_DBG_G k t g).addr judged = true := by
  have hook : threadRegRow.hook = .threadReg := rfl
  have range : 0x20010000 ≤ (BLK_SEQ_DBG_G k t g).addr ∧ (BLK_SEQ_DBG_G k t g).addr < 0x20018000 := by
    simp only [BLK_SEQ_DBG_G]
    omega
  generalize (BLK_SEQ_DBG_G k t g).addr = a at range
  simp only [Hw.fieldsFit, hook]
  rw [if_neg (by omega), if_neg (by omega), if_neg (by omega), if_neg (by omega)]

-- ## Writes of thread registers (R471)

/-- A write of a general register of a thread of a halted block sets it. -/
theorem Hw.registerWrite_threadReg (h : Hw) (q : Requester) (k : BlockId) (t : ThreadId) (g : Fin 16) (v : Word) (hh : h.halted k = true) :
    h.registerWrite q ⟨threadRegRow, [k.val, t.val, g.val]⟩ (BLK_SEQ_DBG_G k t g).addr v = (.ok, h.setGen k t g v) := by
  have own : RegHit.id ⟨threadRegRow, [k.val, t.val, g.val]⟩ (BLK_SEQ_DBG_G k t g).addr = BLK_SEQ_DBG_G k t g := rfl
  have sequencer : (BLK_SEQ_DBG_G k t g).sequencer := by
    simp only [RegId.sequencer, BLK_SEQ_DBG_G]
    omega
  have unit (w : Word) : h.unitWrite q ⟨threadRegRow, [k.val, t.val, g.val]⟩ (BLK_SEQ_DBG_G k t g).addr w v = (.ok, h.setGen k t g v) :=
    if_neg (by simp [RegHit.ix, hh])
  simp only [Hw.registerWrite, own, Hw.fieldsFit_threadReg, Hw.chanTablesOk_setSequencer _ _ _ sequencer, unit]
  cases h.chanTablesOk <;> simp

theorem State.regWrite_threadReg (s : State) (q : Requester) (k : BlockId) (t : ThreadId) (g : Fin 16) (v : Word)
    (ha : s.admits q (BLK_SEQ_DBG_G k t g) v) (hh : s.hw.halted k = true) :
    s.regWrite q (BLK_SEQ_DBG_G k t g) v = s.wrote (BLK_SEQ_DBG_G k t g) (s.hw.setGen k t g v) :=
  s.regWrite_reg q _ v _ _ ha (by simp only [BLK_SEQ_DBG_G]; omega) (regHit_threadReg k t g) (by simp [threadRegRow])
    (s.hw.registerWrite_threadReg q k t g v hh)

/-- In a session the debugger's write of a thread register is an access like any other. -/
theorem execDbgThreadRegWrite_session (s : State) (k : BlockId) (t : ThreadId) (g : Fin 16) (v : Word) (hl : s.hw.live = true)
    (hs : s.hw.dbgState = 3) : execDbgThreadRegWrite k t g v s = s.regWrite s.hw.debugger (BLK_SEQ_DBG_G k t g) v := by
  rw [execDbgThreadRegWrite, State.regWrite, s.onMach_live _ hl, s.onBus_live _ _ hl]
  simp only [hs, if_true]
  rfl

-- ## The statement

/-- Settles O42: each access, control and timeout is the branch that its premises name, and the write of a thread register passes to its row. -/
theorem debugAccess : Obligations.DebugAccess := by
  unfold Obligations.DebugAccess
  refine ⟨?waits, ?write, ?read, fun h st w => ⟨rfl, h.rd_dbgDone_accesses st w⟩, ?halt, ?freeze, ?resume, ?step, ?register, ?timeout⟩
  case waits =>
    intro s op addr data hl ho hs hp
    have named : op.val = 1 ∨ op.val = 2 := ho.imp (congrArg Fin.val) (congrArg Fin.val)
    exact (s.onLive_live (fun h => h.dbgAccess op addr.toNat data) hl).trans
      (congrArg s.to (s.hw.dbgAccess_accepted op addr.toNat data named hs hp))
  case write =>
    intro s hl hs hp ho
    exact (s.onMach_live Mach.dbgExecute hl).trans
      (congrArg (fun m : Mach => s.toMach m.mem m.hw) (Mach.dbgExecute_write ⟨s.mem, s.hw⟩ hs hp ho))
  case read =>
    intro s hl hs hp ho
    refine (s.onMach_live Mach.dbgExecute hl).trans ?_
    rcases hr : Mach.busRead ⟨s.mem, s.hw⟩ s.hw.debugger whoDebug s.hw.dbgSt.addr 0 with ⟨_ | ⟨st, w⟩, n⟩
    all_goals exact congrArg (fun m : Mach => s.toMach m.mem m.hw) (Mach.dbgExecute_read ⟨s.mem, s.hw⟩ hs hp ho hr)
  case halt => exact fun s halt resume step freeze hl hr => s.dbgControl_accepted _ _ _ freeze hl hr
  case freeze => exact fun s k hl hr => s.dbgControl_accepted _ _ _ true hl hr
  case resume => exact fun s mask hl hr => s.dbgControl_accepted _ _ _ false hl hr
  case step => exact fun s mask hl hr => s.dbgControl_accepted _ _ _ false hl hr
  case register =>
    intro s k t g v hs ha hh
    exact (execDbgThreadRegWrite_session s k t g v ha.1 hs).trans (s.regWrite_threadReg _ k t g v ha hh)
  case timeout =>
    intro s hl ht
    exact (s.onLive_live Hw.freezeTimeout hl).trans (congrArg s.to (if_pos ht))

end Sys2Proof.Machine
end

section
/-!
PROOF. Faults of the sensing: the current cross-check, the saturated shunt and the two link readings.
-/
namespace Sys2Proof.Machine

-- ## The cross-checks of a cell (R235, R236)

section
variable (h : Hw) (c : Nat) (active : h.blockActive (c / 6) = true)
include active

/-- A count of failures that has reached STEPS and is not 0 fences the cell, where this run of failures has not yet done so. -/
theorem Hw.currentDisagree_due (fresh : (h.cell c).disRaised = false)
    (reached : h.rd (LEG_XCHK_CFG.STEPS c) ≤ h.rd (LEG_XCHK_STATUS.COUNT c)) (counted : h.rd (LEG_XCHK_STATUS.COUNT c) ≠ 0) :
    h.currentDisagree c = (h.setCell c { h.cell c with disRaised := true }).fenceCell c 0x11 :=
  if_pos (by simp [blockOf, active, fresh, reached, counted])

/-- Eight saturated steps fence the cell, where this run of them has not yet done so. -/
theorem Hw.shuntSaturated_due (fresh : (h.cell c).satRaised = false) (reached : 8 ≤ h.rd (LEG_XCHK_STATUS.SAT_COUNT c)) :
    h.shuntSaturated c = (h.setCell c { h.cell c with satRaised := true }).fenceCell c 0x12 :=
  if_pos (by simp [blockOf, active, fresh, reached])

end

-- ## The link readings (R237)

/-- The power partitions among the active ones that PARTS names, as one condition on a partition. -/
theorem Hw.vdcParts_power (h : Hw) : h.vdcParts.filter (fun p => h.rd (PART_RUN.KIND p) == 2) =
    (List.range 16).filter (fun p => h.active p && h.bit VDC_XCHK_CFG.PARTS p && h.rd (PART_RUN.KIND p) == 2) := by
  rw [Hw.vdcParts, List.filter_filter]
  simp only [Bool.and_comm]

/-- A count of failures that has reached STEPS and is not 0 raises the cause for each of them, where no episode runs. -/
theorem Hw.vdcDisagree_due (h : Hw) (fresh : h.vdcEpisode = false) (reached : h.rd VDC_XCHK_CFG.STEPS ≤ h.rd VDC_STATUS.COUNT)
    (counted : h.rd VDC_STATUS.COUNT ≠ 0) : h.vdcDisagree =
      ((List.range 16).filter (fun p => h.active p && h.bit VDC_XCHK_CFG.PARTS p && h.rd (PART_RUN.KIND p) == 2)).foldl
        (fun h p => h.safetyCause p 0x31) { h with vdcEpisode := true } := by
  rw [← Hw.vdcParts_power]
  exact if_pos (by simp [fresh, reached, counted])

-- ## The statement

/-- Settles O21: each event acts where its count has reached its limit and it has not yet been raised. -/
theorem sensingFaults : Obligations.SensingFaults := by
  unfold Obligations.SensingFaults
  refine ⟨?disagree, ?saturated, ?link⟩
  case disagree =>
    intro s c hl active fresh reached counted
    exact (s.onLive_live (fun h => h.currentDisagree c) hl).trans
      (congrArg s.to (s.hw.currentDisagree_due c active fresh reached counted))
  case saturated =>
    intro s c hl active fresh reached
    exact (s.onLive_live (fun h => h.shuntSaturated c) hl).trans (congrArg s.to (s.hw.shuntSaturated_due c active fresh reached))
  case link =>
    intro s hl fresh reached counted
    exact (s.onLive_live Hw.vdcDisagree hl).trans (congrArg s.to (s.hw.vdcDisagree_due fresh reached counted))

end Sys2Proof.Machine
end

section
/-!
PROOF. Control of the precision converters and of their capture areas.
-/
-- Elaborated in turn: a kernel evaluation that runs beside the others holds a thread, and its stack, until all earlier proofs are checked.
set_option Elab.async false
namespace Sys2Proof.Machine

-- ## The fields that channel and auxiliary converters have in common (Tables 9-6 and 9-7)

/-- The status register of converter n. -/
def measStatusReg (n : Nat) : RegId := if n < 48 then MEAS_CH_STATUS n else MEAS_AUX_STATUS (n - 48)

theorem measState_eq (n : Nat) : measState n = ⟨measStatusReg n, 2, 0⟩ := by
  unfold measState measStatusReg
  split <;> rfl

theorem measSettled_eq (n : Nat) : measSettled n = ⟨measStatusReg n, 9, 9⟩ := by
  unfold measSettled measStatusReg
  split <;> rfl

theorem measMode_reg (n : Nat) : (measMode n).reg = measCfgReg n := by
  unfold measMode measCfgReg
  split <;> rfl

theorem measRefSel_reg (n : Nat) : (measRefSel n).reg = measCfgReg n := by
  unfold measRefSel measCfgReg
  split <;> rfl

/-- A converter's status and configuration stand in D6's window, each at its own place among sixteen words. -/
theorem measStatusReg_addr (n : Nat) : 0x30001000 ≤ (measStatusReg n).addr ∧ (measStatusReg n).addr % 0x40 = 0x08 := by
  unfold measStatusReg
  split <;> simp only [MEAS_CH_STATUS, MEAS_AUX_STATUS] <;> omega

theorem measCfgReg_addr (n : Nat) : 0x30001000 ≤ (measCfgReg n).addr ∧ (measCfgReg n).addr % 0x40 = 0 := by
  unfold measCfgReg
  split <;> simp only [MEAS_CH_CFG, MEAS_AUX_CFG] <;> omega

/-- A converter's state reads back. -/
theorem Hw.rd_wr_measState (h : Hw) (n v : Nat) : (h.wr (measState n) v).rd (measState n) = v % 8 := by
  rw [measState_eq]
  exact h.rd_wr _ v (show 2 < 32 by decide)

/-- REF_SETTLED lies beside the state. -/
theorem Hw.rd_measState_settled (h : Hw) (n : Nat) (b : Bool) : (h.wrB (measSettled n) b).rd (measState n) = h.rd (measState n) := by
  rw [measState_eq, measSettled_eq]
  exact h.rd_wr_beside _ _ _ rfl (.inl (show 2 < 9 by decide))

-- ## Writes of a converter's control register (R269)

theorem measCtrl_command (n : Fin 48) : isCommandReg (MEAS_CH_CTRL n) .measCtrl [n.val] = true := by
  revert n
  decide +kernel

theorem measAuxCtrl_command (j : Fin 16) : isCommandReg (MEAS_AUX_CTRL j) .measAuxCtrl [j.val] = true := by
  revert j
  decide +kernel

theorem measCapCtrl_command (a : AreaId) : isCommandReg (MEAS_CAP_CTRL a) .capAreaCtrl [a.val] = true := by
  revert a
  decide +kernel

/-- A write that its converter accepts. -/
theorem State.regWrite_converter (s : State) (q : Requester) (n : ConvId) (v : Word) (h : Hw) (ha : s.admits q (measCtrlReg n) v)
    (hu : s.hw.converterWrite n v = (.ok, h)) : s.regWrite q (measCtrlReg n) v = s.wrote (measCtrlReg n) h := by
  by_cases channel : n.val < 48
  case pos =>
    have own : measCtrlReg n = MEAS_CH_CTRL n := if_pos channel
    rw [own] at ha ⊢
    exact s.regWrite_command q _ v .measCtrl [n.val] h (measCtrl_command ⟨n, channel⟩) (by decide)
      (fun x w hh hi => by simp only [Hw.unitWrite, hh, RegHit.ix, hi, List.getD_cons_zero, hu]) ha
  case neg =>
    have own : measCtrlReg n = MEAS_AUX_CTRL (n - 48) := if_neg channel
    have number : 48 + (n.val - 48) = n.val := by omega
    rw [own] at ha ⊢
    exact s.regWrite_command q _ v .measAuxCtrl [n.val - 48] h (measAuxCtrl_command ⟨n - 48, by omega⟩) (by decide)
      (fun x w hh hi => by simp only [Hw.unitWrite, hh, RegHit.ix, hi, List.getD_cons_zero, number, hu]) ha

/-- A write that a capture area accepts. -/
theorem State.regWrite_capArea (s : State) (q : Requester) (a : AreaId) (v : Word) (h : Hw) (ha : s.admits q (MEAS_CAP_CTRL a) v)
    (hu : s.hw.areaCtrlWrite a v = (.ok, h)) : s.regWrite q (MEAS_CAP_CTRL a) v = s.wrote (MEAS_CAP_CTRL a) h :=
  s.regWrite_command q _ v .capAreaCtrl [a.val] h (measCapCtrl_command a) (by decide)
    (fun x w hh hi => by simp only [Hw.unitWrite, hh, RegHit.ix, hi, List.getD_cons_zero, hu]) ha

-- ## START (R254, R258)

/-- START of a converter that has a MODE is accepted, whatever its channel and its test do. -/
theorem Hw.converterWrite_start (h : Hw) (n : Nat) (hm : h.rd (measMode n) ≠ 0) : h.converterWrite n 1#32 = (.ok, h.measStart n) := by
  simp [Hw.converterWrite, Hw.measFits, Hw.measHeld, Hw.measCtrlWrite, hm]

/-- A change of what is hidden of a converter, and its wait for a start. -/
theorem Hw.measWait_setConv (h : Hw) (n : Nat) (x : Conv) : (h.setConv n x).measWait n =
    (h.setConv n { x with frameSeen := false, isOpen := false, gapNext := true, restart := false }).wr (measState n)
      (if h.on (measSettled n) then 2 else 1) := by
  rw [Hw.measWait, Hw.updConv, Hw.setConv_conv, Hw.setConv_setConv, Hw.setConv_on]

theorem Hw.measStart_idle (h : Hw) (n : Nat) (hs : h.rd (measState n) = 0) (hc : (h.die 6).clockBad = false) : h.measStart n =
    (h.setConv n { h.conv n with run := h.rd (measMode n), cal := false, calPend := false, stopping := false, seq := 0, entry := 0 }).measWait
      n :=
  if_pos (by simp [hs, hc])

-- ## STOP (R269)

section
variable (h : Hw) (n : Nat)

/-- STOP of a converter that its channel does not hold and that is not under test is accepted. -/
theorem Hw.converterWrite_stop (ht : h.convTest ≠ n) (hh : h.measHeld n 2#32 = false) :
    h.converterWrite n 2#32 = (.ok, h.measStop n) := by
  simp [Hw.converterWrite, Hw.measFits, Hw.measCtrlWrite, ht, hh]

theorem Hw.measStop_waiting (hs : h.rd (measState n) = 1 ∨ h.rd (measState n) = 2) : h.measStop n = h.measIdle n := by
  rcases hs with hs | hs <;> simp only [Hw.measStop, hs]

theorem Hw.measStop_open (hs : h.rd (measState n) = 3) (ho : (h.conv n).isOpen = true) :
    h.measStop n = h.setConv n { h.conv n with stopping := true, calPend := false } := by
  simp only [Hw.measStop, hs, ho, if_true, Hw.updConv]

theorem Hw.measStop_calibrating (hs : h.rd (measState n) = 4) : h.measStop n = (h.measIdle n).wr (measCalState n) 3 := by
  simp only [Hw.measStop, hs]

end

/-- A converter that goes idle shows it, and no window of it is open. -/
theorem Hw.measIdle_idle (h : Hw) (n : Nat) : (h.measIdle n).rd (measState n) = 0 ∧ ((h.measIdle n).conv n).isOpen = false := by
  refine ⟨Hw.rd_wr_measState _ n 0, ?_⟩
  simp only [Hw.measIdle, Hw.updConv, Hw.wr_conv, Hw.setConv_conv]

-- ## CAL (R264, R265)

/-- The word that asks for a calibration of a range. -/
def calWord (range : Bool) : Word := BitVec.ofNat 32 (4 + 8 * Num.ofBool range)

theorem calWord_bits (range : Bool) : (calWord range)[0] = false ∧ (calWord range)[1] = false ∧ (calWord range)[2] = true ∧
    Bits.get (calWord range) 3 3 = Num.ofBool range := by
  cases range <;> decide

section
variable (h : Hw) (n : Nat)

/-- CAL of a converter that has a MODE, that its channel does not hold and that is not under test is accepted; only an auxiliary one has a
second range. -/
theorem Hw.converterWrite_cal (range : Bool) (ht : h.convTest ≠ n) (hh : h.measHeld n 4#32 = false) (hm : h.rd (measMode n) ≠ 0) :
    h.converterWrite n (calWord range) = (.ok, h.measCal n (if n < 48 then 0 else Num.ofBool range)) := by
  obtain ⟨start, stop, cal, second⟩ := calWord_bits range
  have unheld : h.measHeld n (calWord range) = false := by
    rw [← hh]
    simp [Hw.measHeld, stop, cal]
  simp [Hw.converterWrite, Hw.measFits, Hw.measCtrlWrite, start, stop, cal, second, unheld, ht, hm]

theorem Hw.measCal_idle (range : Nat) (hs : h.rd (measState n) = 0) (hc : (h.die 6).clockBad = false) :
    h.measCal n range = (h.setConv n { h.conv n with cal := true, calResume := 0, calRange := range }).measWait n := by
  simp only [Hw.measCal, hs, hc, Bool.false_eq_true, if_false, Hw.updConv]

theorem Hw.measCal_converting (range : Nat) (hs : h.rd (measState n) = 3) (hp : (h.conv n).calPend = false) :
    h.measCal n range = h.setConv n { h.conv n with calPend := true, calRange := range } := by
  simp only [Hw.measCal, hs, hp, Bool.false_eq_true, if_false, Hw.updConv]

end

-- ## Capture areas (R274)

/-- START of an area that has a MODE and does not record. -/
theorem Hw.areaCtrlWrite_start (h : Hw) (a : Nat) (hm : h.rd (MEAS_CAP_CFG.MODE a) ≠ 0) (hs : h.rd (MEAS_CAP_STATUS.STATE a) ≠ 1) :
    h.areaCtrlWrite a 1#32 = (.ok, h.setReg (MEAS_CAP_STATUS a) 1) := by
  simp [Hw.areaCtrlWrite, hm, hs]

/-- STOP of an area that records. -/
theorem Hw.areaCtrlWrite_stop (h : Hw) (a : Nat) (hs : h.rd (MEAS_CAP_STATUS.STATE a) = 1) :
    h.areaCtrlWrite a 2#32 = (.ok, h.wr (MEAS_CAP_STATUS.STATE a) 3) := by
  simp [Hw.areaCtrlWrite, hs]

-- ## The statement

/-- Settles O24: each command is accepted by its converter or its area, in the state that its premises name. -/
theorem measControl : Obligations.MeasControl := by
  unfold Obligations.MeasControl
  refine ⟨?start, ?wait, ?window, ?calibration, ?idle, ?converting, fun h n => h.measIdle_idle n, ?areaStart, ?areaStop⟩
  case start =>
    intro s q n ha hm hs hc
    refine s.regWrite_converter q n _ _ ha ((s.hw.converterWrite_start n hm).trans (congrArg (Prod.mk _) ?_))
    rw [s.hw.measStart_idle n hs hc, Hw.measWait_setConv]
  case wait =>
    intro s q n ha ht hh hs
    exact s.regWrite_converter q n _ _ ha (s.hw.measStop_waiting n hs ▸ s.hw.converterWrite_stop n ht hh)
  case window =>
    intro s q n ha ht hh hs ho
    exact s.regWrite_converter q n _ _ ha (s.hw.measStop_open n hs ho ▸ s.hw.converterWrite_stop n ht hh)
  case calibration =>
    intro s q n ha ht hh hs
    exact s.regWrite_converter q n _ _ ha (s.hw.measStop_calibrating n hs ▸ s.hw.converterWrite_stop n ht hh)
  case idle =>
    intro s q n range ha ht hh hm hs hc
    refine s.regWrite_converter q n _ _ ha ((s.hw.converterWrite_cal n range ht hh hm).trans (congrArg (Prod.mk _) ?_))
    rw [s.hw.measCal_idle n _ hs hc, Hw.measWait_setConv]
  case converting =>
    intro s q n range ha ht hh hm hs hp
    exact s.regWrite_converter q n _ _ ha (s.hw.measCal_converting n _ hs hp ▸ s.hw.converterWrite_cal n range ht hh hm)
  case areaStart =>
    intro s q a ha hm hs
    exact s.regWrite_capArea q a _ _ ha (s.hw.areaCtrlWrite_start a hm hs)
  case areaStop =>
    intro s q a ha hs
    exact s.regWrite_capArea q a _ _ ha (s.hw.areaCtrlWrite_stop a hs)

end Sys2Proof.Machine
end

section
/-!
PROOF. The windows of the precision converters: their start, their results and the records of the capture areas.
-/
set_option Elab.async false
namespace Sys2Proof.Machine

-- ## A window opens (R254, R255, R266)

/-- At its start a calibration that waits begins. -/
theorem Hw.firstWindow_calibration (h : Hw) (n : Nat) (hs : h.rd (measState n) = 2) (hf : (h.conv n).frameSeen = true)
    (he : h.stepCount % 2 = 0) (hc : (h.conv n).cal = true) :
    h.firstWindow n = (h.setConv n { h.conv n with cal := false, isOpen := false }).wr (measState n) 4 := by
  simp only [Hw.firstWindow, hs, hf, he, hc, decide_true, Bool.and_self, if_true, Hw.updConv]

/-- At its start the first window of a channel converter opens. -/
theorem Hw.firstWindow_channel (h : Hw) (n : Nat) (hs : h.rd (measState n) = 2) (hf : (h.conv n).frameSeen = true)
    (he : h.stepCount % 2 = 0) (hc : (h.conv n).cal = false) (hn : n < 48) (hm : h.rd (measMode n) ≠ 0) :
    h.firstWindow n = h.openWindow n := by
  simp [Hw.firstWindow, Hw.nextWindow, hs, hf, he, hc, hn, hm]

/-- The window of an auxiliary entry opens after its SETTLE. -/
theorem Hw.auxSettled_opens (h : Hw) (n : Nat) (hn : 48 ≤ n) (hs : h.rd (measState n) = 3) (ho : (h.conv n).isOpen = false) :
    h.auxSettled n = h.openWindow n :=
  if_pos (by simp [hn, hs, ho])

/-- A converter with an open window converts. -/
theorem Hw.openWindow_state (h : Hw) (n : Nat) : (h.openWindow n).rd (measState n) = 3 := Hw.rd_wr_measState _ n 3

/-- An open window takes the configuration and the reference in force. -/
theorem Hw.openWindow_conv (h : Hw) (n : Nat) : (h.openWindow n).conv n = { h.conv n with
    isOpen := true, gap := (h.conv n).gapNext, gapNext := false, cfgUse := h.reg (measCfgReg n), run := h.rd (measMode n),
    refBad := !h.on (measSettled n) || !h.dieGood 6, refFault := h.rd (measRefSel n) == 1 && !h.on MEAS_REF_STATUS.REFIN_OK } := by
  simp only [Hw.openWindow, Hw.updConv, Hw.wr_conv, Hw.setConv_conv]

-- ## Results (R259 to R263, R266)

theorem Num.code_lt (n : Nat) (i : Int) : Num.code n i < 2 ^ n := by
  have positive : (0 : Int) < ((2 ^ n : Nat) : Int) := by exact_mod_cast Nat.two_pow_pos n
  have below := Int.emod_lt_of_pos i positive
  have least := Int.emod_nonneg i positive.ne'
  unfold Num.code
  omega

/-- The registers in which a channel converter shows a result: two codes, the step, and the flags. -/
def Hw.chanShown (h : Hw) (n v i t : Nat) (flags : Word) : Hw :=
  (((h.wr (MEAS_CH_V.VALUE n) v).wr (MEAS_CH_I.VALUE n) i).wr (MEAS_CH_STAMP.STEP n) t).setReg (MEAS_CH_FLAGS n) flags

section
variable (h : Hw) (n v i t : Nat) (flags : Word)

theorem Hw.chanShown_v : (h.chanShown n v i t flags).rd (MEAS_CH_V.VALUE n) = v % 2 ^ 24 := by
  rw [Hw.chanShown, Hw.rd_setReg_ne, Hw.rd_wr_ne, Hw.rd_wr_ne]
  · exact h.rd_wr (MEAS_CH_V.VALUE n) v (show 31 < 32 by decide)
  all_goals
    simp only [MEAS_CH_V.VALUE, MEAS_CH_V, MEAS_CH_I.VALUE, MEAS_CH_I, MEAS_CH_STAMP.STEP, MEAS_CH_STAMP, MEAS_CH_FLAGS]
    omega

theorem Hw.chanShown_i : (h.chanShown n v i t flags).rd (MEAS_CH_I.VALUE n) = i % 2 ^ 24 := by
  rw [Hw.chanShown, Hw.rd_setReg_ne, Hw.rd_wr_ne]
  · exact Hw.rd_wr _ (MEAS_CH_I.VALUE n) i (show 31 < 32 by decide)
  all_goals
    simp only [MEAS_CH_I.VALUE, MEAS_CH_I, MEAS_CH_STAMP.STEP, MEAS_CH_STAMP, MEAS_CH_FLAGS]
    omega

theorem Hw.chanShown_stamp : (h.chanShown n v i t flags).rd (MEAS_CH_STAMP.STEP n) = t % 2 ^ 32 := by
  rw [Hw.chanShown, Hw.rd_setReg_ne]
  · exact Hw.rd_wr _ (MEAS_CH_STAMP.STEP n) t (show 31 < 32 by decide)
  · simp only [MEAS_CH_STAMP.STEP, MEAS_CH_STAMP, MEAS_CH_FLAGS]
    omega

end

/-- The calibrated voltage of a channel converter's raw code. -/
def Hw.chanVolts (h : Hw) (n : Nat) (raw : Int) : Nat :=
  Num.code 24 (calibrated raw (h.rd (MEAS_CH_CAL_V_OFFSET.OFFSET n)) (h.rd (MEAS_CH_CAL_V_GAIN.GAIN n))).1

section
variable (h : Hw) (n : Nat) (rawV rawI : Int) (cm clamp : Bool) (ph : Nat)

/-- A channel result shows the calibrated voltage and the step; its current is invalid while the common mode is beyond its range. -/
theorem Hw.chanResult_shown : ∃ i flags, (cm = true → i = 0x800000) ∧ (h.chanResult n rawV rawI cm clamp ph).1 =
    (h.setConv n { h.conv n with seq := ((h.conv n).seq + 1) % 0x10000 }).chanShown n (h.chanVolts n rawV) i h.stepCount flags := by
  refine ⟨_, _, fun hc => ?_, rfl⟩
  simp [hc, k24Invalid]

/-- What a channel result delivers to the capture areas and the accumulators. -/
theorem Hw.chanResult_delivered : (h.chanResult n rawV rawI cm clamp ph).2.step = h.stepCount ∧
    (h.chanResult n rawV rawI cm clamp ph).2.v = h.chanVolts n rawV ∧ (h.chanResult n rawV rawI cm clamp ph).2.conv = n ∧
    (h.chanResult n rawV rawI cm clamp ph).2.seq = ((h.conv n).seq + 1) % 0x10000 := by
  simp only [Hw.chanResult, Hw.chanVolts, Hw.updConv, Hw.setConv_conv, Hw.setConv_rd, Hw.setConv_stepCount, Hw.setReg_stepCount,
    Hw.wr_stepCount, and_self]

end

section
variable (h : Hw) (n : Nat) (raw : Int) (clamp : Bool)

/-- What an auxiliary result delivers to the capture areas. -/
theorem Hw.auxResult_delivered :
    let g := Bits.get (h.conv n).entryUse 7 7
    let r := (h.auxResult n raw clamp).2
    r.v = Num.code 24 (calibrated raw (Bits.get (h.reg (MEAS_AUX_CAL_OFFSET (n - 48) g)) 23 0)
      (h.reg (MEAS_AUX_CAL_GAIN (n - 48) g)).toNat).1 ∧
    r.entry = (h.conv n).entry ∧ r.seq = h.rd (MEAS_AUX_STATUS.PASS (n - 48)) ∧ r.step = h.stepCount := by
  unfold Hw.auxResult
  dsimp only
  split <;> exact ⟨rfl, rfl, rfl, rfl⟩

/-- After an auxiliary result the next entry follows, and the first one after the last of its pass. -/
theorem Hw.auxResult_entry : ((h.auxResult n raw clamp).1.conv n).entry =
    if (h.conv n).entriesUse ≤ (h.conv n).entry then 0 else (h.conv n).entry + 1 := by
  by_cases last : (h.conv n).entriesUse ≤ (h.conv n).entry
  all_goals simp [Hw.auxResult, Hw.updConv, last]

end

/-- The end of an open window. -/
theorem Mach.windowEnd_open (m : Mach) (n : Nat) (rawV rawI : Int) (cm clamp : Bool) (ph : Nat) (hs : m.hw.rd (measState n) = 3)
    (ho : (m.hw.conv n).isOpen = true) : m.windowEnd n rawV rawI cm clamp ph =
      (let h := m.hw.atPhase ph
       let r := if n < 48 then h.chanResult n rawV rawI cm clamp ph else h.auxResult n rawV clamp
       let captured := (Mach.mk m.mem r.1).captureAll r.2
       let h := captured.hw.measEvent n
       let h := if n < 48 then h.chanWindow n r.2 (windowCycles (m.hw.conv n).cfgUse) cm else h
       ⟨captured.mem, h.afterWindow n⟩) := by
  have converts : (m.hw.atPhase ph).rd (measState n) = 3 := hs
  have isOpen : ((m.hw.atPhase ph).conv n).isOpen = true := ho
  simp only [Mach.windowEnd, converts, isOpen, decide_true, Bool.and_self, if_true]
  rfl

-- ## Capture records (R273)

theorem MeasResult.bytes_length (r : MeasResult) : r.bytes.length = 16 := by
  simp [MeasResult.bytes, Num.bytesLE]

/-- The address of the slot that is next in capture area a. -/
def Mach.areaSlotAt (m : Mach) (a : Nat) : Nat := areaBase a + 16 * m.hw.rd (MEAS_CAP_STATUS.NEXT a)

theorem Mach.capture_mem (m : Mach) (a : Nat) (r : MeasResult) : (m.capture a r).mem = m.mem.setBytes (m.areaSlotAt a) r.bytes := rfl

/-- A record reads back from its slot. -/
theorem Mach.capture_bytes (m : Mach) (a : Nat) (r : MeasResult) : (m.capture a r).mem.bytes (m.areaSlotAt a) 16 = r.bytes := by
  rw [m.capture_mem, ← r.bytes_length]
  exact Memory.bytes_setBytes _ _ _

/-- No byte outside the slot changes with a record. -/
theorem Mach.capture_outside (m : Mach) (a : Nat) (r : MeasResult) (x : Nat) (hx : x < m.areaSlotAt a ∨ m.areaSlotAt a + 16 ≤ x) :
    (m.capture a r).mem.byte x = m.mem.byte x := by
  rw [← r.bytes_length] at hx
  exact Memory.byte_setBytes_outside _ _ _ _ hx

/-- After a record the next slot follows, and the first one after the last. -/
theorem Mach.capture_next (m : Mach) (a : Nat) (r : MeasResult) : (m.capture a r).hw.rd (MEAS_CAP_STATUS.NEXT a) =
    if m.hw.rd (MEAS_CAP_STATUS.NEXT a) < 4095 then m.hw.rd (MEAS_CAP_STATUS.NEXT a) + 1 else 0 := by
  have next (v : Nat) : (m.hw.wr (MEAS_CAP_STATUS.NEXT a) v).rd (MEAS_CAP_STATUS.NEXT a) = v % 4096 :=
    m.hw.rd_wr (MEAS_CAP_STATUS.NEXT a) v (show 15 < 32 by decide)
  have first := next 0
  unfold Mach.capture
  dsimp only
  split_ifs
  case pos below => exact (next _).trans (Nat.mod_eq_of_lt (by omega))
  case pos full => exact (Hw.rd_wr_beside _ (MEAS_CAP_STATUS.STATE a) (MEAS_CAP_STATUS.NEXT a) 2 rfl (.inr (show 1 < 4 by decide))).trans first
  case neg wraps => exact (Hw.rd_wr_beside _ (MEAS_CAP_STATUS.WRAPS a) (MEAS_CAP_STATUS.NEXT a) _ rfl (.inl (show 15 < 16 by decide))).trans first

-- ## The statement

/-- Settles O25: a window opens and ends in the state that its premises name, and a result and a record are what they deliver. -/
theorem measWindows : Obligations.MeasWindows := by
  unfold Obligations.MeasWindows
  refine ⟨?calibration, ?channel, ?settled, ?opened, ?ends, ?channelResult, ?auxResult, ?record⟩
  case calibration =>
    intro s n hl hs hf he hc
    exact (s.onLive_live (fun h => h.firstWindow n) hl).trans (congrArg s.to (s.hw.firstWindow_calibration n hs hf he hc))
  case channel =>
    intro s n hl hs hf he hc hn hm
    exact (s.onLive_live (fun h => h.firstWindow n) hl).trans (congrArg s.to (s.hw.firstWindow_channel n hs hf he hc hn hm))
  case settled =>
    intro s n hl hn hs ho
    exact (s.onLive_live (fun h => h.auxSettled n) hl).trans (congrArg s.to (s.hw.auxSettled_opens n hn hs ho))
  case opened =>
    intro h n
    rw [h.openWindow_conv n]
    exact ⟨h.openWindow_state n, rfl, rfl, rfl, by simp⟩
  case ends =>
    intro s n rawV rawI cm clamp ph hl hs ho
    refine (s.onMach_live (fun m => m.windowEnd n rawV rawI cm clamp ph) hl).trans ?_
    rw [Mach.windowEnd_open ⟨s.mem, s.hw⟩ n rawV rawI cm clamp ph hs ho]
  case channelResult =>
    intro h n rawV rawI cm clamp ph
    obtain ⟨i, flags, invalid, shown⟩ := h.chanResult_shown n rawV rawI cm clamp ph
    obtain ⟨step, volts, conv, seq⟩ := h.chanResult_delivered n rawV rawI cm clamp ph
    dsimp only
    rw [shown, Hw.chanShown_v, Hw.chanShown_stamp, Hw.chanShown_i]
    exact ⟨Nat.mod_eq_of_lt (Num.code_lt 24 _), rfl, step, volts, conv, seq, fun hc => by simp [invalid hc]⟩
  case auxResult =>
    intro h n raw clamp _
    obtain ⟨volts, entry, seq, step⟩ := h.auxResult_delivered n raw clamp
    exact ⟨volts, entry, seq, step, h.auxResult_entry n raw clamp⟩
  case record => exact fun m a r => ⟨m.capture_bytes a r, m.capture_outside a r, m.capture_next a r⟩

end Sys2Proof.Machine
end

section
/-!
PROOF. References and calibration of the precision converters, and the clamps of their front ends.
-/
set_option Elab.async false
namespace Sys2Proof.Machine

-- ## A fault code that is recorded (R555)

/-- A recorder shows its number of entries at word 0x14 among sixteen words; no register at another place of them changes with it. -/
theorem Hw.countFault_rd (h : Hw) (p code : Nat) (f : Fld) (hf : f.reg.addr % 0x40 ≠ 0x14) : (h.countFault p code).rd f = h.rd f := by
  have used (x : Hw) (v : Nat) : (x.wr (PART_REC_STATUS.ENTRIES_USED p) v).rd f = x.rd f := by
    refine x.rd_wr_ne _ f v fun same => hf ?_
    simp only [same, PART_REC_STATUS.ENTRIES_USED, PART_REC_STATUS]
    omega
  unfold Hw.countFault
  dsimp only
  repeat' split
  all_goals simp [used]

theorem Hw.record_rd (h : Hw) (code : Nat) (f : Fld) (hf : f.reg.addr % 0x40 ≠ 0x14) : (h.record code).rd f = h.rd f :=
  (foldl_keeps (fun x : Hw => x.rd f) _ _ _ fun x p => x.countFault_rd p code f hf).trans rfl

theorem Hw.countFault_conv (h : Hw) (p code n : Nat) : (h.countFault p code).conv n = h.conv n := by
  unfold Hw.countFault
  dsimp only
  repeat' split
  all_goals rfl

theorem Hw.record_conv (h : Hw) (code n : Nat) : (h.record code).conv n = h.conv n :=
  (foldl_keeps (fun x : Hw => x.conv n) _ _ _ fun x p => x.countFault_conv p code n).trans rfl

-- ## References (R256 to R258)

/-- A reference settles: an external one in range, and any other. -/
theorem Hw.refSettled_settles (h : Hw) (n : Nat) (hr : h.rd (measRefSel n) ≠ 1 ∨ h.on MEAS_REF_STATUS.REFIN_OK = true) : h.refSettled n =
    if h.rd (measState n) = 1 then
      ((h.wrB (measSettled n) true).setConv n { h.conv n with frameSeen := false }).wr (measState n) 2
    else h.wrB (measSettled n) true := by
  have settles : ¬ (h.rd (measRefSel n) = 1 && !h.on MEAS_REF_STATUS.REFIN_OK) = true := by
    rcases hr with hr | hr <;> simp [hr]
  simp only [Hw.refSettled, settles, Bool.false_eq_true, if_false, Hw.rd_measState_settled, Hw.updConv, Hw.wrB_conv]

/-- REFIN lies outside its range, and is shown so. -/
def Hw.refinOut (h : Hw) (mv : Nat) : Hw := (h.wr MEAS_REF_STATUS.REFIN (min mv 0xFFFF)).wrB MEAS_REF_STATUS.REFIN_OK false

/-- What an excursion of REFIN does to a converter that uses it: its reference is unsettled, an open window ends with REF_FAULT, a calibration
fails, and a wait for a start boundary begins anew (R257, R269). -/
def Hw.refinActs (h : Hw) (n : Nat) : Hw :=
  let h := h.refinConcern n
  let h := if h.rd (measRefSel n) = 1 then h.wrB (measSettled n) false else h
  let h := if (h.conv n).isOpen then h.updConv n (fun x => { x with refFault := true }) else h
  if h.rd (measState n) = 4 then (h.measRecord n 0x24).calEnd n 2
  else if h.rd (measState n) = 2 then h.measWait n else h

/-- The converters that use REFIN, in their order. -/
def Hw.refinUsers (h : Hw) : List Nat := (List.range 64).filter h.usesRefin

theorem Hw.refinExcursion_out (h : Hw) (mv : Nat) (hv : mv < 2000 ∨ 3000 < mv) :
    h.refinExcursion mv = (h.refinOut mv).refinUsers.foldl Hw.refinActs (h.refinOut mv) :=
  if_neg (by simp; omega)

/-- Neither a converter's configuration nor its status is shown in the status of the references. -/
theorem Hw.refinOut_rd (h : Hw) (mv : Nat) (f : Fld) (hf : 0x30001000 ≤ f.reg.addr) : (h.refinOut mv).rd f = h.rd f := by
  have apart : f.reg.addr ≠ MEAS_REF_STATUS.addr := by
    simp only [MEAS_REF_STATUS]
    omega
  rw [Hw.refinOut, Hw.rd_wrB_ne _ _ _ _ apart, Hw.rd_wr_ne _ _ _ _ apart]

theorem Hw.refinOut_refSel (h : Hw) (mv n : Nat) : (h.refinOut mv).rd (measRefSel n) = h.rd (measRefSel n) :=
  h.refinOut_rd mv _ (measRefSel_reg n ▸ (measCfgReg_addr n).1)

theorem Hw.refinOut_state (h : Hw) (mv n : Nat) : (h.refinOut mv).rd (measState n) = h.rd (measState n) :=
  h.refinOut_rd mv _ (measState_eq n ▸ (measStatusReg_addr n).1)

theorem Hw.refinOut_ok (h : Hw) (mv : Nat) : (h.refinOut mv).on MEAS_REF_STATUS.REFIN_OK = false := Hw.on_wrB _ _ _ (by decide) rfl

/-- Who uses REFIN does so whether or not it is in range. -/
theorem Hw.refinOut_users (h : Hw) (mv : Nat) : (h.refinOut mv).refinUsers = h.refinUsers := by
  refine List.filter_congr fun n _ => ?_
  rw [Hw.usesRefin, Hw.refinOut_refSel]
  rfl

theorem Hw.refinUsers_none (h : Hw) (hu : ∀ n < 64, h.usesRefin n = false) : h.refinUsers = [] :=
  List.filter_eq_nil_iff.2 fun n hn => by simp [hu n (List.mem_range.1 hn)]

theorem Hw.refinUsers_one (h : Hw) (n : ConvId) (hu : ∀ j < 64, h.usesRefin j = decide (j = n.val)) : h.refinUsers = [n.val] := by
  have one : ∀ n : ConvId, (List.range 64).filter (fun j => decide (j = n.val)) = [n.val] := by decide
  rw [← one n]
  exact List.filter_congr fun j hj => hu j (List.mem_range.1 hj)

/-- The first converter of a partition that an excursion concerns has it recorded. -/
theorem Hw.refinConcern_first (h : Hw) (n p : Nat) (hk : h.on MEAS_REF_STATUS.REFIN_OK = false) (hu : h.usesRefin n = true)
    (ho : h.measOwner n = some p) (hb : h.refinRec.testBit p = false) :
    h.refinConcern n = { h with refinRec := h.refinRec + 2 ^ p }.record (faultCode 4 p 0x23) := by
  simp [Hw.refinConcern, hk, hu, ho, hb]

/-- An excursion in an open window of a converter that has REFIN selected. -/
theorem Hw.refinActs_open (h : Hw) (n p : Nat) (hk : h.on MEAS_REF_STATUS.REFIN_OK = false) (hr : h.rd (measRefSel n) = 1)
    (ho : h.measOwner n = some p) (hb : h.refinRec.testBit p = false) (hw : (h.conv n).isOpen = true) (hs : h.rd (measState n) = 3) :
    h.refinActs n = (({ h with refinRec := h.refinRec + 2 ^ p }.record (faultCode 4 p 0x23)).wrB (measSettled n) false).setConv n
      { h.conv n with refFault := true } := by
  have uses : h.usesRefin n = true := by simp [Hw.usesRefin, hr]
  have concern := h.refinConcern_first n p hk uses ho hb
  have selected : (h.refinConcern n).rd (measRefSel n) = 1 := by
    have place : (measRefSel n).reg.addr % 0x40 ≠ 0x14 := by
      rw [measRefSel_reg, (measCfgReg_addr n).2]
      decide
    rw [concern, Hw.record_rd _ _ _ place]
    exact hr
  have converts : (h.refinConcern n).rd (measState n) = 3 := by
    have place : (measState n).reg.addr % 0x40 ≠ 0x14 := by
      rw [measState_eq, (measStatusReg_addr n).2]
      decide
    rw [concern, Hw.record_rd _ _ _ place]
    exact hs
  have conv : (h.refinConcern n).conv n = h.conv n := by
    rw [concern, Hw.record_conv]
    rfl
  rw [← concern]
  simp [Hw.refinActs, selected, Hw.updConv, conv, hw, Hw.rd_measState_settled, converts]

-- ## Calibration (R264, R265)

/-- A channel's calibration without current and with sums within the limits. -/
theorem Hw.calComplete_channel (h : Hw) (n : Nat) (sums : List Int) (off gain : Nat) (hn : n < 48) (hs : h.rd (measState n) = 4)
    (hi : h.on (MEAS_CH_CFG.I_EN n) = false) (hc : calFactors (sums.getD 1 0) (sums.getD 2 0) = some (off, gain)) :
    h.calComplete n sums = (((h.wrI (MEAS_CH_CAL_ZERO.Z n) (Num.roundDiv (sums.getD 0 0) 20)).wr (MEAS_CH_CAL_V_OFFSET.OFFSET n) off).wr
      (MEAS_CH_CAL_V_GAIN.GAIN n) gain).calEnd n 1 := by
  have uncurrent : (h.wrI (MEAS_CH_CAL_ZERO.Z n) (Num.roundDiv (sums.getD 0 0) 20)).on (MEAS_CH_CFG.I_EN n) = false := by
    rw [← hi]
    refine congrArg (· != 0) (h.rd_wr_ne _ (MEAS_CH_CFG.I_EN n) _ ?_)
    simp only [MEAS_CH_CFG.I_EN, MEAS_CH_CFG, MEAS_CH_CAL_ZERO.Z, MEAS_CH_CAL_ZERO]
    omega
  simp only [Hw.calComplete, hs, ne_eq, not_true, if_false, hn, if_true, uncurrent, Bool.false_eq_true, hc]

/-- A channel's calibration with sums of the voltage outside the limits, with or without current. -/
theorem Hw.calComplete_channelFails (h : Hw) (n : Nat) (sums : List Int) (hn : n < 48) (hs : h.rd (measState n) = 4)
    (hc : calFactors (sums.getD 1 0) (sums.getD 2 0) = none) : h.calComplete n sums =
      ((h.wrI (MEAS_CH_CAL_ZERO.Z n) (Num.roundDiv (sums.getD 0 0) 20)).measRecord n 0x24).calEnd n 2 := by
  simp only [Hw.calComplete, hs, ne_eq, not_true, if_false, hn, if_true, hc]

/-- An auxiliary converter's calibration with sums within the limits. -/
theorem Hw.calComplete_aux (h : Hw) (n : Nat) (sums : List Int) (off gain : Nat) (hn : 48 ≤ n) (hs : h.rd (measState n) = 4)
    (hc : calFactors (sums.getD 1 0) (sums.getD 2 0) = some (off, gain)) : h.calComplete n sums =
      ((h.setReg (MEAS_AUX_CAL_OFFSET (n - 48) (h.conv n).calRange) (BitVec.ofNat 32 off)).setReg
        (MEAS_AUX_CAL_GAIN (n - 48) (h.conv n).calRange) (BitVec.ofNat 32 gain)).calEnd n 1 := by
  simp only [Hw.calComplete, hs, ne_eq, not_true, if_false, Nat.not_lt.2 hn, hc]

/-- The end of a calibration of a converter that was idle before. -/
theorem Hw.calEnd_idle (h : Hw) (n st : Nat) (hr : (h.conv n).calResume = 0) : h.calEnd n st = (h.wr (measCalState n) st).measIdle n :=
  if_pos hr

-- ## Clamps (R268)

theorem Hw.measRecord_claimed (h : Hw) (n cause p : Nat) (ho : h.measOwner n = some p) :
    h.measRecord n cause = h.record (faultCode 4 p cause) := by
  simp only [Hw.measRecord, ho]

/-- A clamp of a TEMP input is recorded for its claimant. -/
def Hw.tempClamped (h : Hw) (n : Nat) : Hw :=
  match h.tempOwner n with
  | some p => h.record (faultCode 4 p 0x25)
  | none => h

theorem execFrontEndClamp_temp (n : ConvId) (s : State) : execFrontEndClamp (.temp n) s = s.onLive (fun h => h.tempClamped n) := rfl

theorem Hw.tempClamped_claimed (h : Hw) (n p : Nat) (ho : h.tempOwner n = some p) : h.tempClamped n = h.record (faultCode 4 p 0x25) := by
  simp only [Hw.tempClamped, ho]

-- ## The statement

/-- Settles O26: each event acts in the branch that its premises name; an excursion acts on the converters that use REFIN. -/
theorem measReferences : Obligations.MeasReferences := by
  unfold Obligations.MeasReferences
  refine ⟨?settled, ?waits, ?inRange, ?unused, ?excursion, ?channel, ?channelFails, fun h n st => h.calEnd_idle n st, ?aux, ?clamp, ?temp⟩
  case settled =>
    intro s n hl hr hs
    exact (s.onLive_live (fun h => h.refSettled n) hl).trans (congrArg s.to ((s.hw.refSettled_settles n hr).trans (if_neg hs)))
  case waits =>
    intro s n hl hr hs
    exact (s.onLive_live (fun h => h.refSettled n) hl).trans (congrArg s.to ((s.hw.refSettled_settles n hr).trans (if_pos hs)))
  case inRange =>
    intro s mv hl hlo hhi
    exact (s.onLive_live (fun h => h.refinInRange mv) hl).trans (congrArg s.to (if_pos (by simp [hlo, hhi])))
  case unused =>
    intro s mv hl hv hu
    refine (s.onLive_live (fun h => h.refinExcursion mv) hl).trans (congrArg s.to ?_)
    rw [s.hw.refinExcursion_out mv hv, Hw.refinOut_users, s.hw.refinUsers_none hu]
    rfl
  case excursion =>
    intro s mv n p hl hv hb hu hr ho hw hs
    refine (s.onLive_live (fun h => h.refinExcursion mv) hl).trans (congrArg s.to ?_)
    rw [s.hw.refinExcursion_out mv hv, Hw.refinOut_users, s.hw.refinUsers_one n hu]
    exact (s.hw.refinOut mv).refinActs_open n p (s.hw.refinOut_ok mv) ((s.hw.refinOut_refSel mv n).trans hr) ho hb hw
      ((s.hw.refinOut_state mv n).trans hs)
  case channel =>
    intro s n sums off gain hl hs hi hc
    exact (s.onLive_live (fun h => h.calComplete n sums) hl).trans
      (congrArg s.to (s.hw.calComplete_channel n sums off gain n.isLt hs hi hc))
  case channelFails =>
    intro s n sums hl hs hc
    exact (s.onLive_live (fun h => h.calComplete n sums) hl).trans (congrArg s.to (s.hw.calComplete_channelFails n sums n.isLt hs hc))
  case aux =>
    intro s n sums off gain hl hn hs hc
    exact (s.onLive_live (fun h => h.calComplete n sums) hl).trans (congrArg s.to (s.hw.calComplete_aux n sums off gain hn hs hc))
  case clamp =>
    intro s n p hl ho
    exact (s.onLive_live (fun h => h.measRecord n 0x25) hl).trans (congrArg s.to (s.hw.measRecord_claimed n 0x25 p ho))
  case temp =>
    intro s n p hl ho
    exact (execFrontEndClamp_temp n s).trans ((s.onLive_live _ hl).trans (congrArg s.to (s.hw.tempClamped_claimed n p ho)))

end Sys2Proof.Machine
end

section
/-!
PROOF. MOVE and the two-operand operations of a lane program.
-/
namespace Sys2Proof.Machine

-- ## Two operands (R281, R284)

theorem Q15.map2_valid (f : Int → Int → Int) {a b : Nat} {x y : Int} (hx : Q15.val a = some x) (hy : Q15.val b = some y) :
    Q15.map2 f a b = Q15.code (f x y) := by
  simp only [Q15.map2, hx, hy]

theorem Q15.map2_invalid (f : Int → Int → Int) {a b : Nat} (hi : Q15.val a = none ∨ Q15.val b = none) : Q15.map2 f a b = 0x8000 := by
  rcases hi with ha | hb
  case inl => simp only [Q15.map2, ha]
  case inr => cases ha : Q15.val a <;> simp only [Q15.map2, ha, hb]

section
variable (s : State) (k op : Nat) (w : Word) (f : Int → Int → Int)

/-- An operation whose operands are valid writes its result, saturated. -/
theorem State.laneBinary_valid (x y : Int) (hw : s.laneAt k op w) (hx : Q15.val (s.hw.sigIn k (laneA w)) = some x)
    (hy : Q15.val (s.hw.sigIn k (laneB w)) = some y) :
    s.onLive (fun h => h.laneBinary k op f) = s.laneNext k (s.hw.setSig k (laneD w) (Q15.code (f x y))) :=
  Q15.map2_valid f hx hy ▸ s.laneDo_due k op w _ hw

/-- An operation with an invalid operand writes 0x8000. -/
theorem State.laneBinary_invalid (hw : s.laneAt k op w)
    (hi : Q15.val (s.hw.sigIn k (laneA w)) = none ∨ Q15.val (s.hw.sigIn k (laneB w)) = none) :
    s.onLive (fun h => h.laneBinary k op f) = s.laneNext k (s.hw.setSig k (laneD w) 0x8000) :=
  Q15.map2_invalid f hi ▸ s.laneDo_due k op w _ hw

end

-- ## The statement

/-- Settles O27: MOVE is the operation that is due, and each other is a two-operand operation with its own function of the values. -/
theorem laneArithmetic : Obligations.LaneArithmetic := by
  unfold Obligations.LaneArithmetic
  refine ⟨?move, ?add, ?addInvalid, ?sub, ?subInvalid, ?mul, ?mulInvalid, ?clamp, ?clampInvalid⟩
  case move => exact fun s k w hw => s.laneDo_due k 1 w _ hw
  case add => exact fun s k w x y hw hx hy => s.laneBinary_valid k 2 w _ x y hw hx hy
  case addInvalid => exact fun s k w hw hi => s.laneBinary_invalid k 2 w _ hw hi
  case sub => exact fun s k w x y hw hx hy => s.laneBinary_valid k 3 w _ x y hw hx hy
  case subInvalid => exact fun s k w hw hi => s.laneBinary_invalid k 3 w _ hw hi
  case mul => exact fun s k w x y hw hx hy => s.laneBinary_valid k 4 w _ x y hw hx hy
  case mulInvalid => exact fun s k w hw hi => s.laneBinary_invalid k 4 w _ hw hi
  case clamp => exact fun s k w x y hw hx hy => s.laneBinary_valid k 5 w _ x y hw hx hy
  case clampInvalid => exact fun s k w hw hi => s.laneBinary_invalid k 5 w _ hw hi

end Sys2Proof.Machine
end

section
/-!
PROOF. Control and end of a block's injector, and of its capture unit.
-/
-- As above: the kernel evaluations of the register map are elaborated in turn.
set_option Elab.async false
namespace Sys2Proof.Machine

-- ## Command registers of a block's window

/-- The indices of block k in the register map: its region, and its place in the region. -/
def windowIdx (k : BlockId) : List Nat := [k.val / 2, k.val % 2]

theorem RegHit.blk_windowIdx {x : RegHit} {k : BlockId} (hi : x.idx = windowIdx k) : x.blk = k := by
  simp only [RegHit.blk, RegHit.ix, hi, windowIdx, List.getD_cons_zero, List.getD_cons_succ]
  omega

theorem injCtrl_command (k : BlockId) : isCommandReg (BLK_INJ_CTRL k) .injCtrl (windowIdx k) = true := by
  revert k
  decide +kernel

theorem capCtrl_command (k : BlockId) : isCommandReg (BLK_CAP_CTRL k) .capCtrl (windowIdx k) = true := by
  revert k
  decide +kernel

/-- A write that the injector accepts. -/
theorem State.regWrite_injector (s : State) (q : Requester) (k : BlockId) (v : Word) (h : Hw) (ha : s.admits q (BLK_INJ_CTRL k) v)
    (hu : s.hw.injCtrlWrite k v = (.ok, h)) : s.regWrite q (BLK_INJ_CTRL k) v = s.wrote (BLK_INJ_CTRL k) h :=
  s.regWrite_command q _ v .injCtrl (windowIdx k) h (injCtrl_command k) (by decide)
    (fun x w hh hi => by simp only [Hw.unitWrite, hh, RegHit.blk_windowIdx hi, hu]) ha

/-- A write that the capture unit accepts. -/
theorem State.regWrite_capture (s : State) (q : Requester) (k : BlockId) (v : Word) (h : Hw) (ha : s.admits q (BLK_CAP_CTRL k) v)
    (hu : s.hw.capCtrlWrite k v = (.ok, h)) : s.regWrite q (BLK_CAP_CTRL k) v = s.wrote (BLK_CAP_CTRL k) h :=
  s.regWrite_command q _ v .capCtrl (windowIdx k) h (capCtrl_command k) (by decide)
    (fun x w hh hi => by simp only [Hw.unitWrite, hh, RegHit.blk_windowIdx hi, hu]) ha

-- ## The injector (R298, R299)

/-- The waveform that is set uses no increment of 0 and, for CHIRP, has a SWEEP. -/
def Hw.waveUsable (h : Hw) (k : Nat) : Prop := h.rd (BLK_INJ_CFG.WAVE k) = 3 ∨
  (h.rd (BLK_INJ_CFG.WAVE k) = 0 ∧ h.rd (BLK_INJ_FREQ.INC k 0) ≠ 0) ∨
  (h.rd (BLK_INJ_CFG.WAVE k) = 1 ∧ h.rd (BLK_INJ_SWEEP.SWEEP k) ≠ 0) ∨
  (h.rd (BLK_INJ_CFG.WAVE k) = 2 ∧ ∀ e, e ≤ h.rd (BLK_INJ_CFG.ENTRIES k) → h.rd (BLK_INJ_FREQ.INC k e) ≠ 0)

section
variable (h : Hw) (k : Nat)

/-- START with a usable waveform is accepted: each kind of waveform passes its own condition, and the others' do not concern it. -/
theorem Hw.injCtrlWrite_start (hw : h.waveUsable k) :
    h.injCtrlWrite k 1#32 = (.ok, h.setBlock k { h.block k with injArm := true, injStop := false }) := by
  rcases hw with prbs | ⟨sine, inc⟩ | ⟨chirp, sweep⟩ | ⟨stepped, incs⟩
  case inl => simp [Hw.injCtrlWrite, Hw.updBlock, prbs]
  case inr.inl => simp [Hw.injCtrlWrite, Hw.updBlock, sine, inc]
  case inr.inr.inl => simp [Hw.injCtrlWrite, Hw.updBlock, chirp, sweep]
  case inr.inr.inr =>
    have used : (List.range (h.rd (BLK_INJ_CFG.ENTRIES k) + 1)).any (fun e => h.rd (BLK_INJ_FREQ.INC k e) == 0) = false :=
      List.any_eq_false.2 fun e he => by simpa using incs e (Nat.lt_succ_iff.1 (List.mem_range.1 he))
    simp [Hw.injCtrlWrite, Hw.updBlock, stepped, used]

theorem Hw.injCtrlWrite_stop :
    h.injCtrlWrite k 2#32 = (.ok, h.setBlock k { h.block k with injArm := false, injStop := true }) := by
  simp [Hw.injCtrlWrite, Hw.updBlock]

/-- A waveform that has reached its end. -/
theorem Hw.injectorEnd_done (hd : (h.block k).injDone = true) : h.injectorEnd k =
    ((h.setBlock k { h.block k with injDone := false, injX := 0 }).wr (BLK_INJ_STATUS.VALUE k) 0).wr (BLK_INJ_STATUS.STATE k) 2 :=
  if_pos hd

-- ## The capture unit (R300 to R302)

/-- ARM with a usable configuration acts from the next step on. -/
theorem Hw.capCtrlWrite_arm (hc : h.capOk k = true) : h.capCtrlWrite k 1#32 = (.ok, h.capArm k (h.stepCount + 1)) := by
  simp [Hw.capCtrlWrite, hc]

/-- STOP of a unit that is armed or triggered. -/
theorem Hw.capCtrlWrite_stop (hs : h.rd (BLK_CAP_STATUS.STATE k) = 1 ∨ h.rd (BLK_CAP_STATUS.STATE k) = 2) :
    h.capCtrlWrite k 2#32 = (.ok, h.wr (BLK_CAP_STATUS.STATE k) 4) := by
  simp [Hw.capCtrlWrite, hs]

/-- A triggered unit that holds LENGTH points. -/
theorem Hw.captureDone_full (hs : h.rd (BLK_CAP_STATUS.STATE k) = 2) (hl : h.rd (BLK_CAP_LEN.LENGTH k) ≤ (h.block k).capHave) :
    h.captureDone k = h.wr (BLK_CAP_STATUS.STATE k) 3 :=
  if_pos (by simp [hs, hl])

end

-- ## The statement

/-- Settles O29: each command is accepted by its unit, and each end acts where its premises hold. -/
theorem injectorAndCapture : Obligations.InjectorAndCapture := by
  unfold Obligations.InjectorAndCapture
  refine ⟨?start, ?stop, ?ended, ?arm, ?capStop, ?done⟩
  case start => exact fun s q k ha hw => s.regWrite_injector q k _ _ ha (s.hw.injCtrlWrite_start k hw)
  case stop => exact fun s q k ha => s.regWrite_injector q k _ _ ha (s.hw.injCtrlWrite_stop k)
  case ended => exact fun s k hl hd => (s.onLive_live _ hl).trans (congrArg s.to (s.hw.injectorEnd_done k hd))
  case arm => exact fun s q k ha hc => s.regWrite_capture q k _ _ ha (s.hw.capCtrlWrite_arm k hc)
  case capStop => exact fun s q k ha hs => s.regWrite_capture q k _ _ ha (s.hw.capCtrlWrite_stop k hs)
  case done => exact fun s k hl hs hn => (s.onLive_live _ hl).trans (congrArg s.to (s.hw.captureDone_full k hs hn))

end Sys2Proof.Machine
end

section
/-!
PROOF. Every effect that may write memory keeps its canonical form, and so does every step.
-/
namespace Sys2Proof.Machine

-- ## Effects and their combinations

/-- The memory of a part has its canonical form. -/
structure Mach.sound (m : Mach) : Prop where
  wf : Memory.wf m.mem = true

/-- Where memory stands, its form does. -/
theorem Mach.sound.of_mem {m n : Mach} (hm : m.sound) (h : n.mem = m.mem) : n.sound := ⟨h ▸ hm.wf⟩

/-- An effect on the part alone keeps the canonical form, whatever it is. -/
theorem Mach.sound.onHw {m : Mach} (hm : m.sound) (f : Hw → Hw) : (m.onHw f).sound := ⟨hm.wf⟩

theorem Mach.sound.withHw {m : Mach} (hm : m.sound) (h : Hw) : (Mach.mk m.mem h).sound := ⟨hm.wf⟩

theorem Mach.sound.ite {c : Prop} [Decidable c] {a b : Mach} (ha : a.sound) (hb : b.sound) : (if c then a else b).sound :=
  iteInduction (fun _ => ha) fun _ => hb

/-- An access or an event of two outcomes. -/
theorem Mach.sound.iteSnd {α : Type} {c : Prop} [Decidable c] {a b : α × Mach} (ha : a.2.sound) (hb : b.2.sound) :
    (if c then a else b).2.sound := iteInduction (motive := fun x : α × Mach => x.2.sound) (fun _ => ha) fun _ => hb

theorem Mach.sound.foldl {α : Type} {m : Mach} (hm : m.sound) (l : List α) (f : Mach → α → Mach)
    (hf : ∀ n a, n.sound → (f n a).sound) : (l.foldl f m).sound := by
  induction l generalizing m with
  | nil => exact hm
  | cons a l ih => exact ih (hf m a hm)

theorem Mach.sound.forEach {m : Mach} (hm : m.sound) (n : Nat) (f : Nat → Mach → Mach) (hf : ∀ i x, x.sound → (f i x).sound) :
    (Num.forEach n f m).sound := Num.forEach_keeps Mach.sound n f m hm hf

-- ## Keep memory (chapter 20)

theorem Memory.wf_sector0 (ws : List (Nat × List Byte)) : ∀ m : Memory, Memory.wf m = true → Memory.wf (m.sector0 ws) = true := by
  induction ws with
  | nil => exact fun m hm => hm
  | cons w ws ih => exact fun m hm => ih _ (Memory.wf_setBytes _ _ _ hm)

theorem Mach.sound.keepFlush {m : Mach} (hm : m.sound) : m.keepFlush.sound :=
  .ite hm (.ite ⟨Memory.wf_sector0 _ _ hm.wf⟩ (hm.onHw _))

theorem Mach.sound.keepRetry {m : Mach} (hm : m.sound) : m.keepRetry.sound := .ite ⟨Memory.wf_sector0 _ _ hm.wf⟩ hm

theorem Mach.sound.journal {m : Mach} (hm : m.sound) (p page last st : Nat) (count : Bool) : (m.journal p page last st count).sound :=
  ⟨Memory.wf_setBytes _ _ _ hm.wf⟩

theorem Mach.sound.keepBegin {m : Mach} (hm : m.sound) (p : Nat) : (m.keepBegin p).sound := by
  unfold Mach.keepBegin
  dsimp only
  exact .ite (.ite ((hm.onHw _).journal ..) ((hm.onHw _).onHw _)) hm

theorem Mach.sound.keepBoundary {m : Mach} (hm : m.sound) : m.keepBoundary.sound := by
  unfold Mach.keepBoundary
  exact hm.keepFlush.forEach 16 _ fun p _ hx => hx.keepBegin p

theorem Mach.sound.pageDone {m : Mach} (hm : m.sound) (p : Nat) : (m.pageDone p).sound := by
  have page (a : Nat) (bs : List Byte) : (Mach.mk (m.mem.putRange a bs) m.hw).sound := ⟨Memory.wf_putRange _ _ _ hm.wf⟩
  unfold Mach.pageDone
  dsimp only
  exact .ite (((page _ _).journal ..).onHw _) hm

theorem Mach.sound.clearSector {m : Mach} (hm : m.sound) (s : Nat) : (m.clearSector s).sound := ⟨Memory.wf_fill _ _ _ _ hm.wf⟩

theorem Mach.sound.clearDone {m : Mach} (hm : m.sound) (p : Nat) : (m.clearDone p).sound := .ite ((hm.clearSector _).onHw _) hm

/-- A page whose write a power failure cuts is written in part, and its journal tells how far. -/
theorem Mach.sound.keepCut {m : Mach} (hm : m.sound) : m.keepCut.sound := by
  unfold Mach.keepCut
  refine hm.forEach 16 _ fun p x hx => .ite ?_ hx
  have page (a : Nat) (bs : List Byte) (h : Hw) : (Mach.mk (x.mem.setBytes a bs) h).sound := ⟨Memory.wf_setBytes _ _ _ hx.wf⟩
  exact .ite ((page _ _ _).journal ..) ((page _ _ _).journal ..)

/-- A start shows the headers and the journals of keep memory and stores nothing. -/
theorem Mach.sound.keepStart {m : Mach} (hm : m.sound) : m.keepStart.sound := hm.withHw _

/-- The upper half of a direct write stores both halves, or nothing. -/
theorem Mach.sound.keepUpper {m : Mach} (hm : m.sound) (key a : Nat) (v : Word) : (m.keepUpper key a v).2.sound := by
  have stored (l : Nat × Word) : ({ m with mem := (m.mem.setWord l.1 l.2).setWord a v } : Mach).sound :=
    ⟨Memory.wf_setWord _ _ _ (Memory.wf_setWord _ _ _ hm.wf)⟩
  exact .iteSnd hm (.iteSnd hm (.iteSnd hm (.iteSnd hm (stored _))))

-- ## Recorders (chapter 20)

theorem Mach.sound.recWrite {m : Mach} (hm : m.sound) (p : Nat) : (m.recWrite p).sound := ⟨Memory.wf_putRange _ _ _ hm.wf⟩

theorem Mach.sound.recUpdate {m : Mach} (hm : m.sound) (p : Nat) : (m.recUpdate p).sound := by
  unfold Mach.recUpdate
  dsimp only
  exact .ite hm (.ite (hm.onHw _) ((hm.withHw _).recWrite p))

theorem Mach.sound.recFormat {m : Mach} (hm : m.sound) (p : Nat) : (m.recFormat p).sound :=
  ⟨Memory.wf_putRange _ _ _ (Memory.wf_putRange _ _ _ (Memory.wf_fill _ _ _ _ hm.wf))⟩

/-- A recorder whose last write was torn has its sequence number mended. -/
theorem Mach.sound.recLoad {m : Mach} (hm : m.sound) (p : Nat) : (m.recLoad p).sound := by
  unfold Mach.recLoad
  extract_lets
  exact .ite ⟨Memory.wf_setWord _ _ _ (Memory.wf_setWord _ _ _ hm.wf)⟩ (hm.withHw _)

theorem Mach.sound.recActivate {m : Mach} (hm : m.sound) (p : Nat) : (m.recActivate p).sound := by
  unfold Mach.recActivate
  dsimp only
  exact .ite (hm.withHw _) (.ite (.ite (hm.onHw _) ((hm.onHw _).recLoad p)) ((hm.onHw _).recFormat p))

theorem Mach.sound.recUpdates {m : Mach} (hm : m.sound) : (Num.forEach 16 (fun p acc => acc.recUpdate p) m).sound :=
  hm.forEach 16 _ fun p _ hx => hx.recUpdate p

theorem Mach.sound.opSecond {m : Mach} (hm : m.sound) : m.opSecond.sound := by
  unfold Mach.opSecond
  exact (hm.withHw _).keepFlush.recUpdates

theorem Mach.sound.keepCtrlWrite {m : Mach} (hm : m.sound) (p : Nat) (v : Word) : (m.keepCtrlWrite p v).2.sound := by
  unfold Mach.keepCtrlWrite
  extract_lets
  exact .iteSnd hm (.iteSnd (.iteSnd hm (.iteSnd hm (.iteSnd hm (.iteSnd hm (.iteSnd hm (hm.withHw _))))))
    (.iteSnd (.iteSnd hm (.iteSnd hm (.iteSnd hm ((hm.recFormat p).withHw _)))) hm))

-- ## Captures (chapters 9, 10 and 14)

theorem Mach.sound.capStore {m : Mach} (hm : m.sound) (k : Nat) : (m.capStore k).sound := ⟨Memory.wf_setBytes _ _ _ hm.wf⟩

theorem Mach.sound.capStep {m : Mach} (hm : m.sound) (k : Nat) : (m.capStep k).sound := by
  unfold Mach.capStep
  extract_lets
  exact .ite hm (.ite (.ite ((hm.withHw _).capStore k) (.ite (hm.capStore k) (hm.onHw _)))
    (.ite (.ite (hm.capStore k) (hm.onHw _)) hm))

theorem Mach.sound.capture {m : Mach} (hm : m.sound) (a : Nat) (r : MeasResult) : (m.capture a r).sound :=
  ⟨Memory.wf_setBytes _ _ _ hm.wf⟩

theorem Mach.sound.captureAll {m : Mach} (hm : m.sound) (r : MeasResult) : (m.captureAll r).sound := by
  unfold Mach.captureAll
  exact hm.forEach 32 _ fun a _ hx => .ite (hx.capture a r) hx

theorem Mach.sound.claimArea {m : Mach} (hm : m.sound) (p a : Nat) : (m.claimArea p a).sound := ⟨Memory.wf_fill _ _ _ _ hm.wf⟩

theorem Mach.sound.windowEnd {m : Mach} (hm : m.sound) (n : Nat) (rawV rawI : Int) (cm clamp : Bool) (phase : Nat) :
    (m.windowEnd n rawV rawI cm clamp phase).sound := by
  unfold Mach.windowEnd
  extract_lets
  exact .ite (((hm.withHw _).captureAll _).onHw _) hm

theorem Mach.sound.laneEnd {m : Mach} (hm : m.sound) (k : Nat) : (m.laneEnd k).sound := by
  unfold Mach.laneEnd
  split
  · exact .ite (((hm.withHw _).capStep k).onHw _) hm
  · exact hm

-- ## The serial port's frame buffer (chapter 19)

theorem Mach.sound.masterDone {m : Mach} (hm : m.sound) (data : List Byte) : (m.masterDone data).sound := by
  unfold Mach.masterDone
  split
  · exact hm
  · extract_lets read
    refine .ite hm ?_
    split
    case h_2 =>
      cases read
      · exact hm.withHw _
      · exact ⟨Memory.wf_setBytes _ _ _ hm.wf⟩
    all_goals exact hm.withHw _

-- ## Loads and activations (chapter 3)

theorem Mach.sound.clearGrants {m : Mach} (hm : m.sound) (gs : List (Nat × Nat)) : (m.clearGrants gs).sound := by
  unfold Mach.clearGrants
  exact (hm.foldl _ _ fun _ s hn => .ite (hn.clearSector s) hn).onHw _

theorem Mach.sound.applyPlatform {m : Mach} (hm : m.sound) (f : Platform) : (m.applyPlatform f).sound := by
  unfold Mach.applyPlatform
  exact (hm.onHw _).clearGrants _

theorem Mach.sound.applySet {m : Mach} (hm : m.sound) (p : PartId) (st : PSet) : (m.applySet p st).sound := by
  unfold Mach.applySet
  exact hm.onHw _

theorem Mach.sound.autoResume {m : Mach} (hm : m.sound) (p : Nat) : (m.autoResume p).sound := by
  unfold Mach.autoResume
  exact .ite hm (hm.foldl _ _ fun _ _ hn => .ite (hn.clearSector _) hn)

theorem Mach.sound.activate {m : Mach} (hm : m.sound) (p : PartId) (back : Bool) : (m.activate p back).sound := by
  unfold Mach.activate
  exact ((((hm.autoResume p.val).foldl _ _ fun _ a hn => hn.claimArea p.val a).onHw _).recActivate p.val).onHw _

theorem Mach.sound.partitionActivate {m : Mach} (hm : m.sound) (p : PartId) : (m.partitionActivate p).sound :=
  .ite (hm.activate p false) hm

theorem Mach.sound.applyFull {m : Mach} (hm : m.sound) (v : Verdict) : (m.applyFull v).sound := by
  unfold Mach.applyFull
  extract_lets begun applied
  have hb : begun.sound := hm.onHw _
  have ha : applied.sound := by
    refine .ite ?_ hb
    split
    · exact hb.applyPlatform _
    · exact hb
  exact (ha.foldl _ _ fun _ e hn => hn.applySet _ e.2).onHw _

theorem Mach.sound.checkedFull {m : Mach} (hm : m.sound) : m.checkedFull.sound := by
  unfold Mach.checkedFull
  extract_lets
  exact .ite (hm.onHw _) (.ite (hm.onHw _) (hm.applyFull _))

theorem Mach.sound.checksDone {m : Mach} (hm : m.sound) : m.checksDone.sound := .ite hm (.ite (hm.onHw _) hm.checkedFull)

theorem Mach.sound.loadSwitch {m : Mach} (hm : m.sound) : m.loadSwitch.sound := .ite (hm.onHw _) (hm.applyFull _)

theorem Mach.sound.bsCtrlWrite {m : Mach} (hm : m.sound) (q : Requester) (v : Word) : (m.bsCtrlWrite q v).2.sound := by
  unfold Mach.bsCtrlWrite
  split
  · exact .ite (hm.onHw _) (.ite (hm.onHw _) (.ite hm.loadSwitch hm))
  · exact hm

theorem Mach.sound.reloadApply {m : Mach} (hm : m.sound) (fails : List (Nat × Nat)) : (m.reloadApply fails).sound := by
  unfold Mach.reloadApply
  extract_lets
  refine .ite hm ?_
  split
  · exact hm
  · refine Mach.sound.applySet ?_ _ _
    split
    · exact (hm.onHw _).applyPlatform _
    · exact hm.onHw _

theorem Mach.sound.reloadBack {m : Mach} (hm : m.sound) : m.reloadBack.sound := by
  unfold Mach.reloadBack
  exact .ite ((hm.activate _ true).onHw _) hm

-- ## Starts, wakes and shutdowns (chapter 2)

theorem Mach.sound.coldReset {m : Mach} (hm : m.sound) (ph : PowerPhase) : (m.coldReset ph).sound := ⟨Memory.wf_filter _ _ hm.wf⟩

theorem Mach.sound.stage3 {m : Mach} (hm : m.sound) : m.stage3.sound := by
  unfold Mach.stage3
  exact (hm.onHw _).keepFlush.keepStart

theorem Mach.sound.startStages {m : Mach} (hm : m.sound) (env : StartEnv) : (m.startStages env).sound := by
  unfold Mach.startStages
  exact Mach.sound.onHw (.ite (hm.onHw _) (hm.onHw _).stage3) _

theorem Mach.sound.pllLock {m : Mach} (hm : m.sound) : m.pllLock.sound := by
  unfold Mach.pllLock
  split
  · exact hm.startStages _
  · exact hm

theorem Mach.sound.startWith {m : Mach} (hm : m.sound) (env : StartEnv) : (m.startWith env).sound :=
  .ite (hm.startStages env) (hm.onHw _)

theorem Mach.sound.coldStart {m : Mach} (hm : m.sound) (env : StartEnv) : (m.coldStart env).sound := by
  unfold Mach.coldStart
  split
  · exact ((hm.coldReset _).onHw _).startWith env
  · exact hm.startWith env
  · exact hm.startStages env
  · exact hm

theorem Mach.sound.shutWakes {m : Mach} (hm : m.sound) : m.shutWakes.sound := (hm.coldReset _).withHw _

theorem Mach.sound.testResult {m : Mach} (hm : m.sound) (res : Nat) : (m.testResult res).sound := (hm.onHw _).keepFlush

theorem Mach.sound.wake {m : Mach} (hm : m.sound) (src can : Nat) : (m.wake src can).sound := by
  unfold Mach.wake
  split
  case h_5 => exact ((hm.onHw _).testResult 3).shutWakes
  case h_6 => exact (hm.onHw _).shutWakes
  case h_7 => exact hm
  all_goals exact hm.onHw _

theorem Mach.sound.wakeEdge {m : Mach} (hm : m.sound) : m.wakeEdge.sound := .ite ((hm.onHw _).wake 1 0) (hm.onHw _)

theorem Mach.sound.aonReset {m : Mach} (hm : m.sound) : m.aonReset.sound :=
  (((Mach.sound.ite hm.keepCut hm).withHw _).coldReset _).withHw _

theorem Mach.sound.powerFail {m : Mach} (hm : m.sound) (saved : Bool) : (m.powerFail saved).sound := by
  unfold Mach.powerFail
  exact .ite (((hm.onHw _).onHw _).onHw _).keepFlush ((hm.onHw _).onHw _)

theorem Mach.sound.warmWith {m : Mach} (hm : m.sound) (edge : Bool) (env : StartEnv) : (m.warmWith edge env).sound :=
  (hm.of_mem (m.warmRestart_mem edge)).coldStart env

theorem Mach.sound.sresetEdge {m : Mach} (hm : m.sound) (env : StartEnv) : (m.sresetEdge env).sound :=
  .ite (hm.onHw _) (.ite ((hm.onHw _).warmWith true env) (hm.onHw _))

theorem Mach.sound.shutSave {m : Mach} (hm : m.sound) : m.shutSave.sound := by
  unfold Mach.shutSave
  extract_lets _ saved marked
  have hs : saved.sound := (hm.recUpdates.onHw _).keepFlush
  have hk : marked.sound := (hs.onHw _).keepFlush
  exact .ite (hs.onHw _) (.ite hk.shutWakes (hk.onHw _))

theorem Mach.sound.shutStopped {m : Mach} (hm : m.sound) : m.shutStopped.sound := .ite (hm.onHw _) hm.shutSave

theorem Mach.sound.afterDischarge {m : Mach} (hm : m.sound) : m.afterDischarge.sound := .ite hm.shutSave hm

theorem Mach.sound.dischargeDone {m : Mach} (hm : m.sound) : m.dischargeDone.sound := .ite (hm.onHw _).afterDischarge hm

theorem Mach.sound.dischargeTimeout {m : Mach} (hm : m.sound) : m.dischargeTimeout.sound := .ite (hm.onHw _).afterDischarge hm

theorem Mach.sound.shutTestEnd {m : Mach} (hm : m.sound) (passed : Bool) : (m.shutTestEnd passed).sound :=
  .ite ((hm.testResult _).onHw _) hm

-- ## Accesses (R104 to R108)

/-- A register write stores as its hook says: a load's release, a keep operation, or what a discharge's end lets a shutdown save. -/
theorem Mach.sound.unitStore {m : Mach} (hm : m.sound) (q : Requester) (x : RegHit) (a : Nat) (v : Word) :
    (m.unitStore q x a v).2.sound := by
  unfold Mach.unitStore
  split
  case h_1 => exact hm.bsCtrlWrite q v
  case h_3 => exact hm.of_mem (m.powerCmdWrite_mem v)
  case h_4 => exact hm.keepCtrlWrite _ v
  case h_5 => exact (hm.withHw _).afterDischarge
  case h_2 | h_6 => exact hm.withHw _

theorem Mach.sound.memStore {m : Mach} (hm : m.sound) (q : Requester) (a : Nat) (v : Word) : (m.memStore q a v).2.sound := by
  have stored : (Mach.mk (m.mem.setWord a v) m.hw).sound := ⟨Memory.wf_setWord _ _ _ hm.wf⟩
  unfold Mach.memStore
  split
  case h_1 => exact .ite (hm.onHw _) hm
  case h_2 => exact .iteSnd hm stored
  case h_3 | h_4 => exact stored
  case h_5 => exact .iteSnd (hm.withHw _) (hm.keepUpper _ a v)
  case h_6 | h_7 => exact hm

theorem Mach.sound.busWrite {m : Mach} (hm : m.sound) (q : Requester) (addr : Nat) (v : Word) : (m.busWrite q addr v).2.sound := by
  unfold Mach.busWrite
  extract_lets _ _ u
  have hu : u.2.sound := by
    unfold u
    split
    · exact hm.unitStore q _ _ v
    · exact hm.memStore q _ v
  exact .iteSnd (hm.withHw _) (.iteSnd (hu.withHw _) (hu.withHw _))

theorem Mach.sound.busRead {m : Mach} (hm : m.sound) (q : Requester) (who addr ecc : Nat) : (m.busRead q who addr ecc).2.sound :=
  hm.of_mem (m.busRead_mem q who addr ecc)

theorem Mach.sound.write {m : Mach} (hm : m.sound) (q : Requester) (addr : Nat) (v : Word) : (m.write q addr v).sound :=
  (hm.busWrite q addr v).withHw _

theorem Mach.sound.read {m : Mach} (hm : m.sound) (q : Requester) (addr ecc : Nat) : (m.read q addr ecc).sound :=
  hm.of_mem (m.read_mem q addr ecc)

/-- A read that has answered leaves sound memory. -/
theorem Mach.sound.busRead_eq {m n : Mach} (hm : m.sound) {q : Requester} {who addr ecc : Nat} {r : Option (Status × Word)}
    (h : m.busRead q who addr ecc = (r, n)) : n.sound := by
  have hr := hm.busRead q who addr ecc
  rwa [h] at hr

theorem Mach.sound.accessComplete {m : Mach} (hm : m.sound) (k : BlockId) (t : ThreadId) : (m.accessComplete k t).sound := by
  unfold Mach.accessComplete
  extract_lets
  refine .ite hm ?_
  split
  case h_1 | h_2 => exact hm
  case h_3 =>
    split
    · next h => exact (hm.busRead_eq h).onHw _
    · next h => exact hm.busRead_eq h
  case h_4 => exact .ite (hm.busWrite ..) ((hm.busWrite ..).onHw _)
  case h_5 => exact .ite hm (hm.onHw _)

theorem Mach.sound.restart {m : Mach} (hm : m.sound) (q : Requester) (env : StartEnv) : (m.restart q env).sound := by
  unfold Mach.restart
  exact .ite (((hm.busWrite ..).onHw _).coldStart env) ((hm.busWrite ..).onHw _)

theorem Mach.sound.dbgExecute {m : Mach} (hm : m.sound) : m.dbgExecute.sound := by
  unfold Mach.dbgExecute
  extract_lets
  refine .ite hm (.ite (.ite (hm.busWrite ..) ((hm.busWrite ..).onHw _)) ?_)
  split
  · next h => exact (hm.busRead_eq h).onHw _
  · next h => exact hm.busRead_eq h

-- ## Requests of hosts (chapters 18 and 19)

theorem Mach.sound.runWords {m : Mach} (hm : m.sound) (q : Requester) (who : Nat) (r : HostReq) (i : Nat) (got : List Word) (left : Nat) :
    (m.runWords q who r i got left).mach.sound := by
  induction left generalizing m i got with
  | zero => exact hm
  | succ n ih =>
    have written := hm.busWrite q (r.wordAddr i) (r.data.getD i 0)
    unfold Mach.runWords
    split
    · dsimp only
      split
      · exact written
      · split
        · exact written
        · exact ih written _ _
    · split
      · next h =>
        split
        · exact ih (hm.busRead_eq h) _ _
        · exact hm.busRead_eq h
      · next h => exact hm.busRead_eq h

theorem Mach.sound.runRequest {m : Mach} (hm : m.sound) (r : HostReq) (n : Nat) : (m.runRequest r n).mach.sound := by
  unfold Mach.runRequest
  split
  · exact hm
  · split
    · exact hm
    · exact hm.runWords ..

theorem Mach.sound.engineTurn {m : Mach} (hm : m.sound) (i : Nat) : (m.engineTurn i).sound := by
  unfold Mach.engineTurn
  split
  · exact hm
  · extract_lets begun run
    have hr : run.mach.sound := Mach.sound.runRequest (hm.onHw _) _ 16
    exact .ite hr (.ite (hr.onHw _) (hr.onHw _))

theorem Mach.sound.engineUntil {m : Mach} (hm : m.sound) (ord n : Nat) : (m.engineUntil ord n).sound := by
  induction n generalizing m with
  | zero => exact hm
  | succ k ih =>
    unfold Mach.engineUntil
    refine .ite hm ?_
    split
    · exact ih (hm.engineTurn _)
    · exact hm

theorem Mach.sound.serialExecute {m : Mach} (hm : m.sound) : m.serialExecute.sound := by
  unfold Mach.serialExecute
  split
  · exact hm
  · exact .ite hm (hm.engineUntil ..)

theorem Mach.sound.canExecute {m : Mach} (hm : m.sound) (p : Nat) : (m.canExecute p).sound := by
  unfold Mach.canExecute
  split
  · exact hm
  · exact hm.engineUntil ..

-- ## Boundaries

theorem Mach.sound.stepBoundary {m : Mach} (hm : m.sound) : m.stepBoundary.sound := (hm.onHw _).keepBoundary

theorem Mach.sound.frameBoundary {m : Mach} (hm : m.sound) (equal : Bool) : (m.frameBoundary equal).sound := by
  unfold Mach.frameBoundary
  exact .ite hm ((hm.onHw _).reloadBack.onHw _)

-- ## Every command

theorem State.sound.mach {s : State} (hs : s.sound) : (Mach.mk s.mem s.hw).sound := ⟨hs⟩

theorem State.sound.onAny {s : State} (hs : s.sound) (f : Mach → Mach) (hf : ∀ {m : Mach}, m.sound → (f m).sound) :
    completes (s.onAny f) State.sound := (hf hs.mach).wf

theorem State.sound.onMach {s : State} (hs : s.sound) (f : Mach → Mach) (hf : ∀ {m : Mach}, m.sound → (f m).sound) :
    completes (s.onMach f) State.sound := by
  unfold State.onMach
  split
  · exact (hf hs.mach).wf
  · exact hs

theorem State.sound.onBus {s : State} (hs : s.sound) (q : Requester) (f : Mach → Mach) (hf : ∀ {m : Mach}, m.sound → (f m).sound) :
    completes (s.onBus q f) State.sound := by
  unfold State.onBus
  split
  case h_1 | h_2 => exact hs
  case h_3 => exact hs.onMach f hf

theorem State.sound.opSecondsIncrement {s : State} (hs : s.sound) : completes (execOpSecondsIncrement s) State.sound := by
  unfold execOpSecondsIncrement
  split
  · have kept := hs.mach.opSecond
    generalize Mach.opSecond ⟨s.mem, s.hw⟩ = m at kept ⊢
    exact kept.wf
  · exact hs

/-- A command that leaves memory leaves its form. -/
theorem State.sound.execKept {s : State} (hs : s.sound) (c : Instr) (hc : c.mayStore = false) : completes (exec c s) State.sound := by
  obtain ⟨m, h, he, hm⟩ := exec_answers c s
  rw [he, hm hc]
  exact hs

/-- Every command keeps the canonical form: those that may store by their effect's lemma, the others because memory stands. -/
theorem State.sound.execKeeps {s : State} (hs : s.sound) (c : Instr) : completes (exec c s) State.sound := by
  have kept := hs.execKept c
  unfold exec at *
  cases c with
  | stepBoundary => exact hs.onMach _ Mach.sound.stepBoundary
  | frameBoundary equal => exact hs.onMach _ fun hm => hm.frameBoundary equal
  | partitionActivate p => exact hs.onMach _ fun hm => hm.partitionActivate p
  | shutdownStopped => exact hs.onMach _ fun hm => .ite hm.shutStopped hm
  | stopTimeout => exact hs.onMach _ fun hm => .ite hm.shutStopped hm
  | shutdownTestEnd passed => exact hs.onMach _ fun hm => hm.shutTestEnd passed
  | enterStandby => exact hs.onMach _ fun hm => .ite ((hm.coldReset _).withHw _) hm
  | keepWriteRetry => exact hs.onMach _ Mach.sound.keepRetry
  | checksDone => exact hs.onMach _ Mach.sound.checksDone
  | reloadApplySet fails => exact hs.onMach _ fun hm => hm.reloadApply _
  | serialRequestExecuted => exact hs.onMach _ Mach.sound.serialExecute
  | canServiceExecuted p => exact hs.onMach _ fun hm => hm.canExecute p
  | accessComplete k t => exact hs.onMach _ fun hm => hm.accessComplete k t
  | dischargeDone => exact hs.onMach _ Mach.sound.dischargeDone
  | dischargeTimeout => exact hs.onMach _ Mach.sound.dischargeTimeout
  | windowEnd n v i cm clamp phase => exact hs.onMach _ fun hm => hm.windowEnd ..
  | laneEnd k => exact hs.onMach _ fun hm => hm.laneEnd k
  | sresetEdge env => exact hs.onMach _ fun hm => hm.sresetEdge env
  | dbgAccessExecute => exact hs.onMach _ Mach.sound.dbgExecute
  | dbgThreadRegWrite => exact hs.onMach _ fun hm => .ite (hm.write ..) (hm.withHw _)
  | masterFrameDone data => exact hs.onMach _ fun hm => hm.masterDone data
  | pageWriteDone p => exact hs.onMach _ fun hm => hm.pageDone p
  | clearDone p => exact hs.onMach _ fun hm => hm.clearDone p
  | coldStart env => exact hs.onAny _ fun hm => hm.coldStart env
  | pllLock => exact hs.onAny _ Mach.sound.pllLock
  | aonReset => exact hs.onAny _ Mach.sound.aonReset
  | wakePinEdge => exact hs.onAny _ Mach.sound.wakeEdge
  | canWakeUpPattern n => exact hs.onAny _ fun hm => .ite (hm.wake _ _) hm
  | supplyDip i saved => exact hs.onAny _ fun hm => .ite ((hm.onHw _).powerFail _) hm
  | vsupLow saved => exact hs.onAny _ fun hm => .ite ((hm.onHw _).powerFail _) hm
  | opSecondsIncrement => exact hs.opSecondsIncrement
  | registerWrite q addr v => exact hs.onBus q _ fun hm => hm.write q _ v
  | restart q env => exact hs.onBus q _ fun hm => hm.restart q env
  | keepLowerWrite q addr v => exact hs.onBus q _ fun hm => hm.write q _ v
  | keepUpperWrite q addr v => exact hs.onBus q _ fun hm => hm.write q _ v
  | recReset q p => exact hs.onBus q _ fun hm => hm.write q _ _
  | bsSwitch q => exact hs.onBus q _ fun hm => hm.write q _ _
  | dschStart q => exact hs.onBus q _ fun hm => hm.write q _ _
  | dschStop q => exact hs.onBus q _ fun hm => hm.write q _ _
  | _ => exact kept rfl

/-- Settles O3: a step is one command, or nothing, and every command keeps the canonical form. -/
theorem everyStepSound : Obligations.EveryStepSound := by
  unfold Obligations.EveryStepSound
  intro s t hs ht
  unfold step at ht
  split at ht
  · cases ht
    exact hs
  · next c rest hp =>
    have kept := State.sound.execKeeps (s := { s with pending := rest }) hs c
    rwa [ht] at kept

/-- Settles O1: a step is its case of the queue. -/
theorem stepRunsFront : Obligations.StepRunsFront := by
  unfold Obligations.StepRunsFront
  refine ⟨fun s c rest hp => ?_, fun s hp => ?_⟩
  · simp only [step, hp]
  · simp only [step, hp]

end Sys2Proof.Machine
end

section
/-!
PROOF. The end of a waiting response, direct writes of keep memory, and the compare points of the lockstep lanes.
-/
namespace Sys2Proof.Machine

-- ## The serial port as a slave (R533)

/-- Settles O50: the second of a waiting response ends in STATE 2. -/
theorem responseExpires : Obligations.ResponseExpires := by
  unfold Obligations.ResponseExpires
  intro s hl hw
  exact (s.onLive_live Hw.responseExpired hl).trans (congrArg s.to (if_pos hw))

-- ## Direct writes (R542)

/-- A write that passes the checks and names no register reaches the memory at its address. -/
theorem Mach.busWrite_memory (m : Mach) (q : Requester) (addr : Nat) (v : Word) (hp : m.hw.preStatus q addr v = .ok) (h4 : addr % 4 = 0)
    (hx : regHit addr = none) {st : Status} {n : Mach} (hs : m.memStore q addr v = (st, n)) :
    m.busWrite q addr v = (st, n.onHw (fun h => if st = .ok then h.ramWritten addr else h.refused q st addr)) := by
  have ha : addr / 4 * 4 = addr := by omega
  by_cases hst : st = .ok
  · subst hst; simp [Mach.busWrite, ha, hp, hx, hs]
  · simp [Mach.busWrite, ha, hp, hx, hs, hst]

theorem Mach.memStore_lower (m : Mach) (q : Requester) (a n : Nat) (v : Word) (hk : targetOf a = .keep n) (h8 : a % 8 = 0) :
    m.memStore q a v = (.ok, m.onHw (fun h => h.keepLower (h.copyKey q) a v)) := by
  simp only [Mach.memStore, hk, h8, if_true, Mach.onHw]

theorem Mach.memStore_upper (m : Mach) (q : Requester) (a n : Nat) (v : Word) (hk : targetOf a = .keep n) (h8 : a % 8 = 4) :
    m.memStore q a v = m.keepUpper (m.hw.copyKey q) a v := by
  simp [Mach.memStore, hk, h8]

/-- The upper half of the word whose lower half is latched writes both. -/
theorem Mach.keepUpper_matching (m : Mach) (key a : Nat) (v w : Word) (h4 : 4 ≤ a)
    (hw : Tab.get m.hw.latches key (0, 0) = (a - 4, w)) (hc : m.hw.keepClearing (keepSector a) = false) (ho : m.hw.keepOpen = true)
    (hh : m.hw.keepHalf (keepSector a) = false) :
    m.keepUpper key a v = (.ok, ⟨(m.mem.setWord (a - 4) w).setWord a v, m.hw⟩) := by
  have ha : a - 4 + 4 = a := by omega
  simp only [Mach.keepUpper, hw, hc, ho, hh, ha, ne_eq, not_true_eq_false, Bool.not_true, Bool.false_eq_true, if_false]

theorem Mach.keepUpper_other (m : Mach) (key a : Nat) (v : Word) (hw : (Tab.get m.hw.latches key (0, 0)).1 + 4 ≠ a) :
    m.keepUpper key a v = (.range, m) :=
  if_pos hw

/-- Settles O51: each half is one write, taken through the checks of R105 to keep memory. -/
theorem directWrites : Obligations.DirectWrites := by
  unfold Obligations.DirectWrites
  refine ⟨?lower, ?upper, ?other, fun h key a v => ⟨Tab.get_put_same .., fun j hj => Tab.get_put_ne _ _ _ _ _ _ hj⟩⟩
  case lower =>
    intro s q addr v n hl hp hx hk h8
    exact s.onBus_write q _ v hl (Mach.busWrite_memory ⟨s.mem, s.hw⟩ q _ v hp (by omega) hx (Mach.memStore_lower _ q _ n v hk h8))
  case upper =>
    intro s q addr v n w hl hp hx hk h8 hw hc ho hh
    obtain rfl := targetOf_keep hk
    have stored := Mach.keepUpper_matching ⟨s.mem, s.hw⟩ _ _ v w (by omega) hw hc ho hh
    exact s.onBus_write q _ v hl (Mach.busWrite_memory ⟨s.mem, s.hw⟩ q _ v hp (by omega) hx
      ((Mach.memStore_upper _ q _ _ v hk h8).trans stored))
  case other =>
    intro s q addr v n hl hp hx hk h8 hw
    have refused := Mach.keepUpper_other ⟨s.mem, s.hw⟩ _ _ v hw
    exact s.onBus_write q _ v hl (Mach.busWrite_memory ⟨s.mem, s.hw⟩ q _ v hp (by omega) hx
      ((Mach.memStore_upper _ q _ n v hk h8).trans refused))

-- ## Lockstep (R459 to R462)

/-- A mismatch in group `grp` of block k. -/
theorem Hw.lockstep_block (h : Hw) (k : BlockId) (grp lane : Nat) (hg : grp < 3) :
    h.lockstep (3 * k.val + grp) false lane = h.lockstepBlock k grp lane := by
  have low : 3 * k.val + grp < 24 := by omega
  have block : (3 * k.val + grp) / 3 = k.val := by omega
  have place : (3 * k.val + grp) % 3 = grp := by omega
  simp only [Hw.lockstep, Bool.false_eq_true, if_false, low, if_true, block, place]

theorem Hw.withholdAccess_stepCount (h : Hw) (k : Nat) : (h.withholdAccess k).stepCount = h.stepCount :=
  Num.forEach_eq Hw.stepCount 8 _ h fun _ _ => rfl

/-- A thread whose accesses are withheld waits for none. -/
theorem Hw.withholdAccess_stall (h : Hw) (k t : Nat) (ht : t < 8) : ((h.withholdAccess k).thread k t).stall = .none := by
  refine Num.forEach_reaches (fun x : Hw => (x.thread k t).stall) .none 8 t _ h ht (fun i x hi => ?_) (fun x _ => ?_)
  · have key : 8 * k + t ≠ 8 * k + i := by omega
    exact congrArg Thread.stall (Tab.get_put_ne _ _ _ _ _ _ key)
  · exact congrArg Thread.stall (Hw.setThread_thread ..)

/-- Settles O40: a group below 24 is one of its block's three, and acts as that group does. -/
theorem lockstepCompare : Obligations.LockstepCompare := by
  unfold Obligations.LockstepCompare
  refine ⟨?equal, ?lanes, ?access, ?third, ?chip, fun h k t => h.withholdAccess_stall k t t.isLt⟩
  case equal => exact fun s g lane hl => s.onLive_live (fun h => h.lockstep g true lane) hl
  case lanes =>
    intro s k lane hl
    exact (s.onLive_live (fun h => h.lockstep (3 * k.val) false lane) hl).trans
      (congrArg s.to (s.hw.lockstep_block k 0 lane (by decide)))
  case access =>
    intro s k lane hl
    refine (s.onLive_live (fun h => h.lockstep (3 * k.val + 1) false lane) hl).trans
      (congrArg s.to ((s.hw.lockstep_block k 1 lane (by decide)).trans ?_))
    simp only [Hw.lockstepBlock, if_true, one_ne_zero, if_false, Hw.wr_stepCount, Hw.withholdAccess_stepCount]
  case third =>
    intro s k lane hl
    exact (s.onLive_live (fun h => h.lockstep (3 * k.val + 2) false lane) hl).trans
      (congrArg s.to (s.hw.lockstep_block k 2 lane (by decide)))
  case chip =>
    intro s g lane hl hg
    have high : ¬ g.val < 24 := by omega
    refine (s.onLive_live (fun h => h.lockstep g false lane) hl).trans (congrArg s.to ?_)
    simp only [Hw.lockstep, Bool.false_eq_true, if_false, high]

end Sys2Proof.Machine
end

section
/-!
PROOF. Channels: protection, the time limit, the commands of a channel's control register, and its end.
-/
-- The kernel evaluations of the register map are elaborated in turn.
set_option Elab.async false
namespace Sys2Proof.Machine

-- ## Bits of a field

/-- A bit of a field that is set reads back. -/
theorem Hw.bit_wrBit (h : Hw) (f : Fld) (i : Nat) (b : Bool) (hf : f.hi < 32) (hi : i < f.hi + 1 - f.lo) :
    (h.wrBit f i b).bit f i = b := by
  simp [Hw.bit, Hw.wrBit, Hw.rd_wr _ _ _ hf, Nat.testBit_mod_two_pow, hi, Num.testBit_setBit]

-- ## Protection and the time limit (R400, R407)

section
variable (h : Hw) (c : Nat)

theorem Hw.chanTripped_high (high : h.rd (LEG_CHAN_END.PROT_STEPS c) < (h.cell c).protHigh) : h.chanTripped c = some (0x14, 7) :=
  if_pos high

theorem Hw.chanTripped_low (high : (h.cell c).protHigh ≤ h.rd (LEG_CHAN_END.PROT_STEPS c))
    (low : h.rd (LEG_CHAN_END.PROT_STEPS c) < (h.cell c).protLow) : h.chanTripped c = some (0x15, 8) :=
  (if_neg (Nat.not_lt.2 high)).trans (if_pos low)

theorem Hw.chanTripped_lost (high : (h.cell c).protHigh ≤ h.rd (LEG_CHAN_END.PROT_STEPS c))
    (low : (h.cell c).protLow ≤ h.rd (LEG_CHAN_END.PROT_STEPS c)) (lost : h.rd (LEG_CHAN_END.PROT_STEPS c) < (h.cell c).protLost) :
    h.chanTripped c = some (0x16, 9) :=
  (if_neg (Nat.not_lt.2 high)).trans ((if_neg (Nat.not_lt.2 low)).trans (if_pos lost))

/-- A running or gated channel whose condition has lasted too long faults. -/
theorem Hw.chanProtect_tripped (cause reason : Nat) (hc : h.isChannel c = true)
    (hs : chanRuns (h.rd (LEG_CHAN_STATUS.STATE c)) = true ∨ h.rd (LEG_CHAN_STATUS.STATE c) = 4)
    (ht : h.chanTripped c = some (cause, reason)) : h.chanProtect c = ((h.cellFault c cause).chanEnd c 6 reason).chanVars c := by
  have acts : (h.isChannel c && (chanRuns (h.rd (LEG_CHAN_STATUS.STATE c)) || h.rd (LEG_CHAN_STATUS.STATE c) == 4)) = true := by
    simpa [hc] using hs
  simp only [Hw.chanProtect, acts, ht]

theorem Hw.chanTime_reached (hc : h.isChannel c = true) (hr : chanRuns (h.rd (LEG_CHAN_STATUS.STATE c)) = true)
    (h0 : h.rd (LEG_CHAN_TLIM.T_LIMIT c) ≠ 0) (ht : h.rd (LEG_CHAN_TLIM.T_LIMIT c) ≤ h.rd (LEG_CHAN_PHASE_TIME.MS c)) :
    h.chanTime c = (h.chanEnd c 5 3).chanVars c :=
  if_pos (by simp [hc, hr, h0, ht])

-- ## The control register (R402, R408, R411)

theorem Hw.chanCtrlWrite_restart (he : h.rd (LEG_CHAN_STATUS.STATE c) = 5) :
    h.chanCtrlWrite c 8#32 = (.ok, h.setCell c { h.cell c with restartReq := true }) := by
  simp [Hw.chanCtrlWrite, he]

theorem Hw.chanCtrlWrite_accStart :
    h.chanCtrlWrite c 1#32 = (.ok, (h.wrB (LEG_CHAN_STATUS.ACC_RUN c) true).setCell c (h.cell c)) := by
  simp [Hw.chanCtrlWrite]

theorem Hw.chanCtrlWrite_accStop :
    h.chanCtrlWrite c 2#32 = (.ok, (h.wrB (LEG_CHAN_STATUS.ACC_RUN c) false).setCell c (h.cell c)) := by
  simp [Hw.chanCtrlWrite]

theorem Hw.chanCtrlWrite_accClear :
    h.chanCtrlWrite c 4#32 = (.ok, h.setCell c { h.cell c with accClear := true }) := by
  simp [Hw.chanCtrlWrite]

end

theorem chanCtrl_command (c : CellId) : isCommandReg (LEG_CHAN_CTRL c) .chanCtrl (cellIdx c) = true := by
  revert c
  decide +kernel

/-- A write that the channel accepts. -/
theorem State.regWrite_channel (s : State) (q : Requester) (c : CellId) (v : Word) (h : Hw) (ha : s.admits q (LEG_CHAN_CTRL c) v)
    (hu : s.hw.chanCtrlWrite c v = (.ok, h)) : s.regWrite q (LEG_CHAN_CTRL c) v = s.wrote (LEG_CHAN_CTRL c) h :=
  s.regWrite_command q _ v .chanCtrl (cellIdx c) h (chanCtrl_command c) (by decide)
    (fun x w hh hi => by simp only [Hw.unitWrite, hh, RegHit.leg_cellIdx hi, hu]) ha

-- ## The end of a channel (R407)

section
variable (h : Hw) (c : CellId)

/-- The event flags lie apart from a cell's registers. -/
theorem Hw.rd_chanFlag (f : Fld) (hf : f.reg.addr < 0x20010000) : (h.chanFlag c).rd f = h.rd f := by
  unfold Hw.chanFlag
  split
  · refine Hw.rd_wrBit_ne _ _ _ _ _ ?_
    simp only [BLK_SEQ_FLAGS.FLAG, BLK_SEQ_FLAGS]
    omega
  · rfl

theorem Hw.chanFlag_set (he : h.on (LEG_CHAN_CFG.FLAG_EN c) = true) :
    (h.chanFlag c).bit (BLK_SEQ_FLAGS.FLAG (c.val / 6)) (h.rd (LEG_CHAN_CFG.FLAG c)) = true := by
  rw [Hw.chanFlag, if_pos he]
  exact Hw.bit_wrBit _ _ _ _ (by decide : 31 < 32) (h.rd_lt (LEG_CHAN_CFG.FLAG c))

/-- A channel that ends shows its state and its reason, and sets its event flag where FLAG_EN says so. -/
theorem Hw.chanEnd_shows (st reason : Nat) (hst : st < 8) (hr : reason < 16) :
    (h.chanEnd c st reason).rd (LEG_CHAN_STATUS.STATE c) = st ∧ (h.chanEnd c st reason).rd (LEG_CHAN_STATUS.END_REASON c) = reason ∧
    (h.on (LEG_CHAN_CFG.FLAG_EN c) = true →
      (h.chanEnd c st reason).bit (BLK_SEQ_FLAGS.FLAG (c.val / 6)) (h.rd (LEG_CHAN_CFG.FLAG c)) = true) := by
  have low : (LEG_CHAN_STATUS c).addr < 0x20010000 := by
    have := cellBase_range c
    simp only [LEG_CHAN_STATUS]
    omega
  have apart : (LEG_CHAN_CFG c).addr ≠ (LEG_CHAN_STATUS c).addr := by
    simp only [LEG_CHAN_CFG, LEG_CHAN_STATUS]
    omega
  have kept (f : Fld) (hf : f.reg = LEG_CHAN_CFG c) :
      ((h.wr (LEG_CHAN_STATUS.STATE c) st).wr (LEG_CHAN_STATUS.END_REASON c) reason).rd f = h.rd f := by
    rw [Hw.rd_wr_ne _ _ _ _ (hf ▸ apart), Hw.rd_wr_ne _ _ _ _ (hf ▸ apart)]
  refine ⟨?_, ?_, fun he => ?_⟩
  · rw [Hw.chanEnd, Hw.rd_chanFlag _ _ _ low, Hw.rd_wr_beside _ (LEG_CHAN_STATUS.END_REASON c) (LEG_CHAN_STATUS.STATE c) _ rfl
      (.inl (by decide : 2 < 8)), Hw.rd_wr _ _ _ (by decide : 2 < 32)]
    exact Nat.mod_eq_of_lt hst
  · rw [Hw.chanEnd, Hw.rd_chanFlag _ _ _ low, Hw.rd_wr _ _ _ (by decide : 11 < 32)]
    exact Nat.mod_eq_of_lt hr
  · have flagged := Hw.chanFlag_set ((h.wr (LEG_CHAN_STATUS.STATE c) st).wr (LEG_CHAN_STATUS.END_REASON c) reason) c
      (by rw [Hw.on, kept _ rfl]; exact he)
    rwa [kept _ rfl] at flagged

end

/-- Settles O37: a condition or a limit acts in the branch that its premises name, and each command is accepted by the channel. -/
theorem channels : Obligations.Channels := by
  unfold Obligations.Channels
  refine ⟨?high, ?low, ?lost, ?time, ?restart, ?accStart, ?accStop, ?accClear, fun h c st reason hst hr => h.chanEnd_shows c st reason hst hr⟩
  case high =>
    exact fun s c hl hc hs hp => (s.onLive_live (fun h => h.chanProtect c) hl).trans
      (congrArg s.to (s.hw.chanProtect_tripped c _ _ hc hs (s.hw.chanTripped_high c hp)))
  case low =>
    exact fun s c hl hc hs hh hp => (s.onLive_live (fun h => h.chanProtect c) hl).trans
      (congrArg s.to (s.hw.chanProtect_tripped c _ _ hc hs (s.hw.chanTripped_low c hh hp)))
  case lost =>
    exact fun s c hl hc hs hh hw hp => (s.onLive_live (fun h => h.chanProtect c) hl).trans
      (congrArg s.to (s.hw.chanProtect_tripped c _ _ hc hs (s.hw.chanTripped_lost c hh hw hp)))
  case time =>
    exact fun s c hl hc hr h0 ht => (s.onLive_live (fun h => h.chanTime c) hl).trans (congrArg s.to (s.hw.chanTime_reached c hc hr h0 ht))
  case restart => exact fun s q c ha he => s.regWrite_channel q c _ _ ha (s.hw.chanCtrlWrite_restart c he)
  case accStart => exact fun s q c ha => s.regWrite_channel q c _ _ ha (s.hw.chanCtrlWrite_accStart c)
  case accStop => exact fun s q c ha => s.regWrite_channel q c _ _ ha (s.hw.chanCtrlWrite_accStop c)
  case accClear => exact fun s q c ha => s.regWrite_channel q c _ _ ha (s.hw.chanCtrlWrite_accClear c)

end Sys2Proof.Machine
end

section
/-!
PROOF. Readings of on-die sensors and of external inputs, and the levels they enter and leave.
-/
namespace Sys2Proof.Machine

-- ## Levels (R420)

/-- What a reading makes of the bit of one level. -/
def levelStep (t : Option Int) (thr hyst : List Int) (j b : Nat) : Nat :=
  match t with
  | none => Num.setBit b j true
  | some v => if thr.getD j 0 ≤ v then Num.setBit b j true else if v < thr.getD j 0 - hyst.getD j 0 then Num.setBit b j false else b

theorem levelBits_eq (old : Nat) (t : Option Int) (thr hyst : List Int) :
    levelBits old t thr hyst = Num.forEach 3 (levelStep t thr hyst) old := by
  cases t <;> rfl

theorem levelStep_other (t : Option Int) (thr hyst : List Int) (i j b : Nat) (hi : i ≠ j) :
    (levelStep t thr hyst i b).testBit j = b.testBit j := by
  unfold levelStep
  repeat' split
  all_goals simp [Num.testBit_setBit, hi.symm]

/-- A level's bit after a reading: set at the threshold, cleared below the threshold minus the hysteresis, and kept between them. -/
theorem levelBits_testBit (old : Nat) (t : Int) (thr hyst : List Int) (j : Nat) (hj : j < 3) :
    (levelBits old (some t) thr hyst).testBit j =
      if thr.getD j 0 ≤ t then true else if t < thr.getD j 0 - hyst.getD j 0 then false else old.testBit j := by
  rw [levelBits_eq]
  refine Num.forEach_reaches (fun b : Nat => b.testBit j) _ 3 j _ old hj (fun i b hi => levelStep_other _ _ _ i j b hi) (fun b hb => ?_)
  simp only [levelStep]
  split
  · simp [Num.testBit_setBit]
  · split
    · simp [Num.testBit_setBit]
    · exact hb

/-- A broken sensor is above every level. -/
theorem levelOf_broken (old : Nat) (thr hyst : List Int) : levelOf (levelBits old none thr hyst) = 3 := by
  have top : (levelBits old none thr hyst).testBit 2 = true := by
    rw [levelBits_eq]
    exact Num.forEach_reaches (fun b : Nat => b.testBit 2) true 3 2 _ old (by decide)
      (fun i b hi => levelStep_other _ _ _ i 2 b hi) (fun b _ => by simp [levelStep, Num.testBit_setBit])
  simp only [levelOf, top, if_true]

-- ## On-die sensors (R417, R418)

theorem dieZone_leg (d : DieId) (hd : d.val ≠ 7) : dieZone d ≠ 6 := by
  unfold dieZone
  split <;> omega

/-- A code of 16 bits reads as the number it was made from. -/
theorem Num.signed_code16 (i : Int) (hl : -32768 ≤ i) (hh : i < 32768) : Num.signed 16 (Num.code 16 i) = i := by
  unfold Num.signed Num.code
  norm_num
  split <;> omega

theorem Num.code16_lt (i : Int) : Num.code 16 i < 65536 := by
  unfold Num.code
  norm_num
  omega

/-- A reading within range, of a sensor that is not broken, is shown limited (R418). -/
theorem Hw.sensorRead_good (h : Hw) (n : Nat) (t : Int) (hb : h.on (THERM_SENSOR.BROKEN n) = false) :
    h.sensorRead n (some t) = { ((h.wrB (THERM_SENSOR.BROKEN n) false).wrI (THERM_SENSOR.TEMP n) (tempLimit t)) with
      sensorGood := Tab.put h.sensorGood n 0 0 } := by
  simp [Hw.sensorRead, hb]

theorem Hw.rd_sensorGood (h : Hw) (g : List (Nat × Nat)) (f : Fld) : ({ h with sensorGood := g } : Hw).rd f = h.rd f := rfl

theorem Hw.sensorRead_shows (h : Hw) (n : Nat) (t : Int) (hb : h.on (THERM_SENSOR.BROKEN n) = false) (hl : -550 ≤ t) (hh : t ≤ 2000) :
    (h.sensorRead n (some t)).rdI (THERM_SENSOR.TEMP n) = t ∧ (h.sensorRead n (some t)).on (THERM_SENSOR.BROKEN n) = false := by
  have limited : tempLimit t = t := by unfold tempLimit Num.clamp; omega
  rw [h.sensorRead_good n t hb, limited]
  constructor
  · have shown : ((h.wrB (THERM_SENSOR.BROKEN n) false).wrI (THERM_SENSOR.TEMP n) t).rd (THERM_SENSOR.TEMP n) = Num.code 16 t :=
      (Hw.rd_wr _ _ _ (by decide : 15 < 32)).trans (Nat.mod_eq_of_lt (Num.code16_lt t))
    rw [Hw.rdI, Hw.rd_sensorGood, shown]
    exact Num.signed_code16 t (by omega) (by omega)
  · rw [Hw.on, Hw.rd_sensorGood, Hw.wrI, Hw.rd_wr_beside (h.wrB (THERM_SENSOR.BROKEN n) false) (THERM_SENSOR.TEMP n)
      (THERM_SENSOR.BROKEN n) _ rfl (.inr (by decide : 15 < 16))]
    exact Hw.on_wrB h (THERM_SENSOR.BROKEN n) false (by decide : 16 < 32) rfl

-- ## External inputs (R419)

theorem Hw.extTemp_off (h : Hw) (n v : Nat) (ht : h.rd (TEMP_CFG.TYPE n) = 0) : h.extTemp n v = (h.wr (TEMP_RAW.VOLTS n) v).extOff n :=
  if_pos ht

/-- An input outside 10 mV to 3.2 V is broken. -/
theorem Hw.extTemp_broken (h : Hw) (n v : Nat) (ht : h.rd (TEMP_CFG.TYPE n) ≠ 0) (hv : v < 100 ∨ 32000 < v) : h.extTemp n v =
    (let b := levelBits (Tab.get h.levels (16 + n) 0) none [] []
     (((({ h.wr (TEMP_RAW.VOLTS n) v with
       sensorGood := Tab.put h.sensorGood (128 + n) 0 0, levels := Tab.put h.levels (16 + n) b 0 }).wr
         (TEMP_STATUS.TEMP n) 0x7FFF).wrB (TEMP_STATUS.BROKEN n) true).wr (TEMP_STATUS.LEVEL n) 3).histUpdate (fun m => m == 0x40 + n)) := by
  have bad : (decide (32000 < v) || decide (v < 100)) = true := by simpa [or_comm] using hv
  simp only [Hw.extTemp, ht, if_false, bad, Bool.true_or, if_true, levelOf_broken]
  rfl

/-- A reading of the keep die also judges the write window. -/
theorem Hw.thermalReading_keep (h : Hw) (temps : List (Option Int)) : h.thermalReading 7 temps =
    (let x := (List.range (min 2 temps.length)).foldl (fun (y : Hw) i => y.sensorRead (76 + i) (temps.getD i none)) h
     let x := (x.zoneRead 6).histUpdate (fun n => n == 7 || n == 8)
     x.keepReading (x.rd (THERM_STATUS.TEMP 6)) (x.on (THERM_STATUS.BROKEN 6))) := by
  have keepZone : dieZone 7 = 6 := rfl
  have sensors : dieSensors 7 = (76, 2) := rfl
  simp only [Hw.thermalReading, keepZone, sensors, if_true, Nat.reduceAdd]

-- ## The statement

/-- Settles O38: a reading of a die is the readings of its sensors and of its zone, and an external reading goes by its type and range. -/
theorem thermalReadings : Obligations.ThermalReadings := by
  unfold Obligations.ThermalReadings
  refine ⟨?leg, ?keep, fun h n => Hw.reg_setReg h (THERM_SENSOR n) 0x17FFF#32,
    fun h n t hb hl hh => h.sensorRead_shows n t hb hl hh, ?levels, ?off, ?broken⟩
  case leg =>
    intro s d temps hl hd
    refine (s.onLive_live (fun h => h.thermalReading d temps) hl).trans (congrArg s.to ?_)
    simp only [Hw.thermalReading, dieZone_leg d hd, if_false]
    rfl
  case keep =>
    exact fun s temps hl => (s.onLive_live (fun h => h.thermalReading (7 : DieId).val temps) hl).trans
      (congrArg s.to (s.hw.thermalReading_keep temps))
  case levels =>
    intro old t thr hyst j hj
    rw [levelBits_testBit old t thr hyst j hj]
    refine ⟨fun enters => if_pos enters, fun below leaves => ?_, fun below stays => ?_⟩
    · rw [if_neg (Int.not_le.2 below), if_pos leaves]
    · rw [if_neg (Int.not_le.2 below), if_neg (Int.not_lt.2 stays)]
  case off => exact fun s n v hl ht => (s.onLive_live (fun h => h.extTemp n v) hl).trans (congrArg s.to (s.hw.extTemp_off n v ht))
  case broken =>
    exact fun s n v hl ht hv => (s.onLive_live (fun h => h.extTemp n v) hl).trans (congrArg s.to (s.hw.extTemp_broken n v ht hv))

end Sys2Proof.Machine
end

section
/-!
PROOF. Copies of safe pairs of the first channel, and copies without a partner.
-/
namespace Sys2Proof.Machine

/-- The sequence number that a copy carries (R450). -/
def pairSeq (d : List Byte) : Nat := (d.getD 0 0).toNat + 256 * (d.getD 1 0).toNat

-- ## A copy of a pair whose partition takes part

section
variable {h : Hw} {o p : Nat} {r : ObjRec} {second : Bool} {d : List Byte}
variable (owned : h.objOwner o = some p) (declared : (h.obj o).cfg = some r) (takes : (r.paired && r.isPrimary && !r.transmits && h.canPart p) = true)
include owned declared takes

theorem Hw.pairCopy_bad (bad : d.length ≠ r.bytes ∨ pairCrcOk r.ident d = false) :
    h.pairCopy o second d = h.incTop (SAFE_DATA_COUNT.CRC p) := by
  have fails : (d.length != r.bytes || !pairCrcOk r.ident d) = true := by simpa using bad
  simp only [Hw.pairCopy, owned, declared, takes, fails, Bool.not_true, Bool.false_eq_true, if_false, if_true]

variable (long : d.length = r.bytes) (good : pairCrcOk r.ident d = true) (first : (h.obj o).lastSeq = none)
include long good first

/-- A good copy that finds no partner waits. -/
theorem Hw.pairCopy_alone (empty : (h.obj o).copies = []) :
    h.pairCopy o second d = h.setObj o { h.obj o with copies := [⟨second, pairSeq d, 0, d⟩] } := by
  simp [Hw.pairCopy, Hw.updObj, pairSeq, owned, declared, takes, long, good, first, empty]

/-- A good copy whose partner waits within the window with the same bytes. -/
theorem Hw.pairCopy_same {age : Nat} (within : age ≤ r.window) (waits : (h.obj o).copies = [⟨!second, pairSeq d, age, d⟩]) :
    h.pairCopy o second d =
      ((h.setObj o { h.obj o with lastSeq := some (pairSeq d), copies := [] }).objStore o d).deliver p (0x1000 + o) ((d.getD 2 0).toNat % 4) := by
  unfold pairSeq at waits ⊢
  simp [Hw.pairCopy, Hw.pairAccept, Hw.updObj, owned, declared, takes, long, good, first, waits, within]

/-- A good copy whose partner waits within the window with other bytes. -/
theorem Hw.pairCopy_differs {age : Nat} {other : List Byte} (within : age ≤ r.window) (differ : other ≠ d)
    (waits : (h.obj o).copies = [⟨!second, pairSeq d, age, other⟩]) :
    h.pairCopy o second d = ((h.setObj o { h.obj o with copies := [] }).incTop (SAFE_DATA_COUNT.MISMATCH p)).safetyCause p 0x38 := by
  unfold pairSeq at waits
  simp [Hw.pairCopy, Hw.pairMismatch, Hw.updObj, owned, declared, takes, long, good, first, waits, within, differ]

end

-- ## Copies without a partner

/-- The one copy that waits has outlasted the window. -/
theorem Hw.pairSingle_old {h : Hw} {o p : Nat} {r : ObjRec} {c : PairCopy} (owned : h.objOwner o = some p)
    (declared : (h.obj o).cfg = some r) (waits : (h.obj o).copies = [c]) (old : r.window < c.age) :
    h.pairSingle o = (h.setObj o { h.obj o with copies := [] }).incTop (SAFE_DATA_COUNT.SINGLE p) := by
  have past : ¬ c.age ≤ r.window := by omega
  simp [Hw.pairSingle, Hw.updObj, owned, declared, waits, old, past]

/-- Settles O44: a copy of the first channel goes to its pair, which acts in the branch that the premises name. -/
theorem safePairs : Obligations.SafePairs := by
  unfold Obligations.SafePairs
  have takes {r : ObjRec} {b : Bool} (hp : r.paired = true) (hi : r.isPrimary = true) (ht : r.transmits = false) (hc : b = true) :
      (r.paired && r.isPrimary && !r.transmits && b) = true := by simp [hp, hi, ht, hc]
  have arrives (s : State) (o : ObjId) (d : List Byte) (hl : s.hw.live = true) :
      exec (.safePairCopy o false d) s = s.to (s.hw.pairCopy o false d) := s.onLive_live (fun h => h.pairArrives o false d) hl
  refine ⟨?bad, ?alone, ?same, ?differs, ?single⟩
  case bad =>
    exact fun s o d p r hl ho hc hp hi ht ha hb => (arrives s o d hl).trans (congrArg s.to (Hw.pairCopy_bad ho hc (takes hp hi ht ha) hb))
  case alone =>
    exact fun s o d p r hl ho hc hp hi ht ha hb hg hs hw => (arrives s o d hl).trans
      (congrArg s.to (Hw.pairCopy_alone ho hc (takes hp hi ht ha) hb hg hs hw))
  case same =>
    exact fun s o d p r age hl ho hc hp hi ht ha hb hg hs hn hw => (arrives s o d hl).trans
      (congrArg s.to (Hw.pairCopy_same ho hc (takes hp hi ht ha) hb hg hs hn hw))
  case differs =>
    exact fun s o d other p r age hl ho hc hp hi ht ha hb hg hs hn hd hw => (arrives s o d hl).trans
      (congrArg s.to (Hw.pairCopy_differs ho hc (takes hp hi ht ha) hb hg hs hn hd hw))
  case single =>
    exact fun s o p r c hl ho hc hw hn => (s.onLive_live (fun h => h.pairSingle o) hl).trans
      (congrArg s.to (Hw.pairSingle_old ho hc hw hn))

end Sys2Proof.Machine
end

section
/-!
PROOF. The debug session: challenge, nonce, response, verification and end.
-/
namespace Sys2Proof.Machine

-- ## The challenge (R466)

/-- A challenge that none of the refusals concerns begins. -/
theorem Hw.dbgChallenge_begins (h : Hw) (scope : Nat) (hs : h.dbgState ≠ 3) (hf : ∀ n, h.dbgSt.failedAt = some n → n + 800000 ≤ h.stepCount)
    (hp : scope < 16) (hk : h.on KS_STATE.SEALED = false) (ha : h.active scope = true) :
    h.dbgChallenge scope = (.ok, { (h.wr DBG_SESSION.STATE 1).wr DBG_SESSION.SCOPE 0 with
      dbgSt := { h.dbgSt with scope := scope, nonce := [], sig := [], expired := false } }) := by
  have inside : ¬ 16 ≤ scope := by omega
  cases failed : h.dbgSt.failedAt with
  | none => simp [Hw.dbgChallenge, failed, hs, hk, ha, inside]
  | some n =>
    have waited : ¬ h.stepCount < n + 800000 := Nat.not_lt.2 (hf n failed)
    simp [Hw.dbgChallenge, oneSecond, failed, hs, hk, ha, inside, waited]

theorem Hw.dbgNonce_ready (h : Hw) (hs : h.dbgState = 1) (hn : h.dbgSt.nonce = []) : h.dbgNonce = { h with
    fresh := h.fresh + 1
    dbgSt := { h.dbgSt with nonce := (List.range 32).map (fun i => Config.freeByte h.fresh i) } } :=
  if_pos (by simp [hs, hn])

theorem Hw.dbgResponse_taken (h : Hw) (sig : List Byte) (hs : h.dbgState = 1) : h.dbgResponse sig =
    { h.wr DBG_SESSION.STATE 2 with dbgSt := { h.dbgSt with sig := sig, respStatus := 1 } }.answer .ok 0 :=
  if_pos hs

/-- The end of a verification: the session is established, or the challenge ends. -/
theorem Hw.dbgVerify_done (h : Hw) (hs : h.dbgState = 2) : h.dbgVerify =
    if Config.signatureOk (h.ownerKey h.dbgSt.scope) h.dbgMessage h.dbgSt.sig then
      { (h.wr DBG_SESSION.STATE 3).wr DBG_SESSION.SCOPE h.dbgSt.scope with
        dbgSt := { h.dbgSt with respStatus := 0, lastAt := h.stepCount, pending := false } }.answer .ok 0
    else { (((h.incTop DBG_COUNT.AUTH_FAIL).inc (TS_AUTH_COUNT.COUNT h.dbgSt.scope)).wr DBG_SESSION.STATE 0).wr DBG_SESSION.SCOPE 0 with
      dbgSt := { h.dbgSt with respStatus := 4, failedAt := some h.stepCount, expired := false } }.answer .auth 0 := by
  simp only [Hw.dbgVerify, hs, if_true, Hw.dbgFail, Hw.wr_stepCount, Hw.inc_stepCount, Hw.incTop_stepCount, Hw.wr_dbgSt, Hw.inc_dbgSt,
    Hw.incTop_dbgSt, Status.code]

theorem Hw.dbgTimeout_expires (h : Hw) (hs : h.dbgState = 1) (hn : h.dbgSt.nonce ≠ []) : h.dbgTimeout =
    { h.wr DBG_SESSION.STATE 0 with dbgSt := { h.dbgSt with expired := true } } :=
  if_pos (by simp [hs, hn])

-- ## The end of a session (R468, R475)

/-- A halted block of a partition enters a safety stop with CAUSE 0. -/
def Hw.haltStops (h : Hw) (k : Nat) : Hw :=
  match h.owner k with
  | some p => (h.wr (SAFE_STATUS.CAUSE p) 0).askStop k 0 0
  | none => h

/-- What the end of a session makes of block k: its requests are dropped, and a halt ends in a safety stop. -/
def Hw.sessionEndsAt (h : Hw) (k : Nat) : Hw :=
  let h := h.updBlock k (fun b => { b with haltReq := false, freezeReq := false })
  if h.halted k then (h.haltStops k).updBlock k (fun b => { b with resumeReq := true, stepReq := false }) else h

theorem Hw.dbgEnd_session (h : Hw) (hs : h.dbgState = 3) : h.dbgEnd = Num.forEach 8 (fun k x => x.sessionEndsAt k)
    { (h.wr DBG_SESSION.STATE 0).wr DBG_SESSION.SCOPE 0 with dbgSt := { h.dbgSt with pending := false } } :=
  if_pos hs

/-- A partition's safety status lies apart from the session's registers. -/
theorem Hw.haltStops_rd (h : Hw) (k : Nat) (f : Fld) (hf : f.reg.addr % 0x40 ≠ 0x18) : (h.haltStops k).rd f = h.rd f := by
  unfold Hw.haltStops
  split
  · refine Hw.rd_wr_ne _ _ _ _ fun same => hf ?_
    rw [same]
    simp only [SAFE_STATUS.CAUSE, SAFE_STATUS]
    omega
  · rfl

theorem Hw.haltStops_dbgSt (h : Hw) (k : Nat) : (h.haltStops k).dbgSt = h.dbgSt := by
  unfold Hw.haltStops
  split <;> rfl

theorem Hw.haltStops_block_ne (h : Hw) (k j : Nat) (hj : j ≠ k) : (h.haltStops k).block j = h.block j := by
  unfold Hw.haltStops
  split
  · exact Hw.setBlock_block_ne _ _ _ _ hj
  · rfl

theorem Hw.sessionEndsAt_rd (h : Hw) (k : Nat) (f : Fld) (hf : f.reg.addr % 0x40 ≠ 0x18) : (h.sessionEndsAt k).rd f = h.rd f := by
  unfold Hw.sessionEndsAt
  extract_lets requests
  split
  · exact requests.haltStops_rd k f hf
  · rfl

theorem Hw.sessionEndsAt_dbgSt (h : Hw) (k : Nat) : (h.sessionEndsAt k).dbgSt = h.dbgSt := by
  unfold Hw.sessionEndsAt
  extract_lets requests
  split
  · exact requests.haltStops_dbgSt k
  · rfl

theorem Hw.sessionEndsAt_block_ne (h : Hw) (k j : Nat) (hj : j ≠ k) : (h.sessionEndsAt k).block j = h.block j := by
  have other (x : Hw) (b : Block) : (x.setBlock k b).block j = x.block j := Hw.setBlock_block_ne _ _ _ _ hj
  unfold Hw.sessionEndsAt
  extract_lets requests
  have dropped : requests.block j = h.block j := other _ _
  split
  · exact (other _ _).trans ((requests.haltStops_block_ne k j hj).trans dropped)
  · exact dropped

/-- A halted block is asked to resume. -/
theorem Hw.sessionEndsAt_halted (h : Hw) (k : Nat) (hh : h.halted k = true) :
    ((h.sessionEndsAt k).block k).resumeReq = true ∧ ((h.sessionEndsAt k).block k).stepReq = false := by
  unfold Hw.sessionEndsAt
  extract_lets requests
  rw [if_pos (show requests.halted k = true from hh)]
  simp only [Hw.updBlock, Hw.setBlock_block, and_self]

theorem Hw.dbgEnd_ends (h : Hw) (hs : h.dbgState = 3) : h.dbgEnd.dbgState = 0 ∧ h.dbgEnd.dbgSt.pending = false ∧
    ∀ k : BlockId, h.halted k = true → (h.dbgEnd.block k).resumeReq = true ∧ (h.dbgEnd.block k).stepReq = false := by
  rw [h.dbgEnd_session hs]
  generalize ended : ({ (h.wr DBG_SESSION.STATE 0).wr DBG_SESSION.SCOPE 0 with dbgSt := { h.dbgSt with pending := false } } : Hw) = e
  have state : e.dbgState = 0 := by
    subst ended
    exact (Hw.rd_wr_beside (h.wr DBG_SESSION.STATE 0) DBG_SESSION.SCOPE DBG_SESSION.STATE 0 rfl (.inl (by decide))).trans
      (Hw.rd_wr _ _ _ (by decide))
  have halts (k : Nat) : e.halted k = h.halted k := by
    subst ended
    refine congrArg (fun v => Nat.testBit v k) (Eq.trans ?_ (Hw.rd_wr_ne h DBG_SESSION.STATE DBG_HALT.HALTED 0 (by decide)))
    exact Hw.rd_wr_ne (h.wr DBG_SESSION.STATE 0) DBG_SESSION.SCOPE DBG_HALT.HALTED 0 (by decide)
  refine ⟨?_, ?_, fun k hk => ?_⟩
  · exact (Num.forEach_eq Hw.dbgState 8 _ e fun k x => x.sessionEndsAt_rd k DBG_SESSION.STATE (by decide)).trans state
  · rw [Num.forEach_eq Hw.dbgSt 8 _ e fun k x => x.sessionEndsAt_dbgSt k, ← ended]
  · have reached := Num.forEach_reaches (fun x : Hw => (x.halted k, (x.block k).resumeReq, (x.block k).stepReq)) (true, true, false) 8 k.val
      (fun j x => x.sessionEndsAt j) e k.isLt (fun i x hi => ?_) (fun x hx => ?_)
    · exact ⟨congrArg (fun v => v.2.1) reached, congrArg (fun v => v.2.2) reached⟩
    · have same : (x.sessionEndsAt i).halted k = x.halted k :=
        congrArg (fun v => Nat.testBit v k) (x.sessionEndsAt_rd i DBG_HALT.HALTED (by decide))
      simp only [same, x.sessionEndsAt_block_ne i k hi.symm]
    · have halted : x.halted k = true := (congrArg Prod.fst hx).trans ((halts k).trans hk)
      have same : (x.sessionEndsAt k).halted k = x.halted k :=
        congrArg (fun v => Nat.testBit v k) (x.sessionEndsAt_rd k DBG_HALT.HALTED (by decide))
      obtain ⟨resumes, steps⟩ := x.sessionEndsAt_halted k halted
      simp only [same, halted, resumes, steps]

/-- Settles O41: each command and each event acts in the state of the session that its clause names. -/
theorem debugSession : Obligations.DebugSession := by
  unfold Obligations.DebugSession
  have request (s : State) (hl : s.hw.live = true) : exec .dbgEndSession s =
      s.to (if s.hw.dbgState = 3 then s.hw.dbgEnd.answer .ok 0 else s.hw.answer .auth 0) :=
    s.onLive_live (fun h => if h.dbgState = 3 then h.dbgEnd.answer .ok 0 else h.answer .auth 0) hl
  refine ⟨?challenge, ?nonce, ?response, ?verify, ?timeout, ?ends, ?none, fun s hl => s.onLive_live Hw.dbgEnd hl,
    fun h hs => h.dbgEnd_ends hs⟩
  case challenge =>
    intro s scope hl hs hf hp hk ha
    simp only [exec, execDbgChallenge, s.onLive_live _ hl, s.hw.dbgChallenge_begins scope.toNat hs hf hp hk ha, Status.code]
  case nonce => exact fun s hl hs hn => (s.onLive_live Hw.dbgNonce hl).trans (congrArg s.to (s.hw.dbgNonce_ready hs hn))
  case response => exact fun s sig hl hs => (s.onLive_live (fun h => h.dbgResponse sig) hl).trans (congrArg s.to (s.hw.dbgResponse_taken sig hs))
  case verify => exact fun s hl hs => (s.onLive_live Hw.dbgVerify hl).trans (congrArg s.to (s.hw.dbgVerify_done hs))
  case timeout => exact fun s hl hs hn => (s.onLive_live Hw.dbgTimeout hl).trans (congrArg s.to (s.hw.dbgTimeout_expires hs hn))
  case ends => exact fun s hl hs => (request s hl).trans (congrArg s.to (if_pos hs))
  case none => exact fun s hl hs => (request s hl).trans (congrArg s.to (if_neg hs))

end Sys2Proof.Machine
end

section
/-!
PROOF. Message objects: OPEN, CLOSE, SEND, reception and the latch instant.
-/
set_option Elab.async false
namespace Sys2Proof.Machine

-- ## The command registers of the objects

/-- The row of OBJ_o_CTRL. -/
def objCtrlRow : RegRow := ⟨0x4001000C, [(0x80, 2048)], .objCtrl, 0x0#32, [⟨2, 2, .wo, .any⟩, ⟨1, 1, .wo, .any⟩, ⟨0, 0, .wo, .any⟩]⟩

theorem objCtrl_only : regRows.filter (fun r => r.hook == .objCtrl) = [objCtrlRow] := by decide +kernel

/-- No row but those of the objects' data words has an address of OBJ_o_CTRL for an o above 0. -/
theorem objCtrl_skipped : regRows.all (fun r => r.hook == .objCtrl ||
    (r.dims == [(0x80, 2048), (0x4, 16)] && r.base == 0x40010040) || r.skips 0x4001008C 0x80 2047) = true := by decide +kernel

/-- The data words of the objects lie apart from OBJ_o_CTRL. -/
theorem strideIdx_objData_ctrl (l : Nat) (hl : l < 2047) :
    strideIdx [(0x80, 2048), (0x4, 16)] (0x4001008C + l * 0x80 - 0x40010040) = none := by
  rw [show 0x4001008C + l * 0x80 - 0x40010040 = l * 0x80 + 0x4C by omega, strideIdx_entry _ _ _ _ _ (by omega) (by decide)]
  rfl

theorem regHit_objCtrl_succ (l : Nat) (hl : l < 2047) : regHit (0x4001008C + l * 0x80) = some ⟨objCtrlRow, [l + 1]⟩ := by
  have member : objCtrlRow ∈ regRows := (List.mem_filter.1 (objCtrl_only ▸ List.mem_singleton_self objCtrlRow)).1
  rw [regHit, if_neg (by omega)]
  refine hitIn_only regRows objCtrlRow _ _ member (fun r hr hne => ?_) (by simp only [objCtrlRow]; omega) ?_
  case refine_1 =>
    have hook : ¬ (r.hook == .objCtrl) = true := fun h => hne (List.mem_singleton.1 (objCtrl_only ▸ List.mem_filter.2 ⟨hr, h⟩))
    rcases Bool.or_eq_true_iff.1 (List.all_eq_true.1 objCtrl_skipped r hr) with row | skips
    case inl =>
      obtain ⟨dims, base⟩ := Bool.and_eq_true_iff.1 ((Bool.or_eq_true_iff.1 row).resolve_left hook)
      rw [beq_iff_eq] at dims base
      exact .inr (dims ▸ base ▸ strideIdx_objData_ctrl l hl)
    case inr => exact RegRow.not_hit_of_skips hl skips
  case refine_2 =>
    rw [show 0x4001008C + l * 0x80 - objCtrlRow.base = (l + 1) * 0x80 + 0 by simp only [objCtrlRow]; omega,
      show objCtrlRow.dims = [(0x80, 2048)] from rfl, strideIdx_entry _ _ _ _ _ (by omega) (by decide)]
    rfl

theorem objCtrl_command (o : ObjId) : isCommandReg (OBJ_CTRL o) .objCtrl [o] = true := by
  obtain ⟨o, ho⟩ := o
  cases o with
  | zero => exact (by decide +kernel : isCommandReg (OBJ_CTRL 0) .objCtrl [0] = true)
  | succ l =>
    have address : (OBJ_CTRL (l + 1)).addr = 0x4001008C + l * 0x80 := by simp only [OBJ_CTRL]; omega
    have aligned : (0x4001008C + l * 0x80) / 4 * 4 = 0x4001008C + l * 0x80 := by omega
    simp only [isCommandReg, address, aligned, regHit_objCtrl_succ l (by omega), decide_true, Bool.true_and, beq_self_eq_true]
    decide +kernel

/-- A write that the object accepts. -/
theorem State.regWrite_object (s : State) (q : Requester) (o : ObjId) (v : Word) (h : Hw) (ha : s.admits q (OBJ_CTRL o) v)
    (hu : s.hw.objCtrlWrite o v = (.ok, h)) : s.regWrite q (OBJ_CTRL o) v = s.wrote (OBJ_CTRL o) h :=
  s.regWrite_command q _ v .objCtrl [o.val] h (objCtrl_command o) (by decide)
    (fun x w hh hi => by simp only [Hw.unitWrite, hh, RegHit.ix, hi, List.getD_cons_zero, hu]) ha

section
variable {h : Hw} {o : Nat} {r : ObjRec} (declared : (h.obj o).cfg = some r) (sends : r.transmits = true)
include declared sends

theorem Hw.objCtrlWrite_open : h.objCtrlWrite o 1#32 = (.ok, h.wrB (OBJ_STATUS.OPEN o) true) := by
  simp [Hw.objCtrlWrite, declared, sends, Bits.get]

theorem Hw.objCtrlWrite_close : h.objCtrlWrite o 2#32 = (.ok, h.wrB (OBJ_STATUS.OPEN o) false) := by
  simp [Hw.objCtrlWrite, declared, sends, Bits.get]

theorem Hw.objCtrlWrite_send :
    h.objCtrlWrite o 4#32 = (.ok, (h.wrB (OBJ_STATUS.PENDING o) true).setObj o { h.obj o with pend := false }) := by
  simp [Hw.objCtrlWrite, Hw.updObj, declared, sends, Bits.get]

end

-- ## Reception (R482, R483)

theorem Hw.countFault_objs (h : Hw) (p code : Nat) : (h.countFault p code).objs = h.objs := by
  unfold Hw.countFault
  dsimp only
  repeat' split
  all_goals rfl

theorem Hw.record_objs (h : Hw) (code : Nat) : (h.record code).objs = h.objs :=
  (foldl_keeps Hw.objs _ _ _ fun x p => x.countFault_objs p code).trans rfl

theorem Hw.countFault_parts (h : Hw) (p code : Nat) : (h.countFault p code).parts = h.parts := by
  unfold Hw.countFault
  dsimp only
  repeat' split
  all_goals rfl

theorem Hw.record_parts (h : Hw) (code : Nat) : (h.record code).parts = h.parts :=
  (foldl_keeps Hw.parts _ _ _ fun x p => x.countFault_parts p code).trans rfl

/-- Fault confinement writes the channel's registers and the fault records alone. -/
theorem Hw.canConfine_objs (h : Hw) (n : Nat) : (h.canConfine n).objs = h.objs := by
  unfold Hw.canConfine
  dsimp only
  split
  · exact Hw.record_objs _ _
  · split <;> rfl

theorem Hw.canConfine_parts (h : Hw) (n : Nat) : (h.canConfine n).parts = h.parts := by
  unfold Hw.canConfine
  dsimp only
  split
  · exact Hw.record_parts _ _
  · split <;> rfl

theorem Hw.canConfine_rd (h : Hw) (n : Nat) (f : Fld) (hs : f.reg.addr ≠ (CAN_STATUS n).addr) (hf : f.reg.addr % 0x40 ≠ 0x14) :
    (h.canConfine n).rd f = h.rd f := by
  have state (v : Nat) : (h.wr (CAN_STATUS.STATE n) v).rd f = h.rd f := Hw.rd_wr_ne _ _ _ _ hs
  unfold Hw.canConfine
  dsimp only
  split
  · exact (Hw.record_rd _ _ _ hf).trans (state 4)
  · split
    · exact state 3
    · rfl

theorem Hw.canHeard_objs (h : Hw) (n : Nat) : (h.canHeard n).objs = h.objs := by
  unfold Hw.canHeard
  split
  · rfl
  · exact Hw.canConfine_objs _ _

theorem Hw.canHeard_parts (h : Hw) (n : Nat) : (h.canHeard n).parts = h.parts := by
  unfold Hw.canHeard
  split
  · rfl
  · exact Hw.canConfine_parts _ _

theorem Hw.canHeard_rd (h : Hw) (n : Nat) (f : Fld) (hs : f.reg.addr ≠ (CAN_STATUS n).addr) (he : f.reg.addr ≠ (CAN_ERR n).addr)
    (hf : f.reg.addr % 0x40 ≠ 0x14) : (h.canHeard n).rd f = h.rd f := by
  unfold Hw.canHeard
  split
  · rfl
  · exact (Hw.canConfine_rd _ n f hs hf).trans (Hw.rd_wr_ne _ _ _ _ he)

theorem Hw.objOwner_of_parts {h x : Hw} (hp : x.parts = h.parts) (o : Nat) : x.objOwner o = h.objOwner o := by
  have maps : x.mapOf = h.mapOf := funext fun p => by simp only [Hw.mapOf, Hw.part, hp]
  simp only [Hw.objOwner, maps]

theorem Hw.objOwner_lt {h : Hw} {o p : Nat} (ho : h.objOwner o = some p) : p < 16 :=
  List.mem_range.1 (List.mem_of_find?_eq_some ho)

theorem Hw.obj_of_objs {h x : Hw} (ho : x.objs = h.objs) (o : Nat) : x.obj o = h.obj o := by
  simp only [Hw.obj, ho]

theorem Hw.objMatching_of_objs {h x : Hw} (ho : x.objs = h.objs) (n : Nat) (f : CanFrame) : x.objMatching n f = h.objMatching n f := by
  simp only [Hw.objMatching, Hw.objsWhere, ho]

/-- The partitions' run states are the same in two states. -/
theorem Hw.canPart_of_rd {h x : Hw} {p : Nat} (hr : x.rd (PART_RUN.STATE p) = h.rd (PART_RUN.STATE p)) : x.canPart p = h.canPart p := by
  simp only [Hw.canPart, hr]

theorem Hw.objLive_of_parts {h x : Hw} (hp : x.parts = h.parts) (hr : ∀ p < 16, x.rd (PART_RUN.STATE p) = h.rd (PART_RUN.STATE p))
    (o : Nat) : x.objLive o = h.objLive o := by
  unfold Hw.objLive
  rw [Hw.objOwner_of_parts hp]
  cases owned : h.objOwner o with
  | none => rfl
  | some p => exact Hw.canPart_of_rd (hr p (Hw.objOwner_lt owned))

/-- The run states lie apart from the channels' registers. -/
theorem partRun_apart (n : ChanId) (p : Nat) (hp : p < 16) : (PART_RUN.STATE p).reg.addr ≠ (CAN_STATUS n).addr ∧
    (PART_RUN.STATE p).reg.addr ≠ (CAN_ERR n).addr ∧ (PART_RUN.STATE p).reg.addr % 0x40 ≠ 0x14 := by
  simp only [PART_RUN.STATE, PART_RUN, CAN_STATUS, CAN_ERR]
  omega

theorem Hw.canHeard_objLive (h : Hw) (n : ChanId) (o : Nat) : (h.canHeard n).objLive o = h.objLive o :=
  Hw.objLive_of_parts (h.canHeard_parts n) (fun p hp => by
    obtain ⟨status, err, records⟩ := partRun_apart n p hp
    exact h.canHeard_rd n _ status err records) o

section
variable {h : Hw} {n : ChanId} {f : CanFrame} {o : Nat} {r : ObjRec}
variable (hears : h.canHears n = true) (named : h.objMatching n f = some o) (declared : (h.obj o).cfg = some r)
include hears named declared

/-- A frame of the right length that matches a live object without a pair. -/
theorem Hw.canReceive_stored (long : f.data.length = r.bytes) (live : h.objLive o = true) (plain : r.paired = false) :
    h.canReceive n f = (h.canHeard n).objStore o f.data := by
  have objs := h.canHeard_objs n
  simp only [Hw.canReceive, hears, Hw.objMatching_of_objs objs, named, Hw.obj_of_objs objs, declared, h.canHeard_objLive, live, long, plain,
    bne_self_eq_false, Bool.not_true, Bool.or_self, Bool.false_eq_true, if_false]

theorem Hw.canReceive_discarded (long : f.data.length ≠ r.bytes) :
    h.canReceive n f = (h.canHeard n).incTop (CAN_COUNT_A.DISCARDED n) := by
  have objs := h.canHeard_objs n
  simp only [Hw.canReceive, hears, Hw.objMatching_of_objs objs, named, Hw.obj_of_objs objs, declared, bne_iff_ne.2 long,
    Bool.not_true, Bool.true_or, Bool.false_eq_true, if_false, if_true]

end

-- ## Fields beside a write, and counters

theorem Hw.on_wrB_beside (h : Hw) (f g : Fld) (b : Bool) (hr : g.reg = f.reg) (hb : g.hi < f.lo ∨ f.hi < g.lo) :
    (h.wrB f b).on g = h.on g := by
  simp only [Hw.on, Hw.wrB, Hw.rd_wr_beside h f g _ hr hb]

/-- A counter rises by one up to its largest value. -/
theorem Hw.rd_incTop_min (h : Hw) (f : Fld) (hf : f.hi < 32) :
    (h.incTop f).rd f = min (h.rd f + 1) (2 ^ (f.hi + 1 - f.lo) - 1) := by
  have bound := h.rd_lt f
  rw [Hw.incTop, Hw.rd_wr _ _ _ hf]
  unfold Num.incTo
  split
  · rw [Nat.mod_eq_of_lt (by omega)]
    omega
  · rw [Nat.mod_eq_of_lt (by omega)]
    omega

-- ## Latching one object (R492 to R494)

theorem Hw.latchReceive_fresh (h : Hw) (p o : Nat) (r : ObjRec) (plain : r.paired = false) (fresh : (h.obj o).fresh = true) :
    h.latchReceive p o r = ((((h.setObj o { h.obj o with fresh := false }).wr (OBJ_STATUS.AGE o) 0).wrB (OBJ_STATUS.STALE o) false).wrB
      (OBJ_STATUS.EXPIRED o) false).feedInputs p o (some ((((h.setObj o { h.obj o with fresh := false }).wr (OBJ_STATUS.AGE o) 0).wrB
        (OBJ_STATUS.STALE o) false).wrB (OBJ_STATUS.EXPIRED o) false |>.objBytes o r.bytes)) := by
  simp only [Hw.latchReceive, Hw.updObj, fresh, plain, if_true, Bool.false_and, Bool.false_eq_true, if_false]

theorem Hw.latchTransmit_idle (h : Hw) (o : Nat) (r : ObjRec) (idle : h.on (OBJ_STATUS.PENDING o) = false) :
    h.latchTransmit o r = if h.on (OBJ_STATUS.OPEN o) then h.wrB (OBJ_STATUS.SKIPPED o) true
      else h.setObj o { h.obj o with snap := some (h.objBytes o r.bytes) } := by
  unfold Hw.latchTransmit
  extract_lets bytes latched
  have beside : (h.wrB (OBJ_STATUS.SKIPPED o) true).on (OBJ_STATUS.PENDING o) = h.on (OBJ_STATUS.PENDING o) :=
    Hw.on_wrB_beside _ _ _ _ rfl (.inr (by decide : 6 < 8))
  have pending : latched.on (OBJ_STATUS.PENDING o) = false := by
    subst latched
    split
    · exact beside.trans idle
    · exact idle
  rw [if_neg (by rw [pending]; exact Bool.false_ne_true)]
  rfl

/-- An object without a new frame ages, and is STALE below its limit already. -/
theorem Hw.latchReceive_ages (h : Hw) (p o : Nat) (r : ObjRec) (fresh : (h.obj o).fresh = false)
    (young : min (h.rd (OBJ_STATUS.AGE o) + 1) 255 < r.stale) : h.latchReceive p o r =
      ((h.setObj o { h.obj o with fresh := false }).incTop (OBJ_STATUS.AGE o)).wrB (OBJ_STATUS.STALE o) true := by
  generalize seen : h.setObj o { h.obj o with fresh := false } = x
  have before : x.rd (OBJ_STATUS.AGE o) = h.rd (OBJ_STATUS.AGE o) := seen ▸ rfl
  have age : ((x.incTop (OBJ_STATUS.AGE o)).wrB (OBJ_STATUS.STALE o) true).rd (OBJ_STATUS.AGE o) = min (h.rd (OBJ_STATUS.AGE o) + 1) 255 :=
    (Hw.rd_wr_beside (x.incTop (OBJ_STATUS.AGE o)) (OBJ_STATUS.STALE o) (OBJ_STATUS.AGE o) 1 rfl (.inr (by decide : 3 < 24))).trans
      (before ▸ x.rd_incTop_min (OBJ_STATUS.AGE o) (by decide : 31 < 32))
  simp only [Hw.latchReceive, Hw.updObj, fresh, seen, age, Nat.not_le.2 young, decide_false, Bool.false_and, Bool.false_eq_true, if_false]

-- ## The objects of a channel over the latch instant

theorem Hw.objsWhere_eq_nil (h : Hw) (f : ObjRec → Bool) :
    h.objsWhere f = [] ↔ ∀ e ∈ h.objs, ∀ r, e.2.cfg = some r → f r = false := by
  simp only [Hw.objsWhere, List.filterMap_eq_nil_iff]
  refine forall₂_congr fun e _ => ?_
  cases e.2.cfg with
  | none => simp
  | some r => simp

theorem Tab.mem_of_get_ne {α : Type} (t : List (Nat × α)) (k : Nat) (d : α) (h : Tab.get t k d ≠ d) : (k, Tab.get t k d) ∈ t := by
  induction t with
  | nil => exact absurd rfl h
  | cons e t ih =>
    obtain ⟨j, v⟩ := e
    simp only [Tab.get] at h ⊢
    by_cases same : j = k
    · simp [same]
    · rw [if_neg same] at h ⊢
      exact List.mem_cons_of_mem _ (ih h)

/-- A new value of an object with the same declaration adds no object to a group that was empty. -/
theorem Hw.objsWhere_setObj_nil (h : Hw) (f : ObjRec → Bool) (o : Nat) (x : Obj) (same : x.cfg = (h.obj o).cfg)
    (empty : h.objsWhere f = []) : (h.setObj o x).objsWhere f = [] := by
  rw [Hw.objsWhere_eq_nil] at empty ⊢
  intro e he r hr
  simp only [Hw.setObj, Tab.put] at he
  split at he
  · exact empty e ((Tab.mem_del _ _ _).1 he).1 r hr
  · rcases (Tab.mem_ins _ _ _ _).1 he with rfl | old
    · have there : h.obj o ≠ {} := fun none => by
        rw [same, none] at hr
        cases hr
      exact empty _ (Tab.mem_of_get_ne _ _ _ there) r (same ▸ hr)
    · exact empty e ((Tab.mem_del _ _ _).1 old).1 r hr

theorem Hw.feedInputs_objs (h : Hw) (p o : Nat) (data : Option (List Byte)) : (h.feedInputs p o data).objs = h.objs :=
  foldl_keeps Hw.objs _ _ _ fun _ _ => foldl_keeps Hw.objs _ _ _ fun _ _ => rfl

@[simp] theorem Hw.wr_objs (h : Hw) (f : Fld) (v : Nat) : (h.wr f v).objs = h.objs := rfl

@[simp] theorem Hw.setPart_objs (h : Hw) (p : Nat) (x : Part) : (h.setPart p x).objs = h.objs := rfl

@[simp] theorem Hw.setBlock_objs (h : Hw) (k : Nat) (b : Block) : (h.setBlock k b).objs = h.objs := rfl

theorem Hw.safetyCause_objs (h : Hw) (p cause : Nat) : (h.safetyCause p cause).objs = h.objs := by
  unfold Hw.safetyCause
  extract_lets code recorded
  refine (foldl_keeps Hw.objs _ _ recorded ?_).trans (h.record_objs code)
  exact fun _ _ => rfl

theorem Hw.fenceThreads_objs (h : Hw) (k : Nat) : (h.fenceThreads k).objs = h.objs :=
  Num.forEach_eq Hw.objs 8 _ h fun _ _ => rfl

theorem Hw.syncUvlo_objs (h : Hw) : h.syncUvlo.objs = h.objs :=
  Num.forEach_eq Hw.objs 4 _ h fun _ _ => rfl

theorem Hw.partReact_objs (h : Hw) (p code : Nat) : (h.partReact p code).objs = h.objs := by
  unfold Hw.partReact
  split
  · rw [Hw.syncUvlo_objs, foldl_keeps Hw.objs _ _ _ fun x k => (Hw.setBlock_objs _ k _).trans (x.fenceThreads_objs k)]
    simp only [Hw.setPart_objs, Hw.wr_objs]
  · rfl

theorem Hw.objStale_objs (h : Hw) (p o : Nat) (pair : Bool) : (h.objStale p o pair).objs = h.objs := by
  unfold Hw.objStale
  extract_lets expired
  split
  · exact Hw.safetyCause_objs _ _ _
  · exact (Hw.partReact_objs _ _ _).trans ((Hw.record_objs _ _).trans (Hw.feedInputs_objs _ _ _ _))

theorem Hw.latchReceive_objs (h : Hw) (p o : Nat) (r : ObjRec) :
    (h.latchReceive p o r).objs = (h.setObj o { h.obj o with fresh := false }).objs := by
  unfold Hw.latchReceive Hw.updObj
  extract_lets fresh seen shown aged
  split
  · split
    · rfl
    · exact Hw.feedInputs_objs _ _ _ _
  · split
    · exact Hw.objStale_objs _ _ _ _
    · rfl

theorem Hw.latchReceive_objsWhere_nil (h : Hw) (p o : Nat) (r : ObjRec) (f : ObjRec → Bool) (empty : h.objsWhere f = []) :
    (h.latchReceive p o r).objsWhere f = [] := by
  rw [Hw.objsWhere, h.latchReceive_objs]
  exact h.objsWhere_setObj_nil f o { h.obj o with fresh := false } rfl empty

/-- The state in which the objects of channel n are latched. -/
def Hw.latching (h : Hw) (n : Nat) : Hw :=
  (h.setChan n { h.chan n with latched := true }).wr (CAN_STATUS.COLUMN n) (h.canCfg n).latchColumn

theorem Hw.latching_partRun (h : Hw) (n : ChanId) (p : Nat) (hp : p < 16) :
    (h.latching n).rd (PART_RUN.STATE p) = h.rd (PART_RUN.STATE p) :=
  Hw.rd_wr_ne (h.setChan n _) _ _ _ (partRun_apart n p hp).1

theorem Hw.latching_canPart (h : Hw) (n : ChanId) (p : Nat) (hp : p < 16) (active : h.active p = true) :
    (h.latching n).canPart p = true := by
  rw [Hw.canPart_of_rd (h.latching_partRun n p hp), Hw.canPart]
  exact Bool.or_eq_true_iff.2 (.inl active)

section
variable {h : Hw} {n : ChanId} {o : Nat} {r : ObjRec} (on : (h.chan n).on = true) (once : (h.chan n).latched = false)
include on once

/-- The one live object of the channel receives. -/
theorem Hw.latchInstant_receive {p : Nat} (receives : h.objsWhere (fun r => r.chan == n.val && !r.transmits) = [o])
    (none : h.objsWhere (fun r => r.chan == n.val && r.transmits) = []) (declared : (h.obj o).cfg = some r)
    (owned : h.objOwner o = some p) (active : h.active p = true) : h.latchInstant n = (h.latching n).latchReceive p o r := by
  have one : (h.latching n).objsWhere (fun r => r.chan == n.val && !r.transmits) = [o] := receives
  have takes := h.latching_canPart n p (Hw.objOwner_lt owned) active
  have owner : (h.latching n).objOwner o = some p := owned
  have cfg : ((h.latching n).obj o).cfg = some r := declared
  have rest := (h.latching n).latchReceive_objsWhere_nil p o r (fun r => r.chan == n.val && r.transmits) none
  unfold Hw.latchInstant
  rw [if_neg (by simp [on, once])]
  extract_lets latch each received
  have first : latch = h.latching n := rfl
  simp only [received, each, first, one, List.foldl_cons, List.foldl_nil, cfg, owner, takes, if_true, rest]

/-- The one live object of the channel transmits. -/
theorem Hw.latchInstant_transmit (none : h.objsWhere (fun r => r.chan == n.val && !r.transmits) = [])
    (transmits : h.objsWhere (fun r => r.chan == n.val && r.transmits) = [o]) (declared : (h.obj o).cfg = some r)
    (live : h.objLive o = true) : h.latchInstant n = (h.latching n).latchTransmit o r := by
  have empty : (h.latching n).objsWhere (fun r => r.chan == n.val && !r.transmits) = [] := none
  have one : (h.latching n).objsWhere (fun r => r.chan == n.val && r.transmits) = [o] := transmits
  have cfg : ((h.latching n).obj o).cfg = some r := declared
  have takes : (h.latching n).objLive o = true := (Hw.objLive_of_parts (h := h) (x := h.latching n) rfl (h.latching_partRun n) o).trans live
  unfold Hw.latchInstant
  rw [if_neg (by simp [on, once])]
  extract_lets latch each received
  have first : latch = h.latching n := rfl
  simp only [received, each, first, empty, one, List.foldl_cons, List.foldl_nil, cfg, takes, if_true]

end

/-- Settles O43: the commands by the object's command register, a frame and the latch instant by the object that they concern. -/
theorem canObjects : Obligations.CanObjects := by
  unfold Obligations.CanObjects
  refine ⟨?opens, ?closes, ?sends, ?stored, ?discarded, ?receives, ?transmits, ?fresh, ?ages, ?idle⟩
  case opens => exact fun s q o r ha hc ht => s.regWrite_object q o _ _ ha (Hw.objCtrlWrite_open hc ht)
  case closes => exact fun s q o r ha hc ht => s.regWrite_object q o _ _ ha (Hw.objCtrlWrite_close hc ht)
  case sends => exact fun s q o r ha hc ht => s.regWrite_object q o _ _ ha (Hw.objCtrlWrite_send hc ht)
  case stored =>
    exact fun s n f ph o r hl hh hm hc hd ho hp => (s.onLive_live (fun h => (h.atPhase ph).canReceive n f) hl).trans
      (congrArg s.to (Hw.canReceive_stored (h := s.hw.atPhase ph) hh hm hc hd ho hp))
  case discarded =>
    exact fun s n f ph o r hl hh hm hc hd => (s.onLive_live (fun h => (h.atPhase ph).canReceive n f) hl).trans
      (congrArg s.to (Hw.canReceive_discarded (h := s.hw.atPhase ph) hh hm hc hd))
  case receives =>
    exact fun s n o p r hl hn hh hr ht hc ho ha => (s.onLive_live (fun h => h.latchInstant n) hl).trans
      (congrArg s.to (Hw.latchInstant_receive hn hh hr ht hc ho ha))
  case transmits =>
    exact fun s n o r hl hn hh hr ht hc ho => (s.onLive_live (fun h => h.latchInstant n) hl).trans
      (congrArg s.to (Hw.latchInstant_transmit hn hh hr ht hc ho))
  case fresh => exact fun h p o r hp hf => h.latchReceive_fresh p o r hp hf
  case ages => exact fun h p o r hf hs => h.latchReceive_ages p o r hf hs
  case idle => exact fun h o r hp => h.latchTransmit_idle o r hp

end Sys2Proof.Machine
end

section
/-!
PROOF. The CAN controllers: bus errors, bus off, dominance, rejoining, and START, STOP and RECOVER.
-/
set_option Elab.async false
namespace Sys2Proof.Machine

-- ## The control register of a controller

theorem canCtrl_command (n : ChanId) : isCommandReg (CAN_CTRL n) .canCtrl [n] = true := by
  revert n
  decide +kernel

/-- A write that the controller accepts. -/
theorem State.regWrite_controller (s : State) (q : Requester) (n : ChanId) (v : Word) (h : Hw) (ha : s.admits q (CAN_CTRL n) v)
    (hu : s.hw.canCtrlWrite n v = (.ok, h)) : s.regWrite q (CAN_CTRL n) v = s.wrote (CAN_CTRL n) h :=
  s.regWrite_command q _ v .canCtrl [n.val] h (canCtrl_command n) (by decide)
    (fun x w hh hi => by simp only [Hw.unitWrite, hh, RegHit.ix, hi, List.getD_cons_zero, hu]) ha

theorem Hw.canCtrlWrite_start (h : Hw) (n : Nat) (off : h.canState n = 0) (enabled : (h.canCfg n).flags.testBit 0 = true)
    (free : (h.chan n).dominant = false) : h.canCtrlWrite n 0x4C2A0001#32 = (.ok, h.wr (CAN_STATUS.STATE n) 1) := by
  have starts : h.canOn n = h.wr (CAN_STATUS.STATE n) 1 := if_pos (by simp only [off, enabled, free]; rfl)
  simp [Hw.canCtrlWrite, starts, Bits.get]

theorem Hw.canCtrlWrite_stop (h : Hw) (n : Nat) (idle : (h.chan n).onBus = none) : h.canCtrlWrite n 0x4C2A0002#32 =
    (.ok, (h.setChan n { h.chan n with refPend := false, dominant := false, recovering := false }).wr (CAN_STATUS.STATE n) 0) := by
  simp [Hw.canCtrlWrite, Hw.updChan, idle, Bits.get]

theorem Hw.canCtrlWrite_recover (h : Hw) (n : Nat) (off : h.canState n = 5) (manual : h.canAuto n = false) :
    h.canCtrlWrite n 0x4C2A0004#32 = (.ok, h.setChan n { h.chan n with recovering := true }) := by
  simp [Hw.canCtrlWrite, Hw.updChan, off, manual, Bits.get]

-- ## Leaving the bus (R479, R497)

/-- A frame that is dropped leaves the channel's time setting, its matrix and every register but the objects' states. -/
theorem Hw.dropFrame_chan (h : Hw) (n : Nat) : (h.dropFrame n).chan n = { h.chan n with onBus := none, refPend := false } := by
  unfold Hw.dropFrame Hw.updChan
  extract_lets marked
  have same : marked.chan n = h.chan n := by
    subst marked
    split
    · split <;> rfl
    · rfl
  rw [Hw.setChan_chan, same]

theorem Hw.dropFrame_rd (h : Hw) (n : Nat) (f : Fld) (hf : f.reg.addr < 0x40010008) : (h.dropFrame n).rd f = h.rd f := by
  have apart (o : Nat) : (h.wrB (OBJ_STATUS.NOT_SENT o) true).rd f = h.rd f := by
    refine Hw.rd_wr_ne _ _ _ _ ?_
    simp only [OBJ_STATUS.NOT_SENT, OBJ_STATUS]
    omega
  unfold Hw.dropFrame Hw.updChan
  rw [Hw.setChan_rd]
  split
  · split
    · exact apart _
    · rfl
  · rfl

theorem Hw.busOff_leaves (h : Hw) (n : ChanId) (hears : h.canHears n = true) (sends : h.canState n ≠ 6)
    (errors : 255 < h.rd (CAN_ERR.TEC n)) : h.busOff n =
      (let x := ((h.dropFrame n).wr (CAN_STATUS.STATE n) 5).incTop (CAN_COUNT_B.BUS_OFFS n)
       (x.setChan n { x.chan n with recovering := h.canAuto n, wantStop := false }).record (faultCode 5 n 1)) := by
  have auto : (((h.dropFrame n).wr (CAN_STATUS.STATE n) 5).incTop (CAN_COUNT_B.BUS_OFFS n)).canAuto n = h.canAuto n := by
    have written : (((h.dropFrame n).wr (CAN_STATUS.STATE n) 5).incTop (CAN_COUNT_B.BUS_OFFS n)).rd (CAN_TIME.AUTO_RECOVER n) =
        h.rd (CAN_TIME.AUTO_RECOVER n) := by
      refine (Hw.rd_wr_ne _ _ _ _ (by simp [CAN_TIME.AUTO_RECOVER, CAN_TIME, CAN_COUNT_B.BUS_OFFS, CAN_COUNT_B])).trans ?_
      refine (Hw.rd_wr_ne _ _ _ _ (by simp [CAN_TIME.AUTO_RECOVER, CAN_TIME, CAN_STATUS.STATE, CAN_STATUS])).trans ?_
      refine h.dropFrame_rd n _ ?_
      simp only [CAN_TIME.AUTO_RECOVER, CAN_TIME]
      omega
    simp only [Hw.canAuto, Hw.on, written, Hw.incTop_chan, Hw.wr_chan, h.dropFrame_chan]
  have leaves : (h.canHears n && h.canState n != 6 && decide (255 < h.rd (CAN_ERR.TEC n))) = true := by simp [hears, sends, errors]
  simp only [Hw.busOff, leaves, if_true, Hw.updChan, auto]

/-- Settles O46: each event and each command takes the branch of its controller that the premises name. -/
theorem canControllers : Obligations.CanControllers := by
  unfold Obligations.CanControllers
  refine ⟨?error, ?off, ?frame, ?recovery, ?dominant, ?rejoin, ?start, ?stop, ?recover⟩
  case error =>
    exact fun s n hl hh hr => (s.onLive_live (fun h => h.canBusError n) hl).trans (congrArg s.to (if_pos (by simp [hh, hr])))
  case off =>
    exact fun s n hl hh hs ht => (s.onLive_live (fun h => h.busOff n) hl).trans (congrArg s.to (s.hw.busOff_leaves n hh hs ht))
  case frame => exact fun h n => ⟨congrArg CanCh.onBus (h.dropFrame_chan n), rfl⟩
  case recovery =>
    exact fun s n hl hs hr => (s.onLive_live (fun h => h.busOffRecovery n) hl).trans (congrArg s.to (if_pos (by simp [hs, hr])))
  case dominant =>
    exact fun s n hl hs => (s.onLive_live (fun h => h.busDominant n) hl).trans (congrArg s.to (if_pos hs))
  case rejoin =>
    intro s n hl hs ho
    refine (s.onLive_live (fun h => h.rejoinComplete n) hl).trans (congrArg s.to ?_)
    simp [Hw.rejoinComplete, Hw.updChan, hs, ho]
  case start => exact fun s q n ha hs he hd => s.regWrite_controller q n _ _ ha (s.hw.canCtrlWrite_start n hs he hd)
  case stop => exact fun s q n ha hb => s.regWrite_controller q n _ _ ha (s.hw.canCtrlWrite_stop n hb)
  case recover => exact fun s q n ha hs hr => s.regWrite_controller q n _ _ ha (s.hw.canCtrlWrite_recover n hs hr)

end Sys2Proof.Machine
end

section
/-!
PROOF. Sending on a CAN channel: slots and windows, the ends of transmissions, basic cycles and reference frames.
-/
set_option Elab.async false
namespace Sys2Proof.Machine

-- ## A column that begins (R488, R489)

theorem Hw.slotsAt_of_parts {h x : Hw} (hp : x.parts = h.parts) (hr : ∀ p < 16, x.rd (PART_RUN.STATE p) = h.rd (PART_RUN.STATE p))
    (n cycle column : Nat) : x.slotsAt n cycle column = h.slotsAt n cycle column := by
  unfold Hw.slotsAt
  refine List.flatMap_congr fun p member => ?_
  rw [Hw.canPart_of_rd (hr p (List.mem_range.1 member)), show x.part p = h.part p by simp only [Hw.part, hp]]

/-- A column that is shown changes no slot record, no state and no object. -/
theorem Hw.showColumn_slotsAt (h : Hw) (n : ChanId) (col cycle column : Nat) :
    (h.wr (CAN_STATUS.COLUMN n) col).slotsAt n cycle column = h.slotsAt n cycle column :=
  Hw.slotsAt_of_parts (h := h) (x := h.wr (CAN_STATUS.COLUMN n) col) rfl (fun p hp => Hw.rd_wr_ne _ _ _ _ (partRun_apart n p hp).1) _ _ _

theorem Hw.showColumn_cycle (h : Hw) (n col : Nat) :
    (h.wr (CAN_STATUS.COLUMN n) col).rd (CAN_STATUS.CYCLE n) = h.rd (CAN_STATUS.CYCLE n) :=
  Hw.rd_wr_beside _ _ _ _ rfl (.inr (by decide : 17 < 18))

theorem Hw.showColumn_canSends (h : Hw) (n col : Nat) : (h.wr (CAN_STATUS.COLUMN n) col).canSends n = h.canSends n := by
  have state : (h.wr (CAN_STATUS.COLUMN n) col).canState n = h.canState n := Hw.rd_wr_beside _ _ _ _ rfl (.inl (by decide : 2 < 12))
  simp only [Hw.canSends, state]

theorem Hw.showColumn_pending (h : Hw) (n : ChanId) (col o : Nat) :
    (h.wr (CAN_STATUS.COLUMN n) col).on (OBJ_STATUS.PENDING o) = h.on (OBJ_STATUS.PENDING o) := by
  have apart : (OBJ_STATUS.PENDING o).reg.addr ≠ (CAN_STATUS.COLUMN n).reg.addr := by
    simp only [OBJ_STATUS.PENDING, OBJ_STATUS, CAN_STATUS.COLUMN, CAN_STATUS]
    omega
  simp only [Hw.on, Hw.rd_wr_ne _ _ _ _ apart]

/-- An exclusive slot of an object with a frame: it is sent where the bus is idle and it fits. -/
theorem Hw.exclusiveSlot_sends (h : Hw) (n : ChanId) (col : Fin 64) (wait : Nat) (r : SlotRec) (f : CanFrame) (on : (h.chan n).on = true)
    (slot : (h.slotsAt n (h.rd (CAN_STATUS.CYCLE n)) col).find? (fun x => x.kind == 1) = some r) (free : h.canRestricted n = false)
    (sends : h.canSends n = true) (frame : h.objFrame r.obj = some f) : h.exclusiveSlot n col wait =
      (let x := h.wr (CAN_STATUS.COLUMN n) col.val
       if (h.chan n).onBus = none ∧ wait + h.frameBits n f ≤ (h.canCfg n).columnBits then
         (x.fixPair r.obj).setChan n { (x.fixPair r.obj).chan n with onBus := some ⟨r.obj, f, true⟩ }
       else (x.wrB (OBJ_STATUS.NOT_SENT r.obj) true).incTop (CAN_COUNT_C.LATE n)) := by
  have restricted : (h.wr (CAN_STATUS.COLUMN n) col).canRestricted n = false := free
  have bytes : (h.wr (CAN_STATUS.COLUMN n) col).objFrame r.obj = some f := frame
  have bits : (h.wr (CAN_STATUS.COLUMN n) col).frameBits n f = h.frameBits n f := rfl
  have cfg : (h.wr (CAN_STATUS.COLUMN n) col).canCfg n = h.canCfg n := rfl
  simp only [Hw.exclusiveSlot, on, Bool.not_true, Bool.false_eq_true, if_false, h.showColumn_cycle, h.showColumn_slotsAt, slot, restricted,
    h.showColumn_canSends, sends, bytes, bits, cfg, Hw.wr_chan, Hw.updChan, Bool.and_eq_true, decide_eq_true_eq, Option.isNone_iff_eq_none]

section
variable {h : Hw} {n : ChanId} {col : Fin 64} {wait : Nat} {f : CanFrame} (on : (h.chan n).on = true)
variable (free : h.canRestricted n = false) (sends : h.canSends n = true) (idle : (h.chan n).onBus = none)
include on free sends idle

/-- A window with one pending object: it is offered where it fits, and without it no service frame waits. -/
theorem Hw.arbitratingWindow_object {r : SlotRec} (slots : h.slotsAt n (h.rd (CAN_STATUS.CYCLE n)) col = [r]) (kind : r.kind = 2)
    (pending : h.on (OBJ_STATUS.PENDING r.obj) = true) (due : (h.obj r.obj).pend = true) (frame : h.objFrame r.obj = some f)
    (none : (h.chan n).service = []) : h.arbitratingWindow n col wait =
      (let x := h.wr (CAN_STATUS.COLUMN n) col.val
       if wait + h.frameBits n f ≤ (h.canCfg n).columnBits then
         (x.fixPair r.obj).setChan n { (x.fixPair r.obj).chan n with onBus := some ⟨r.obj, f, false⟩ }
       else x) := by
  have restricted : (h.wr (CAN_STATUS.COLUMN n) col).canRestricted n = false := free
  have bytes : (h.wr (CAN_STATUS.COLUMN n) col).objFrame r.obj = some f := frame
  have bits : (h.wr (CAN_STATUS.COLUMN n) col).frameBits n f = h.frameBits n f := rfl
  have cfg : (h.wr (CAN_STATUS.COLUMN n) col).canCfg n = h.canCfg n := rfl
  by_cases fits : wait + h.frameBits n f ≤ (h.canCfg n).columnBits
  · simp [Hw.arbitratingWindow, Hw.updChan, Hw.lowestIdent, on, slots, kind, restricted, h.showColumn_canSends, sends, idle,
      h.showColumn_pending, pending, due, bytes, bits, cfg, fits]
  · simp [Hw.arbitratingWindow, Hw.lowestIdent, on, slots, kind, restricted, h.showColumn_canSends, sends, idle,
      h.showColumn_pending, pending, due, bytes, bits, cfg, fits, none]

/-- A cell without slots carries the next service frame where it fits. -/
theorem Hw.arbitratingWindow_service {rest : List CanFrame} (slots : h.slotsAt n (h.rd (CAN_STATUS.CYCLE n)) col = [])
    (service : (h.chan n).service = f :: rest) : h.arbitratingWindow n col wait =
      (let x := h.wr (CAN_STATUS.COLUMN n) col.val
       if wait + h.frameBits n f ≤ (h.canCfg n).columnBits then
         x.setChan n { h.chan n with onBus := some ⟨65536, f, false⟩, service := rest }
       else x) := by
  have restricted : (h.wr (CAN_STATUS.COLUMN n) col).canRestricted n = false := free
  have bits : (h.wr (CAN_STATUS.COLUMN n) col).frameBits n f = h.frameBits n f := rfl
  have cfg : (h.wr (CAN_STATUS.COLUMN n) col).canCfg n = h.canCfg n := rfl
  simp [Hw.arbitratingWindow, Hw.updChan, Hw.lowestIdent, on, slots, restricted, h.showColumn_canSends, sends, idle, bits, cfg, service]

end

-- ## The end of a transmission (R479, R489)

theorem Hw.countFault_chans (h : Hw) (p code : Nat) : (h.countFault p code).chans = h.chans := by
  unfold Hw.countFault
  dsimp only
  repeat' split
  all_goals rfl

theorem Hw.record_chans (h : Hw) (code : Nat) : (h.record code).chans = h.chans :=
  (foldl_keeps Hw.chans _ _ _ fun x p => x.countFault_chans p code).trans rfl

theorem Hw.record_chan (h : Hw) (code n : Nat) : (h.record code).chan n = h.chan n := by
  simp only [Hw.chan, h.record_chans]

theorem Hw.canConfine_chan (h : Hw) (n m : Nat) : (h.canConfine n).chan m = h.chan m := by
  unfold Hw.canConfine
  dsimp only
  split
  · exact Hw.record_chan _ _ _
  · split <;> rfl

theorem Hw.objStamp_chan (h : Hw) (o n : Nat) : (h.objStamp o).chan n = h.chan n := by
  simp only [Hw.objStamp, Hw.inc_chan, Hw.wr_chan, Hw.setReg_chan]

/-- Where neither a STOP nor a reference frame waits, the free bus changes nothing. -/
theorem Hw.busFree_idle (h : Hw) (n : Nat) (stop : (h.chan n).wantStop = false) (ref : (h.chan n).refPend = false) : h.busFree n = h := by
  simp only [Hw.busFree, stop, ref, Bool.false_eq_true, if_false]

/-- What an object's frame of a window leaves on channel n when it has been sent. -/
def Hw.objectSent (h : Hw) (n o : Nat) : Hw :=
  let x := ((h.setChan n { h.chan n with onBus := none }).wr (CAN_ERR.TEC n) (h.rd (CAN_ERR.TEC n) - 1)).canConfine n
  let x := (x.objStamp o).wrB (OBJ_STATUS.PENDING o) false
  x.setObj o { x.obj o with pend := false }

theorem Hw.objectSent_chan (h : Hw) (n o : Nat) : (h.objectSent n o).chan n = { h.chan n with onBus := none } :=
  (Hw.setObj_chan _ _ _ _).trans ((Hw.wrB_chan _ _ _ _).trans ((Hw.objStamp_chan _ _ _).trans ((Hw.canConfine_chan _ _ _).trans
    ((Hw.wr_chan _ _ _ _).trans (Hw.setChan_chan _ _ _)))))

/-- An object's frame of a window has been sent. -/
theorem Hw.canTxComplete_sent (h : Hw) (n : ChanId) (o : ObjId) (f : CanFrame) (sending : (h.chan n).onBus = some ⟨o.val, f, false⟩)
    (stop : (h.chan n).wantStop = false) (ref : (h.chan n).refPend = false) : h.canTxComplete n .sent = h.objectSent n o := by
  have object : o.val < 65536 := by omega
  have free : h.canTxComplete n .sent = (h.objectSent n o).busFree n := by
    simp only [Hw.canTxComplete, Hw.objectSent, Hw.updChan, Hw.updObj, sending, object, decide_true, Hw.setChan_rd, Bool.false_eq_true,
      if_false]
  have kept := h.objectSent_chan n o
  exact free.trans (Hw.busFree_idle _ _ ((congrArg CanCh.wantStop kept).trans stop) ((congrArg CanCh.refPend kept).trans ref))

-- ## Basic cycles (R486, R490, R491)

/-- What a basic cycle of channel n that begins shows, before its objects. -/
def Hw.cycleOpened (h : Hw) (n cyc : Nat) : Hw :=
  let h := (h.wr (CAN_STATUS.CYCLE n) cyc).wr (CAN_STATUS.COLUMN n) 0
  h.setChan n { h.chan n with startStep := h.stepCount, latched := false, time := h.reg (CAN_TIME n), refMissed := (h.chan n).refMissed + 1 }

/-- A state that begins is beside the cycle's number and column. -/
theorem Hw.cycleStart_keeps {β : Type} (g : Hw → β) (h : Hw) (n cyc : Nat) (objects : ∀ x o y, g (Hw.setObj x o y) = g x)
    (state : ∀ x v, g (Hw.wr x (CAN_STATUS.STATE n) v) = g x) : g (h.cycleStart n cyc) = g (h.cycleOpened n cyc) := by
  unfold Hw.cycleStart
  extract_lets shown opened sending aged used
  have began : g sending = g opened := by
    simp only [sending]
    split
    · exact state _ _
    · rfl
  have grown : g aged = g sending := foldl_keeps g _ _ sending fun x o => objects _ _ _
  refine (foldl_keeps g _ _ aged fun x o => ?_).trans (grown.trans began)
  split
  · exact objects _ _ _
  · rfl

theorem Hw.cycleOpened_chan (h : Hw) (n cyc : Nat) : (h.cycleOpened n cyc).chan n =
    { h.chan n with startStep := h.stepCount, latched := false, time := h.reg (CAN_TIME n), refMissed := (h.chan n).refMissed + 1 } := by
  have apart : (CAN_TIME n).addr ≠ (CAN_STATUS n).addr := by simp [CAN_TIME, CAN_STATUS]
  have written : ((h.wr (CAN_STATUS.CYCLE n) cyc).wr (CAN_STATUS.COLUMN n) 0).reg (CAN_TIME n) = h.reg (CAN_TIME n) :=
    (Hw.reg_wr_ne _ _ _ _ apart).trans (Hw.reg_wr_ne _ _ _ _ apart)
  simp only [Hw.cycleOpened, Hw.setChan_chan, Hw.wr_chan, Hw.wr_stepCount, written]

theorem Hw.cycleStart_chan (h : Hw) (n cyc : Nat) : (h.cycleStart n cyc).chan n =
    { h.chan n with startStep := h.stepCount, latched := false, time := h.reg (CAN_TIME n), refMissed := (h.chan n).refMissed + 1 } :=
  (Hw.cycleStart_keeps (fun x => x.chan n) h n cyc (fun x o y => Hw.setObj_chan x o y n) (fun x v => Hw.wr_chan x _ v n)).trans
    (h.cycleOpened_chan n cyc)

theorem Hw.cycleStart_cycle (h : Hw) (n cyc : Nat) (hc : cyc < 64) : (h.cycleStart n cyc).rd (CAN_STATUS.CYCLE n) = cyc := by
  refine (Hw.cycleStart_keeps (fun x => x.rd (CAN_STATUS.CYCLE n)) h n cyc (fun x o y => Hw.setObj_rd x o y _)
    (fun x v => Hw.rd_wr_beside x _ _ v rfl (.inr (by decide : 2 < 18)))).trans ?_
  refine ((Hw.setChan_rd _ _ _ _).trans ((h.wr (CAN_STATUS.CYCLE n) cyc).showColumn_cycle n 0)).trans ?_
  exact (Hw.rd_wr h (CAN_STATUS.CYCLE n) cyc (by decide : 23 < 32)).trans (Nat.mod_eq_of_lt hc)

theorem Hw.cycleStart_column (h : Hw) (n cyc : Nat) : (h.cycleStart n cyc).rd (CAN_STATUS.COLUMN n) = 0 := by
  refine (Hw.cycleStart_keeps (fun x => x.rd (CAN_STATUS.COLUMN n)) h n cyc (fun x o y => Hw.setObj_rd x o y _)
    (fun x v => Hw.rd_wr_beside x _ _ v rfl (.inr (by decide : 2 < 12)))).trans ?_
  exact (Hw.setChan_rd _ _ _ _).trans (Hw.rd_wr (h.wr (CAN_STATUS.CYCLE n) cyc) (CAN_STATUS.COLUMN n) 0 (by decide : 17 < 32))

theorem Hw.cycleStart_stepCount (h : Hw) (n cyc : Nat) : (h.cycleStart n cyc).stepCount = h.stepCount := by
  refine (Hw.cycleStart_keeps Hw.stepCount h n cyc (fun x o y => Hw.setObj_stepCount x o y) (fun x v => Hw.wr_stepCount x _ v)).trans ?_
  simp only [Hw.cycleOpened, Hw.setChan_stepCount, Hw.wr_stepCount]

/-- In the first half of a basic cycle, column 0 of this cycle is placed. -/
theorem Hw.placeColumn_near (h : Hw) (n sof cyc : Nat)
    (near : 2 * ((h.stepCount - sof - (h.chan n).startStep) * 100) < (h.canCfg n).columns * h.columnCycles n) :
    h.placeColumn n sof cyc = (h.wr (CAN_STATUS.CYCLE n) cyc).setChan n { h.chan n with startStep := h.stepCount - sof } := by
  simp only [Hw.placeColumn, canStepCycles, near, decide_true, if_true, Hw.updChan, Hw.wr_chan, Hw.wr_stepCount]

/-- Later, column 0 of the next cycle; a latch instant that has passed is not repeated. -/
theorem Hw.placeColumn_next (h : Hw) (n sof cyc : Nat)
    (far : (h.canCfg n).columns * h.columnCycles n ≤ 2 * ((h.stepCount - sof - (h.chan n).startStep) * 100))
    (latched : (h.chan n).latched = true) : h.placeColumn n sof cyc =
      (h.cycleStart n cyc).setChan n { (h.cycleStart n cyc).chan n with startStep := h.stepCount - sof } := by
  have passed : h.latchInstant n = h := if_pos (by simp [latched])
  simp only [Hw.placeColumn, canStepCycles, Nat.not_lt.2 far, decide_false, Bool.false_eq_true, if_false, Hw.updChan, passed,
    h.cycleStart_stepCount]

section
variable {h : Hw} {n : ChanId} {f : CanFrame} {sof : Nat} (on : (h.chan n).on = true) (even : n.val % 2 = 0)
variable (hears : h.canHears n = true) (follows : Bits.get (h.chan n).time 14 13 = 2) (standard : f.extended = false)
variable (classic : f.fd = false) (ident : f.ident = Bits.get (h.chan n).time 10 0) (long : f.data.length = 1)
include on even hears follows standard classic ident long

theorem referenceFrame_follower : ((h.chan n).on && n.val % 2 = 0 && h.canHears n && Bits.get (h.chan n).time 14 13 == 2 && !f.extended &&
    !f.fd && f.ident == Bits.get (h.chan n).time 10 0 && f.data.length == 1) = true := by
  simp only [on, even, hears, follows, standard, classic, ident, long, decide_true, beq_self_eq_true, Bool.not_false, Bool.and_self]

theorem Hw.referenceFrame_number (late : 128 ≤ (f.data.getD 0 0).toNat) : h.referenceFrame n f sof =
    (h.canHeard n).wr (CAN_STATUS.CYCLE n) ((f.data.getD 0 0).toNat % 64 % max (h.canCfg n).cycles 1) :=
  (if_pos (referenceFrame_follower on even hears follows standard classic ident long)).trans (if_pos late)

theorem Hw.referenceFrame_places (early : (f.data.getD 0 0).toNat < 128) : h.referenceFrame n f sof =
    (let h' := (h.canHeard n).placeColumn n sof ((f.data.getD 0 0).toNat % 64 % max (h.canCfg n).cycles 1)
     let h' := h'.setChan n { h'.chan n with refMissed := 0, lostRec := false }
     let h' := if (h'.chan (n + 1)).on = true then h'.placeColumn (n + 1) sof (h'.cycleAfter (n + 1) sof) else h'
     h'.wrB (CAN_STATUS.SYNC_OK n) true) :=
  (if_pos (referenceFrame_follower on even hears follows standard classic ident long)).trans (if_neg (Nat.not_le.2 early))

end

theorem Hw.syncLost_recorded (h : Hw) (n : Nat) (on : (h.chan n).on = true) (follows : Bits.get (h.chan n).time 14 13 = 2)
    (missed : 2 ≤ (h.chan n).refMissed) (first : (h.chan n).lostRec = false) : h.syncLost n =
      ((h.setChan n { h.chan n with lostRec := true }).wrB (CAN_STATUS.SYNC_OK n) false).record (faultCode 5 n 3) :=
  if_pos (by simp [on, follows, missed, first])

/-- Settles O45: each event on the channel by the slot, the frame or the cycle that its premises name. -/
theorem canSending : Obligations.CanSending := by
  unfold Obligations.CanSending
  refine ⟨?exclusive, ?object, ?service, ?sent, ?cycle, ?shows, ?number, ?places, ?column, ?lost⟩
  case exclusive =>
    exact fun s n col wait r f hl ho hf hr hc hb => (s.onLive_live (fun h => h.exclusiveSlot n col wait) hl).trans
      (congrArg s.to (s.hw.exclusiveSlot_sends n col wait r f ho hf hr hc hb))
  case object =>
    exact fun s n col wait r f hl ho hs hk hr hc hp hd hf hb hn => (s.onLive_live (fun h => h.arbitratingWindow n col wait) hl).trans
      (congrArg s.to (Hw.arbitratingWindow_object ho hr hc hb hs hk hp hd hf hn))
  case service =>
    exact fun s n col wait f rest hl ho hs hr hc hb hf => (s.onLive_live (fun h => h.arbitratingWindow n col wait) hl).trans
      (congrArg s.to (Hw.arbitratingWindow_service ho hr hc hb hs hf))
  case sent =>
    exact fun s n ph o f hl hb hw hr => (s.onLive_live (fun h => (h.atPhase ph).canTxComplete n .sent) hl).trans
      (congrArg s.to ((s.hw.atPhase ph).canTxComplete_sent n o f hb hw hr))
  case cycle =>
    exact fun s n busy hl ho hc => (s.onLive_live (fun h => h.basicCycle n busy) hl).trans
      (congrArg s.to (if_pos (Bool.and_eq_true_iff.2 ⟨ho, decide_eq_true hc⟩)))
  case shows =>
    intro h n cyc hc
    have chan := h.cycleStart_chan n cyc
    exact ⟨h.cycleStart_cycle n cyc hc, h.cycleStart_column n cyc, congrArg CanCh.startStep chan, congrArg CanCh.latched chan,
      congrArg CanCh.time chan⟩
  case number =>
    exact fun s n f sof hl ho he hh ht hx hd hi hn hb => (s.onLive_live (fun h => h.referenceFrame n f sof) hl).trans
      (congrArg s.to (Hw.referenceFrame_number ho he hh ht hx hd hi hn hb))
  case places =>
    exact fun s n f sof hl ho he hh ht hx hd hi hn hb => (s.onLive_live (fun h => h.referenceFrame n f sof) hl).trans
      (congrArg s.to (Hw.referenceFrame_places ho he hh ht hx hd hi hn hb))
  case column => exact fun h n sof cyc _ => ⟨h.placeColumn_near n sof cyc, h.placeColumn_next n sof cyc⟩
  case lost =>
    exact fun s n hl ho ht hm hr => (s.onLive_live (fun h => h.syncLost n) hl).trans (congrArg s.to (s.hw.syncLost_recorded n ho ht hm hr))

end Sys2Proof.Machine
end

section
/-!
PROOF. Roll call: the frames of the search, and the timers of a device.
-/
set_option Elab.async false
namespace Sys2Proof.Machine

-- ## What a received frame leaves (R479)

theorem Hw.countFault_service (h : Hw) (p code : Nat) : (h.countFault p code).service = h.service := by
  unfold Hw.countFault
  dsimp only
  repeat' split
  all_goals rfl

theorem Hw.record_service (h : Hw) (code : Nat) : (h.record code).service = h.service :=
  (foldl_keeps Hw.service _ _ _ fun x p => x.countFault_service p code).trans rfl

theorem Hw.canConfine_service (h : Hw) (n : Nat) : (h.canConfine n).service = h.service := by
  unfold Hw.canConfine
  dsimp only
  split
  · exact Hw.record_service _ _
  · split <;> rfl

theorem Hw.canHeard_service (h : Hw) (n : Nat) : (h.canHeard n).service = h.service := by
  unfold Hw.canHeard
  split
  · rfl
  · exact Hw.canConfine_service _ _

/-- A chip register outside the channels' windows and the recorders' statuses. -/
theorem Hw.canHeard_chip (h : Hw) (n : ChanId) (f : Fld) (hc : f.reg.addr < 0x40000000 ∨ 0x40000400 ≤ f.reg.addr)
    (hf : f.reg.addr % 0x40 ≠ 0x14) : (h.canHeard n).rd f = h.rd f := by
  refine h.canHeard_rd n f ?_ ?_ hf <;>
  · simp only [CAN_STATUS, CAN_ERR]
    omega

theorem Hw.canHeard_lock (h : Hw) (n : ChanId) : (h.canHeard n).on CAN_SERVICE_CFG.RC_LOCK = h.on CAN_SERVICE_CFG.RC_LOCK := by
  simp only [Hw.on, h.canHeard_chip n CAN_SERVICE_CFG.RC_LOCK (by decide) (by decide)]

theorem Hw.canHeard_uid (h : Hw) (n : ChanId) : (h.canHeard n).uid = h.uid := by
  simp only [Hw.uid, h.canHeard_chip n CHIP_UID_HI.UID (by decide) (by decide), h.canHeard_chip n CHIP_UID_LO.UID (by decide) (by decide)]

-- ## The search (R503 to R505)

/-- A START in mode 0 takes the number away. -/
theorem Hw.rollStart_joins (h : Hw) (n : ChanId) (f : CanFrame) (hears : h.rollHears n = true) (formed : rollFrame f false 4 = true)
    (ident : f.ident = 0x1E100000) (mode : (f.data.getD 2 0).toNat = 0) (unlocked : h.on CAN_SERVICE_CFG.RC_LOCK = false)
    (news : h.service.heardRounds = 0 ∨ h.service.heardEpoch ≠ frameHalf f 0) : h.rollStart n f =
      { (h.canHeard n).wr CAN_NODE.NODE 0xFFFF with
        service := { h.service with epoch := frameHalf f 0, participant := true, heardRounds := 0 } } := by
  have unknown : (decide (0 < h.service.heardRounds) && decide (h.service.heardEpoch = frameHalf f 0)) = false := by
    rcases news with none | other
    · simp [none]
    · simp [other]
  simp only [Hw.rollStart, hears, formed, ident, mode, h.canHeard_lock, unlocked, unknown, Nat.zero_le, decide_true, beq_self_eq_true,
    Bool.and_self, Bool.not_true, Bool.false_eq_true, if_false, Nat.zero_ne_one, decide_false, Bool.false_and, if_true]

/-- A participant whose upper chunks match bids with its next one. -/
theorem Hw.rollRound_bids (h : Hw) (n : ChanId) (f : CanFrame) (j : Fin 4) (hears : h.rollHears n = true)
    (formed : rollFrame f false 8 = true) (ident : f.ident = 0x1E110000 + j.val) (takes : h.service.participant = true)
    (epoch : h.service.epoch = frameHalf f 0) (unlocked : h.on CAN_SERVICE_CFG.RC_LOCK = false)
    (chunks : ∀ i < j.val, h.uidChunk i = frameChunk f i) :
    h.rollRound n f = (h.canHeard n).sendService n (serviceFrame (0x1E200000 + h.uidChunk j) []) := by
  have place : f.ident - 0x1E110000 = j.val := by omega
  have round : 0x1E110000 ≤ f.ident ∧ j.val ≤ 3 := by omega
  have chunk (i : Nat) : (h.canHeard n).uidChunk i = h.uidChunk i := by simp only [Hw.uidChunk, h.canHeard_uid]
  have matching : (List.range j).all (fun i => h.uidChunk i == frameChunk f i) = true := by
    simpa using chunks
  simp only [Hw.rollRound, place, round, hears, formed, takes, epoch, h.canHeard_lock, unlocked, chunk, matching, decide_true, Bool.and_self,
    Bool.not_true, Bool.not_false, Bool.false_eq_true, if_false, if_true]

theorem Hw.bidReceived_withdraws (h : Hw) (n : ChanId) (f : CanFrame) (hears : h.rollHears n = true) (formed : rollFrame f false 0 = true)
    (lo : 0x1E200000 ≤ f.ident) (hi : f.ident ≤ 0x1E20FFFF) : h.bidReceived n f =
      (h.canHeard n).setChan n { (h.canHeard n).chan n with service := ((h.canHeard n).chan n).service.filter (fun g =>
        !(decide (0x1E200000 ≤ g.ident) && decide (f.ident < g.ident))) } :=
  if_pos (by simp only [hears, formed, lo, hi, decide_true, Bool.and_self])

/-- An ASSIGN to a participant. -/
theorem Hw.rollAssign_enrols (h : Hw) (n : ChanId) (f : CanFrame) (hears : h.rollHears n = true) (formed : rollFrame f true 12 = true)
    (ident : f.ident = 0x1E120000) (unlocked : h.on CAN_SERVICE_CFG.RC_LOCK = false) (uid : Num.ofBytesBE (f.data.take 8) = h.uid)
    (epoch : frameHalf f 10 = h.service.epoch) (takes : h.service.participant = true) : h.rollAssign n f =
      (let x := ((h.canHeard n).wr CAN_NODE.NODE (frameHalf f 8)).wr CAN_NODE.SEARCH_EPOCH (frameHalf f 10)
       let x := ({ x with service := { x.service with participant := false } }).keepStore 0xC0
         (Num.bytesLE 2 (frameHalf f 8) ++ Num.bytesLE 2 (frameHalf f 10) ++ [1, 0, 0, 0])
       x.sendService n (serviceFrame (0x1E130000 + frameHalf f 8) (Num.bytesBE 8 x.uid))) := by
  have accepted : (h.rollHears n && rollFrame f true 12 && f.ident == 0x1E120000) = true := by simp [hears, formed, ident]
  have ours : ((h.canHeard n).on CAN_SERVICE_CFG.RC_LOCK || Num.ofBytesBE (f.data.take 8) ≠ (h.canHeard n).uid ||
      frameHalf f 10 ≠ (h.canHeard n).service.epoch ||
      (!(h.canHeard n).service.participant && (h.canHeard n).rd CAN_NODE.NODE = 0xFFFF)) = false := by
    simp [h.canHeard_lock, unlocked, h.canHeard_uid, uid, h.canHeard_service, epoch, takes]
  have anew : ((h.canHeard n).rd CAN_NODE.NODE == frameHalf f 8 && (h.canHeard n).rd CAN_NODE.SEARCH_EPOCH == frameHalf f 10 &&
      !(h.canHeard n).service.participant) = false := by simp [h.canHeard_service, takes]
  simp only [Hw.rollAssign, accepted, ours, anew, Bool.not_true, Bool.false_eq_true, if_false]

/-- Settles O47: each frame of the search that the device hears, and each timer, by its own branch. -/
theorem rollCall : Obligations.RollCall := by
  unfold Obligations.RollCall
  refine ⟨?start, ?round, ?bid, ?assign, ?unenrolled, ?heartbeat, ?service⟩
  case start =>
    exact fun s n f hl hh hf hi hm hk hu => (s.onLive_live (fun h => h.rollStart n f) hl).trans
      (congrArg s.to (s.hw.rollStart_joins n f hh hf hi hm hk hu))
  case round =>
    exact fun s n f j hl hh hf hi hp he hk hc => (s.onLive_live (fun h => h.rollRound n f) hl).trans
      (congrArg s.to (s.hw.rollRound_bids n f j hh hf hi hp he hk hc))
  case bid =>
    exact fun s n f hl hh hf h1 h2 => (s.onLive_live (fun h => h.bidReceived n f) hl).trans
      (congrArg s.to (s.hw.bidReceived_withdraws n f hh hf h1 h2))
  case assign =>
    exact fun s n f hl hh hf hi hk hu he hp => (s.onLive_live (fun h => h.rollAssign n f) hl).trans
      (congrArg s.to (s.hw.rollAssign_enrols n f hh hf hi hk hu he hp))
  case unenrolled =>
    exact fun s hl hn hp => (s.onLive_live Hw.unenrolled hl).trans (congrArg s.to (if_pos (by simp [hn, hp])))
  case heartbeat =>
    exact fun s hl hn hp => (s.onLive_live Hw.heartbeat hl).trans (congrArg s.to ((if_pos (by simp [hn, hp])).trans (by simp)))
  case service => exact fun h n f hr hs => if_neg (by simp [hr, hs])

end Sys2Proof.Machine
end

section
/-!
PROOF. The serial port as a master: its role, its frames and its window.
-/
set_option Elab.async false
namespace Sys2Proof.Machine

-- ## A setting written with its own value

theorem Bits.set_get (w : Word) (hi lo : Nat) : Bits.set w hi lo (Bits.get w hi lo) = w := by
  refine BitVec.eq_of_getLsbD_eq fun i hi' => ?_
  rw [Bits.getLsbD_set, Bits.testBit_get]
  split
  · next inside =>
    have offset : i - lo < hi + 1 - lo := by omega
    simp only [hi', offset, decide_true, Bool.true_and, Nat.add_sub_of_le inside.1]
  · rfl

/-- The row of SPI_CFG. -/
def spiCfgRow : RegRow := ⟨0x40060000, [], .spiCfg, 0x2229000#32,
  [⟨27, 24, .rw, .within 1 15⟩, ⟨23, 20, .rw, .within 1 15⟩, ⟨19, 16, .rw, .within 1 15⟩, ⟨15, 12, .rw, .any⟩, ⟨11, 9, .rw, .any⟩,
    ⟨8, 8, .rw, .any⟩, ⟨0, 0, .rw, .any⟩]⟩

theorem regHit_spiCfg : regHit SPI_CFG.addr = some ⟨spiCfgRow, []⟩ := by decide +kernel

/-- A write that changes the role alone. -/
theorem spiCfgRow_next (old : Word) (r : Fin 2) : spiCfgRow.next old (Bits.set old 0 0 r) = Bits.set old 0 0 r := by
  have role : Bits.get (Bits.set old 0 0 r) 0 0 = r.val := (Bits.get_set_same old 0 0 r (by decide)).trans (Nat.mod_eq_of_lt r.isLt)
  have other (hi lo : Nat) (hl : 0 < lo) : Bits.set old hi lo (Bits.get (Bits.set old 0 0 r) hi lo) = old := by
    rw [Bits.get_set_ne _ _ _ _ _ _ (.inr hl), Bits.set_get]
  simp only [RegRow.next, spiCfgRow, List.foldl_cons, List.foldl_nil, FieldRow.next, other _ _ (by decide : 0 < 24),
    other _ _ (by decide : 0 < 20), other _ _ (by decide : 0 < 16), other _ _ (by decide : 0 < 12), other _ _ (by decide : 0 < 9),
    other _ _ (by decide : 0 < 8), role]

-- ## The role (R515)

/-- A register of the interfaces' window, by its address (Table 1-6). -/
abbrev RegId.interface (r : RegId) : Prop := 0x40000000 ≤ r.addr

/-- No row of Table 14-1 speaks of a register of that window. -/
theorem Hw.chanTable_setInterface (h : Hw) (r : RegId) (w : Word) (hr : r.interface) (c : Nat) (hc : c < 48) :
    (h.setReg r w).chanTable c = h.chanTable c := by
  have reads (f : Fld) (hf : f.reg.addr < 0x40000000) : (h.setReg r w).rd f = h.rd f := h.rd_setReg_ne r w f (by omega)
  have law : h.rd (LEG_CHAN_CFG.VLAW c) < 256 := h.rd_lt _
  have vlaw : (h.setReg r w).rd (LEG_CHAN_CFG.VLAW c) = h.rd (LEG_CHAN_CFG.VLAW c) :=
    reads _ (by simp only [LEG_CHAN_CFG.VLAW, LEG_CHAN_CFG, cellBase]; omega)
  have pair (f : Nat → Bool) : (List.range 2).all f = (f 0 && (f 1 && true)) := rfl
  unfold Hw.chanTable
  simp only [vlaw, Hw.setReg_law, pair, Hw.on]
  generalize h.rd (LEG_CHAN_CFG.VLAW c) = v at law
  simp (disch := (simp only [LEG_PWM_CFG.MODE, LEG_PWM_CFG.DUTY_SRC, LEG_PWM_CFG.CARRIER, LEG_PWM_CFG, LEG_COMP_A_CFG.INPUT,
    LEG_COMP_A_CFG.POLARITY, LEG_COMP_A_CFG.THR_SRC, LEG_COMP_A_CFG, LEG_COMP_B_CFG.INPUT, LEG_COMP_B_CFG.POLARITY,
    LEG_COMP_B_CFG.THR_SRC, LEG_COMP_B_CFG, BLK_CELL_TRIP.SOURCE, BLK_CELL_TRIP.ACTION, BLK_CELL_TRIP.TARGET, BLK_CELL_TRIP.COMP_ON,
    BLK_CELL_TRIP, MEAS_CH_CFG.I_EN, MEAS_CH_CFG.MODE, MEAS_CH_CFG.AUTO_START, MEAS_CH_CFG, LEG_CHAN_CFG.ILAW, LEG_CHAN_CFG,
    BLK_LAW_LIMITS.OUT_MIN, BLK_LAW_LIMITS, cellBase, blockBase, blockOf, localOf]; omega)) only [reads]

theorem Hw.chanTablesOk_setInterface (h : Hw) (r : RegId) (w : Word) (hr : r.interface) :
    (h.setReg r w).chanTablesOk = h.chanTablesOk := by
  have entered (c : Nat) : (h.setReg r w).isChannel c = h.isChannel c := by
    have owner : (h.setReg r w).owner (blockOf c) = h.owner (blockOf c) := rfl
    refine congrArg (h.mode (blockOf c) == 3 && ·) ?_
    simp only [Hw.blockEntered, owner]
    cases hp : h.owner (blockOf c) with
    | none => rfl
    | some p =>
      have low : p < 16 := List.mem_range.1 (List.mem_of_find?_eq_some hp)
      have apart : (PART_RUN.STATE p).reg.addr ≠ r.addr := by
        simp only [PART_RUN.STATE, PART_RUN]
        omega
      simp only [h.rd_setReg_ne r w (PART_RUN.STATE p) apart]
  rw [Hw.chanTablesOk, Hw.chanTablesOk, Bool.eq_iff_iff, List.all_eq_true, List.all_eq_true]
  refine forall₂_congr fun c hc => ?_
  rw [entered, h.chanTable_setInterface r w hr c (List.mem_range.1 hc)]

theorem Hw.spiCfgWrite_role (h : Hw) (r : Fin 2) : h.spiCfgWrite (Bits.set (h.reg SPI_CFG) 0 0 r) =
    (h.setReg SPI_CFG (Bits.set (h.reg SPI_CFG) 0 0 r)).wrB SPI_STATUS.PENDING_ROLE (r.val != h.rd SPI_STATUS.ROLE) := by
  have role : (h.setReg SPI_CFG (Bits.set (h.reg SPI_CFG) 0 0 r)).rd SPI_CFG.ROLE = r.val :=
    (h.rd_setReg SPI_CFG _ SPI_CFG.ROLE rfl).trans ((Bits.get_set_same _ 0 0 r (by decide)).trans (Nat.mod_eq_of_lt r.isLt))
  have shown : (h.setReg SPI_CFG (Bits.set (h.reg SPI_CFG) 0 0 r)).rd SPI_STATUS.ROLE = h.rd SPI_STATUS.ROLE :=
    h.rd_setReg_ne SPI_CFG _ SPI_STATUS.ROLE (by decide)
  simp only [Hw.spiCfgWrite, role, shown]

/-- A write of SPI_CFG that changes the role alone passes the range conditions of its row. -/
theorem Hw.registerWrite_role (h : Hw) (q : Requester) (r : Fin 2) :
    h.registerWrite q ⟨spiCfgRow, []⟩ SPI_CFG.addr (Bits.set (h.reg SPI_CFG) 0 0 r) =
      (.ok, (h.setReg SPI_CFG (Bits.set (h.reg SPI_CFG) 0 0 r)).wrB SPI_STATUS.PENDING_ROLE (r.val != h.rd SPI_STATUS.ROLE)) := by
  have own : RegHit.id ⟨spiCfgRow, []⟩ SPI_CFG.addr = SPI_CFG := rfl
  have free (x : Hw) (p : Nat) (judged : Nat → Nat → Bool) : x.fieldsFit p ⟨spiCfgRow, []⟩ SPI_CFG.addr judged = true := rfl
  have unit (w : Word) : h.unitWrite q ⟨spiCfgRow, []⟩ SPI_CFG.addr w (Bits.set (h.reg SPI_CFG) 0 0 r) = (.ok, h.spiCfgWrite w) := rfl
  have interface : SPI_CFG.interface := by decide
  simp only [Hw.registerWrite, own, free, spiCfgRow_next, h.chanTablesOk_setInterface SPI_CFG _ interface, unit, h.spiCfgWrite_role]
  cases h.chanTablesOk <;> simp

/-- The role is applied where nothing waits at the master. -/
theorem Hw.roleApply_idle (h : Hw) (pending : h.on SPI_STATUS.PENDING_ROLE = true) (idle : h.serial.running = none)
    (queue : h.serial.queue = []) (waits : h.serial.waits = []) (frame : h.rd SPI_FRAME_STATUS.STATE ≠ 1) : h.roleApply =
      ((((({ h with serial := { h.serial with lines := [], req := none, resp := [] } } : Hw).wr SPI_SLAVE_STATUS.STATE 0).wrB
        SPI_STATUS.CONTINUOUS false).wr SPI_STATUS.ROLE (h.rd SPI_CFG.ROLE))).wrB SPI_STATUS.PENDING_ROLE false := by
  have applies : h.roleApply = h.takeRole := if_pos (by simp only [pending, idle]; rfl)
  have emptied : ({ h.serial with queue := [], waits := [], req := none, resp := [], lines := [], running := none } : Serial) =
      { h.serial with lines := [], req := none, resp := [] } := by
    simp only [queue, waits, idle]
  have failed := h.failMaster_idle ⟨queue, waits, frame⟩
  have closed : h.failMaster.invalidateLines =
      ({ h with serial := { h.serial with lines := [], req := none, resp := [] } } : Hw).wr SPI_SLAVE_STATUS.STATE 0 := by
    rw [failed, ← emptied]
    simp only [Hw.invalidateLines, Hw.updSerial, Hw.wr_serial, idle, Option.map_none]
    rfl
  have role : ((({ h with serial := { h.serial with lines := [], req := none, resp := [] } } : Hw).wr SPI_SLAVE_STATUS.STATE 0).wrB
      SPI_STATUS.CONTINUOUS false).rd SPI_CFG.ROLE = h.rd SPI_CFG.ROLE :=
    (Hw.rd_wrB_ne _ _ _ _ (by decide)).trans (Hw.rd_wr_ne (h.updSerial fun s => { s with lines := [], req := none, resp := [] }) _ _ _ (by decide))
  simp only [applies, Hw.takeRole, closed, role]

-- ## Frames (R516 to R523)

theorem spiFrameCtrl_command : isCommandReg SPI_FRAME_CTRL .spiFrameCtrl [] = true := by decide +kernel

theorem spiXipCtrl_command : isCommandReg SPI_XIP_CTRL .spiXipCtrl [] = true := by decide +kernel

theorem Hw.frameCtrlWrite_queues (h : Hw) (fits : h.frameFits = true) (master : h.spiSlave = false) (free : h.frameBusy = false) :
    h.frameCtrlWrite 1#32 =
      (.ok, { h.wr SPI_FRAME_STATUS.STATE 1 with serial := { h.serial with queue := h.serial.queue ++ [{ cls := 4 }] } }) := by
  have go : (1#32).getLsbD 0 = true := by decide
  simp only [Hw.frameCtrlWrite, go, fits, master, free, Bool.not_true, Bool.or_self, Bool.false_eq_true, if_false, Hw.updSerial,
    Hw.wr_serial]

/-- The frames that wait are of the classes 2 to 5. -/
theorem Serial.nextJob_cls {s : Serial} {j : SpiJob} (hj : s.nextJob = some j) : j.cls ∈ [2, 3, 4, 5] := by
  obtain ⟨c, member, found⟩ := List.mem_filterMap.1 (List.mem_of_head? hj)
  have cls : (j.cls == c) = true := List.find?_some (p := fun i : SpiJob => i.cls == c) found
  exact beq_iff_eq.1 cls ▸ member

section
variable {h : Hw} {j : SpiJob} (master : h.spiSlave = false) (idle : h.serial.running = none)
variable (settled : h.on SPI_STATUS.PENDING_ROLE = false) (next : h.serial.nextJob = some j) (plain : h.on SPI_STATUS.CONTINUOUS = false)
include master idle settled next plain

/-- A poll or a window frame starts with its code on SEL and SSTB low. -/
theorem Hw.masterStart_selects (other : j.cls ≠ 4) : h.masterStart =
    (({ h with serial := { h.serial with queue := h.serial.queue.erase j, running := some j, strobe := false, sel := if j.cls = 2 then h.rd (POS_GEOM.SER_SEL j.unit) else h.rd SPI_XIP_CFG.SEL } } : Hw).wrB
      SPI_STATUS.BUSY true).wr SPI_STATUS.SOURCE (if j.cls = 5 then 4 else j.cls) := by
  have cls := Serial.nextJob_cls next
  obtain ⟨c, line, unit, void⟩ := j
  simp only [Hw.masterStart, master, idle, settled, next, plain, Option.isSome_none, Bool.or_self, Bool.false_and, Bool.false_eq_true,
    if_false, other, Hw.runJob, Hw.updSerial]
  simp only [List.mem_cons, List.not_mem_nil, or_false] at cls other
  rcases cls with rfl | rfl | rfl | rfl
  · rfl
  · rfl
  · exact absurd rfl other
  · rfl

/-- A software frame without a select leaves SEL as it was and SSTB high. -/
theorem Hw.masterStart_unselected (software : j.cls = 4) (bare : h.on SPI_FRAME_SEL.NOSEL = true) : h.masterStart =
    (({ h.wr SPI_FRAME_STATUS.STATE 2 with
      serial := { h.serial with queue := h.serial.queue.erase j, running := some j, strobe := true } } : Hw).wrB SPI_STATUS.BUSY true).wr
        SPI_STATUS.SOURCE 5 := by
  obtain ⟨c, line, unit, void⟩ := j
  simp only at software
  subst software
  have unselected : ((h.updSerial fun s => { s with queue := s.queue.erase ⟨4, line, unit, void⟩ }).wr SPI_FRAME_STATUS.STATE 2).jobSel
      ⟨4, line, unit, void⟩ = none := by
    refine if_pos (Eq.trans ?_ bare)
    simp only [Hw.on, Hw.rd_wr_ne _ SPI_FRAME_STATUS.STATE SPI_FRAME_SEL.NOSEL 2 (by decide), Hw.updSerial_rd]
  simp only [Hw.masterStart, master, idle, settled, next, plain, Option.isSome_none, Bool.or_self, Bool.false_and, Bool.false_eq_true,
    if_false, if_true, unselected, Hw.runJob, reduceCtorEq]
  rfl

end

section
variable {m : Mach} {j : SpiJob} {data : List Byte} (running : m.hw.serial.running = some j)
include running

/-- A software frame that writes is done. -/
theorem Mach.masterDone_written (software : j.cls = 4) (writes : m.hw.on SPI_FRAME_CFG.DIR = false) :
    m.masterDone data = ⟨m.mem, m.hw.spiIdle.wr SPI_FRAME_STATUS.STATE 3⟩ := by
  simp [Mach.masterDone, running, SpiJob.isLine, software, writes]

/-- The data of a software frame that reads go to the frame buffer. -/
theorem Mach.masterDone_read (software : j.cls = 4) (reads : m.hw.on SPI_FRAME_CFG.DIR = true)
    (long : data.length = m.hw.rd SPI_FRAME_CFG.DATA_BYTES) :
    m.masterDone data = ⟨m.mem.setBytes 0x40061000 data, m.hw.spiIdle.wr SPI_FRAME_STATUS.STATE 3⟩ := by
  simp [Mach.masterDone, running, SpiJob.isLine, software, reads, long]

/-- The data of a poll are kept for its unit. -/
theorem Mach.masterDone_polled (poll : j.cls = 2) (wanted : j.void = false) : m.masterDone data =
    ⟨m.mem, { m.hw.spiIdle with serial := { m.hw.spiIdle.serial with polled := m.hw.spiIdle.serial.polled ++ [j.unit] } }⟩ := by
  simp [Mach.masterDone, running, SpiJob.isLine, poll, wanted, Hw.updSerial]

end

-- ## The window (R525, R527)

/-- An access waits beside those that wait already. -/
def Hw.addWait (h : Hw) (w : XipWait) : Hw := h.updSerial (fun s => { s with waits := s.waits ++ [w] })

section
variable {h : Hw} {w : XipWait} (news : ∀ v ∈ h.serial.waits, (v.who != w.who) = true)
include news

theorem Hw.xipWait_addWait : (h.addWait w).xipWait w.who w.off = some w := by
  have others : h.serial.waits.find? (fun v => v.who == w.who && v.off == w.off) = none := by
    refine List.find?_eq_none.2 fun v hv => ?_
    simp [bne_iff_ne.1 (news v hv)]
  simp [Hw.xipWait, Hw.addWait, Hw.updSerial, List.find?_append, others]

theorem Hw.xipClose_addWait : (h.addWait w).xipClose w.who = h := by
  have kept : (h.serial.waits ++ [w]).filter (fun v => v.who != w.who) = h.serial.waits := by
    rw [List.filter_append, List.filter_eq_self.2 news]
    simp
  simp only [Hw.addWait, Hw.xipClose, Hw.updSerial, kept]

end

theorem Hw.xipClose_waits (h : Hw) (who : Nat) : ∀ v ∈ (h.xipClose who).serial.waits, (v.who != who) = true :=
  fun _ hv => (List.mem_filter.1 hv).2

theorem Hw.wantLine_waits (h : Hw) (l : Nat) : (h.wantLine l).serial.waits = h.serial.waits := by
  unfold Hw.wantLine
  split <;> rfl

section
variable {h : Hw} {who a : Nat} (reaches : h.xipReaches a = true) (master : h.spiSlave = false) (news : h.xipWait who a = none)
include reaches master news

/-- A read of a line that is held is answered at once, and nothing of it waits. -/
theorem Hw.xipRead_hit {d : List Byte} (held : h.xipLine (a / 64) = some d) : h.xipRead who a =
    (some (.ok, lineWord d a), ((h.xipClose who).inc SPI_XIP_STATUS.HITS).touchLine (a / 64)) := by
  have line : (h.xipClose who).xipLine (a / 64) = some d := held
  have opened : (h.xipClose who).xipOpen who a =
      (((h.xipClose who).inc SPI_XIP_STATUS.HITS).touchLine (a / 64)).addWait ⟨who, a, false, some (lineWord d a)⟩ := by
    simp only [Hw.xipOpen, line, Hw.addWait]
  have others : ∀ v ∈ (((h.xipClose who).inc SPI_XIP_STATUS.HITS).touchLine (a / 64)).serial.waits, (v.who != who) = true :=
    h.xipClose_waits who
  have waits := Hw.xipWait_addWait (w := ⟨who, a, false, some (lineWord d a)⟩) others
  have closed := Hw.xipClose_addWait (w := ⟨who, a, false, some (lineWord d a)⟩) others
  simp only at waits closed
  simp only [Hw.xipRead, reaches, master, news, Option.isSome_none, Bool.not_true, Bool.false_eq_true, if_false, opened, waits, closed]

/-- A read of a line that is not held waits for it. -/
theorem Hw.xipRead_miss (absent : h.xipLine (a / 64) = none) : h.xipRead who a =
    (none, { ((h.xipClose who).inc SPI_XIP_STATUS.MISSES).wantLine (a / 64) with
      serial := { (((h.xipClose who).inc SPI_XIP_STATUS.MISSES).wantLine (a / 64)).serial with
        waits := h.serial.waits.filter (fun w => w.who != who) ++ [{ who := who, off := a, late := h.lineRunsVoid (a / 64) }] } }) := by
  have line : (h.xipClose who).xipLine (a / 64) = none := absent
  have opened : (h.xipClose who).xipOpen who a =
      (((h.xipClose who).inc SPI_XIP_STATUS.MISSES).wantLine (a / 64)).addWait ⟨who, a, h.lineRunsVoid (a / 64), none⟩ := by
    simp only [Hw.xipOpen, line]
    rfl
  have kept := ((h.xipClose who).inc SPI_XIP_STATUS.MISSES).wantLine_waits (a / 64)
  have others : ∀ v ∈ (((h.xipClose who).inc SPI_XIP_STATUS.MISSES).wantLine (a / 64)).serial.waits, (v.who != who) = true :=
    kept ▸ h.xipClose_waits who
  have waits := Hw.xipWait_addWait (w := ⟨who, a, h.lineRunsVoid (a / 64), none⟩) others
  simp only at waits
  simp only [Hw.xipRead, reaches, master, news, Option.isSome_none, Bool.not_true, Bool.false_eq_true, if_false, opened, waits]
  simp only [Hw.addWait, Hw.updSerial, kept]
  rfl

end

section
variable {h x : Hw} {q : Requester} {addr : Nat} (known : ∀ p, q ≠ .unauth p) (aligned : addr % 4 = 0)
variable (lo : 0x60000000 ≤ addr) (hi : addr < 0x64000000)
include known aligned lo hi

/-- The answered read of a requester that is known. -/
theorem Hw.xipWindowRead_answered {w : Word} (read : h.xipRead (whoRead q) (addr - 0x60000000) = (some (.ok, w), x)) :
    h.xipWindowRead q addr = x.answer .ok w := by
  have window : (decide (addr % 4 ≠ 0) || decide (addr < 0x60000000) || decide (0x64000000 ≤ addr)) = false := by
    simp [aligned, lo, hi]
  cases q with
  | unauth p => exact absurd rfl (known p)
  | thread k t => simp only [Hw.xipWindowRead, window, read, Bool.false_eq_true, if_false, if_true]
  | host p => simp only [Hw.xipWindowRead, window, read, Bool.false_eq_true, if_false, if_true]
  | debugger p => simp only [Hw.xipWindowRead, window, read, Bool.false_eq_true, if_false, if_true]

/-- The waiting read of a requester that is known. -/
theorem Hw.xipWindowRead_waits (read : h.xipRead (whoRead q) (addr - 0x60000000) = (none, x)) : h.xipWindowRead q addr = x := by
  have window : (decide (addr % 4 ≠ 0) || decide (addr < 0x60000000) || decide (0x64000000 ≤ addr)) = false := by
    simp [aligned, lo, hi]
  cases q with
  | unauth p => exact absurd rfl (known p)
  | thread k t => simp only [Hw.xipWindowRead, window, read, Bool.false_eq_true, if_false]
  | host p => simp only [Hw.xipWindowRead, window, read, Bool.false_eq_true, if_false]
  | debugger p => simp only [Hw.xipWindowRead, window, read, Bool.false_eq_true, if_false]

end

/-- Settles O48: the commands by their registers, and each event by the branch of the port's state that its premises name. -/
theorem serialMaster : Obligations.SerialMaster := by
  unfold Obligations.SerialMaster
  refine ⟨?role, ?apply, ?go, ?selects, ?unselected, ?wrote, ?read, ?poll, fun h => rfl, ?hit, ?miss, ?invalidate, fun h l => ⟨rfl, rfl, rfl⟩⟩
  case role =>
    exact fun s q r ha => s.regWrite_reg q SPI_CFG _ _ _ ha (by decide) regHit_spiCfg (by simp [spiCfgRow]) (s.hw.registerWrite_role q r)
  case apply => exact fun s hl hp hr hq hw hs => (s.onLive_live Hw.roleApply hl).trans (congrArg s.to (s.hw.roleApply_idle hp hr hq hw hs))
  case go =>
    exact fun s q ha hf hm hb => s.regWrite_command q _ _ .spiFrameCtrl [] _ spiFrameCtrl_command (by decide)
      (fun x w hh _ => by simp only [Hw.unitWrite, hh, s.hw.frameCtrlWrite_queues hf hm hb]) ha
  case selects =>
    exact fun s j hl hm hr hp hj hc ho => (s.onLive_live Hw.masterStart hl).trans (congrArg s.to (Hw.masterStart_selects hm hr hp hj hc ho))
  case unselected =>
    exact fun s j hl hm hr hp hj hc ho hn => (s.onLive_live Hw.masterStart hl).trans
      (congrArg s.to (Hw.masterStart_unselected hm hr hp hj hc ho hn))
  case wrote =>
    intro s j data hl hr hc hd
    have done : Mach.masterDone ⟨s.mem, s.hw⟩ data = _ := Mach.masterDone_written hr hc hd
    exact (s.onMach_live (fun m => m.masterDone data) hl).trans (by rw [done]; rfl)
  case read =>
    intro s j data hl hr hc hd hn
    have done : Mach.masterDone ⟨s.mem, s.hw⟩ data = _ := Mach.masterDone_read hr hc hd hn
    exact (s.onMach_live (fun m => m.masterDone data) hl).trans (by rw [done])
  case poll =>
    intro s j data hl hr hc hv
    have done : Mach.masterDone ⟨s.mem, s.hw⟩ data = _ := Mach.masterDone_polled hr hc hv
    exact (s.onMach_live (fun m => m.masterDone data) hl).trans (by rw [done]; rfl)
  case hit =>
    exact fun s q addr d hl hm hq ha h1 h2 hr hw hd => (s.onLive_live (fun h => h.xipWindowRead q addr.toNat) hl).trans
      (congrArg s.to (Hw.xipWindowRead_answered hq ha h1 h2 (Hw.xipRead_hit hr hm hw hd)))
  case miss =>
    exact fun s q addr hl hm hq ha h1 h2 hr hw hd => (s.onLive_live (fun h => h.xipWindowRead q addr.toNat) hl).trans
      (congrArg s.to (Hw.xipWindowRead_waits hq ha h1 h2 (Hw.xipRead_miss hr hm hw hd)))
  case invalidate =>
    exact fun s q ha => s.regWrite_command q _ _ .spiXipCtrl [] _ spiXipCtrl_command (by decide)
      (fun x w hh _ => by simp only [Hw.unitWrite, hh]; rfl) ha

end Sys2Proof.Machine
end

section
/-!
PROOF. Safety functions: commands of sources, the STO pins, the SRESET edge, SS1 timeouts and torque monitor windows.
-/
set_option Elab.async false
namespace Sys2Proof.Machine

-- ## Safety commands (R430)

theorem safeCmd_command (p : PartId) : isCommandReg (SAFE_CMD p) .safeCmd [p] = true := by
  revert p
  decide +kernel

theorem safeCmd_code (code : Fin 4) : Bits.get (BitVec.ofNat 32 code.val) 1 0 = code.val := by
  revert code
  decide

/-- A command of a source that may deliver it. -/
theorem State.regWrite_safeCmd (s : State) (q : Requester) (p : PartId) (code : Fin 4) (src : Nat)
    (ha : s.admits q (SAFE_CMD p) (BitVec.ofNat 32 code.val))
    (hs : s.hw.safeCmdWrite q p code = (.ok, s.hw.deliver p src code)) :
    s.regWrite q (SAFE_CMD p) (BitVec.ofNat 32 code.val) = s.wrote (SAFE_CMD p) (s.hw.deliver p src code) := by
  have value : Bits.get (BitVec.ofNat 32 code.val) 1 0 = code.val := safeCmd_code code
  exact s.regWrite_command q _ _ .safeCmd [p.val] _ (safeCmd_command p) (by decide)
    (fun x w hh hi => by simp only [Hw.unitWrite, hh, RegHit.ix, hi, List.getD_cons_zero, value, hs]) ha

theorem Hw.deliver_src (h : Hw) (p src code : Nat) : Tab.get ((h.deliver p src code).part p).src src 0 = code := by
  simp only [Hw.deliver, Hw.setPart_part]
  exact Tab.get_ins_same _ _ _ _ (Tab.del_ne _ _)

-- ## The STO pins (R438 to R440)

/-- What the pins' holds rest on. -/
def Hw.pinView (h : Hw) : List (Nat × Region) × Word × Word := (h.regions, h.reg SAFE_PIN_STATUS, h.reg SAFE_PIN_CFG)

theorem Hw.pinView_wr (h : Hw) (f : Fld) (v : Nat) (hf : f.reg.addr ≠ 0x30000 ∧ f.reg.addr ≠ 0x30004) :
    (h.wr f v).pinView = h.pinView := by
  simp only [Hw.pinView, Hw.reg_wr_ne h f v SAFE_PIN_STATUS hf.2.symm, Hw.reg_wr_ne h f v SAFE_PIN_CFG hf.1.symm]
  rfl

/-- A register of a cell's window lies apart from the pins'. -/
theorem cellBase_pins (c off : Nat) : cellBase c + off ≠ 0x30000 ∧ cellBase c + off ≠ 0x30004 := by
  simp only [cellBase]
  omega

@[simp] theorem Hw.pinView_setCell (h : Hw) (c : Nat) (x : Cell) : (h.setCell c x).pinView = h.pinView := rfl
@[simp] theorem Hw.pinView_setBlock (h : Hw) (k : Nat) (x : Block) : (h.setBlock k x).pinView = h.pinView := rfl


@[simp] theorem Hw.pinView_refreshTrips (h : Hw) (k : Nat) : (h.refreshTrips k).pinView = h.pinView := by
  refine Num.forEach_eq Hw.pinView 6 _ h fun i x => ?_
  refine (Num.forEach_eq Hw.pinView 4 _ _ fun n y => ?_).trans ?_
  · exact (Hw.pinView_wr _ _ _ (cellBase_pins _ _)).trans (Hw.pinView_wr _ _ _ (cellBase_pins _ _))
  · exact (Hw.pinView_wr _ _ _ (cellBase_pins _ _)).trans (Hw.pinView_wr _ _ _ (cellBase_pins _ _))

@[simp] theorem Hw.pinView_setHurdle (h : Hw) (k ch : Nat) (o : Bool) : (h.setHurdle k ch o).pinView = h.pinView := by
  simp only [Hw.setHurdle, Hw.pinView_refreshTrips, Hw.pinView_setBlock]

@[simp] theorem Hw.pinView_edgeSeen (h : Hw) (c mask : Nat) : (h.edgeSeen c mask).pinView = h.pinView := by
  refine Num.forEach_eq Hw.pinView 2 _ h fun j x => ?_
  dsimp only
  split
  · exact Hw.pinView_setHurdle _ _ _ _
  · rfl

@[simp] theorem Hw.pinView_setCmds (h : Hw) (c : Nat) (a b : Bool) : (h.setCmds c a b).pinView = h.pinView := by
  have cmds : ((h.wrB (LEG_PWM_STATUS.HS_CMD c) a).wrB (LEG_PWM_STATUS.LS_CMD c) b).pinView = h.pinView :=
    (Hw.pinView_wr _ _ _ (cellBase_pins _ _)).trans (Hw.pinView_wr _ _ _ (cellBase_pins _ _))
  unfold Hw.setCmds
  dsimp only
  generalize (if (a && !h.on (LEG_PWM_STATUS.HS_CMD c)) = true then 1 else 0) + _ + _ + _ = mask
  split
  · exact cmds
  · rw [Hw.pinView_edgeSeen, Hw.pinView_setCell, cmds]

@[simp] theorem Hw.pinView_applyHold (h : Hw) (c : Nat) : (h.applyHold c).pinView = h.pinView := by
  unfold Hw.applyHold Hw.holdTerminal
  dsimp only
  repeat' split
  all_goals simp only [Hw.pinView_setCell, Hw.pinView_setCmds]

@[simp] theorem Hw.pinView_endSs1 (h : Hw) (k : Nat) : (h.endSs1 k).pinView = h.pinView := by
  unfold Hw.endSs1
  extract_lets block stopped
  split
  · next p _ =>
    refine Hw.pinView_wr stopped (SAFE_STATUS.SS1 p) _ ?_
    simp only [SAFE_STATUS.SS1, SAFE_STATUS]
    omega
  · rfl

theorem Hw.pinHolds_of_pinView {h x : Hw} (hv : x.pinView = h.pinView) (r : Nat) : x.pinHolds r = h.pinHolds r := by
  obtain ⟨-, status, cfg⟩ := (Prod.mk.injEq _ _ _ _).mp hv |>.imp id (Prod.mk.injEq _ _ _ _).mp
  simp only [Hw.pinHolds, Hw.on, Hw.bit, Hw.rd, SAFE_PIN_STATUS.STO_A, SAFE_PIN_STATUS.STO_B, SAFE_PIN_CFG.A_REGIONS,
    SAFE_PIN_CFG.B_REGIONS, status, cfg]

theorem Hw.region_of_pinView {h x : Hw} (hv : x.pinView = h.pinView) (r : Nat) : x.region r = h.region r := by
  have regions : x.regions = h.regions := congrArg Prod.fst hv
  simp only [Hw.region, regions]

/-- Region r as the pins hold it. -/
def Hw.pinRegion (h : Hw) (r : Nat) : Hw :=
  (h.setRegion r { h.region r with sto := h.pinHolds r }).wrBit SAFE_PIN_STATUS.REGION_HOLD r (h.pinHolds r)

theorem Hw.pinRegion_pinHolds (h : Hw) (i r : Nat) : (h.pinRegion i).pinHolds r = h.pinHolds r := by
  generalize hx : h.setRegion i { h.region i with sto := h.pinHolds i } = x
  have same : x.pinHolds r = h.pinHolds r := hx ▸ rfl
  have a : (h.pinRegion i).on SAFE_PIN_STATUS.STO_A = x.on SAFE_PIN_STATUS.STO_A := by
    simp only [Hw.pinRegion, hx, Hw.on, Hw.wrBit, Hw.rd_wr_beside x SAFE_PIN_STATUS.REGION_HOLD SAFE_PIN_STATUS.STO_A _ rfl (.inl (by decide))]
  have b : (h.pinRegion i).on SAFE_PIN_STATUS.STO_B = x.on SAFE_PIN_STATUS.STO_B := by
    simp only [Hw.pinRegion, hx, Hw.on, Hw.wrBit, Hw.rd_wr_beside x SAFE_PIN_STATUS.REGION_HOLD SAFE_PIN_STATUS.STO_B _ rfl (.inl (by decide))]
  have cfg (f : Fld) (hf : f.reg = SAFE_PIN_CFG) : (h.pinRegion i).bit f r = x.bit f r := by
    simp only [Hw.pinRegion, hx, Hw.bit, Hw.wrBit, Hw.rd_wr_ne x SAFE_PIN_STATUS.REGION_HOLD f _ (by rw [hf]; decide)]
  rw [← same]
  simp only [Hw.pinHolds, a, b, cfg SAFE_PIN_CFG.A_REGIONS rfl, cfg SAFE_PIN_CFG.B_REGIONS rfl]

/-- One region's hold follows the pins. -/
def Hw.syncRegion (acc : Hw) (r : Nat) : Hw :=
  let on := acc.pinHolds r
  if (acc.region r).sto = on then acc
  else
    let acc := (acc.setRegion r { acc.region r with sto := on }).wrBit SAFE_PIN_STATUS.REGION_HOLD r on
    let acc := if on then (blocksOfRegion r).foldl (fun a k =>
        let a := if (a.block k).ss1On then a.endSs1 k else a
        (cellsOf k).foldl (fun b c => b.wrB (LEG_PWM_STATUS.FROZEN c) false) (a.wrBit DBG_HALT.FROZEN k false)) acc
      else acc
    (List.range 12).foldl (fun a i => a.applyHold (12 * r + i)) acc

theorem Hw.syncSto_eq (h : Hw) : h.syncSto = Num.forEach 4 (fun r x => x.syncRegion r) h := rfl

/-- Beside its hold, a region that follows the pins changes nothing that they rest on. -/
theorem Hw.syncRegion_pinView (h : Hw) (r : Nat) :
    (h.syncRegion r).pinView = if (h.region r).sto = h.pinHolds r then h.pinView else (h.pinRegion r).pinView := by
  unfold Hw.syncRegion
  extract_lets on old held ended
  split
  · rfl
  · refine (foldl_keeps Hw.pinView _ _ ended fun x i => x.pinView_applyHold _).trans ?_
    simp only [ended]
    split
    · refine foldl_keeps Hw.pinView _ _ held fun x k => ?_
      refine (foldl_keeps Hw.pinView _ _ _ fun y c => Hw.pinView_wr _ _ _ (cellBase_pins _ _)).trans ?_
      refine (Hw.pinView_wr _ _ _ (by decide : DBG_HALT.addr ≠ 0x30000 ∧ DBG_HALT.addr ≠ 0x30004)).trans ?_
      split
      · exact x.pinView_endSs1 k
      · rfl
    · rfl

theorem Hw.syncRegion_pinHolds (h : Hw) (i r : Nat) : (h.syncRegion i).pinHolds r = h.pinHolds r := by
  have view := h.syncRegion_pinView i
  split at view
  · exact Hw.pinHolds_of_pinView view r
  · exact (Hw.pinHolds_of_pinView view r).trans (h.pinRegion_pinHolds i r)

theorem Hw.syncRegion_other (h : Hw) (i r : Nat) (hr : i ≠ r) : (h.syncRegion i).region r = h.region r := by
  have view := h.syncRegion_pinView i
  split at view
  · exact Hw.region_of_pinView view r
  · exact (Hw.region_of_pinView view r).trans (h.setRegion_region_ne i _ r hr.symm)

theorem Hw.syncRegion_own (h : Hw) (r : Nat) : ((h.syncRegion r).region r).sto = h.pinHolds r := by
  have view := h.syncRegion_pinView r
  split at view
  · next same => exact (congrArg Region.sto (Hw.region_of_pinView view r)).trans same
  · refine congrArg Region.sto ((Hw.region_of_pinView view r).trans (h.setRegion_region r _))

/-- Each region's hold follows the pins at once. -/
theorem Hw.syncSto_follows (h : Hw) (r : RegionId) : (h.syncSto.region r).sto = h.pinHolds r := by
  rw [Hw.syncSto_eq]
  have reached := Num.forEach_at (fun x : Hw => ((x.region r).sto, x.pinHolds r)) (fun v => (v.2, v.2)) 4 r.val
    (fun i x => x.syncRegion i) h r.isLt
    (fun i x hi => by simp only [x.syncRegion_other i r hi, x.syncRegion_pinHolds])
    (fun x => by simp only [x.syncRegion_own, x.syncRegion_pinHolds])
  exact congrArg Prod.fst reached

-- ## The SRESET edge and SS1 (R436, R437, R444)

/-- The blocks that an accepted edge releases. -/
def Hw.edgeReleases (h : Hw) : List Nat := (List.range 8).filter (fun k =>
  match h.owner k with
  | some p => h.bit SAFE_RESET_CFG.PARTS p && h.stopped k && h.releasable k
  | none => false)

theorem Hw.releaseEdge_eq (h : Hw) : h.releaseEdge =
    if h.edgeReleases = [] then (h.wrB SAFE_PIN_STATUS.SRESET_N true).incTop SAFE_RESET_COUNT.REJECTED
    else (h.edgeReleases.foldl (fun (x : Hw) k => x.setBlock k { x.block k with release := true })
      (h.wrB SAFE_PIN_STATUS.SRESET_N true)).incTop SAFE_RESET_COUNT.ACCEPTED := by
  simp only [← List.isEmpty_iff]
  rfl

theorem Mach.sresetEdge_plain (m : Mach) (env : StartEnv) (stands : m.hw.shutting = false) (good : m.hw.chipFault = false) :
    m.sresetEdge env = ⟨m.mem, m.hw.releaseEdge⟩ := by
  simp only [Mach.sresetEdge, stands, good, Bool.false_eq_true, if_false]
  rfl

theorem Hw.ss1Fails_stops (h : Hw) (p cause : Nat) (ks : List Nat) (some : ks ≠ []) : h.ss1Fails p cause ks =
    ks.foldl (fun (x : Hw) k => let x := x.wrBit (SAFE_STATUS.STOPPED p) k true
      x.setBlock k { x.block k with stopEnd := true }) ((h.record (faultCode 7 p cause)).wr (SAFE_STATUS.CAUSE p) (faultCode 7 p cause)) :=
  if_neg (by simpa using some)

-- ## Torque monitor windows (R448)

/-- A window of trio t that is complete and not blind: its difference is shown. -/
def Hw.windowShown (h : Hw) (t : Nat) : Hw :=
  let x := h.trio t
  ((h.setTrio t { x with tmSteps := 0, tmN := 0, tmT := 0, tmE := 0, tmDue := false, blind := 0, blindDone := false }).wr
    (SAFE_TRIO_TM_STATUS.LAST_DIFF t) (min (Num.shown (x.tmT - x.tmE).natAbs x.tmN) 0xFFFF)).wrB (SAFE_TRIO_TM_STATUS.EVALUATED t) true

theorem Hw.windowShown_fails (h : Hw) (t : Nat) : (h.windowShown t).rd (SAFE_TRIO_TM_STATUS.FAILS t) = h.rd (SAFE_TRIO_TM_STATUS.FAILS t) :=
  (Hw.rd_wr_beside _ (SAFE_TRIO_TM_STATUS.EVALUATED t) (SAFE_TRIO_TM_STATUS.FAILS t) _ rfl (.inr (by decide : 0 < 8))).trans
    ((Hw.rd_wr_beside _ (SAFE_TRIO_TM_STATUS.LAST_DIFF t) (SAFE_TRIO_TM_STATUS.FAILS t) _ rfl (.inl (by decide : 15 < 16))).trans
      (Hw.setTrio_rd _ _ _ _))

/-- A partition's safety settings lie apart from the trios' monitor results. -/
theorem Hw.windowShown_count (h : Hw) (t p : Nat) : ((h.windowShown t).incTop (SAFE_TRIO_TM_STATUS.FAILS t)).rd (SAFE_CFG.COUNT p) =
    h.rd (SAFE_CFG.COUNT p) := by
  have apart : (SAFE_CFG.COUNT p).reg.addr ≠ (SAFE_TRIO_TM_STATUS t).addr := by
    simp only [SAFE_CFG.COUNT, SAFE_CFG, SAFE_TRIO_TM_STATUS]
    omega
  exact (Hw.rd_wr_ne _ _ _ _ apart).trans ((Hw.rd_wr_ne _ _ _ _ apart).trans ((Hw.rd_wr_ne _ _ _ _ apart).trans (Hw.setTrio_rd _ _ _ _)))

section
variable {h : Hw} {t p : Nat} (owned : h.owner (t / 2) = some p) (due : (h.trio t).tmDue = true)
variable (most : h.rd (SAFE_CFG.WINDOW p) ≤ 2 * (h.trio t).tmN) (some' : (h.trio t).tmN ≠ 0)
include owned due most some'

/-- A window within tolerance clears the count of failures. -/
theorem Hw.monitorWindow_passes (passes : windowFails (h.trio t).tmT (h.trio t).tmE (h.trio t).tmN (h.rd (SAFE_TM_TOL.ABS p))
    (h.rd (SAFE_TM_TOL.REL p)) = false) : h.monitorWindow t = (h.windowShown t).wr (SAFE_TRIO_TM_STATUS.FAILS t) 0 := by
  have complete : (decide (h.rd (SAFE_CFG.WINDOW p) ≤ 2 * (h.trio t).tmN) && (h.trio t).tmN != 0) = true := by simp [most, some']
  simp only [Hw.monitorWindow, owned, due, complete, passes, Bool.not_true, Bool.false_eq_true, if_false, if_true, Hw.windowShown]

/-- A window beyond it is counted, below COUNT without a further effect. -/
theorem Hw.monitorWindow_counts (fails : windowFails (h.trio t).tmT (h.trio t).tmE (h.trio t).tmN (h.rd (SAFE_TM_TOL.ABS p))
    (h.rd (SAFE_TM_TOL.REL p)) = true) (few : h.rd (SAFE_TRIO_TM_STATUS.FAILS t) + 1 < h.rd (SAFE_CFG.COUNT p)) :
    h.monitorWindow t = (h.windowShown t).incTop (SAFE_TRIO_TM_STATUS.FAILS t) := by
  have complete : (decide (h.rd (SAFE_CFG.WINDOW p) ≤ 2 * (h.trio t).tmN) && (h.trio t).tmN != 0) = true := by simp [most, some']
  have counted := (h.windowShown t).rd_incTop_min (SAFE_TRIO_TM_STATUS.FAILS t) (by decide : 15 < 32)
  rw [h.windowShown_fails] at counted
  have below : ¬ ((h.windowShown t).incTop (SAFE_TRIO_TM_STATUS.FAILS t)).rd (SAFE_CFG.COUNT p) ≤
      ((h.windowShown t).incTop (SAFE_TRIO_TM_STATUS.FAILS t)).rd (SAFE_TRIO_TM_STATUS.FAILS t) := by
    rw [h.windowShown_count t p, counted]
    exact Nat.not_le.2 (Nat.lt_of_le_of_lt (Nat.min_le_left _ _) few)
  have stays : h.monitorWindow t =
      if ((h.windowShown t).incTop (SAFE_TRIO_TM_STATUS.FAILS t)).rd (SAFE_CFG.COUNT p) ≤
        ((h.windowShown t).incTop (SAFE_TRIO_TM_STATUS.FAILS t)).rd (SAFE_TRIO_TM_STATUS.FAILS t) then
        ((h.windowShown t).incTop (SAFE_TRIO_TM_STATUS.FAILS t)).monitorFails p
      else (h.windowShown t).incTop (SAFE_TRIO_TM_STATUS.FAILS t) := by
    simp only [Hw.monitorWindow, owned, due, complete, fails, Bool.not_true, Bool.false_eq_true, if_false, if_true]
    rfl
  exact stays.trans (if_neg below)

end

/-- Settles O39: each event by the branch that its premises name; the hold of a region by the loop over the regions. -/
theorem safetyFunctions : Obligations.SafetyFunctions := by
  unfold Obligations.SafetyFunctions
  refine ⟨?host, ?thread, fun h p src code => h.deliver_src p src code, fun s b => rfl, fun s b => rfl, fun h r => h.syncSto_follows r,
    ?discrepancy, ?cleared, ?sreset, ?ss1, ?window⟩
  case host =>
    intro s o p code ha ho
    subst ho
    exact s.regWrite_safeCmd (.host o) o code 0x80 ha (if_pos rfl)
  case thread => exact fun s k t p code ha ho => s.regWrite_safeCmd (.thread k t) p code _ ha (if_pos ho)
  case discrepancy =>
    exact fun s hl he hr hd hn => (s.onLive_live Hw.stoDiscrepancy hl).trans (congrArg s.to (if_pos (by simp [he, hr, hd, hn])))
  case cleared =>
    exact fun s hl hd => (s.onLive_live (fun h => if h.pinsDiffer then h else h.wrB SAFE_PIN_STATUS.DISCREPANCY false) hl).trans
      (congrArg s.to (if_neg (by simp [hd])))
  case sreset =>
    intro s env ks hl hs hf hk
    have releases : ks = s.hw.edgeReleases := hk
    refine (s.onMach_live (fun m => m.sresetEdge env) hl).trans ?_
    rw [Mach.sresetEdge_plain ⟨s.mem, s.hw⟩ env hs hf, s.hw.releaseEdge_eq, releases]
    rfl
  case ss1 =>
    intro s p ks hl hn hk
    refine (s.onLive_live (fun h => h.ss1Timeout p) hl).trans (congrArg s.to ?_)
    exact (congrArg (s.hw.ss1Fails p 0x35) hk.symm).trans (s.hw.ss1Fails_stops p 0x35 ks hn)
  case window =>
    intro s t p fail hl ho hd hw hn hf hc
    refine (s.onLive_live (fun h => h.monitorWindow t) hl).trans (congrArg s.to ?_)
    cases fail with
    | false => exact Hw.monitorWindow_passes ho hd hw hn hf.symm
    | true => exact Hw.monitorWindow_counts ho hd hw hn hf.symm (hc.resolve_left (by decide))

end Sys2Proof.Machine
end

section
/-!
PROOF. Serial position sensors: polls and frames; compare channels: ARM, DISARM and hits.
-/
set_option Elab.async false
namespace Sys2Proof.Machine

-- ## Placing a unit

/-- A unit that is placed shows itself in its own registers, which lie at and above their base (Table 1-6). -/
theorem Hw.placeUnit_rd (h : Hw) (u : Nat) (x : PosUnit) (jump corr : Bool) (f : Fld) (hf : f.reg.addr < 0x30004000) :
    (h.placeUnit u x jump corr).rd f = h.rd f := by
  unfold Hw.placeUnit
  extract_lets old new shown
  refine (foldl_keeps (fun y : Hw => y.rd f) _ _ shown fun y km => Hw.setCmp_rd _ _ _ _ _).trans ?_
  have apart (off : Nat) (ho : 0x20 ≤ off) : f.reg.addr ≠ 0x30004000 + off + u * 0x40 := by omega
  refine (Hw.rd_wr_ne _ _ _ _ (apart 0x28 (by decide))).trans ?_
  refine (Hw.rd_setReg_ne _ _ _ _ (apart 0x24 (by decide))).trans ?_
  exact (Hw.rd_setReg_ne _ _ _ _ (apart 0x20 (by decide))).trans (Hw.setPosUnit_rd _ _ _ _)

theorem Hw.bringUnit_rd (h : Hw) (u : Nat) (f : Fld) (hf : f.reg.addr < 0x30004000) : (h.bringUnit u).rd f = h.rd f :=
  h.placeUnit_rd u _ false false f hf

-- ## Polls and frames of a serial sensor (R380, R381)

/-- A due poll on a port in master role waits in the port's queue. -/
theorem Hw.positionPoll_queues (h : Hw) (u : Nat) (serial : posKind u = 3) (enabled : h.on (POS_CFG.ENABLE u) = true)
    (due : (h.posUnit u).pollAt ≤ h.stepCount) (free : (h.posUnit u).polling = false) (master : h.spiSlave = false) : h.positionPoll u =
      (h.setPosUnit u { h.posUnit u with pollAt := h.stepCount + h.rd (POS_GEOM2.SER_POLL u), polling := true }).updSerial
        (fun (x : Serial) => { x with queue := x.queue ++ [{ cls := 2, unit := u }] }) := by
  have begins : (decide (posKind u ≠ 3) || !h.on (POS_CFG.ENABLE u) || decide (h.stepCount < (h.posUnit u).pollAt)) = false := by
    simp [serial, enabled, due]
  have role (x : PosUnit) : (h.setPosUnit u x).spiSlave = false := master
  simp only [Hw.positionPoll, begins, free, role, Bool.false_eq_true, if_false, Hw.setPosUnit_posUnit, Hw.setPosUnit_setPosUnit]

/-- A good frame of a valid sensor puts it at the nearest position with the frame's angle. -/
theorem Hw.pollFrame_places (h : Hw) (u : Nat) (data : List Byte) (valid : (h.posUnit u).valid = true) (good : h.frameGood u data = true) : h.pollFrame u data =
      (let x := h.posUnit u
       let c := x.at h.fabTime / 4294967296
       let p := c + Num.signed 16 (Num.code 16 ((h.framePos u data : Int) - c))
       (h.placeUnit u (h.pacedUnit u { x with
         synced := true, polling := false, errRun := 0, edges := ((h.fabTime, p) :: x.edges).take 2, lastEdge := h.fabTime,
         seen := min 2 (x.seen + 1), pos := p * 4294967296, posAt := h.fabTime, lim := none }) false false).setReg (POS_EDGE_STEP u)
           (BitVec.ofNat 32 h.stepCount)) := by
  simp only [Hw.pollFrame, good, valid, posOne, Bool.not_true, Bool.false_eq_true, if_false, if_true]

/-- A frame that ended before its data are applied. -/
theorem Hw.serialPosition_polled (h : Hw) (u : Nat) (data : List Byte) (polling : (h.posUnit u).polling = true) (idle : h.serial.running = none)
    (polled : h.serial.polled = [u]) : h.serialPosition u data = (h.updSerial (fun (x : Serial) => { x with polled := [] })).pollFrame u data := by
  have kept : (h.serial.polled.filter (fun v => v != u)) = [] := by simp [polled]
  have waits : h.serial.polled.contains u = true := by simp [polled]
  simp only [Hw.serialPosition, polling, idle, waits, Hw.updSerial, kept, Bool.not_true, Bool.false_or, Bool.false_eq_true, if_false]

-- ## Compare channels (R384 to R387)

theorem cmpCtrl_command (k : BlockId) (m : Fin 2) : isCommandReg (BLK_CMP_CTRL k m) .cmpCtrl [k.val / 2, k.val % 2, m.val] = true := by
  revert k m
  decide +kernel

/-- A write that the channel accepts. -/
theorem State.regWrite_compare (s : State) (q : Requester) (k : BlockId) (m : Fin 2) (v : Word) (h : Hw)
    (ha : s.admits q (BLK_CMP_CTRL k m) v) (hu : s.hw.cmpCtrlWrite k m v = (.ok, h)) :
    s.regWrite q (BLK_CMP_CTRL k m) v = s.wrote (BLK_CMP_CTRL k m) h := by
  refine s.regWrite_command q _ v .cmpCtrl _ h (cmpCtrl_command k m) (by decide) (fun x w hh hi => ?_) ha
  have blk : x.blk = k := by simp only [RegHit.blk, RegHit.ix, hi, List.getD_cons_zero, List.getD_cons_succ]; omega
  have channel : x.ix 2 = m.val := by simp only [RegHit.ix, hi, List.getD_cons_zero, List.getD_cons_succ]
  simp only [Hw.unitWrite, hh, blk, channel, hu]

theorem Hw.cmpCtrlWrite_disarm (h : Hw) (k m : Nat) : h.cmpCtrlWrite k m 2#32 = (.ok, h.wr (BLK_CMP_STATUS.STATE k m) 0) := by
  simp [Hw.cmpCtrlWrite]

section
variable {h : Hw} {k m u : Nat} (watched : h.rd (BLK_POS_SLOT.UNIT k (h.rd (BLK_CMP_CFG.SLOT k m))) = u + 1)
include watched

theorem Hw.cmpCtrlWrite_list (mode : h.rd (BLK_CMP_CFG.MODE k m) = 2) : h.cmpCtrlWrite k m 1#32 =
    (.ok, ((((h.bringUnit u).setCmp k m { seenTo := ((h.bringUnit u).posUnit u).counts }).wr (BLK_CMP_STATUS.LIST_INDEX k m) 0).wr
      (BLK_CMP_STATUS.STATE k m) 1).wr (BLK_CMP_NEXT.NEXT k m)
        (((h.bringUnit u).setCmp k m { seenTo := ((h.bringUnit u).posUnit u).counts }).rd (BLK_CMP_LIST.POSITION k m 0))) := by
  simp [Hw.cmpCtrlWrite, watched, mode]

theorem Hw.cmpCtrlWrite_regular (mode : h.rd (BLK_CMP_CFG.MODE k m) = 1) (regular : ((h.bringUnit u).cmpAim k m u).unitRegular u = true) :
    h.cmpCtrlWrite k m 1#32 = (.ok, ((h.bringUnit u).cmpAim k m u).wr (BLK_CMP_STATUS.STATE k m) 1) := by
  simp [Hw.cmpCtrlWrite, watched, mode, regular]

end

/-- A crossing of a REGULAR channel that watches in the forward direction. -/
theorem Hw.compareHit_forward (h : Hw) (k : BlockId) (m : Fin 2) (u : Nat)
    (watched : h.rd (BLK_POS_SLOT.UNIT k (h.rd (BLK_CMP_CFG.SLOT k m))) = u + 1) (armed : h.rd (BLK_CMP_STATUS.STATE k m) = 1)
    (mode : h.rd (BLK_CMP_CFG.MODE k m) = 1) (forward : h.on (BLK_CMP_CFG.DIR k m) = false)
    (regular : (h.bringUnit u).unitRegular u = true)
    (crossed : ((h.rd (BLK_CMP_NEXT.NEXT k m) : Int) - ((h.bringUnit u).cmp k m).seenTo - 1) % 65536 + 1 ≤
      ((h.bringUnit u).posUnit u).counts - ((h.bringUnit u).cmp k m).seenTo) : h.compareHit k m =
      (h.bringUnit u).cmpHit k m u (((h.bringUnit u).cmp k m).seenTo +
        (((h.rd (BLK_CMP_NEXT.NEXT k m) : Int) - ((h.bringUnit u).cmp k m).seenTo - 1) % 65536 + 1)) := by
  have cfg (f : Fld) (hf : f.reg = BLK_CMP_CFG k m) : (h.bringUnit u).rd f = h.rd f := by
    refine h.bringUnit_rd u f ?_
    simp only [hf, BLK_CMP_CFG, blockBase]
    omega
  have next : (h.bringUnit u).rd (BLK_CMP_NEXT.NEXT k m) = h.rd (BLK_CMP_NEXT.NEXT k m) := by
    refine h.bringUnit_rd u _ ?_
    simp only [BLK_CMP_NEXT.NEXT, BLK_CMP_NEXT, blockBase]
    omega
  have way : (h.bringUnit u).on (BLK_CMP_CFG.DIR k m) = false := by
    simpa only [Hw.on, cfg (BLK_CMP_CFG.DIR k m) rfl] using forward
  simp only [Hw.compareHit, watched, armed, cfg (BLK_CMP_CFG.MODE k m) rfl, mode, way, next, Nat.add_sub_cancel, regular, crossed,
    Nat.add_eq_zero_iff, one_ne_zero, and_false, decide_false, bne_self_eq_false, Bool.or_self, OfNat.one_ne_ofNat, Bool.false_eq_true,
    if_false, Bool.false_and, Bool.not_false, Bool.and_self, decide_true, if_true]

-- ## A hit (R385, R387)

/-- A hit of channel m is counted with its step and phase, and sets its event flag where FLAG_EN says so. -/
def Hw.cmpNoted (h : Hw) (k m u : Nat) (pos : Int) : Hw :=
  let est := (h.cmp k m).corr || (posKind u == 2 && decide ((h.posUnit u).estAng < pos))
  let h := h.inc (BLK_CMP_HITS.COUNT k m)
  let h := (h.wr (BLK_CMP_LAST.STEP k m) h.stepCount).setReg (BLK_CMP_LAST_PHASE k m)
    (BitVec.ofNat 32 (h.phase + 512 * Num.ofBool est))
  if h.on (BLK_CMP_CFG.FLAG_EN k m) then h.wrBit (BLK_SEQ_FLAGS.FLAG k) (h.rd (BLK_CMP_CFG.FLAG k m)) true else h

theorem Hw.cmpNoted_rd (h : Hw) (k m u : Nat) (pos : Int) (f : Fld) (hc : f.reg.addr ≠ (BLK_CMP_HITS k m).addr)
    (hl : f.reg.addr ≠ (BLK_CMP_LAST k m).addr) (hp : f.reg.addr ≠ (BLK_CMP_LAST_PHASE k m).addr) (hf : f.reg.addr ≠ (BLK_SEQ_FLAGS k).addr) :
    (h.cmpNoted k m u pos).rd f = h.rd f := by
  unfold Hw.cmpNoted
  extract_lets est counted noted
  have before : noted.rd f = h.rd f :=
    (Hw.rd_setReg_ne _ _ _ _ hp).trans ((Hw.rd_wr_ne _ _ _ _ hl).trans (Hw.rd_wr_ne _ _ _ _ hc))
  split
  · exact (Hw.rd_wrBit_ne _ _ _ _ _ hf).trans before
  · exact before

/-- A REGULAR channel aims at the next grid point after its hit. -/
theorem Hw.cmpHit_regular (h : Hw) (k m u : Nat) (pos : Int) (mode : (h.cmpNoted k m u pos).rd (BLK_CMP_CFG.MODE k m) = 1) :
    h.cmpHit k m u pos = ((h.cmpNoted k m u pos).setCmp k m { h.cmp k m with seenTo := pos }).wr (BLK_CMP_NEXT.NEXT k m)
      (nextGrid ((h.cmpNoted k m u pos).reg (BLK_CMP_GRID k m))
        (((h.cmpNoted k m u pos).setCmp k m { h.cmp k m with seenTo := pos }).on (BLK_CMP_CFG.DIR k m)) (Num.code 16 pos)) :=
  if_neg (fun list => absurd (mode.symm.trans list) (by decide))

section
variable (h : Hw) (k : BlockId) (m : Fin 2) (u : Nat) (pos : Int)

/-- A field of the channel that a hit does not show. -/
theorem Hw.cmpNoted_cfg (f : Fld) (hf : f.reg = BLK_CMP_CFG k m) : (h.cmpNoted k m u pos).rd f = h.rd f := by
  refine h.cmpNoted_rd k m u pos f ?_ ?_ ?_ ?_ <;> rw [hf] <;>
    simp only [BLK_CMP_CFG, BLK_CMP_HITS, BLK_CMP_LAST, BLK_CMP_LAST_PHASE, BLK_SEQ_FLAGS, blockBase] <;> omega

theorem Hw.cmpNoted_count : (h.cmpNoted k m u pos).rd (BLK_CMP_HITS.COUNT k m) =
    (h.rd (BLK_CMP_HITS.COUNT k m) + 1) % 2 ^ ((BLK_CMP_HITS.COUNT k m).hi + 1 - (BLK_CMP_HITS.COUNT k m).lo) := by
  unfold Hw.cmpNoted
  extract_lets est counted noted
  have before : noted.rd (BLK_CMP_HITS.COUNT k m) = counted.rd (BLK_CMP_HITS.COUNT k m) := by
    refine (Hw.rd_setReg_ne _ _ _ _ ?_).trans (Hw.rd_wr_ne _ _ _ _ ?_) <;>
      simp [BLK_CMP_HITS.COUNT, BLK_CMP_HITS, BLK_CMP_LAST.STEP, BLK_CMP_LAST, BLK_CMP_LAST_PHASE]
  have counts := h.rd_wr (BLK_CMP_HITS.COUNT k m) (h.rd (BLK_CMP_HITS.COUNT k m) + 1) (by decide : 31 < 32)
  have flags : (BLK_CMP_HITS.COUNT k m).reg.addr ≠ (BLK_SEQ_FLAGS.FLAG k).reg.addr := by
    simp only [BLK_CMP_HITS.COUNT, BLK_CMP_HITS, BLK_SEQ_FLAGS.FLAG, BLK_SEQ_FLAGS, blockBase]
    omega
  split
  · exact (Hw.rd_wrBit_ne _ _ _ _ _ flags).trans (before.trans counts)
  · exact before.trans counts

theorem Hw.cmpNoted_step : (h.cmpNoted k m u pos).rd (BLK_CMP_LAST.STEP k m) = h.stepCount % 2 ^ 32 := by
  unfold Hw.cmpNoted
  extract_lets est counted noted
  have shown : (counted.wr (BLK_CMP_LAST.STEP k m) counted.stepCount).rd (BLK_CMP_LAST.STEP k m) = counted.stepCount % 2 ^ 32 :=
    counted.rd_wr (BLK_CMP_LAST.STEP k m) _ (by decide : 31 < 32)
  have before : noted.rd (BLK_CMP_LAST.STEP k m) = h.stepCount % 2 ^ 32 := by
    refine (Hw.rd_setReg_ne _ _ _ _ ?_).trans (shown.trans (congrArg (· % 2 ^ 32) (Hw.inc_stepCount _ _)))
    simp [BLK_CMP_LAST.STEP, BLK_CMP_LAST, BLK_CMP_LAST_PHASE]
  have flags : (BLK_CMP_LAST.STEP k m).reg.addr ≠ (BLK_SEQ_FLAGS.FLAG k).reg.addr := by
    simp only [BLK_CMP_LAST.STEP, BLK_CMP_LAST, BLK_SEQ_FLAGS.FLAG, BLK_SEQ_FLAGS, blockBase]
    omega
  split
  · exact (Hw.rd_wrBit_ne _ _ _ _ _ flags).trans before
  · exact before

theorem Hw.cmpNoted_flag (enabled : h.on (BLK_CMP_CFG.FLAG_EN k m) = true) :
    (h.cmpNoted k m u pos).bit (BLK_SEQ_FLAGS.FLAG k) (h.rd (BLK_CMP_CFG.FLAG k m)) = true := by
  unfold Hw.cmpNoted
  extract_lets est counted noted
  have cfg (f : Fld) (hf : f.reg = BLK_CMP_CFG k m) : noted.rd f = h.rd f := by
    refine (Hw.rd_setReg_ne _ _ _ _ ?_).trans ((Hw.rd_wr_ne _ _ _ _ ?_).trans (Hw.rd_wr_ne _ _ _ _ ?_)) <;>
      simp [hf, BLK_CMP_CFG, BLK_CMP_HITS.COUNT, BLK_CMP_HITS, BLK_CMP_LAST.STEP, BLK_CMP_LAST, BLK_CMP_LAST_PHASE]
  have on : noted.on (BLK_CMP_CFG.FLAG_EN k m) = true := by
    simpa only [Hw.on, cfg (BLK_CMP_CFG.FLAG_EN k m) rfl] using enabled
  have flag : h.rd (BLK_CMP_CFG.FLAG k m) < 32 := h.rd_lt _
  rw [if_pos on, cfg (BLK_CMP_CFG.FLAG k m) rfl]
  exact Hw.bit_wrBit _ _ _ _ (by decide : 31 < 32) flag

end

/-- What a hit of a REGULAR channel shows. -/
theorem Hw.cmpHit_shows (h : Hw) (k : BlockId) (m : Fin 2) (u : Nat) (pos : Int) (mode : h.rd (BLK_CMP_CFG.MODE k m) = 1) :
    (h.cmpHit k m u pos).rd (BLK_CMP_HITS.COUNT k m) =
      (h.rd (BLK_CMP_HITS.COUNT k m) + 1) % 2 ^ ((BLK_CMP_HITS.COUNT k m).hi + 1 - (BLK_CMP_HITS.COUNT k m).lo) ∧
    (h.cmpHit k m u pos).rd (BLK_CMP_LAST.STEP k m) = h.stepCount % 2 ^ 32 ∧ ((h.cmpHit k m u pos).cmp k m).seenTo = pos ∧
    (h.on (BLK_CMP_CFG.FLAG_EN k m) = true → (h.cmpHit k m u pos).bit (BLK_SEQ_FLAGS.FLAG k) (h.rd (BLK_CMP_CFG.FLAG k m)) = true) := by
  rw [h.cmpHit_regular k m u pos ((h.cmpNoted_cfg k m u pos _ rfl).trans mode)]
  generalize nextGrid _ _ _ = next
  have aimed (f : Fld) (hf : f.reg.addr ≠ (BLK_CMP_NEXT k m).addr) :
      (((h.cmpNoted k m u pos).setCmp k m { h.cmp k m with seenTo := pos }).wr (BLK_CMP_NEXT.NEXT k m) next).rd f =
        (h.cmpNoted k m u pos).rd f := (Hw.rd_wr_ne _ _ _ _ hf).trans (Hw.setCmp_rd _ _ _ _ _)
  refine ⟨?_, ?_, ?_, fun enabled => ?_⟩
  · rw [aimed _ (by simp [BLK_CMP_HITS.COUNT, BLK_CMP_HITS, BLK_CMP_NEXT])]
    exact h.cmpNoted_count k m u pos
  · rw [aimed _ (by simp [BLK_CMP_LAST.STEP, BLK_CMP_LAST, BLK_CMP_NEXT])]
    exact h.cmpNoted_step k m u pos
  · rw [Hw.wr_cmp, Hw.setCmp_cmp]
  · have flags : (BLK_SEQ_FLAGS.FLAG k).reg.addr ≠ (BLK_CMP_NEXT k m).addr := by
      simp only [BLK_CMP_NEXT, BLK_SEQ_FLAGS.FLAG, BLK_SEQ_FLAGS, blockBase]
      omega
    rw [Hw.bit, aimed _ flags]
    exact h.cmpNoted_flag k m u pos enabled

/-- Settles O36: a poll and a frame go by their unit, the commands and the hit by their channel. -/
theorem serialPositionAndCompare : Obligations.SerialPositionAndCompare := by
  unfold Obligations.SerialPositionAndCompare
  refine ⟨?poll, ?frame, ?disarm, ?list, ?regular, ?hit, fun h k m u pos hm => h.cmpHit_shows k m u pos hm⟩
  case poll =>
    exact fun s u hl hk he hd hp hm => (s.onLive_live (fun h => h.positionPoll u) hl).trans
      (congrArg s.to (s.hw.positionPoll_queues u hk he hd hp hm))
  case frame =>
    intro s u ph data hl hp hr hu hg hv
    refine (s.onLive_live (fun h => (h.atPhase ph).serialPosition u data) hl).trans (congrArg s.to ?_)
    exact ((s.hw.atPhase ph).serialPosition_polled u data hp hr hu).trans (Hw.pollFrame_places _ u data hv hg)
  case disarm => exact fun s q k m ha => s.regWrite_compare q k m _ _ ha (s.hw.cmpCtrlWrite_disarm k m)
  case list => exact fun s q k m u ha hu hm => s.regWrite_compare q k m _ _ ha (Hw.cmpCtrlWrite_list hu hm)
  case regular => exact fun s q k m u ha hu hm hr => s.regWrite_compare q k m _ _ ha (Hw.cmpCtrlWrite_regular hu hm hr)
  case hit =>
    exact fun s k m ph u hl hu ha hm hd hr hc => (s.onLive_live (fun h => (h.atPhase ph).compareHit k m) hl).trans
      (congrArg s.to ((s.hw.atPhase ph).compareHit_forward k m u hu ha hm hd hr hc))

end Sys2Proof.Machine
end

section
/-!
PROOF. Position feedback of encoders, Hall trios and tooth wheels.
-/
set_option Elab.async false
namespace Sys2Proof.Machine

-- ## Placing a unit (R367)

theorem Hw.showUnit_posUnit (h : Hw) (u : Nat) : (h.showUnit u).posUnit u = h.posUnit u := by
  unfold Hw.showUnit
  extract_lets x position speed
  rw [Hw.wr_posUnit, Hw.setReg_posUnit, Hw.setReg_posUnit]

theorem Hw.showUnit_position (h : Hw) (u : Nat) : (h.showUnit u).reg (POS_POSITION u) = BitVec.ofInt 32 (h.posUnit u).counts := by
  unfold Hw.showUnit
  extract_lets x position speed
  have flags : (POS_POSITION u).addr ≠ (POS_STATUS.FLAGS u).reg.addr := by simp [POS_POSITION, POS_STATUS.FLAGS, POS_STATUS]
  have slot : (POS_POSITION u).addr ≠ (POS_SPEED u).addr := by simp [POS_POSITION, POS_SPEED]
  rw [Hw.reg_wr_ne _ _ _ _ flags, Hw.reg_setReg_ne _ _ _ _ slot, Hw.reg_setReg]

/-- What the compare channels do not hold is as the unit shows it. -/
theorem Hw.placeUnit_keeps {β : Type} (g : Hw → β) (set : ∀ (y : Hw) (k m : Nat) (c : CmpCh), g (y.setCmp k m c) = g y)
    (h : Hw) (u : Nat) (x : PosUnit) (jump corr : Bool) : g (h.placeUnit u x jump corr) = g ((h.setPosUnit u x).showUnit u) :=
  foldl_keeps g _ _ ((h.setPosUnit u x).showUnit u) fun _ _ => set _ _ _ _

theorem Hw.placeUnit_shows (h : Hw) (u : UnitId) (x : PosUnit) (jump corr : Bool) : (h.placeUnit u x jump corr).posUnit u = x ∧
    (h.placeUnit u x jump corr).reg (POS_POSITION u) = BitVec.ofInt 32 (x.pos / 4294967296) := by
  constructor
  · rw [Hw.placeUnit_keeps (fun y => y.posUnit u) (fun y k m c => Hw.setCmp_posUnit y k m c u), Hw.showUnit_posUnit, Hw.setPosUnit_posUnit]
  · rw [Hw.placeUnit_keeps (fun y => y.reg (POS_POSITION u)) (fun y k m c => Hw.setCmp_reg y k m c _), Hw.showUnit_position,
      Hw.setPosUnit_posUnit]
    rfl

-- ## Encoders (R368 to R370)

theorem posKind_encoder {u : Nat} (hu : u < 3) : posKind u = 0 := if_pos hu

section
variable {h : Hw} {u : Nat} (encoder : u < 3) (enabled : h.on (POS_CFG.ENABLE u) = true)
include encoder enabled

theorem Hw.encoderEdge_counts (lv : Nat) (fwd : Bool) (valid : (h.posUnit u).valid = true)
    (moved : (quadPlace lv + 4 - quadPlace (h.posUnit u).level) % 4 = if fwd = h.on (POS_CFG.DIR u) then 3 else 1) : h.encoderEdge u lv =
      (let x := h.posUnit u
       let c := if fwd then x.count + 1 else x.count - 1
       let es := (h.fabTime, c) :: x.edges
       let near := es.filter (fun e => decide (h.fabTime ≤ e.1 + h.rd (POS_GEOM2.ENC_WIN u) * 500))
       (h.placeUnit u { x with
         level := lv, count := c, pos := x.pos + (h.encPos u c - h.encPos u x.count) * 4294967296, posAt := h.fabTime,
         lastEdge := h.fabTime, edges := if near.length < 2 then es.take 2 else near, seen := min 2 (x.seen + 1) } false false).setReg
           (POS_EDGE_STEP u) (BitVec.ofNat 32 h.stepCount)) := by
  have way : (((if fwd = h.on (POS_CFG.DIR u) then 3 else 1) == 1) != h.on (POS_CFG.DIR u)) = fwd := by
    cases fwd <;> cases h.on (POS_CFG.DIR u) <;> rfl
  have one (n : Nat) (hn : n = 0 ∨ n = 2) : (if fwd = h.on (POS_CFG.DIR u) then 3 else 1) ≠ n := by
    split <;> omega
  simp only [Hw.encoderEdge, posKind_encoder encoder, enabled, valid, moved, way, one 0 (.inl rfl), one 2 (.inr rfl), posOne,
    ne_eq, not_true, Bool.and_self, Bool.not_true, Bool.false_or, decide_false, Bool.false_eq_true, if_false]
  rfl

theorem Hw.encoderEdge_skips (lv : Nat) (valid : (h.posUnit u).valid = true)
    (skipped : (quadPlace lv + 4 - quadPlace (h.posUnit u).level) % 4 = 2) : h.encoderEdge u lv =
      (h.setPosUnit u { h.posUnit u with level := lv }).incTop (POS_COUNT.NOISE u) := by
  simp [Hw.encoderEdge, posKind_encoder encoder, enabled, valid, skipped]

theorem Hw.indexEdge_first (valid : (h.posUnit u).valid = true) (index : h.on (POS_GEOM.ENC_INDEX_EN u) = true)
    (lost : (h.posUnit u).homed = false) : h.indexEdge u =
      (let x := h.posUnit u
       let es := x.edges.map (fun (e : Nat × Int) => (e.1, e.2 + 0 - x.count))
       ((h.placeUnit u { x with
        count := 0, edges := es, homed := true, synced := true, pos := withAngle x.pos (h.rd (POS_OFFSET.REF_OFFSET u)) } true false).cmpLost u false).cmpResume u) := by
  simp only [Hw.indexEdge, posKind_encoder encoder, enabled, valid, index, lost, ne_eq, not_true, decide_false, Bool.not_true,
    Bool.or_self, Bool.not_false, Bool.false_eq_true, if_false, if_true]

theorem Hw.indexEdge_near (valid : (h.posUnit u).valid = true) (index : h.on (POS_GEOM.ENC_INDEX_EN u) = true)
    (homed : (h.posUnit u).homed = true)
    (near : ((h.posUnit u).count - Num.roundDiv (h.posUnit u).count (h.encTurn u) * h.encTurn u).natAbs ≤ h.rd (POS_GEOM.ENC_TOL u)) :
    h.indexEdge u =
      (let x := h.posUnit u
       let n := Num.roundDiv x.count (h.encTurn u) * h.encTurn u
       h.placeUnit u { x with
        count := n, edges := x.edges.map (fun (e : Nat × Int) => (e.1, e.2 + n - x.count)),
        pos := x.pos + (h.encPos u n - h.encPos u x.count) * 4294967296 } false true) := by
  simp only [Hw.indexEdge, posKind_encoder encoder, enabled, valid, index, homed, near, posOne, ne_eq, not_true, decide_false,
    Bool.not_true, Bool.or_self, Bool.false_eq_true, if_false, if_true]

theorem Hw.indexEdge_far (valid : (h.posUnit u).valid = true) (index : h.on (POS_GEOM.ENC_INDEX_EN u) = true)
    (homed : (h.posUnit u).homed = true)
    (far : h.rd (POS_GEOM.ENC_TOL u) < ((h.posUnit u).count - Num.roundDiv (h.posUnit u).count (h.encTurn u) * h.encTurn u).natAbs) :
    h.indexEdge u = ((h.placeUnit u { h.posUnit u with homed := false, synced := false } false false).unitLost u).posRecord u 0x13 := by
  simp only [Hw.indexEdge, posKind_encoder encoder, enabled, valid, index, homed, Nat.not_le.mpr far, ne_eq, not_true, decide_false,
    Bool.not_true, Bool.or_self, Bool.false_eq_true, if_false]

theorem Hw.wireBroken_loses (whole : (h.posUnit u).broken = false) : h.wireBroken u =
    ((h.placeUnit u { h.posUnit u with broken := true, valid := false, synced := false, homed := false, seen := 0 } false false).unitLost u).posRecord u 0x14 := by
  simp only [Hw.wireBroken, posKind_encoder encoder, enabled, whole, ne_eq, not_true, decide_false, Bool.not_true, Bool.or_self,
    Bool.false_eq_true, if_false]

end

/-- Settles O34: an edge, an index and a wire each go by the unit's present values. -/
theorem encoderPosition : Obligations.EncoderPosition := by
  unfold Obligations.EncoderPosition
  refine ⟨?counts, ?skips, ?first, ?near, ?far, ?broken, ?restored, fun h u x jump corr => h.placeUnit_shows u x jump corr⟩
  case counts =>
    exact fun s u ph lv fwd hl hu he hv hd => (s.onLive_live (fun h => (h.atPhase ph.val).encoderEdge u lv) hl).trans
      (congrArg s.to (Hw.encoderEdge_counts (h := s.hw.atPhase ph.val) hu he lv fwd hv hd))
  case skips =>
    exact fun s u ph lv hl hu he hv hd => (s.onLive_live (fun h => (h.atPhase ph.val).encoderEdge u lv) hl).trans
      (congrArg s.to (Hw.encoderEdge_skips (h := s.hw.atPhase ph.val) hu he lv hv hd))
  case first =>
    exact fun s u ph hl hu he hv hi hh => (s.onLive_live (fun h => (h.atPhase ph.val).indexEdge u) hl).trans
      (congrArg s.to (Hw.indexEdge_first (h := s.hw.atPhase ph.val) hu he hv hi hh))
  case near =>
    exact fun s u ph hl hu he hv hi hh hn => (s.onLive_live (fun h => (h.atPhase ph.val).indexEdge u) hl).trans
      (congrArg s.to (Hw.indexEdge_near (h := s.hw.atPhase ph.val) hu he hv hi hh hn))
  case far =>
    exact fun s u ph hl hu he hv hi hh hf => (s.onLive_live (fun h => (h.atPhase ph.val).indexEdge u) hl).trans
      (congrArg s.to (Hw.indexEdge_far (h := s.hw.atPhase ph.val) hu he hv hi hh hf))
  case broken =>
    exact fun s u hl hu he hb => (s.onLive_live (fun h => h.wireBroken u) hl).trans (congrArg s.to (Hw.wireBroken_loses hu he hb))
  case restored =>
    intro s u hl he hb
    refine (s.onLive_live (fun h => if (h.posUnit u).broken && h.on (POS_CFG.ENABLE u) then h.encStart u else h) hl).trans (congrArg s.to ?_)
    exact if_pos (Bool.and_eq_true_iff.mpr ⟨hb, he⟩)

-- ## Hall trios (R371 to R373)

section
variable {h : Hw} {u : Nat} (hall : posKind u = 1) (enabled : h.on (POS_CFG.ENABLE u) = true)
include hall enabled

theorem Hw.hallCode_invalid (code : Nat) (invalid : code = 0 ∨ code = 7) (good : (h.posUnit u).hallBad = false) : h.hallCode u code =
    h.placeUnit u { (h.posUnit u).hold h.fabTime with
      hallBad := true, hallOut := false, level := code, invSince := h.stepCount, lim := (h.posUnit u).lim } false false := by
  have out : (decide (code = 0) || decide (code = 7)) = true := by simpa using invalid
  simp only [Hw.hallCode, hall, enabled, good, out, ne_eq, not_true, Bool.not_true, Bool.false_eq_true, if_false, if_true]

section
variable {code : Nat} (low : code ≠ 0) (high : code ≠ 7) (valid : (h.posUnit u).valid = true)
include low high valid

theorem Hw.hallCode_same (same : h.hallSector u code = (h.posUnit u).sector) : h.hallCode u code =
    h.placeUnit u (h.pacedUnit u { (h.posUnit u).hold h.fabTime with hallBad := false, level := code, lim := (h.posUnit u).lim }) false false := by
  simp only [Hw.hallCode, hall, enabled, low, high, valid, same, ne_eq, not_true, decide_false, Bool.or_self, Bool.not_true, Bool.false_eq_true,
    if_false, if_true]

theorem Hw.hallCode_next (next : (h.hallSector u code + 6 - (h.posUnit u).sector) % 6 = 1) : h.hallCode u code =
    (let x := h.posUnit u
     let sec := h.hallSector u code
     let cur := x.at h.fabTime / 4294967296
     let p := cur + ((h.sectorStart u sec : Int) - cur) % 65536
     (h.placeUnit u (h.pacedUnit u { x with
       hallBad := false, level := code, sector := sec, dir := 1, edges := ((h.fabTime, 0) :: x.edges).take 7,
       seen := min 2 (x.seen + 1), lastEdge := h.fabTime, pos := p * 4294967296, posAt := h.fabTime,
       lim := some (p + ((h.sectorStart u ((sec + 1) % 6) : Int) - p) % 65536 - 1) }) false false).setReg (POS_EDGE_STEP u)
         (BitVec.ofNat 32 h.stepCount)) := by
  have apart : h.hallSector u code ≠ (h.posUnit u).sector := by omega
  simp only [Hw.hallCode, Hw.hallChange, hall, enabled, low, high, valid, apart, next, posOne, ne_eq, not_true, decide_false, decide_true, Bool.or_self,
    Bool.true_or, Bool.not_true, Bool.false_eq_true, if_false, if_true]

end

/-- An invalid code that has persisted is recorded; the unit loses its position where it had one. -/
theorem Hw.hallTimeout_due (bad : (h.posUnit u).hallBad = true) (first : (h.posUnit u).hallOut = false)
    (due : (h.posUnit u).invSince + h.rd (POS_GEOM2.HALL_INV u) ≤ h.stepCount) : h.hallTimeout u =
      (if (h.posUnit u).valid = true then
        (h.placeUnit u { h.posUnit u with valid := false, synced := false, hallOut := true, seen := 0 } false false).unitLost u
       else h.placeUnit u { h.posUnit u with valid := false, synced := false, hallOut := true, seen := 0 } false false).posRecord u 0x12 := by
  simp only [Hw.hallTimeout, hall, enabled, bad, first, due, decide_true, Bool.not_false, Bool.and_self, if_true]

end

-- ## Tooth wheels (R374 to R379)

section
variable {g h : Hw} {u : Nat} (shape : ∀ f : Fld, f.reg = POS_GEOM u → g.rd f = h.rd f)
include shape

/-- The shape of a wheel is its setting. -/
theorem Hw.toothShape_congr : g.toothExtra u = h.toothExtra u ∧ g.toothTeeth u = h.toothTeeth u ∧ g.toothGaps u = h.toothGaps u :=
  ⟨congrArg (· != 0) (shape (POS_GEOM.TOOTH_KIND u) rfl), congrArg (max · 1) (shape (POS_GEOM.TOOTH_TEETH u) rfl),
    shape (POS_GEOM.TOOTH_GAPS u) rfl⟩

theorem Hw.toothNext_congr (e : Nat) : g.toothNext u e = h.toothNext u e := by
  obtain ⟨extra, teeth, gaps⟩ := Hw.toothShape_congr shape
  rw [Hw.toothNext, Hw.toothEdges, extra, teeth, gaps]
  rfl

theorem Hw.toothP_congr (same : g.posUnit u = h.posUnit u) (e : Nat) : g.toothP u e = h.toothP u e := by
  obtain ⟨extra, teeth, gaps⟩ := Hw.toothShape_congr shape
  rw [Hw.toothP, Hw.toothTwoK, extra, teeth, gaps, same]
  rfl

end

theorem Hw.toothUpper_regular {h : Hw} {u : Nat} (whole : (h.posUnit u).missed = false)
    (regular : h.toothGap u (h.toothNext u (h.posUnit u).tooth) = false) :
    h.toothUpper u = (h.posUnit u).toothAt + 3 * h.toothP u (h.toothNext u (h.posUnit u).tooth) / 2 := by
  simp only [Hw.toothUpper, whole, regular, Bool.false_eq_true, if_false]

theorem Hw.toothEdge_intime {h : Hw} {u : Nat} (valid : (h.posUnit u).valid = true) (intime : 24 * h.fabTime ≤ h.toothUpper u) :
    h.toothEdge u = h.toothSynced u := by
  have due : h.toothDue u = h := if_neg (Nat.not_lt.mpr intime)
  simp only [Hw.toothEdge, due, valid, if_true]

section
variable {h : Hw} {u : Nat} (valid : (h.posUnit u).valid = true)
include valid

section
variable (whole : (h.posUnit u).missed = false) (regular : h.toothGap u (h.toothNext u (h.posUnit u).tooth) = false)
include whole regular

theorem Hw.toothEdge_accepts (late : h.toothP u (h.toothNext u (h.posUnit u).tooth) ≤ 2 * (24 * h.fabTime - (h.posUnit u).toothAt))
    (intime : 24 * h.fabTime ≤ h.toothUpper u) : h.toothEdge u =
      (let x := h.posUnit u
       let e := h.toothNext u x.tooth
       let y := { x with
         t12 := 24 * (h.fabTime - x.toothAt / 24) / h.toothTwoK u e, tooth := e, toothAt := 24 * h.fabTime, missed := false,
         late := none, extrap := false }
       ((h.placeUnit u (h.toothAccept u e y) false false).wr (POS_STATUS.MISS_RUN u) 0).setReg (POS_EDGE_STEP u)
         (BitVec.ofNat 32 h.stepCount)) := by
  rw [Hw.toothEdge_intime valid intime]
  simp only [Hw.toothSynced, whole, regular, Nat.not_lt.mpr late, Nat.not_lt.mpr intime, Bool.false_and, Bool.not_false, Bool.and_self,
    decide_false, Bool.and_false, Bool.false_eq_true, if_false]

theorem Hw.toothEdge_noise (soon : 2 * (24 * h.fabTime - (h.posUnit u).toothAt) < h.toothP u (h.toothNext u (h.posUnit u).tooth)) :
    h.toothEdge u = h.incTop (POS_COUNT.NOISE u) := by
  have intime : 24 * h.fabTime ≤ h.toothUpper u := by
    rw [Hw.toothUpper_regular whole regular]
    omega
  rw [Hw.toothEdge_intime valid intime]
  simp only [Hw.toothSynced, whole, regular, soon, Bool.false_and, Bool.not_false, Bool.and_self, decide_true, Bool.false_eq_true, if_false, if_true]

end

section
variable (wheel : posKind u = 2) (out : h.toothUpper u ≤ 24 * h.fabTime)
include wheel out

theorem Hw.toothMiss_counts : h.toothMiss u =
    (let g := (h.incTop (POS_COUNT.MISSES u)).wr (POS_STATUS.MISS_RUN u) (min 3 (h.rd (POS_STATUS.MISS_RUN u) + 1))
     let x := h.posUnit u
     if 1 ≤ h.rd (POS_STATUS.MISS_RUN u) then g.toothLost u []
     else g.placeUnit u { x with
       extrap := true, missed := true, late := none, tooth := h.toothNext u x.tooth,
       toothAt := x.toothAt + h.toothP u (h.toothNext u x.tooth) } false false) := by
  have shape (f : Fld) (hf : f.reg = POS_GEOM u) :
      ((h.incTop (POS_COUNT.MISSES u)).wr (POS_STATUS.MISS_RUN u) (min 3 (h.rd (POS_STATUS.MISS_RUN u) + 1))).rd f = h.rd f := by
    refine (Hw.rd_wr_ne _ _ _ _ ?_).trans (Hw.rd_wr_ne _ _ _ _ ?_) <;>
      simp [hf, POS_GEOM, POS_STATUS.MISS_RUN, POS_STATUS, POS_COUNT.MISSES, POS_COUNT]
  simp only [Hw.toothMiss, wheel, valid, Nat.not_lt.mpr out, Hw.toothNext_congr shape, Hw.toothP_congr (h := h) shape rfl, ne_eq,
    not_true, decide_false, Bool.not_true, Bool.or_self, Bool.false_eq_true, if_false]

theorem Hw.toothMiss_first (first : h.rd (POS_STATUS.MISS_RUN u) = 0) : h.toothMiss u =
    (let g := (h.incTop (POS_COUNT.MISSES u)).wr (POS_STATUS.MISS_RUN u) 1
     let x := h.posUnit u
     g.placeUnit u { x with
       extrap := true, missed := true, late := none, tooth := h.toothNext u x.tooth,
       toothAt := x.toothAt + h.toothP u (h.toothNext u x.tooth) } false false) := by
  rw [Hw.toothMiss_counts valid wheel out, first]
  exact if_neg (by decide)

end

end

/-- Settles O35: a code goes by the unit's sector, an edge and a miss by the window of the next tooth. -/
theorem hallAndToothPosition : Obligations.HallAndToothPosition := by
  unfold Obligations.HallAndToothPosition
  refine ⟨?invalid, ?same, ?next, ?lost, ?out, ?accepts, ?noise, ?first, ?second⟩
  case invalid =>
    intro s u ph code hl hk he hc hb
    refine (s.onLive_live (fun h => (h.atPhase ph.val).hallCode u code) hl).trans (congrArg s.to ?_)
    exact Hw.hallCode_invalid (h := s.hw.atPhase ph.val) hk he code (hc.imp (congrArg Fin.val) (congrArg Fin.val)) hb
  case same =>
    intro s u ph code hl hk he h0 h7 hv hs
    refine (s.onLive_live (fun h => (h.atPhase ph.val).hallCode u code) hl).trans (congrArg s.to ?_)
    exact Hw.hallCode_same (h := s.hw.atPhase ph.val) hk he (Fin.val_ne_of_ne h0) (Fin.val_ne_of_ne h7) hv hs
  case next =>
    intro s u ph code hl hk he h0 h7 hv hs
    refine (s.onLive_live (fun h => (h.atPhase ph.val).hallCode u code) hl).trans (congrArg s.to ?_)
    exact Hw.hallCode_next (h := s.hw.atPhase ph.val) hk he (Fin.val_ne_of_ne h0) (Fin.val_ne_of_ne h7) hv hs
  case lost =>
    intro s u hl hk he hb ho hv hd
    refine (s.onLive_live (fun h => h.hallTimeout u) hl).trans (congrArg s.to ?_)
    rw [Hw.hallTimeout_due hk he hb ho hd, if_pos hv]
  case out =>
    intro s u hl hk he hb ho hv hd
    refine (s.onLive_live (fun h => h.hallTimeout u) hl).trans (congrArg s.to ?_)
    rw [Hw.hallTimeout_due hk he hb ho hd, if_neg (Bool.eq_false_iff.mp hv)]
  case accepts =>
    intro s u ph hl hk he hv hm hg hp hi
    refine (s.onLive_live (fun h => (fun g : Hw => if posKind u = 2 && g.on (POS_CFG.ENABLE u) then g.toothEdge u else g) (h.atPhase ph.val)) hl).trans (congrArg s.to ?_)
    refine (if_pos (Bool.and_eq_true_iff.mpr ⟨decide_eq_true hk, he⟩)).trans ?_
    exact Hw.toothEdge_accepts (h := s.hw.atPhase ph.val) hv hm hg hp hi
  case noise =>
    intro s u ph hl hk he hv hm hg hs
    refine (s.onLive_live (fun h => (fun g : Hw => if posKind u = 2 && g.on (POS_CFG.ENABLE u) then g.toothEdge u else g) (h.atPhase ph.val)) hl).trans (congrArg s.to ?_)
    refine (if_pos (Bool.and_eq_true_iff.mpr ⟨decide_eq_true hk, he⟩)).trans ?_
    exact Hw.toothEdge_noise (h := s.hw.atPhase ph.val) hv hm hg hs
  case first =>
    intro s u ph hl hk hv ho hr
    refine (s.onLive_live (fun h => (h.atPhase ph.val).toothMiss u) hl).trans (congrArg s.to ?_)
    exact Hw.toothMiss_first (h := s.hw.atPhase ph.val) hv hk ho hr
  case second =>
    intro s u ph hl hk hv ho hr
    refine (s.onLive_live (fun h => (h.atPhase ph.val).toothMiss u) hl).trans (congrArg s.to ?_)
    exact (Hw.toothMiss_counts (h := s.hw.atPhase ph.val) hv hk ho).trans (if_pos hr)

end Sys2Proof.Machine
end

section
/-!
PROOF. Six-step commutation: COMMUTATE, a missed commutation and the ends of OBSERVE, ALIGN and OPEN_LOOP.
-/
set_option Elab.async false
namespace Sys2Proof.Machine

-- ## A fault code and the trios

theorem Hw.countFault_trios (h : Hw) (p code : Nat) : (h.countFault p code).trios = h.trios := by
  unfold Hw.countFault
  dsimp only
  repeat' split
  all_goals rfl

theorem Hw.record_trio (h : Hw) (code t : Nat) : (h.record code).trio t = h.trio t :=
  congrArg (fun ts => Tab.get ts t ({} : Trio)) ((foldl_keeps Hw.trios _ _ _ fun x p => x.countFault_trios p code).trans rfl)

theorem Hw.blockFault_trio (h : Hw) (k cause t : Nat) : (h.blockFault k cause).trio t = h.trio t := h.record_trio _ t

-- ## A signal as a lane operation reads it

theorem Hw.sigIn_congr {g h : Hw} {k s : Nat} (sig : g.sig k s = h.sig k s) (node : g.rd (BLK_INJ_CFG.NODE k) = h.rd (BLK_INJ_CFG.NODE k))
    (inj : (g.block k).injX = (h.block k).injX) : g.sigIn k s = h.sigIn k s := by
  unfold Hw.sigIn
  rw [sig, node, inj]

theorem Hw.setSig_sigIn_ne (h : Hw) (k s v i : Nat) (apart : i ≠ s) : (h.setSig k s v).sigIn k i = h.sigIn k i := by
  refine Hw.sigIn_congr ?_ (Hw.setBlock_rd _ _ _ _) ?_
  · simp only [Hw.setSig, Hw.sig, Hw.updBlock, Hw.setBlock_block, Tab.get_put_ne _ _ _ _ _ _ apart]
  · simp only [Hw.setSig, Hw.updBlock, Hw.setBlock_block]

-- ## A lane operation on the one trio of its block

/-- An operation on the trios that its word names acts on the block's one trio. -/
theorem State.laneTrio (s : State) (k op : Nat) (w : Word) (t : Nat) (act : Hw → Nat → Hw) (hw : s.laneAt k op w) (one : s.hw.triosOf k = [t])
    (named : w.getLsbD (t % 2) = true) :
    s.onLive (fun h => h.laneDo k op (fun w x => (x.triosOf k).foldl (fun acc t => if w.getLsbD (t % 2) then act acc t else acc) x)) =
      s.laneNext k (act s.hw t) := by
  refine (s.laneDo_due k op w _ hw).trans (congrArg (s.laneNext k) ?_)
  simp only [one, List.foldl_cons, List.foldl_nil, named, if_true]

-- ## What the tracker and a commutation leave of the duty's operands

/-- `g` has the motion of trio t, its duty and what the duty goes by (R342), as `h` has them. -/
structure Hw.DutyKept (t : Nat) (h g : Hw) : Prop where
  motion : g.motion t = h.motion t
  duty : (g.trio t).duty = (h.trio t).duty
  back : (g.trio t).catchBack = (h.trio t).catchBack
  ss1 : (g.block (t / 2)).ss1On = (h.block (t / 2)).ss1On
  want : g.sigIn (t / 2) (2 * (t % 2)) = h.sigIn (t / 2) (2 * (t % 2))
  slew : g.rd (BLK_TRIO_COMM_CFG.DUTY_SLEW (t / 2) (t % 2)) = h.rd (BLK_TRIO_COMM_CFG.DUTY_SLEW (t / 2) (t % 2))

namespace Hw.DutyKept
variable {t : Nat} {h g f : Hw}

theorem refl (t : Nat) (h : Hw) : DutyKept t h h := ⟨rfl, rfl, rfl, rfl, rfl, rfl⟩

theorem trans (a : DutyKept t h g) (b : DutyKept t g f) : DutyKept t h f :=
  ⟨b.motion.trans a.motion, b.duty.trans a.duty, b.back.trans a.back, b.ss1.trans a.ss1, b.want.trans a.want, b.slew.trans a.slew⟩

theorem setTrio (h : Hw) (x : Trio) (duty : x.duty = (h.trio t).duty) (back : x.catchBack = (h.trio t).catchBack) :
    DutyKept t h (h.setTrio t x) :=
  ⟨rfl, (congrArg Trio.duty (Hw.setTrio_trio _ _ _)).trans duty, (congrArg Trio.catchBack (Hw.setTrio_trio _ _ _)).trans back, rfl, rfl, rfl⟩

theorem updTrio (h : Hw) (f : Trio → Trio) (duty : (f (h.trio t)).duty = (h.trio t).duty)
    (back : (f (h.trio t)).catchBack = (h.trio t).catchBack) : DutyKept t h (h.updTrio t f) := setTrio h _ duty back

/-- A field of the trio's status registers other than its motion. -/
theorem wr (h : Hw) (d : Fld) (v : Nat) (motion : (h.wr d v).motion t = h.motion t)
    (status : ∃ i, i < 2 ∧ d.reg.addr = blockBase (t / 2) + 0xA020 + (t % 2) * 0x40 + 4 * i) : DutyKept t h (h.wr d v) := by
  obtain ⟨i, hi, at_⟩ := status
  refine ⟨motion, rfl, rfl, rfl, ?_, ?_⟩
  · refine Hw.sigIn_congr rfl (Hw.rd_wr_ne _ _ _ _ ?_) rfl
    simp only [at_, BLK_INJ_CFG.NODE, BLK_INJ_CFG]
    omega
  · refine Hw.rd_wr_ne _ _ _ _ ?_
    simp only [at_, BLK_TRIO_COMM_CFG.DUTY_SLEW, BLK_TRIO_COMM_CFG]
    omega

theorem setSig (h : Hw) (s v : Nat) (apart : 2 * (t % 2) ≠ s) : DutyKept t h (h.setSig (t / 2) s v) := by
  refine ⟨rfl, rfl, rfl, ?_, h.setSig_sigIn_ne _ _ _ _ apart, rfl⟩
  simp only [Hw.setSig, Hw.updBlock, Hw.setBlock_block]

end Hw.DutyKept

section
variable (h : Hw) (t : Nat)

theorem Hw.setSpeed_duty (v : Int) : DutyKept t h (h.setSpeed t v) :=
  .wr h _ _ (Hw.rd_wr_beside _ (speedF t) (motionF t) _ rfl (.inl (by decide : 3 < 16))) ⟨0, by decide, rfl⟩

theorem Hw.wrCommState_duty (v : Nat) : DutyKept t h (h.wr (commStateF t) v) :=
  .wr h _ _ (Hw.rd_wr_beside _ (commStateF t) (motionF t) _ rfl (.inl (by decide : 3 < 4))) ⟨0, by decide, rfl⟩

theorem Hw.wrCommStatus_duty (d : Fld) (hd : d.reg = BLK_TRIO_COMM_STATUS (t / 2) (t % 2)) (v : Nat) : DutyKept t h (h.wr d v) := by
  refine .wr h d v (Hw.rd_wr_ne _ _ _ _ ?_) ⟨1, by decide, by simp only [hd, BLK_TRIO_COMM_STATUS]; omega⟩
  simp [hd, motionF, BLK_TRIO_MOTION_STATUS.MOTION, BLK_TRIO_MOTION_STATUS, BLK_TRIO_COMM_STATUS]

theorem Hw.signalSpeed_duty : DutyKept t h (h.signalSpeed t) := by
  unfold Hw.signalSpeed
  extract_lets k s u
  split
  · exact (DutyKept.updTrio h _ rfl rfl).trans (Hw.setSpeed_duty _ t _)
  · exact .updTrio h _ rfl rfl

theorem Hw.trackSpeed_duty : DutyKept t h (h.trackSpeed t) := by
  unfold Hw.trackSpeed
  extract_lets m x
  split
  · exact h.signalSpeed_duty t
  · split
    · split
      · exact h.setSpeed_duty t _
      · exact .refl t h
    · exact h.setSpeed_duty t _

end

theorem Trio.watch_duty (x : Trio) (hyst step : Nat) (two : Bool) (j : Nat) (v : Int) :
    (x.watch hyst step two j v).duty = x.duty ∧ (x.watch hyst step two j v).catchBack = x.catchBack := by
  unfold Trio.watch
  dsimp only
  repeat' split
  all_goals exact ⟨rfl, rfl⟩

theorem Trio.watch3_duty (x : Trio) (hyst step : Nat) (v : Nat → Int) (l : List Nat) :
    (l.foldl (fun y j => y.watch hyst step false j (v j)) x).duty = x.duty ∧
      (l.foldl (fun y j => y.watch hyst step false j (v j)) x).catchBack = x.catchBack :=
  ⟨foldl_keeps Trio.duty l _ x fun y j => (y.watch_duty hyst step false j (v j)).1,
    foldl_keeps Trio.catchBack l _ x fun y j => (y.watch_duty hyst step false j (v j)).2⟩

theorem Hw.trackWatch_duty (h : Hw) (t : Nat) (vs is : List Int) : DutyKept t h (h.trackWatch t vs is none) := by
  unfold Hw.trackWatch
  extract_lets m g x two y hyst w ll z live
  have settled : z.duty = (h.trio t).duty ∧ z.catchBack = (h.trio t).catchBack := by
    dsimp only [z, y]
    split <;> exact ⟨rfl, rfl⟩
  obtain ⟨duty, back⟩ := settled
  split
  · exact .refl t h
  · refine .setTrio g _ ?_ ?_
    · split
      · exact (Trio.watch_duty z _ _ _ _ _).1.trans duty
      · exact (Trio.watch3_duty z _ _ (fun j => w.getD j 0) _).1.trans duty
    · split
      · exact (Trio.watch_duty z _ _ _ _ _).2.trans back
      · exact (Trio.watch3_duty z _ _ (fun j => w.getD j 0) _).2.trans back

section
variable (h : Hw) (t : Nat)

theorem Hw.track_duty (vs is : List Int) : DutyKept t h (h.track t vs is none) :=
  (h.trackWatch_duty t vs is).trans (Hw.trackSpeed_duty _ t)

theorem Hw.trackIdle_duty : DutyKept t h (h.trackIdle t) := by
  unfold Hw.trackIdle
  split
  · exact (DutyKept.updTrio h _ rfl rfl).trans (Hw.trackSpeed_duty _ t)
  · exact h.trackSpeed_duty t

theorem Hw.advanceComm_duty : DutyKept t h (h.advanceComm t) := by
  unfold Hw.advanceComm
  refine .trans ?_ (Hw.wrCommState_duty _ t _)
  exact .setTrio h _ rfl rfl

theorem Hw.dueComm_duty : DutyKept t h (h.dueComm t) := by
  unfold Hw.dueComm
  split
  · split
    · exact h.advanceComm_duty t
    · exact .refl t h
  · exact .refl t h

theorem Hw.watchFloat_duty (i : Nat) : DutyKept t h (h.watchFloat t i) := by
  unfold Hw.watchFloat
  extract_lets x n early iv fl
  split
  · exact .refl t h
  · split
    · refine .trans ?_ (Hw.wrCommStatus_duty _ t _ rfl _)
      exact .setTrio h _ rfl rfl
    · refine .trans ?_ (Hw.wrCommStatus_duty _ t _ rfl _)
      exact .setTrio h _ rfl rfl

/-- The outputs are signals: no trio changes with them. -/
theorem Hw.sixOutputs_trio (j : Nat) : (h.sixOutputs t).trio j = h.trio j := by
  unfold Hw.sixOutputs
  dsimp only
  split <;> simp only [Hw.setSig, Hw.updBlock, Hw.setBlock_trio]

end

/-- In RUN the duty moves toward the commanded one, at least 0, by at most DUTY_SLEW (R342). -/
theorem Hw.commutate_duty (h : Hw) (t : Nat) (d : Int) (run : h.motion t = 6) (forth : (h.trio t).catchBack = false)
    (free : (h.block (t / 2)).ss1On = false) (want : Q15.val (h.sigIn (t / 2) (2 * (t % 2))) = some d) :
    ((h.commutate t).trio t).duty =
      (let slew : Int := h.rd (BLK_TRIO_COMM_CFG.DUTY_SLEW (t / 2) (t % 2))
       let x := (h.trio t).duty
       if x ≤ max d 0 then min (max d 0) (x + slew) else max (max d 0) (x - slew)) := by
  unfold Hw.commutate
  extract_lets k g vph cur fl dark lost tracked n open_ x5 e i x watched y timed due want? slew' moved slew z
  have dark_duty : DutyKept t h dark := .setSig h _ _ (by omega)
  have tracked_duty : DutyKept t h tracked := by
    dsimp only [tracked]
    split
    · exact (DutyKept.setSig h _ _ (by omega)).trans (Hw.track_duty _ t _ _)
    · split
      · exact dark_duty.trans (dark.track_duty t _ _)
      · exact dark_duty.trans (dark.trackIdle_duty t)
  have timed_duty : DutyKept t watched timed := by
    dsimp only [timed]
    split
    · exact .setTrio watched _ rfl rfl
    · exact .refl t watched
  have due_duty : DutyKept t h due := tracked_duty.trans ((tracked.watchFloat_duty t _).trans (timed_duty.trans (timed.dueComm_duty t)))
  have runs : tracked.motion t = 6 := tracked_duty.motion.trans run
  have want_eq : want? = some (max d 0) := by
    simp only [want?, k, due_duty.back, due_duty.ss1, due_duty.want, forth, free, want, Bool.or_self, Bool.false_eq_true, if_false, Option.map_some]
  rw [Hw.sixOutputs_trio]
  simp only [moved, runs, want_eq, Hw.updTrio, Hw.setTrio_trio, due_duty.duty, slew', k, due_duty.slew, z, slew]

-- ## The ends of OBSERVE, ALIGN and OPEN_LOOP (R339, R340, R345)

section
variable {h : Hw} {t : Nat}

theorem Hw.alignEnd_due (motion : h.motion t = 4)
    (due : 800 * h.rd (BLK_TRIO_START_CFG.ALIGN_MS (t / 2) (t % 2)) ≤ (h.trio t).timer) :
    h.alignEnd t = h.setTrio t { h.trio t with nextMotion := some 5 } := by
  simp only [Hw.alignEnd, motion, due, decide_true, Bool.and_self, if_true, Hw.updTrio]

theorem Hw.startFailed_due (motion : h.motion t = 5) (forced : 12 ≤ (h.trio t).olCount) (stays : (h.trio t).nextMotion = none) :
    h.startFailed t = (h.blockFault (t / 2) 0x0F).setTrio t { h.trio t with nextMotion := some 7 } := by
  simp only [Hw.startFailed, motion, forced, stays, beq_self_eq_true, decide_true, Bool.and_self, if_true, Hw.updTrio, Hw.blockFault_trio]

section
variable (motion : h.motion t = 1) (stays : (h.trio t).nextMotion = none) (free : (h.trio t).catching = false) (run : h.runOf t ≠ 0)
  (due : 800 * h.rd (BLK_TRIO_MOTION_CFG.OBSERVE_MS (t / 2) (t % 2)) ≤ (h.trio t).timer) (whole : (h.trio t).observed = [])
include motion stays free run due whole

theorem Hw.observeEnd_rest (rest : h.atRest t = true) : h.observeEnd t =
    h.setTrio t { h.trio t with runDir := h.runOf t, lookFrom := h.stepCount + 1, nextMotion := some (if h.sixStep t = true then 4 else 6) } := by
  simp only [Hw.observeEnd, motion, stays, free, run, due, whole, rest, beq_self_eq_true, decide_true, ne_eq, not_false_eq_true, Bool.not_false,
    Bool.and_self, Bool.true_or, List.isEmpty_nil, Bool.not_true, Bool.false_eq_true, if_false, if_true, Hw.updTrio, Hw.setTrio_trio,
    Hw.setTrio_setTrio]

theorem Hw.observeEnd_against (moves : h.atRest t = false) (turns : (h.trio t).dir ≠ 0) (against : (h.trio t).dir ≠ h.runOf t)
    (brakes : h.rd (BLK_TRIO_MOTION_CFG.REVERSE_ACTION (t / 2) (t % 2)) = 0) : h.observeEnd t =
    ((((h.setTrio t { h.trio t with runDir := h.runOf t, lookFrom := h.stepCount + 1 }).blockFault (t / 2) 0x10).wrB
      (BLK_TRIO_MOTION_STATUS.REVERSE_SEEN (t / 2) (t % 2)) true)).setTrio t
        { h.trio t with runDir := h.runOf t, lookFrom := h.stepCount + 1, nextMotion := some 2 } := by
  have action (x : Trio) : (((h.setTrio t x).blockFault (t / 2) 0x10).wrB (BLK_TRIO_MOTION_STATUS.REVERSE_SEEN (t / 2) (t % 2)) true).rd
      (BLK_TRIO_MOTION_CFG.REVERSE_ACTION (t / 2) (t % 2)) = 0 := by
    refine (Hw.rd_wr_ne _ _ _ _ ?_).trans ((Hw.record_rd _ _ _ ?_).trans brakes)
    · simp [BLK_TRIO_MOTION_CFG.REVERSE_ACTION, BLK_TRIO_MOTION_CFG, BLK_TRIO_MOTION_STATUS.REVERSE_SEEN, BLK_TRIO_MOTION_STATUS]
    · simp only [BLK_TRIO_MOTION_CFG.REVERSE_ACTION, BLK_TRIO_MOTION_CFG, blockBase]
      omega
  simp only [Hw.observeEnd, motion, stays, free, run, due, whole, moves, turns, against, action, beq_self_eq_true, decide_true, decide_false,
    ne_eq, not_false_eq_true, Bool.not_false, Bool.and_self, Bool.or_self, List.isEmpty_nil, Bool.not_true, Bool.false_eq_true, if_false,
    if_true, Hw.updTrio, Hw.setTrio_trio, Hw.wrB_trio, Hw.blockFault_trio]

end

-- ## A missed commutation (R344)

section
variable {c : Nat} (prev : (h.trio t).cPrev = some c) (motion : h.motion t = 6) (six : h.sixStep t = true)
  (missing : (h.trio t).crossed = false) (stays : (h.trio t).nextMotion = none)
  (late : c + (3 * (h.trio t).interval + 1) / 2 ≤ h.stepCount)
include prev motion six missing stays late

theorem Hw.commMiss_first (first : (h.trio t).missRun = 0) (outside : (h.block (t / 2)).laneRuns = false) : h.commMiss t =
    (let x := h.trio t
     (h.incTop (BLK_TRIO_COMM_STATUS.MISSES (t / 2) (t % 2))).setTrio t { x with
       cPrev := some (c + x.interval), crossed := true, missRun := 1,
       nextComm := some (max (c + x.interval + x.interval * h.rd (BLK_TRIO_COMM_CFG.COMM_DELAY (t / 2) (t % 2)) / 256) (h.stepCount + 1)) }) := by
  have delay : (h.incTop (BLK_TRIO_COMM_STATUS.MISSES (t / 2) (t % 2))).rd (BLK_TRIO_COMM_CFG.COMM_DELAY (t / 2) (t % 2)) =
      h.rd (BLK_TRIO_COMM_CFG.COMM_DELAY (t / 2) (t % 2)) := by
    refine Hw.rd_wr_ne _ _ _ _ ?_
    simp [BLK_TRIO_COMM_CFG.COMM_DELAY, BLK_TRIO_COMM_CFG, BLK_TRIO_COMM_STATUS.MISSES, BLK_TRIO_COMM_STATUS]
  simp only [Hw.commMiss, prev, motion, six, missing, stays, halfUp, late, first, outside, delay, beq_self_eq_true, decide_true, Bool.not_false,
    Bool.and_self, Bool.and_false, Bool.false_eq_true, Nat.le_zero_eq, one_ne_zero, if_true, if_false, Nat.zero_add, Hw.setTrio_block, Hw.incTop_block,
    Hw.incTop_stepCount]

theorem Hw.commMiss_second (again : 1 ≤ (h.trio t).missRun) : h.commMiss t =
    ((h.incTop (BLK_TRIO_COMM_STATUS.MISSES (t / 2) (t % 2))).blockFault (t / 2) 0x0E).setTrio t
      { h.trio t with missRun := 2, nextMotion := some 7 } := by
  simp only [Hw.commMiss, prev, motion, six, missing, stays, halfUp, late, again, beq_self_eq_true, decide_true, Bool.not_false,
    Bool.and_self, if_true, Hw.updTrio, Hw.blockFault_trio, Hw.incTop_trio]

end

end

/-- Settles O32: COMMUTATE keeps what the duty goes by, and each end of a state and each miss is one branch of its rule. -/
theorem sixStep : Obligations.SixStep := by
  unfold Obligations.SixStep
  refine ⟨?commutate, fun h t d hm hb hs hd => h.commutate_duty t d hm hb hs hd, ?align, ?failed, ?rest, ?against, ?first, ?second⟩
  case commutate => exact fun s k w t hw h1 hn => s.laneTrio k 11 w t Hw.commutate hw h1 hn
  case align =>
    exact fun s t hl hm hd => (s.onLive_live (fun h => h.alignEnd t) hl).trans (congrArg s.to (Hw.alignEnd_due hm hd))
  case failed =>
    exact fun s t hl hm hc hn => (s.onLive_live (fun h => h.startFailed t) hl).trans (congrArg s.to (Hw.startFailed_due hm hc hn))
  case rest =>
    exact fun s t hl hm hn hc hr hd ho ha => (s.onLive_live (fun h => h.observeEnd t) hl).trans
      (congrArg s.to (Hw.observeEnd_rest hm hn hc hr hd ho ha))
  case against =>
    exact fun s t hl hm hn hc hr hd ho ha hz hx hb => (s.onLive_live (fun h => h.observeEnd t) hl).trans
      (congrArg s.to (Hw.observeEnd_against hm hn hc hr hd ho ha hz hx hb))
  case first =>
    exact fun s t c hl hp hm h6 hc hn ht h0 hr => (s.onLive_live (fun h => h.commMiss t) hl).trans
      (congrArg s.to (Hw.commMiss_first hp hm h6 hc hn ht h0 hr))
  case second =>
    exact fun s t c hl hp hm h6 hc hn ht h1 => (s.onLive_live (fun h => h.commMiss t) hl).trans
      (congrArg s.to (Hw.commMiss_second hp hm h6 hc hn ht h1))

end Sys2Proof.Machine
end

section
/-!
PROOF. Coupled torque control: ESTIMATE, VETO and SELECT of a block with one trio, and the estimator residual.
-/
set_option Elab.async false
namespace Sys2Proof.Machine

-- ## ESTIMATE (R313 to R318)

/-- The trios of a block are of that block. -/
theorem Hw.triosOf_block {h : Hw} {k t : Nat} (one : h.triosOf k = [t]) : t / 2 = k := by
  have among : t ∈ h.triosOf k := one ▸ List.mem_singleton_self t
  have pair := List.mem_of_mem_filter among
  simp only [List.mem_cons, List.not_mem_nil, or_false] at pair
  omega

theorem Hw.estimateTrio_valid (h : Hw) (t : Nat) (angle : Option Nat) {i0 i1 i2 v0 v1 v2 : Int}
    (shunts : h.trioSamples t 0 = [some i0, some i1, some i2]) (voltages : h.trioSamples t 1 = [some v0, some v1, some v2]) :
    h.estimateTrio t angle =
      (let g := h.phases t
       let n := Num.roundDiv (v0 + v1 + v2) 3
       let h := ((h.psiStep (g.getD 0 0) (v0 - n) i0 angle).psiStep (g.getD 1 0) (v1 - n) i1 angle).psiStep (g.getD 2 0) (v2 - n) i2 angle
       let ps := g.map (fun c => Num.roundShift (h.cell c).psi 16)
       let a := alphaOf (ps.getD 0 0) (ps.getD 1 0) (ps.getD 2 0)
       let b := betaOf (ps.getD 1 0) (ps.getD 2 0)
       let v := 0x0F0 + 8 * (t % 2)
       ((((h.setSig (t / 2) v (Q15.code (torqueOf (h.ktOf t).1 (h.ktOf t).2 ps [i0, i1, i2]))).setSig (t / 2) (v + 1) (fluxMag ps)).setSig
         (t / 2) (v + 3) (sectorOf a b)).selWr t (BLK_TRIO_STATE.SECTOR (t / 2) (t % 2)) (sectorOf a b)).track t
           [v0 - n, v1 - n, v2 - n] [i0, i1, i2] (some (fluxTurn a b))) := by
  unfold Hw.estimateTrio
  rw [shunts, voltages]
  rfl

/-- ESTIMATE of a block with a valid angle and one trio. -/
theorem Hw.estimate_one (h : Hw) (k t u : Nat) (angle : h.fluxAngle k true = some u) (one : h.triosOf k = [t]) :
    h.estimate k = h.estimateTrio t (some u) := by
  simp only [Hw.estimate, angle, Option.isNone_some, Bool.false_eq_true, if_false, one, List.foldl_cons, List.foldl_nil]

theorem Hw.estimatorResidual_due (h : Hw) (c : Nat) (long : 64 ≤ (h.cell c).residCount) (first : (h.cell c).residDone = false) :
    h.estimatorResidual c = (h.setCell c { h.cell c with residDone := true }).blockFault (c / 6) 0x0D := by
  simp only [Hw.estimatorResidual, long, first, decide_true, Bool.not_false, Bool.and_self, if_true, blockOf]

-- ## VETO (R320, R322, R323)

/-- A candidate for each code of the live cells, marked where it grows an excursion. -/
theorem Hw.vetoTrio_marks (h : Hw) (t : Nat) {p : Nat} {vdc : Int} (owner : h.owner (t / 2) = some p)
    (link : Q15.val (h.sigIn (t / 2) 0x118) = some vdc) :
    ∃ cs : List Cand, h.vetoTrio t = h.setTrio t { h.trio t with cands := cs, vetoRan := true } ∧
      cs.map (·.code) = (List.range 8).filter (fun c => c &&& h.liveMask t == c) ∧ ∀ c ∈ cs, c.vetoed = decide (0 < c.excess) := by
  unfold Hw.vetoTrio
  extract_lets k gshift cells ok val gvr meanOf held mine psi0 cur0 ns x base growth live prev kt ref codes old
  rw [show h.owner k = some p from owner, show Q15.val (h.sigIn k 0x118) = some vdc from link]
  refine ⟨codes.map _, rfl, ?_, ?_⟩
  · rw [List.map_map]
    exact List.map_id' _
  · intro c hc
    obtain ⟨code, -, rfl⟩ := List.mem_map.mp hc
    rfl

-- ## SELECT (R319, R320, R326)

/-- The states of a trio that SELECT shows: T_STATE, F_STATE, TABLE, APPLIED, VETOED, ALL_VETOED and HELD. -/
def selWord (w : Word) (ts fs table applied vetoed all held : Nat) : Word :=
  Bits.set (Bits.set (Bits.set (Bits.set (Bits.set (Bits.set (Bits.set w 7 6 ts) 8 8 fs) 5 3 table) 2 0 applied) 9 9 vetoed) 10 10 all) 11 11 held

theorem selWord_fields (w : Word) (ts fs table applied vetoed all held : Nat) (hts : ts < 4) (hfs : fs < 2) (happlied : applied < 8)
    (hvetoed : vetoed < 2) (hheld : held < 2) :
    Bits.get (selWord w ts fs table applied vetoed all held) 7 6 = ts ∧ Bits.get (selWord w ts fs table applied vetoed all held) 8 8 = fs ∧
      Bits.get (selWord w ts fs table applied vetoed all held) 2 0 = applied ∧
        Bits.get (selWord w ts fs table applied vetoed all held) 9 9 = vetoed ∧
          Bits.get (selWord w ts fs table applied vetoed all held) 11 11 = held := by
  simp only [selWord, Bits.get_set_ne, Bits.get_set_same, Nat.reduceLT, Nat.reduceAdd, Nat.reduceSub, Nat.reducePow, or_true, true_or]
  omega

theorem nextTorque_range (s e bt : Int) (hs : -1 ≤ s ∧ s ≤ 2) : (nextTorque s e bt + 1).toNat < 4 := by
  unfold nextTorque
  repeat' split
  all_goals omega

theorem nextFlux_range (s : Nat) (e bf : Int) (hs : s < 2) : nextFlux s e bf < 2 := by
  unfold nextFlux
  repeat' split
  all_goals omega

/-- The live cells of a trio are three bits. -/
theorem Hw.liveMask_lt (h : Hw) (t : Nat) : h.liveMask t < 8 := by
  simp only [Hw.liveMask, List.range_succ, List.range_zero, List.nil_append, List.cons_append, List.foldl_cons, List.foldl_nil]
  repeat' split
  all_goals omega

/-- The vector-state outputs are signals: no trio changes with them. -/
theorem Hw.sendVector_trio (h : Hw) (t code j : Nat) : (h.sendVector t code).trio j = h.trio j :=
  foldl_keeps (fun x : Hw => x.trio j) _ _ h fun _ _ => rfl

theorem Hw.setSig_trio (h : Hw) (k s v j : Nat) : (h.setSig k s v).trio j = h.trio j := rfl

theorem Hw.updTrio_selNow (h : Hw) (t : Nat) (f : Trio → Trio) (same : ∀ x, (f x).selNow = x.selNow) :
    ((h.updTrio t f).trio t).selNow = (h.trio t).selNow :=
  (congrArg Trio.selNow (Hw.setTrio_trio h t _)).trans (same _)

theorem Hw.selWr_selNow (h : Hw) (t : Nat) (f : Fld) (v : Nat) :
    ((h.selWr t f v).trio t).selNow = Bits.set (h.trio t).selNow f.hi f.lo v := congrArg Trio.selNow (Hw.setTrio_trio h t _)

theorem Hw.setSig_owner (h : Hw) (k s v i : Nat) : (h.setSig k s v).owner i = h.owner i := by
  simp only [Hw.owner, Hw.ownsBlock, Hw.mapOf, Hw.setSig, Hw.updBlock, Hw.setBlock_part]

theorem Hw.setSig_tableOf (h : Hw) (k s v p sub item : Nat) : (h.setSig k s v).tableOf p sub item = h.tableOf p sub item := by
  simp only [Hw.tableOf, Hw.setSig, Hw.updBlock, Hw.setBlock_part]

theorem Hw.updTrio_owner (h : Hw) (t : Nat) (f : Trio → Trio) (i : Nat) : (h.updTrio t f).owner i = h.owner i := by
  simp only [Hw.owner, Hw.ownsBlock, Hw.mapOf, Hw.updTrio, Hw.setTrio_part]

theorem Hw.updTrio_tableOf (h : Hw) (t : Nat) (f : Trio → Trio) (p sub item : Nat) : (h.updTrio t f).tableOf p sub item = h.tableOf p sub item := by
  simp only [Hw.tableOf, Hw.updTrio, Hw.setTrio_part]

theorem Hw.updTrio_sigIn (h : Hw) (t : Nat) (f : Trio → Trio) (k i : Nat) : (h.updTrio t f).sigIn k i = h.sigIn k i :=
  Hw.sigIn_congr rfl rfl rfl

/-- SELECT without a veto shows the states of its comparators and the code of the switching table for the live cells. -/
theorem Hw.selectTrio_shows (h : Hw) (t : Nat) {p : Nat} {r f e m : Int} (owner : h.owner (t / 2) = some p) (ref : h.torqueRef t = some r)
    (free : (h.trio t).vetoRan = false) (flux : Q15.val (h.sigIn (t / 2) (2 * (t % 2) + 1)) = some f)
    (torque : Q15.val (h.sigIn (t / 2) (0x0F0 + 8 * (t % 2))) = some e)
    (mag : Q15.val (h.sigIn (t / 2) (0x0F0 + 8 * (t % 2) + 1)) = some m) (plain : h.on (BLK_TRIO_CFG.ZERO_MIN (t / 2) (t % 2)) = false) :
    let k := t / 2
    let j := t % 2
    let band := (h.block k).torque.band.getD j 0
    let ts := nextTorque ((h.selRd t (BLK_TRIO_STATE.T_STATE k j) : Int) - 1) (r - e) (Bits.get band 31 16)
    let fs := nextFlux (h.selRd t (BLK_TRIO_STATE.F_STATE k j)) (f - m) (Bits.get band 15 0)
    let code := ((h.tableOf p 1 t).getD []).getD ((ts + 1).toNat * 12 + fs * 6 + h.selRd t (BLK_TRIO_STATE.SECTOR k j)) 0 &&& h.liveMask t
    ((h.selectTrio t).trio t).selNow = selWord (h.trio t).selNow (ts + 1).toNat fs code code 0 0 0 := by
  unfold Hw.selectTrio
  extract_lets k j band ts fs code base prev live ref' ts' fs' fin g sec table x least z
  have shows (a : Hw) (ts : Int) (fs table applied : Nat) (vetoed all held : Bool) : ((fin a ts fs table applied vetoed all held).trio t).selNow =
      selWord (a.trio t).selNow (ts + 1).toNat fs table applied (Num.ofBool vetoed) (Num.ofBool all) (Num.ofBool held) := by
    dsimp only [fin]
    rw [Hw.sendVector_trio, Hw.updTrio_selNow, Hw.setSig_trio, Hw.setSig_trio, Hw.setSig_trio, Hw.setSig_trio, Hw.updTrio_selNow]
    case same => exact fun _ => rfl
    case same => exact fun _ => rfl
    simp only [Hw.selWr_selNow]
    rfl
  have sig (i : Nat) (apart : i ≠ base + 2) : g.sigIn k i = h.sigIn k i :=
    (Hw.setSig_sigIn_ne _ _ _ _ _ apart).trans (Hw.updTrio_sigIn _ _ _ _ _)
  have trio : g.trio t = { h.trio t with tref := Q15.ofOpt ref' } := (Hw.setSig_trio _ _ _ _ _).trans (Hw.setTrio_trio h t _)
  have table_eq : table = (h.tableOf p 1 t).getD [] := by
    have owned : g.owner k = some p := (Hw.setSig_owner _ _ _ _ _).trans ((Hw.updTrio_owner _ _ _ _).trans owner)
    have set : g.tableOf p 1 t = h.tableOf p 1 t := (Hw.setSig_tableOf _ _ _ _ _ _ _).trans (Hw.updTrio_tableOf _ _ _ _ _ _)
    simp only [table, owned, set]
  have sec_eq : sec = h.selRd t (BLK_TRIO_STATE.SECTOR k j) := by
    simp only [sec, Hw.selRd, trio]
  have idle : x.vetoRan = false := by
    simp only [x, trio, free]
  have plain' : g.on (BLK_TRIO_CFG.ZERO_MIN k j) = false := (Hw.setBlock_on _ _ _ _).trans ((Hw.setTrio_on _ _ _ _).trans plain)
  clear_value fin
  rw [show ref' = some r from ref, sig _ (by omega), sig _ (by omega), sig _ (by omega), show Q15.val (h.sigIn k (2 * j + 1)) = some f from flux,
    show Q15.val (h.sigIn k base) = some e from torque, show Q15.val (h.sigIn k (base + 1)) = some m from mag]
  simp only [plain', idle, Bool.false_and, Bool.false_eq_true, if_false, shows, trio, table_eq, sec_eq]
  rfl

/-- Settles O31: ESTIMATE, VETO and SELECT each act on the block's one trio. -/
theorem torqueControl : Obligations.TorqueControl := by
  unfold Obligations.TorqueControl
  refine ⟨?estimate, ?residual, ?vetoLane, fun h t p vdc ho hv => h.vetoTrio_marks t ho hv, ?selectLane, ?select⟩
  case estimate =>
    intro s k w t u i0 i1 i2 v0 v1 v2 hw ha h1 hi hv
    refine (s.laneDo_due k 8 w (fun _ x => x.estimate k) hw).trans (congrArg (s.laneNext k) ?_)
    have formed := s.hw.estimateTrio_valid t (some u) hi hv
    rw [Hw.triosOf_block h1] at formed
    exact (s.hw.estimate_one k t u ha h1).trans formed
  case residual =>
    exact fun s c hl hr hd => (s.onLive_live (fun h => h.estimatorResidual c) hl).trans (congrArg s.to (s.hw.estimatorResidual_due c hr hd))
  case vetoLane => exact fun s k w t hw h1 hn => s.laneTrio k 9 w t Hw.vetoTrio hw h1 hn
  case selectLane => exact fun s k w t hw h1 hn => s.laneTrio k 10 w t Hw.selectTrio hw h1 hn
  case select =>
    intro h t p r f e m ho hr hv hf ht hm hz k j band ts fs code h'
    have torqueRange : (ts + 1).toNat < 4 := by
      have now : h.selRd t (BLK_TRIO_STATE.T_STATE k j) < 4 := Bits.get_lt _ _ _
      exact nextTorque_range _ _ _ (by omega)
    have fluxRange : fs < 2 := nextFlux_range _ _ _ (Bits.get_lt _ _ _)
    have codeRange : code < 8 := Nat.lt_of_le_of_lt Nat.and_le_right (h.liveMask_lt t)
    have shown : (h'.trio t).selNow = selWord (h.trio t).selNow (ts + 1).toNat fs code code 0 0 0 := h.selectTrio_shows t ho hr hv hf ht hm hz
    obtain ⟨ts_shown, fs_shown, applied, vetoed, held⟩ :=
      selWord_fields (h.trio t).selNow (ts + 1).toNat fs code code 0 0 0 torqueRange fluxRange codeRange (by decide) (by decide)
    simp only [Hw.selRd, shown]
    exact ⟨ts_shown, fs_shown, applied, vetoed, held⟩

end Sys2Proof.Machine
end
